-- ==== Sys2Proof/Word.lean ====
section
/-! DEFINITION. The word types of the module: a register word (R51) and a byte of memory (R4). Bit vectors stand for what the
spec treats as bits; counts, addresses, tick numbers and instants in nanoseconds are plain numbers. -/

namespace Sys2Proof

/-- A register word (R51: every register is 32 bits wide). -/
abbrev Word := BitVec 32

/-- A byte of memory. -/
abbrev Byte := BitVec 8

end Sys2Proof
end

