-- ==== Sys2Proof/Machine/Wire.lean ====
section
/-! DEFINITION. What crosses the module's edge as one item: the data of a register write (R52), an access of a cistern (R230), timestamps (R31), the link header and message of a Holade frame (R433 to
R435), a MEMBER announcement (R454), and the outcome of a CSI-2 packet (R484). They are operands of commands. -/

namespace Sys2Proof

/-- A timestamp (R31): tick number and nanoseconds since that tick's boundary. -/
structure Stamp where
  tick : Nat := 0
  off : Nat := 0
  deriving DecidableEq, Repr

/-- What a write of a register carries: its value, and how many bytes it is wide (R52). -/
structure BusData where
  value : Nat
  bytes : Nat := 4
  deriving DecidableEq, Repr

/-- R230: an access of a cistern: its class, the die whose link port brings it, and its address. -/
structure CisternReq where
  cls : Nat
  die : Nat
  addr : Nat
  deriving DecidableEq, Repr

/-- R433: what a link header carries beside the message, and whether the frame's CRC holds. -/
structure LinkHdr where
  crcOk : Bool
  /-- Sequence space: 0 data, 1 control, 2 class 0; sequence number in it. -/
  space : Nat
  seq : Nat
  /-- Acknowledgement of the data and of the control space: sequence number, and whether it is a NAK. -/
  ackD : Option (Nat × Bool)
  ackC : Option (Nat × Bool)
  /-- Units returned for classes 0, 1, 2 and control. -/
  credit : List Nat
  deriving DecidableEq, Repr

/-- R434, R435: a message and the fields of its payload's seal. -/
structure Msg where
  op : Nat
  subop : Nat := 0
  cls : Nat
  src : Nat
  dst : Nat
  ttl : Nat := 64
  last : Bool := false
  epoch : Nat := 0
  stamp : Stamp := {}
  addr : Nat := 0
  tag : Nat := 0
  operand : Nat := 0
  collId : Nat := 0
  nelem : Nat := 0
  payload : List Byte := []
  /-- Seal fields of the payload (R385): TID, block index, generation, format, WITHHELD, DELAYED. -/
  tid : Nat := 0
  blk : Nat := 0
  gen : Nat := 0
  fmt : Nat := 0
  withheld : Bool := false
  delayed : Bool := false
  deriving DecidableEq, Repr

/-- R454: what a MEMBER announcement carries. -/
structure Announce where
  id : Nat
  fabric : Nat
  enabled : Bool
  port : Nat
  rank : Nat
  /-- Grandmaster candidate: PRIORITY, identity, its tick number, and the distance of its boundary from this module's, in ns. -/
  gmPrio : Nat
  gmId : Nat
  gmTick : Nat
  gmOffset : Int
  /-- R27, R28: the period of that grandmaster's fabric, in µs. -/
  gmPeriod : Nat
  level : Nat
  epoch : Nat
  /-- Route distances: rank, length of the shortest legal route, and whether that route begins with a down link only. -/
  routes : List (Nat × Nat × Bool)
  /-- Ranks that the sender asks the grandmaster to exclude (R451). -/
  exclude : List Nat
  deriving DecidableEq, Repr

/-- R484: how a CSI-2 packet arrived. -/
structure PacketCheck where
  /-- The header was corrected by its protection; was uncorrectable; the payload CRC-16 mismatched. -/
  corrected : Bool := false
  badHeader : Bool := false
  badCrc : Bool := false
  deriving DecidableEq, Repr

/-- R347: what one measurement pass of a recalibration produces. -/
structure CalPass where
  /-- Gain quantities in 10⁻⁶: the 260 row gains (plane A, then plane B), 1,040 of sub-converters, 128 of input channels, the pilot's. Phase
  quantities in µrad: 130 LO phases, 260 row operating points, 260 combiner phases, the pilot's. -/
  gains : List Int
  phases : List Int
  /-- σ_n, σ_ε and σ_γ in 10⁻⁹ (R371). -/
  sigma : List Nat
  /-- What this pass measured, as trims: trim words by trim address (R339), heater trims as float32 words by heater (R107), φ_ref and g_ref as
  float32 words. -/
  trims : List (Nat × Int)
  heat : List (Nat × Nat)
  phi : Nat
  g : Nat
  deriving DecidableEq, Repr

/-- R404, R405: how a session's steps came out. -/
structure SessionRun where
  /-- Index of a structural signature that differs. -/
  structural : Option Nat
  /-- The converter step failed on two consecutive attempts. -/
  converters : Bool
  /-- Indices in the local list, and PATTERN_IDs of fleet patterns, that failed on two consecutive runs. -/
  localFails : List Nat
  fleetFails : List Nat
  /-- Fleet patterns that ran. -/
  fleetRun : Nat
  /-- R410: fenced wells whose captures fail their reference run on this well. -/
  reference : List Nat
  deriving DecidableEq, Repr

end Sys2Proof
end

