-- ==== Sys2Proof/Syntax.lean ====
section
/-! DEFINITION. The commands of the block: one constructor per row of the opcode table (`spec/opcode_table.json`), with the row's operands.
The first operand of every command is the nanosecond offset in the current tick at which it occurs (R31). -/

namespace Sys2Proof

/-- A command (log entries 1 and 2). The sentence on a constructor is its row's. -/
inductive Instr where
  /-- TICK_BOUNDARY (R34): A tick boundary falls and the module closes the tick, checks overruns, applies commits and source changes, and starts the next tick's programs. -/
  | tickBoundary (at_ : Nat)
  /-- TICK_IN_EDGE (R24): A filtered TICK_IN edge is recognised and, when accepted, places the boundary at the edge and may lock the source. -/
  | tickInEdge (at_ : Nat) (rising : Bool)
  /-- TICK_IN_MISSING (R24): An expected TICK_IN edge fails to arrive in its window, so the boundary falls on the internal counter and holdover begins. -/
  | tickInMissing (at_ : Nat)
  /-- ACQUIRE_TIMEOUT (R24): An acquiring tick reaches twice the period less 10 ns without an edge and ends on the internal counter. -/
  | acquireTimeout (at_ : Nat)
  /-- TXN_BEGIN (R64): A BEGIN written to TXN_CTL joins the page to a group or is refused. -/
  | txnBegin (at_ path pg group : Nat)
  /-- TXN_COMMIT (R66): A COMMIT makes every page of the group commit-pending with the write's stamp. -/
  | txnCommit (at_ path pg group : Nat)
  /-- TXN_ABORT (R71): An ABORT discards the shadows of an open group at once. -/
  | txnAbort (at_ path pg group : Nat)
  /-- TXN_TIMEOUT (R70): An open group with no commit within its timeout rolls back at the boundary. -/
  | txnTimeout (at_ group : Nat)
  /-- LOCK_WRITE (R61): A write to LOCK takes, releases or violates a page lock. -/
  | lockWrite (at_ path pg value : Nat)
  /-- REGISTER_WRITE (R7): A write to a register field without behaviour of its own takes effect by its access code. -/
  | registerWrite (at_ path addr : Nat) (value : BusData)
  /-- SYS_CLEAR (R78): A write of CLEAR.CLR forces every converter bank to its clear code. -/
  | sysClear (at_ path : Nat)
  /-- RELEASE (R79): A write of CLEAR.RELEASE ends a SYS clear at the next commit boundary. -/
  | release (at_ path : Nat)
  /-- SOFT_RESET (R78): A write of SOFT_RESET with the right WKEY resets the module, and any other key is discarded. -/
  | softReset (at_ path wkey : Nat)
  /-- CLAIM (R91): A firmware read of CLAIM returns the best claimable core-side source and puts it in service. -/
  | claim (at_ ctl : Nat)
  /-- HCLAIM (R91): An I3C read of HCLAIM returns the best claimable host-side source and puts it in service. -/
  | hclaim (at_ port ctl : Nat)
  /-- COMPLETE (R92): A write of COMPLETE ends the service of a core-claimed source, or sets BAD_COMPLETE. -/
  | complete (at_ path ctl id : Nat)
  /-- HCOMPLETE (R92): A write of HCOMPLETE ends the service of a host-claimed source, or sets BAD_COMPLETE. -/
  | hcomplete (at_ path ctl id : Nat)
  /-- SWSET (R88): A write of SWSET sets the pending bit of a software source, or sets BAD_SWSET. -/
  | swset (at_ path ctl id : Nat)
  /-- IBI_SEND (R508): With a dynamic address, ENINT and an idle bus, a port sends its highest queued in-band interrupt. -/
  | ibiSend (at_ port : Nat) (accepted : Bool)
  /-- CLR_N_ASSERT (R328): The filtered CLR_N asserts and clear codes are forced on every bank. -/
  | clrNAssert (at_ : Nat)
  /-- CLR_N_DEASSERT (R329): The filtered CLR_N deasserts and clear codes end at the next boundary. -/
  | clrNDeassert (at_ : Nat)
  /-- OPTOFF_ASSERT (R313): The filtered OPTOFF_N asserts and every source goes dark, every shutter closes and the module enters SAFE. -/
  | optoffAssert (at_ : Nat)
  /-- OPTOFF_RELEASE (R313): OPTOFF_N deasserts and the module re-lights its sources, re-locks its wells and returns to READY. -/
  | optoffRelease (at_ : Nat)
  /-- PLANE_LOAD (R120): The loader begins writing a tile into an idle plane once the tile's rows and the column DACs are available. -/
  | planeLoad (at_ w : Nat)
  /-- PLANE_READY (R125): Row 129 of a loading plane is written and the plane becomes READY. -/
  | planeReady (at_ w : Nat)
  /-- SWAP_STROBE (R122): After the last symbol of the active tile, with the idle plane READY, the planes are exchanged. -/
  | swapStrobe (at_ w : Nat)
  /-- GROUP_STROBE (R123): Every member of a multicast group is ready and the group swaps together. -/
  | groupStrobe (at_ g : Nat)
  /-- REFRESH (R124): The active plane has been active for 40,000 symbols and is rewritten from its code copy. -/
  | refresh (at_ w : Nat) (ends : Bool)
  /-- LO_UNLOCK (R129): A row's LO phase error exceeds 0.05 rad and the well goes dark. -/
  | loUnlock (at_ w row err : Nat)
  /-- LO_RELOCK (R129): Every row is within 0.02 rad again and the well resumes. -/
  | loRelock (at_ w row err : Nat)
  /-- PILOT_WINDOW_END (R131): A pilot window completes and the moon solves for phase and gain, or skips the window. -/
  | pilotWindowEnd (at_ w : Nat)
  /-- PASS_SETUP (R160): A pass descriptor at PASSQ_TAIL enters SETUP and is checked. -/
  | passSetup (at_ w : Nat)
  /-- PASS_RUN (R160): After eight cycles, with the scale record paired and row 0 staged, the pass enters RUN. -/
  | passRun (at_ w : Nat) (errs : List (List Int)) (fault : Option (Nat × Nat))
  /-- PASS_EPILOGUE (R160): The last vector of the last tile has been accumulated and the pass enters EPILOGUE. -/
  | passEpilogue (at_ w : Nat) (fault : Option (Nat × Nat))
  /-- PASS_DONE (R160): The last output is written with its seal and the pass returns to IDLE. -/
  | passDone (at_ w : Nat)
  /-- QFIT_WINDOW (R193): A QFIT window closes and its three fractions are evaluated against their thresholds. -/
  | qfitWindow (at_ w : Nat)
  /-- CNT_CLR (R165): A write of CNT_CLR zeroes the well's saturation counters at once. -/
  | cntClr (at_ path w : Nat)
  /-- TENSOR_MAXABS_WRITE (R154): A write to TENSOR_MAXABS sets the tracked tensor maximum. -/
  | tensorMaxabsWrite (at_ path w value : Nat)
  /-- HEAD_DOORBELL (R227): A write to a queue's HEAD rings its doorbell and the queue fetches descriptors. -/
  | headDoorbell (at_ path q head : Nat)
  /-- DESC_ISSUE (R206): A descriptor's tick begins and its wait condition is met, so it starts issuing. -/
  | descIssue (at_ q : Nat)
  /-- TRANSFER_ISSUE (R211): A queue holding destination credits under its outstanding limit starts a transfer through arbitration. -/
  | transferIssue (at_ p : Nat)
  /-- TRANSFER_COMPLETE (R208): Every destination acknowledges a transfer and the descriptor completes with its status, count and arrival. -/
  | transferComplete (at_ q : Nat)
  /-- COPY (R200): A COPY descriptor moves LEN bytes between any two windows. -/
  | copy (at_ q : Nat)
  /-- TILE (R200): A TILE descriptor delivers weight tiles in plane order to the target set's staging. -/
  | tile (at_ q : Nat)
  /-- MULTICAST (R200): A MULTICAST descriptor reads LEN bytes once and delivers them to every member's pool. -/
  | multicast (at_ q : Nat)
  /-- SCALES (R218): A SCALES descriptor delivers the tagged scale stream to the target set's scale input. -/
  | scales (at_ q : Nat)
  /-- GATHER (R200): A GATHER descriptor copies indexed items to consecutive destinations. -/
  | gather (at_ q : Nat)
  /-- SCATTER (R200): A SCATTER descriptor copies consecutive items to indexed destinations. -/
  | scatter (at_ q : Nat)
  /-- STATS (R201): A STATS descriptor reads its source and writes a statistics record. -/
  | stats (at_ q : Nat)
  /-- REDUCE (R200): A REDUCE descriptor converts source elements to BFX48 and adds them into the destination. -/
  | reduce (at_ q : Nat)
  /-- QUEUE_HALTED (R220): After the in-flight transfers of a skewed pair are acknowledged, both queues complete PAIR_SKEW and enter HALTED. -/
  | queueHalted (at_ q : Nat)
  /-- REARM (R221): A write of REARM re-executes or shadows a ring slot, or is rejected. -/
  | rearm (at_ path q slot gen : Nat)
  /-- BAR_CFG_WRITE (R207): A write of BAR_CFG sets a barrier target and releases the barrier when the target is at or below the count. -/
  | barCfgWrite (at_ path die i target : Nat)
  /-- START_SEQUENCE_DONE (R75): A block's start sequence completes, to be taken at the next boundary. -/
  | startSequenceDone (at_ pg : Nat)
  /-- START_SEQUENCE_FAIL (R75): A block's start sequence does not complete within its limit and the page enters FAULT. -/
  | startSequenceFail (at_ pg : Nat)
  /-- DRAIN_DONE (R75): A block's drain completes, to be taken at the next boundary. -/
  | drainDone (at_ pg : Nat)
  /-- CISTERN_ACCESS (R231): A base die serves a read or write of one 4 KiB block in service order, with ECC and seal checks. -/
  | cisternAccess (at_ : Nat) (req : CisternReq) (ecc : Nat) (damaged : Bool) (data : List Byte) (tid blk gen fmt : Nat) (withheld delayed crcOk : Bool)
  /-- PATROL_SCRUB (R240): Patrol scrub reads its per-tick quota of blocks at the lowest service level. -/
  | patrolScrub (at_ cis : Nat) (finds : List Nat)
  /-- SGD_MOMENTUM (R254): A launched optimiser command of OP 1 updates master weights and momentum in place. -/
  | sgdMomentum (at_ cis : Nat)
  /-- ADAMW (R254): A launched optimiser command of OP 2 updates master weights and both moments in place. -/
  | adamw (at_ cis : Nat)
  /-- OPT_DONE (R256): An optimiser command ends, counts, arrives at its barrier and raises OPT_DONE. -/
  | optDone (at_ cis : Nat)
  /-- ROWSUM_BUILD (R247): A header write with BUILD set starts a row-sum build on the base die. -/
  | rowsumBuild (at_ addr : Nat)
  /-- ROWSUM_DONE (R247): The row-sum build completes, sets ROWSUM_PRESENT and acknowledges the header write. -/
  | rowsumDone (at_ addr : Nat)
  /-- SVC_LOAD (R272): A LOAD command starts the checks of a plan image. -/
  | svcLoad (at_ path : Nat)
  /-- PLAN_LOADED (R274): Every LOAD check passes, INIT tensors are copied and the plan is LOADED. -/
  | planLoaded (at_ : Nat)
  /-- SVC_START (R273): A START command is checked in the next tick and the plan's first tick is set. -/
  | svcStart (at_ path : Nat)
  /-- PLAN_RUN_START (R273): At tick s the plan becomes RUNNING with its period pinned and AUTOSTART programs starting. -/
  | planRunStart (at_ : Nat)
  /-- SVC_STOP (R274): A STOP command makes the plan STOPPING at the next boundary. -/
  | svcStop (at_ path : Nat)
  /-- PLAN_STOP_DONE (R274): At boundary n + 2 a stopping plan returns to LOADED and unfinished results are withheld with STOPPED. -/
  | planStopDone (at_ : Nat)
  /-- SVC_UNLOAD (R274): An UNLOAD command returns a loaded plan to EMPTY. -/
  | svcUnload (at_ path : Nat)
  /-- MOON_PASS_WRITE (R280): A moon writes a pass entry into its well's ring once its wait condition becomes visible. -/
  | moonPassWrite (at_ n : Nat)
  /-- SEQ_SLOT_TIMEOUT (R287): A sequence with no request for SEQ_TIMEOUT ticks has its slot freed. -/
  | seqSlotTimeout (at_ prog slot : Nat)
  /-- LIGHT_SAMPLE (R295): Every 10 µs the tap monitors and receiver LO powers are sampled. -/
  | lightSample (at_ : Nat) (taps rx : List (Nat × List Int))
  /-- CMD_PREWARM (R298): A write of COMB.CMD.PREWARM starts a prewarm at the next boundary. -/
  | cmdPrewarm (at_ path src : Nat)
  /-- CMD_HANDOVER (R298): A write of COMB.CMD.HANDOVER starts a handover at the next boundary. -/
  | cmdHandover (at_ path src : Nat)
  /-- SPARE_READY (R294): A warming source has every line on target and stable for 100 ms and reaches STANDBY or IN_SERVICE. -/
  | spareReady (at_ src : Nat)
  /-- WARMING_TIMEOUT (R294): A source not locked 3 s after entering WARMING is FAILED. -/
  | warmingTimeout (at_ src : Nat)
  /-- DARK_FENCE (R308): A well dark for light for 10 consecutive ticks with no forced handover is fenced. -/
  | darkFence (at_ w : Nat)
  /-- APR_CLOSE (R315): A port's receive power stays below −18 dBm for 50 µs and its shutter closes. -/
  | aprClose (at_ p : Nat)
  /-- APR_PROBE (R315): A closed shutter opens every 1 s for a 2 ms probe at reduced power. -/
  | aprProbe (at_ p : Nat) (ends : Bool)
  /-- APR_OPEN (R315): The receiver has seen light for 1 ms and the shutter reopens at the next boundary. -/
  | aprOpen (at_ p : Nat)
  /-- MONITOR_READ (R335): A monitor conversion is compared with its expected value and may fail a channel. -/
  | monitorRead (at_ bank inst channel : Nat) (value m : Int)
  /-- TRIM_DATA_WRITE (R339): A write of TRIM_DATA sets the selected trim word, or sets BAD_ADDR or BUSY. -/
  | trimDataWrite (at_ path c value : Nat)
  /-- REFCHECK (R344): A write of CAL.CMD.REFCHECK measures the reference ratios and acts on the deviations. -/
  | refcheck (at_ path : Nat) (fault : Bool) (iref hspan mon : Int)
  /-- WELL_NOW (R351): A write of CAL.CMD.WELL_NOW makes the selected well eligible and due. -/
  | wellNow (at_ path : Nat)
  /-- LANE_NOW (R367): A write of CAL.CMD.LANE_NOW triggers recalibration of the selected lane. -/
  | laneNow (at_ path : Nat)
  /-- COMB_NOW (R367): A write of CAL.CMD.COMB_NOW triggers line recalibration of the selected source. -/
  | combNow (at_ path : Nat)
  /-- CAL_ELIGIBLE (R351): A well reaches its eligible tick and its recalibration becomes a relief demand. -/
  | calEligible (at_ w : Nat)
  /-- CAL_OVERDUE (R354): A logical well passes its due tick by the grace period and calibration ticks are inserted. -/
  | calOverdue (at_ w : Nat)
  /-- POOL_COPY_DONE (R357): The relief copier finishes copying the 256 blocks of the logical well's pool. -/
  | poolCopyDone (at_ orig : Nat)
  /-- CAL_MEASURE_PASS (R348): A recalibration measurement pass ends and is tested for agreement with the previous pass. -/
  | calMeasurePass (at_ w : Nat) (pass : CalPass)
  /-- LANE_RECAL (R363): A lane's recalibration interval expires and the lane is dropped for measurement. -/
  | laneRecal (at_ port : Nat)
  /-- LANE_CAL_RESULT (R364): A lane measurement ends and the lane is restored with new or old values. -/
  | laneCalResult (at_ port lane : Nat) (values : List Int) (marginOld marginNew : Nat)
  /-- COMB_RECAL (R365): A source's line recalibration interval expires and its lines are measured and judged. -/
  | combRecal (at_ src : Nat) (lines : List (Int × Int × Int))
  /-- REPEAT (R382): A captured failure is repeated in a test slot and classified transient or permanent. -/
  | repeatRun (at_ w : Nat) (errs : List (List Int)) (residue : Bool)
  /-- FT_ELIGIBLE (R403): A well reaches its field-test eligible tick and its test becomes a relief demand. -/
  | ftEligible (at_ w : Nat)
  /-- FIELD_TEST_SESSION (R404): A field-test session runs structural, converter and pattern steps in its slot and gives a verdict. -/
  | fieldTestSession (at_ w : Nat) (run : SessionRun)
  /-- TEST_NOW (R421): A write of TEST.CMD.TEST_NOW makes the selected well's field test due. -/
  | testNow (at_ path : Nat)
  /-- RETURN_NOW (R421): A write of TEST.CMD.RETURN_NOW places a return demand for a returnable fenced well. -/
  | returnNow (at_ path : Nat)
  /-- FLEET_LOAD (R408): A write of TEST.CMD.FLEET_LOAD checks a fleet package and writes it to flash, or refuses it. -/
  | fleetLoad (at_ path : Nat)
  /-- FLEET_ACTIVE (R408): A written fleet package becomes active at the first boundary after its write completes. -/
  | fleetActive (at_ : Nat)
  /-- REC_POP (R421): A write of TEST.CMD.REC_POP removes the oldest comet record. -/
  | recPop (at_ path : Nat)
  /-- WATCHDOG_MISS (R417): A core has not completed its boundary actions within 2 ticks and misses its watchdog. -/
  | watchdogMiss (at_ core : Nat)
  /-- LOCKSTEP_MISMATCH (R417): A die planet pair mismatches, its tick work is withheld and the pair restarts. -/
  | lockstepMismatch (at_ die : Nat)
  /-- MONITOR_MISMATCH (R417): A mismatch within the safety-monitor pair resets the module with cause WATCHDOG. -/
  | monitorMismatch (at_ : Nat)
  /-- SERVICE_WATCHDOG_RESET (R418): A service-planet watchdog miss persisting for 1 s resets the module. -/
  | serviceWatchdogReset (at_ : Nat)
  /-- LANE_TRAINED (R429): A lane completes training and is released to join the stripe set at the next boundary. -/
  | laneTrained (at_ p k : Nat)
  /-- LANE_LOCK_LOSS (R432): A lane loses lock between boundaries, its units are lost and it leaves the stripe set. -/
  | laneLockLoss (at_ p k : Nat)
  /-- LINK_FRAME (R433): A link frame is received and its acknowledgements, NAKs and credits are applied. -/
  | linkFrame (at_ p : Nat) (h : LinkHdr) (fec : List (Nat × Nat × Nat))
  /-- REPLAY_TIMEOUT (R437): 10 µs pass without acknowledgement and the sender resends the space. -/
  | replayTimeout (at_ p space : Nat)
  /-- HOLADE_WRITE (R443): A received WRITE message writes its block with its seal, unless its address is forbidden. -/
  | holadeWrite (at_ p : Nat) (h : LinkHdr) (m : Msg)
  /-- READ_REQ (R443): A received READ_REQ is answered with the requested data or with a withheld zero payload. -/
  | readReq (at_ p : Nat) (h : LinkHdr) (m : Msg)
  /-- READ_RESP (R442): A received READ_RESP writes its data, and the read completes when every response is written. -/
  | readResp (at_ p : Nat) (h : LinkHdr) (m : Msg)
  /-- REDUCE_ADD (R447): A received REDUCE_ADD block is kept as a contribution for its reducer's shard. -/
  | reduceAdd (at_ p : Nat) (h : LinkHdr) (m : Msg)
  /-- RESULT (R447): A received RESULT block is written into the member's DST tensor. -/
  | result (at_ p : Nat) (h : LinkHdr) (m : Msg)
  /-- DIGEST_CONTRIBUTION (R393): A received DIGEST of SUBOP 0 is compared by the reducer with its recomputation. -/
  | digestContribution (at_ p : Nat) (h : LinkHdr) (m : Msg)
  /-- DIGEST_RESULT (R393): A received DIGEST of SUBOP 1 is checked three ways against the result. -/
  | digestResult (at_ p : Nat) (h : LinkHdr) (m : Msg)
  /-- BCAST (R449): A received BCAST block is written into the member's DST tensor. -/
  | bcast (at_ p : Nat) (h : LinkHdr) (m : Msg)
  /-- TICK_SYNC_ANNOUNCE (R462): A TICK_SYNC announcement from the parent yields the follower's offset, corrected under R38. -/
  | tickSyncAnnounce (at_ p : Nat) (h : LinkHdr) (m : Msg) (arrival : Nat)
  /-- DELAY_MEASURE (R462): Every 64 ticks neighbours start measuring their link delay. -/
  | delayMeasure (at_ p : Nat)
  /-- DELAY_REQ (R462): A received DELAY_REQ is answered with a DELAY_RESP. -/
  | delayReq (at_ p : Nat) (h : LinkHdr) (m : Msg) (residence : Nat)
  /-- DELAY_RESP (R462): A received DELAY_RESP gives the one-way delay of the link. -/
  | delayResp (at_ p : Nat) (h : LinkHdr) (m : Msg)
  /-- TICK_SYNC_LOSS (R463): No announcement from the parent at two boundaries makes the follower hold over. -/
  | tickSyncLoss (at_ : Nat)
  /-- MEMBER_ANNOUNCE (R454): A received MEMBER announcement updates candidates, levels, epochs and routes. -/
  | memberAnnounce (at_ p : Nat) (h : LinkHdr) (m : Msg) (a : Announce)
  /-- MEMBER_JOIN (R456): A received MEMBER JOIN asks the grandmaster for a rank. -/
  | memberJoin (at_ p : Nat) (h : LinkHdr) (m : Msg)
  /-- MEMBER_TABLE (R456): A received MEMBER table message gives the member identities by rank. -/
  | memberTable (at_ p : Nat) (h : LinkHdr) (m : Msg)
  /-- MEMBER_LEAVE (R456): A received MEMBER LEAVE asks for the removal of a module in a later epoch. -/
  | memberLeave (at_ p : Nat) (h : LinkHdr) (m : Msg)
  /-- MEMBER_EPOCH (R457): A received MEMBER EPOCH schedules a new epoch, and possibly a new period, at tick E. -/
  | memberEpoch (at_ p : Nat) (h : LinkHdr) (m : Msg) (number tick period : Nat) (joins : List (Nat × Nat)) (leaves : List Nat)
  /-- MEMBER_TIMEOUT (R454): No announcement on a link for MEMBER_TIMEOUT ticks makes the link DOWN for membership. -/
  | memberTimeout (at_ p : Nat)
  /-- GM_TIMEOUT (R455): A grandmaster not announced within GM_TIMEOUT ticks starts an election. -/
  | gmTimeout (at_ : Nat)
  /-- STOP_RX (R451): A received STOP holds the destination's data for the sender in the masked classes. -/
  | stopRx (at_ p : Nat) (h : LinkHdr) (m : Msg)
  /-- RESUME_RX (R451): A received RESUME releases the messages held by the sender's STOPs. -/
  | resumeRx (at_ p : Nat) (h : LinkHdr) (m : Msg)
  /-- FENCE_RX (R451): A received FENCE stops all data to the sender. -/
  | fenceRx (at_ p : Nat) (h : LinkHdr) (m : Msg)
  /-- CTRL_SEND_STOP (R450): A write of CTRL_SEND with SUBOP STOP sends a STOP to the named rank. -/
  | ctrlSendStop (at_ path mask rank : Nat)
  /-- CTRL_SEND_FENCE (R451): A write of CTRL_SEND with SUBOP FENCE sends a FENCE and discards data from that rank. -/
  | ctrlSendFence (at_ path mask rank : Nat)
  /-- CTRL_SEND_RESUME (R450): A write of CTRL_SEND with SUBOP RESUME sends a RESUME to the named rank. -/
  | ctrlSendResume (at_ path mask rank : Nat)
  /-- GROUP_RELOAD (R446): A write of FAB_CMD.GROUP_RELOAD rereads the group table at the next boundary. -/
  | groupReload (at_ path : Nat)
  /-- FAB_LEAVE (R456): A write of FAB_CMD.LEAVE sends a MEMBER LEAVE. -/
  | fabLeave (at_ path : Nat)
  /-- HPORT_DRAIN_TIMEOUT (R468): A draining port's 1 ms wait for acknowledgements ends, and unacknowledged frames are discarded. -/
  | hportDrainTimeout (at_ p : Nat)
  /-- FRAME_START (R475): A Frame Start takes the channel's next slot, or drops the frame when no slot is free. -/
  | frameStart (at_ p v num : Nat) (c : PacketCheck)
  /-- REQUEST_DESCRIPTOR (R478): A request descriptor packet of a tensor frame is stored. -/
  | requestDescriptor (at_ p v : Nat) (bytes : List Byte) (c : PacketCheck)
  /-- TENSOR_HEADER (R479): A tensor header packet of a tensor frame is stored. -/
  | tensorHeader (at_ p v : Nat) (bytes : List Byte) (c : PacketCheck)
  /-- PAYLOAD_PACKET (R480): A payload packet is stored, or written to memory on a load channel, with block headers generated. -/
  | payloadPacket (at_ p v : Nat) (bytes : List Byte) (c : PacketCheck)
  /-- RAW_LINE (R481): A RAW line packet is unpacked and stored as INT16 blocks. -/
  | rawLine (at_ p v dt : Nat) (bytes : List Byte) (c : PacketCheck)
  /-- LOAD_HEADER (R483): A load header packet is checked against its destination, and the frame is accepted or refused. -/
  | loadHeader (at_ p v : Nat) (bytes : List Byte) (c : PacketCheck)
  /-- FRAME_END (R477): A Frame End completes the frame, making a request wait or finishing a load with its status. -/
  | frameEnd (at_ p v num : Nat) (c : PacketCheck)
  /-- FRAME_TIMEOUT (R477): A frame with no Frame End by MAX_TICKS is closed with error 6. -/
  | frameTimeout (at_ p v : Nat)
  /-- SLOT_RELEASE (R475): A write of FRAME_IN.RELEASE frees a slot once no transfer from it is in flight. -/
  | slotRelease (at_ path p v slot : Nat)
  /-- PHY_UNLOCK (R492): A receive PHY loses lock while a frame is open. -/
  | phyUnlock (at_ p : Nat)
  /-- PREAMBLE_WRITE (R486): A complete preamble write opens a transmit frame, abandoning one under assembly. -/
  | preambleWrite (at_ q v : Nat) (bytes : List Byte)
  /-- I3C_WRITE (R503): An I3C WRITE command writes up to 16 words in ascending order and records its response. -/
  | i3cWrite (at_ port : Nat) (hdr : Bool) (code : Nat) (payload : List Byte) (early bad : Bool)
  /-- I3C_READ (R503): An I3C READ command reads up to 16 words and captures them as the response. -/
  | i3cRead (at_ port : Nat) (hdr : Bool) (payload : List Byte) (bad : Bool)
  /-- RESPONSE_READ (R505): A private read, or HDR read code 0xA0, returns the last command's response once ready. -/
  | responseRead (at_ port : Nat) (hdr : Bool) (code : Nat)
  /-- ENEC (R501): ENEC enables in-band interrupts or Hot-Join on the port. -/
  | enec (at_ port : Nat) (direct : Bool) (events : Nat)
  /-- DISEC (R501): DISEC disables in-band interrupts or Hot-Join on the port. -/
  | disec (at_ port : Nat) (direct : Bool) (events : Nat)
  /-- RSTDAA (R498): RSTDAA removes the port's dynamic address. -/
  | rstdaa (at_ port : Nat)
  /-- ENTDAA (R497): ENTDAA assigns a dynamic address by arbitration on the PID. -/
  | entdaa (at_ port da : Nat) (won : Bool)
  /-- SETMWL (R501): SETMWL sets the maximum write length. -/
  | setmwl (at_ port : Nat) (direct : Bool) (len : Nat)
  /-- GETMWL (R501): GETMWL returns the maximum write length. -/
  | getmwl (at_ port : Nat)
  /-- SETMRL (R501): SETMRL sets the maximum read length and IBI payload. -/
  | setmrl (at_ port : Nat) (direct : Bool) (len ibi : Nat)
  /-- GETMRL (R501): GETMRL returns the maximum read length and IBI payload. -/
  | getmrl (at_ port : Nat)
  /-- ENTHDR0 (R507): ENTHDR0 enters HDR-DDR mode. -/
  | enthdr0 (at_ port : Nat)
  /-- HDR_EXIT (R507): The HDR Exit Pattern takes the port out of HDR-DDR. -/
  | hdrExit (at_ port : Nat)
  /-- SETAASA (R498): SETAASA takes the static address as the dynamic address. -/
  | setaasa (at_ port : Nat)
  /-- RSTACT (R501): RSTACT sets or reports the reset action of the port's I3C peripheral. -/
  | rstact (at_ port : Nat) (direct get : Bool) (action : Nat)
  /-- TARGET_RESET (R501): The target reset pattern resets only the port's I3C peripheral. -/
  | targetReset (at_ port : Nat)
  /-- SETDASA (R498): SETDASA assigns a dynamic address through the static address. -/
  | setdasa (at_ port da : Nat)
  /-- SETNEWDA (R501): SETNEWDA changes the dynamic address. -/
  | setnewda (at_ port da : Nat)
  /-- GETPID (R497): GETPID returns the provisioned ID. -/
  | getpid (at_ port : Nat)
  /-- GETBCR (R496): GETBCR returns the bus characteristics register. -/
  | getbcr (at_ port : Nat)
  /-- GETDCR (R496): GETDCR returns the device characteristics register. -/
  | getdcr (at_ port : Nat)
  /-- GETSTATUS (R502): GETSTATUS returns the queue depth, protocol error flag and last command status. -/
  | getstatus (at_ port : Nat)
  /-- GETMXDS (R501): GETMXDS returns the maximum read turnaround. -/
  | getmxds (at_ port : Nat)
  /-- GETCAPS (R501): GETCAPS returns the I3C version and HDR capabilities. -/
  | getcaps (at_ port : Nat)
  /-- HOT_JOIN (R499): 1 ms after becoming ready without a dynamic address, the port sends one Hot-Join request. -/
  | hotJoin (at_ port : Nat)
  /-- HMEM_ADDR_LO_WRITE (R509): A write of HMEM_ADDR_LO loads the window address and its start address S. -/
  | hmemAddrLoWrite (at_ port value : Nat)
  /-- HMEM_DATA_WRITE (R509): A write of a window data word stores 4 bytes in memory, and word 15 advances the window. -/
  | hmemDataWrite (at_ port i value : Nat)
  /-- HMEM_DATA_READ (R509): A read of a window data word returns memory bytes, and word 15 advances the window. -/
  | hmemDataRead (at_ port i : Nat)
  /-- SENSOR_SAMPLE (R515): A temperature sample is taken, heater targets follow, and the limits and step rules are applied. -/
  | sensorSample (at_ : Nat) (readings : List (Nat × Nat × Int))
  /-- SENSOR_RESTORED (R516): A broken sensor reads cleanly for 1 s and is restored. -/
  | sensorRestored (at_ sensor : Nat)
  /-- THROTTLE_RISE (R520): The rise interval expires with the reading still above the limit and the level rises one. -/
  | throttleRise (at_ group : Nat)
  /-- THROTTLE_RELAX (R520): The reading stays below the hysteresis for RELAX_MS and the level falls one. -/
  | throttleRelax (at_ group : Nat)
  /-- FAST_RATE_END (R515): 10 ms without a fast-rate condition returns a group to the slow rate. -/
  | fastRateEnd (at_ group : Nat)
  /-- THERMAL_RESET (R522): Every sensor below 80 °C for 10 s ends the shutdown with a thermal reset. -/
  | thermalReset (at_ : Nat)
  /-- RAIL_SAMPLE (R527): Every 10 µs each rail's voltage and current are measured against its limits. -/
  | railSample (at_ : Nat) (rails : List (Nat × Nat)) (combs : List Nat)
  /-- POWER_ON (R534): PWRGD rises with every rail in tolerance and power-on reset begins. -/
  | powerOn (at_ : Nat)
  /-- PWRGD_FALL (R561): PWRGD falls and the module enters reset with its light dark within 10 µs. -/
  | pwrgdFall (at_ : Nat)
  /-- BROWN_OUT (R561): VDD_CORE or VDD_IO below 85 % for 1 µs acts as a fall of PWRGD. -/
  | brownOut (at_ : Nat)
  /-- RESET_N_ASSERT (R561): RESET_N is asserted while PWRGD is high and the module enters pin reset. -/
  | resetNAssert (at_ : Nat)
  /-- RESET_RELEASE (R542): Reset is released, tick 0 begins, the straps are sampled and the boot sequence runs. -/
  | resetRelease (at_ straps : Nat) (puf : Bool) (slotA slotB calA calB : Nat) (badRows badSource refFault : Bool) (iref hspan mon : Int)
  /-- BOOT_DONE (R545): The mapping and key derivation steps are both complete and boot ends in READY or DEGRADED. -/
  | bootDone (at_ : Nat)
  /-- BOOT_LATE (R546): Boot has not ended 45 s after reset, and a trial boot resets with cause WATCHDOG. -/
  | bootLate (at_ : Nat)
  /-- BOOT_UPDATE (R547): A write of BOOT.CMD.UPDATE checks an image and writes it to the inactive slot as a trial. -/
  | bootUpdate (at_ path : Nat)
  /-- UPDATE_DONE (R547): The image written to the slot reads back and verifies, and the trial is set. -/
  | updateDone (at_ : Nat) (ok : Bool)
  /-- RECOVERY_UPDATE (R543): In RECOVERY, CMD.UPDATE checks an image in hub SRAM, writes slot A and resets. -/
  | recoveryUpdate (at_ path : Nat)
  /-- BOOT_COMMIT (R548): A write of BOOT.CMD.COMMIT during a trial boot makes the running slot ACTIVE and may raise MIN_SVN. -/
  | bootCommit (at_ path : Nat)
  /-- SAVE_CFG (R555): A write of BOOT.CMD.SAVE_CFG writes CFG to the boot record. -/
  | saveCfg (at_ path : Nat)
  /-- EVIDENCE (R552): A write of SEC.CMD.EVIDENCE starts producing an evidence record for a nonce, or rejects the request. -/
  | evidence (at_ path : Nat)
  /-- EVIDENCE_READY (R553): The signed evidence record is placed and EV_STAT becomes READY. -/
  | evidenceReady (at_ : Nat)
  /-- OWNER (R554): A write of SEC.CMD.OWNER checks and installs or clears an owner key pair. -/
  | owner (at_ path : Nat)
  /-- REFCLK_LOST (R562): REFCLK is absent for 1 µs and every clock moves to the internal oscillator. -/
  | refclkLost (at_ : Nat)
  /-- REFCLK_RESTORE (R562): REFCLK runs within limits for 10 ms and the clocks return to it at the next boundary. -/
  | refclkRestore (at_ : Nat)
  /-- LANE_TRAINING_FAIL (R429): A Holade lane's training attempt ends without success, and after three in a row the lane enters FAILED. -/
  | laneTrainingFail (at_ p k : Nat)
  /-- PHY_LOCK (R492): A receive frame port's PHY gains lock on the incoming stream and PHY_STAT.LOCK rises. -/
  | phyLock (at_ p rate : Nat)
  /-- EVT_SET (R55): A write of 1 to a page's EVT_SET sets EVT_RAW bits, making its controller source pending and possibly queueing an in-band interrupt. -/
  | evtSet (at_ path pg value : Nat)
  /-- TX_FRAME_END (R489): A transmit frame port finishes sending a frame's Frame End, freeing its transmit-buffer credits and letting the next completed frame go out. -/
  | txFrameEnd (at_ q : Nat)
  deriving DecidableEq, Repr

end Sys2Proof
end

