-- ==== Sys2Proof/Decode.lean ====
section
/-! DEFINITION. Command words. The opcode table gives no row any bits (its `fields` lists are empty), so no word spells a command. -/

namespace Sys2Proof

/-- The command that a word of `nbits` bits spells by the table's bits: none, for the table gives none (log entry 7). -/
def decodeTableWord (_nbits _w : Nat) : Option Instr := none

end Sys2Proof
end

