-- ==== Sys2Proof/Config.lean ====
section
/-! DEFINITION. What the spec leaves open or places outside itself: free values, and the cryptographic functions of the standards it
names. Each is an opaque constant with no body, so a statement about it holds whatever it is. -/

namespace Sys2Proof.Config

/-- Free values: the n-th value drawn, of any width asked for (log entry 9). Drawn at State.free. -/
opaque freeValue (w : Nat) : Nat → BitVec w

/-- R152: a normalisation that the moons finish with a pass: address of the parameter area of the NORM_APPLY pass, statistics areas of the
vector's passes in ascending N-tile order, vectors, values summed by each vector, eps as a float32 word, and the norm kind. -/
structure NormJob where
  param : Nat
  stats : List Nat
  nv : Nat
  n : Nat
  eps : Nat
  rms : Bool
  deriving DecidableEq, Repr

/-- R152: the normalisations that end with a pass, by plan header and pass descriptor: the plan holds them, in a form that the spec does not
give (log entry 58). -/
opaque normJobs : List Byte → List Byte → List NormJob

/-- Square root of a negative second moment (R254 states none), by its float32 word (log entry 37). -/
opaque sqrtNegative : BitVec 32 → BitVec 32

/-- SHA-384 of a byte string, 48 bytes (log entry 8). -/
opaque sha384 : List Byte → List Byte

/-- RSASSA-PSS verification with SHA-384: key, message digest, signature (R263, R408, R539). -/
opaque rsaVerify : List Byte → List Byte → List Byte → Bool

/-- SLH-DSA-SHA2-192s verification: key, message digest, signature (R263, R408, R539). -/
opaque slhVerify : List Byte → List Byte → List Byte → Bool

/-- Signatures by the alias keys: 0 RSASSA-PSS, 1 SLH-DSA; what entered CDI_2 (R550); the digest signed (R553). -/
opaque sign : Nat → List Byte → List Byte → List Byte

/-- Certificates (R551): 0 alias RSA, 1 alias SLH-DSA, 2 DeviceID RSA, 3 DeviceID SLH-DSA; what entered CDI_2. -/
opaque certificate : Nat → List Byte → List Byte

/-- SHA-384 of the DeviceID public keys (R551), 48 bytes. -/
opaque deviceHash : List Byte

/-- Grenyon root key pair of the boot header (R536, R539), laid out as R541 lays out a pair. -/
opaque rootKey : List Byte

/-- Key manifest of the firmware installed at manufacture (R541): the plan-signing pair, then the fleet-package pair. -/
opaque factoryManifest : List Byte

/-- SHA-384 of the signed bytes of the firmware installed at manufacture, by slot, and of the calibration image. -/
opaque factoryDigest : Nat → List Byte
opaque calDigest : List Byte

/-! ### The calibration image (R343): factory items of the module, which the spec names and does not give -/

/-- Set point of heater `i` of a well at 20 °C + 20 °C × `j`, a float32 word in rad (R309). -/
opaque setPoint : Nat → Nat → Nat → Nat

/-- Crosstalk C[i][i] of a well, a float32 word in rad per mW (R310). -/
opaque crosstalkDiag : Nat → Nat → Nat

/-- Off-diagonal entries of row `i` of a well's crosstalk matrix: heater and float32 word (R310). -/
opaque crosstalk : Nat → Nat → List (Nat × Nat)

/-- Resistance of heater `i` of a well, a float32 word in ohms (R310, R322). -/
opaque heaterOhms : Nat → Nat → Nat

/-- Current of a comb source at bias code 16,383, a float32 word in mA (R323). -/
opaque biasFull : Nat → Nat

/-- Trim words of a well by trim address: input cell weights and skews, ADC taps and rows (R338, R339). -/
opaque factoryTrims : Nat → List (Nat × Int)

/-- Lane limits of a lane of a port: the least and the greatest value of each of its seven settings (R363, R364). -/
opaque laneLimits : Nat → Nat → List (Int × Int)

/-- HTR_SPAN of a well (R340). -/
opaque heaterSpan : Nat → Nat

/-- Monitor coefficients MO and MG of bank kind 0 to 3 and instance (R335). -/
opaque monOffset : Nat → Nat → Int
opaque monGain : Nat → Nat → Int

/-- Factory row gain of a well, plane and row at 20 °C + 20 °C × `j`, in 10⁻⁶ (R350). -/
opaque factoryGain : Nat → Nat → Nat → Nat → Int

/-- BIAS.MAX and LOOP.TARGET (signed, 0.01 dBm) of a comb source (R316). -/
opaque biasMax : Nat → Nat
opaque loopTarget : Nat → Int

end Sys2Proof.Config
end

