-- ==== Sys2Proof/Machine/Bits.lean ====
section
/-! DEFINITION. Bit fields, two's complement, saturation and byte order (R4: little-endian everywhere). -/

namespace Sys2Proof.Machine

/-- Field of `width` bits from bit `lsb` of a number. -/
def bits (x lsb width : Nat) : Nat := (x >>> lsb) % 2 ^ width

/-- Bit `i` of a number, as a Bool. -/
def bitAt (x i : Nat) : Bool := (x >>> i) % 2 = 1

/-- A number with the field of `width` bits from bit `lsb` replaced by the low bits of `v`. -/
def setBits (x lsb width v : Nat) : Nat :=
  (x - (bits x lsb width) <<< lsb) + ((v % 2 ^ width) <<< lsb)

/-- A number with bit `i` set. -/
def setBit (x i : Nat) : Nat := setBits x i 1 1

/-- A number with bit `i` cleared. -/
def clearBit (x i : Nat) : Nat := setBits x i 1 0

/-- 1 for true, 0 for false. -/
def b2n (b : Bool) : Nat := if b then 1 else 0

/-- The signed reading of the low `width` bits (two's complement). -/
def toSigned (x width : Nat) : Int :=
  let y := x % 2 ^ width
  if y < 2 ^ (width - 1) then (y : Int) else (y : Int) - (2 ^ width : Nat)

/-- The low `width` bits of an integer in two's complement. -/
def ofSigned (x : Int) (width : Nat) : Nat := (x % ((2 ^ width : Nat) : Int)).toNat

/-- An integer held within [lo, hi]. -/
def clampInt (lo hi x : Int) : Int := if x < lo then lo else if hi < x then hi else x

/-- Sum that stops at the largest value of the width (a saturating counter). -/
def satAdd (width x n : Nat) : Nat := min (x + n) (2 ^ width - 1)

/-- Quotient rounded up. -/
def ceilDiv (a b : Nat) : Nat := (a + b - 1) / b

/-- The little-endian bytes of a number (R4). -/
def bytesOf : Nat → Nat → List Byte
  | 0, _ => []
  | n + 1, x => BitVec.ofNat 8 x :: bytesOf n (x / 256)

/-- The number that little-endian bytes spell (R4). -/
def numOf : List Byte → Nat
  | [] => 0
  | b :: rest => b.toNat + 256 * numOf rest

/-- Bytes `o` to `o + n - 1` of a byte string, as a little-endian number; bytes past its end count as 0. -/
def fieldOf (bs : List Byte) (o n : Nat) : Nat := numOf ((bs.drop o).take n)

/-- A byte string cut or filled with zero bytes to a length. -/
def padTo (n : Nat) (bs : List Byte) : List Byte := (bs ++ List.replicate (n - bs.length) 0#8).take n

/-- A list without repeats, with one more element. -/
def addOnce {α : Type} [DecidableEq α] (x : α) (l : List α) : List α := if l.contains x then l else l ++ [x]

/-- A list with every occurrence of an element taken out. -/
def dropAll {α : Type} [DecidableEq α] (x : α) (l : List α) : List α := l.filter (fun y => decide (y ≠ x))

/-- A list with the element at an index replaced. -/
def updAt {α : Type} (l : List α) (i : Nat) (f : α → α) : List α := l.modify i f

/-- Stable insertion of an element into a list ordered by a rank. -/
def insertBy {α : Type} (rank : α → Nat) (x : α) : List α → List α
  | [] => [x]
  | y :: rest => if rank x < rank y then x :: y :: rest else y :: insertBy rank x rest

/-- Stable sort by a rank. -/
def sortBy {α : Type} (rank : α → Nat) : List α → List α
  | [] => []
  | x :: rest => insertByFront rank x (sortBy rank rest)
where
  /-- Insertion before equal ranks, so that the order of equal elements is kept. -/
  insertByFront (rank : α → Nat) (x : α) : List α → List α
    | [] => [x]
    | y :: rest => if rank x ≤ rank y then x :: y :: rest else y :: insertByFront rank x rest

end Sys2Proof.Machine
end

