-- ==== Sys2Proof/Machine/Float.lean ====
section
/-! DEFINITION. Exact arithmetic and the module's one rounding mode, to nearest with ties away from zero (R192, R148): rna on exact
quotients, rnaf to float32, and the square roots and arctangents that R131 and R152 ask for. -/

namespace Sys2Proof.Machine

/-- Nearest integer to n / d, ties away from zero (R192); d = 0 gives 0. -/
def rnaDiv (n : Int) (d : Nat) : Int :=
  if d = 0 then 0
  else if n < 0 then -(((2 * n.natAbs + d) / (2 * d) : Nat) : Int)
  else (((2 * n.natAbs + d) / (2 * d) : Nat) : Int)

/-- R142: rna(x / 2^s). -/
def rnaShr (x : Int) (s : Nat) : Int := rnaDiv x (2 ^ s)

/-- R142: rna(n * 2^s / d), exact for any integer s. -/
def rnaQ (n : Int) (d : Nat) (s : Int) : Int :=
  if 0 ≤ s then rnaDiv (n * ((2 ^ s.toNat : Nat) : Int)) d else rnaDiv n (d * 2 ^ (-s).toNat)

/-- R142: clamp to 32-bit signed range. -/
def sat32 (x : Int) : Int := clampInt (-(2 ^ 31)) (2 ^ 31 - 1) x

/-- An exact value n · 2^e. -/
structure Dy where
  n : Int
  e : Int
  deriving DecidableEq, Repr

def Dy.ofInt (n : Int) : Dy := ⟨n, 0⟩

def Dy.neg (a : Dy) : Dy := ⟨-a.n, a.e⟩

def Dy.add (a b : Dy) : Dy :=
  let m := min a.e b.e
  ⟨a.n * ((2 ^ (a.e - m).toNat : Nat) : Int) + b.n * ((2 ^ (b.e - m).toNat : Nat) : Int), m⟩

def Dy.sub (a b : Dy) : Dy := a.add b.neg

def Dy.mul (a b : Dy) : Dy := ⟨a.n * b.n, a.e + b.e⟩

def Dy.abs (a : Dy) : Dy := ⟨a.n.natAbs, a.e⟩

def Dy.lt (a b : Dy) : Bool := (a.sub b).n < 0

def Dy.le (a b : Dy) : Bool := (a.sub b).n ≤ 0

def Dy.max (a b : Dy) : Dy := if a.lt b then b else a

def Dy.isZero (a : Dy) : Bool := a.n == 0

/-- Exact sum of a list (R152: each sum is evaluated exactly). -/
def Dy.sum : List Dy → Dy
  | [] => ⟨0, 0⟩
  | x :: rest => x.add (Dy.sum rest)

/-- An exact quotient num / den with den above 0. -/
structure Ex where
  num : Int
  den : Nat
  deriving DecidableEq, Repr

def Ex.ofDy (a : Dy) : Ex :=
  if 0 ≤ a.e then ⟨a.n * ((2 ^ a.e.toNat : Nat) : Int), 1⟩ else ⟨a.n, 2 ^ (-a.e).toNat⟩

def Ex.ofInt (n : Int) : Ex := ⟨n, 1⟩

def Ex.mul (a b : Ex) : Ex := ⟨a.num * b.num, a.den * b.den⟩

def Ex.add (a b : Ex) : Ex := ⟨a.num * b.den + b.num * a.den, a.den * b.den⟩

def Ex.neg (a : Ex) : Ex := ⟨-a.num, a.den⟩

def Ex.sub (a b : Ex) : Ex := a.add b.neg

/-- Quotient; a divisor of 0 gives 0 (callers test it first). -/
def Ex.div (a b : Ex) : Ex :=
  if b.num = 0 then ⟨0, 1⟩
  else if b.num < 0 then ⟨-(a.num * b.den), a.den * b.num.natAbs⟩
  else ⟨a.num * b.den, a.den * b.num.natAbs⟩

def Ex.lt (a b : Ex) : Bool := a.num * b.den < b.num * a.den

/-- rna of an exact quotient times 2^s. -/
def Ex.rna (a : Ex) (s : Int) : Int := rnaQ a.num a.den s

/-- A binary floating-point format: bits of significand, exponent of the least significant bit of subnormals and of the
largest finite value, position of the sign bit. -/
structure FloatFmt where
  prec : Nat
  qmin : Int
  qmax : Int
  sign : Nat
  deriving DecidableEq, Repr

/-- IEEE 754 binary32. -/
def f32 : FloatFmt := ⟨24, -149, 104, 31⟩

/-- IEEE 754 binary16. -/
def f16 : FloatFmt := ⟨11, -24, 5, 15⟩

/-- bfloat16 (R167). -/
def bf16 : FloatFmt := ⟨8, -133, 120, 15⟩

/-- A rounding result: the stored bits and whether the rounded magnitude exceeded the largest finite value (R148). -/
structure Rounded where
  bits : Nat
  clip : Bool
  deriving DecidableEq, Repr

/-- Bits of the magnitude m · 2^q, m at most 2^prec, in a format; beyond the largest finite value, that value with a clip. -/
def FloatFmt.pack (f : FloatFmt) (neg : Bool) (m : Nat) (q : Int) : Rounded :=
  let (m, q) := if m = 2 ^ f.prec then (2 ^ (f.prec - 1), q + 1) else (m, q)
  if m = 0 then ⟨0, false⟩
  else
    let s := b2n neg * 2 ^ f.sign
    if f.qmax < q then
      ⟨s + ((f.qmax - f.qmin + 1).toNat * 2 ^ (f.prec - 1) + (2 ^ (f.prec - 1) - 1)), true⟩
    else if m < 2 ^ (f.prec - 1) then ⟨s + m, false⟩
    else ⟨s + ((q - f.qmin + 1).toNat * 2 ^ (f.prec - 1) + (m - 2 ^ (f.prec - 1))), false⟩

/-- floor(log2(a / b)) for a, b above 0. -/
def log2Quot (a b : Nat) : Int :=
  let g : Int := (a.log2 : Int) - (b.log2 : Int)
  let lower : Bool := if 0 ≤ g then b * 2 ^ g.toNat ≤ a else b ≤ a * 2 ^ (-g).toNat
  if lower then g else g - 1

/-- Round an exact quotient to a format, nearest with ties away from zero, subnormals kept (R148, R186). Zero is +0 (R187). -/
def FloatFmt.round (f : FloatFmt) (x : Ex) : Rounded :=
  if x.num = 0 then ⟨0, false⟩
  else
    let a := x.num.natAbs
    let q := max (log2Quot a x.den - ((f.prec : Int) - 1)) f.qmin
    f.pack (decide (x.num < 0)) (rnaQ a x.den (-q)).natAbs q

/-- rnaf of R148 on an exact value. -/
def rnaf (x : Dy) : Rounded := f32.round (Ex.ofDy x)

/-- Exact value of a bit pattern of a format; an infinity is replaced by the largest finite value with its sign and a NaN by 0,
with a clip (R150, R184). -/
def FloatFmt.value (f : FloatFmt) (w : Nat) : Dy × Bool :=
  let neg := bitAt w f.sign
  let ef := bits w (f.prec - 1) (f.sign - (f.prec - 1))
  let m := bits w 0 (f.prec - 1)
  let sgn : Int := if neg then -1 else 1
  if ef = 2 ^ (f.sign - (f.prec - 1)) - 1 then
    if m = 0 then (⟨sgn * ((2 ^ f.prec - 1 : Nat) : Int), f.qmax⟩, true) else (⟨0, 0⟩, true)
  else if ef = 0 then (⟨sgn * (m : Int), f.qmin⟩, false)
  else (⟨sgn * ((m + 2 ^ (f.prec - 1) : Nat) : Int), f.qmin + (ef : Int) - 1⟩, false)

/-- Whether a float32 word is finite. -/
def f32Finite (w : Nat) : Bool := bits w 23 8 != 255

/-- The value of a float32 word (R148: the module produces no infinity and no NaN). -/
def f32Val (w : Nat) : Dy := (f32.value w).1

/-- Integer square root by bits, highest first. -/
def isqrtAux (n : Nat) : Nat → Nat → Nat
  | 0, r => r
  | k + 1, r =>
    let c := r + 2 ^ k
    isqrtAux n k (if c * c ≤ n then c else r)

/-- Largest integer whose square is at most n. -/
def isqrt (n : Nat) : Nat := isqrtAux n (n.log2 / 2 + 1) 0

/-- Significand of sqrt(a / b) at exponent q: nearest integer to sqrt(a/b) / 2^q. -/
def sqrtSig (a b : Nat) (q : Int) : Nat :=
  let t := if 0 ≤ q then isqrt (4 * a / (b * 2 ^ (2 * q).toNat)) else isqrt (4 * a * 2 ^ (-(2 * q)).toNat / b)
  (t + 1) / 2

/-- Float32 nearest to sqrt(a / b), a and b above 0, rounded once. -/
def sqrtRound (a b : Nat) : Rounded :=
  let q0 := max (log2Quot a b / 2 - 23) f32.qmin
  let q := if sqrtSig a b q0 < 2 ^ 24 then q0 else q0 + 1
  f32.pack false (sqrtSig a b q) q

/-- Fixed-point bits of the arctangent. -/
def atanBits : Nat := 160

/-- Square root in fixed point. -/
def fixSqrt (x : Nat) : Nat := isqrt (x * 2 ^ atanBits)

/-- One halving of the argument of an arctangent: t / (1 + sqrt(1 + t²)), fixed point. -/
def atanHalf (t : Nat) : Nat :=
  let one := 2 ^ atanBits
  t * one / (one + fixSqrt (one + t * t / one))

/-- Sum of the arctangent series, fixed point: terms of index k downward. -/
def atanSeries (t2 : Nat) : Nat → Nat → Int → Int → Int
  | 0, _, _, acc => acc
  | k + 1, i, p, acc =>
    let term := p / (2 * i + 1)
    atanSeries t2 k (i + 1) (-(p * t2 / 2 ^ atanBits)) (acc + term)

/-- arctan(t) for fixed-point t in [0, 1]. -/
def atanFix (t : Nat) : Int :=
  let h := atanHalf (atanHalf (atanHalf t))
  8 * atanSeries (h * h / 2 ^ atanBits) 24 0 h 0

/-- π in fixed point. -/
def piFix : Int := 4 * atanFix (2 ^ atanBits)

/-- atan2(b, a) of exact quotients as a fixed-point quotient (R131); (0, 0) gives 0. -/
def atan2Ex (b a : Ex) : Ex :=
  let x := a.num.natAbs * b.den
  let y := b.num.natAbs * a.den
  let one := 2 ^ atanBits
  let base : Int :=
    if x = 0 ∧ y = 0 then 0
    else if y ≤ x then atanFix (y * one / x)
    else piFix / 2 - atanFix (x * one / y)
  let r := if a.num < 0 then piFix - base else base
  ⟨if b.num < 0 then -r else r, one⟩

end Sys2Proof.Machine
end

