-- ==== Sys2Proof/Machine/Operands.lean ====
section
/-! DEFINITION. The operand forms of the arithmetic: the fifteen formats of R167, weight codes and drive codes (R170 to R173, R179 to
R181), scales (R174, R175), activation blocks (R182 to R185), slices and spreading (R138, R153), and BFX48 groups
(R188 to R191). -/

namespace Sys2Proof.Machine

/-- Bits per element of a format code (R167); 0 for a reserved code. -/
def fmtBits : Nat → Nat
  | 1 => 3 | 2 => 4 | 3 => 4 | 4 => 4 | 5 => 6 | 6 => 8 | 7 => 8 | 8 => 8
  | 9 => 16 | 10 => 16 | 11 => 16 | 12 => 32 | 13 => 32 | 14 => 48 | 15 => 8
  | _ => 0

/-- R168: a weight format code. -/
def isWeightFmt (f : Nat) : Bool := 1 ≤ f && f ≤ 8

/-- R168: an activation format code. -/
def isActFmt (f : Nat) : Bool := 9 ≤ f && f ≤ 11

/-- R170: BG3 magnitudes, in thousandths. -/
def bg3Mag : Nat → Nat
  | 1 => 250 | 2 => 530 | 3 => 1000 | _ => 0

/-- R170: BG4 magnitudes, in thousandths. -/
def bg4Mag : Nat → Nat
  | 1 => 88 | 2 => 180 | 3 => 280 | 4 => 393 | 5 => 528 | 6 => 703 | 7 => 1000 | _ => 0

/-- R170: value of a finite narrow floating-point code with `ew` exponent bits, `mw` mantissa bits and the given bias. -/
def miniVal (code ew mw bias : Nat) : Ex :=
  let e := bits code mw ew
  let m := bits code 0 mw
  let mag : Nat := if e = 0 then 2 * m else (2 ^ mw + m) * 2 ^ e
  -- value = mag · 2^(−bias − mw): an exponent field of 0 counts as 1.
  let n : Int := if bitAt code (ew + mw) then -(mag : Int) else mag
  ⟨n, 2 ^ (bias + mw)⟩

/-- R171: the grid span A of a weight format. -/
def gridSpan : Nat → Ex
  | 1 => ⟨1, 1⟩ | 2 => ⟨1, 1⟩ | 3 => ⟨8, 1⟩ | 4 => ⟨6, 1⟩ | 5 => ⟨15, 2⟩ | 6 => ⟨128, 1⟩ | 7 => ⟨448, 1⟩ | 8 => ⟨57344, 1⟩
  | _ => ⟨1, 1⟩

/-- R170, R172: exact value of a weight code, and whether it is a NaN or infinity code (which counts one requantisation clip). -/
def weightVal (fmt code : Nat) : Ex × Bool :=
  match fmt with
  | 1 => (⟨(if bitAt code 2 then -1 else 1) * (bg3Mag (bits code 0 2) : Int), 1000⟩, false)
  | 2 => (⟨(if bitAt code 3 then -1 else 1) * (bg4Mag (bits code 0 3) : Int), 1000⟩, false)
  | 3 => (⟨toSigned code 4, 1⟩, false)
  | 4 => (miniVal code 2 1 1, false)
  | 5 => (miniVal code 2 3 1, false)
  | 6 => (⟨toSigned code 8, 1⟩, false)
  | 7 => if bits code 0 7 = 0x7F then (⟨0, 1⟩, true) else (miniVal code 4 3 7, false)
  | 8 =>
    if bits code 2 5 = 31 then
      (if bits code 0 2 = 0 then (⟨if bitAt code 7 then -57344 else 57344, 1⟩, true) else (⟨0, 1⟩, true))
    else (miniVal code 5 2 15, false)
  | _ => (⟨0, 1⟩, false)

/-- R174: the value of a UE5M3 scale code. -/
def ue5m3 (code : Nat) : Dy :=
  let e := bits code 3 5
  let m := bits code 0 3
  if e = 0 then ⟨m, -17⟩ else ⟨((8 + m : Nat) : Int), (e : Int) - 18⟩

/-- R179: the drive code of a value, and whether it was clamped (one requantisation clip). -/
def drive (val a : Ex) (s1 srm : Dy) : Int × Bool :=
  if srm.n = 0 then (0, false)
  else
    let q := Ex.div ((val.mul (Ex.ofDy s1)).mul ⟨511, 1⟩) (a.mul (Ex.ofDy srm))
    let d := rnaDiv q.num q.den
    if 511 < d then (511, true) else if d < -511 then (-511, true) else (d, false)

/-- R173: code of column `k` in a tile row given as its 16·b bytes read as one number. -/
def codeAt (row b k : Nat) : Nat := bits row (b * k) b

/-- One row scale record entry (R175): s2 as a float32 word, s_rowmax code, zero point. -/
structure RowScale where
  s2 : Nat
  srm : Nat
  z : Int
  deriving DecidableEq, Repr

/-- R175: entry r of a 1,024-byte row scale record. -/
def rowScaleOf (rec : List Byte) (r : Nat) : RowScale :=
  ⟨fieldOf rec (8 * r) 4, fieldOf rec (8 * r + 4) 1, toSigned (fieldOf rec (8 * r + 5) 1) 8⟩

/-- R177: the s2 in use: NaN as +0, infinity as the largest finite value; the flag counts a clip per output of the row. -/
def s2Val (w : Nat) : Dy × Bool :=
  let v := f32.value w
  if bits w 23 8 = 255 ∧ bits w 0 23 ≠ 0 then (⟨0, 0⟩, false) else v

/-- R145, R180: drive-domain zero points of one row for its four sub-blocks, and their clips; 0 for formats other than INT4 and INT8. -/
def zeroDrives (fmt : Nat) (z : Int) (s1 : List Nat) (srm : Nat) : List Int × Nat :=
  let ds := s1.map fun c => if fmt = 3 ∨ fmt = 6 then drive ⟨z, 1⟩ (gridSpan fmt) (ue5m3 c) (ue5m3 srm) else (0, false)
  (ds.map (·.1), (ds.filter (·.2)).length)

/-- R179: drive codes of one tile row (128 columns) and the number of requantisation clips counted in loading it. -/
def driveRow (fmt : Nat) (rowBytes : List Byte) (s1 : List Nat) (srm : Nat) : List Int × Nat :=
  let row := numOf rowBytes
  let b := fmtBits fmt
  let cells := (List.range 128).map fun k =>
    let v := weightVal fmt (codeAt row b k)
    let d := drive v.1 (gridSpan fmt) (ue5m3 (s1.getD (k / 32) 0)) (ue5m3 srm)
    (d.1, b2n v.2 + b2n d.2)
  (cells.map (·.1), (cells.map (·.2)).foldl (· + ·) 0)

/-- A tile's drive codes: rows of 128 codes, and clips, from its bytes, its scale block and the row scale record (R173, R175, R179). -/
def driveTile (fmt : Nat) (tile scales rec : List Byte) : List (List Int) × Nat :=
  let w := 16 * fmtBits fmt
  let rows := (List.range 128).map fun r =>
    driveRow fmt ((tile.drop (r * w)).take w) ((List.range 4).map fun j => fieldOf scales (4 * r + j) 1) (rowScaleOf rec r).srm
  (rows.map (·.1), (rows.map (·.2)).foldl (· + ·) 0)

/-- Sum of a list of integers. -/
def sumInt (l : List Int) : Int := l.foldl (· + ·) 0

/-- Column sums of rows of codes. -/
def colSums (rows : List (List Int)) : List Int :=
  (List.range 128).map fun c => sumInt (rows.map fun r => r.getD c 0)

/-- R115: the check row of a tile and its residuals. -/
def checkRow (rows : List (List Int)) : List Int × List Int :=
  let sums := colSums rows
  let chk := sums.map fun s => rnaDiv s 128
  (chk, sums.zipWith (fun s k => s - 128 * k) chk)

/-- Number of set bits of a number below 256. -/
def popcount8 (c : Nat) : Nat := ((List.range 8).map fun i => bits c i 1).foldl (· + ·) 0

/-- R117: the pilot pattern. -/
def pilotPattern : List Int := (List.range 128).map fun c => if popcount8 c % 2 = 0 then 256 else -256

/-- An activation operand block: 128 mantissas and a signed exponent (R137). -/
structure ActBlock where
  m : List Int
  e : Int
  deriving DecidableEq, Repr

/-- R183: E_MIN. -/
def eMin : Int := -32768

/-- Exact value of one stored activation element and whether it was non-finite (R184). -/
def actVal (fmt w : Nat) (xexp : Int) : Dy × Bool :=
  match fmt with
  | 10 => f16.value w
  | 11 => bf16.value w
  | _ => (⟨toSigned w 16, xexp⟩, false)

/-- R182: XEXP of a block header word. -/
def xexpOf (hdr : Nat) : Int := toSigned (bits hdr 16 9) 9

/-- Largest of exact magnitudes. -/
def maxAbsDy : List Dy → Dy
  | [] => ⟨0, 0⟩
  | x :: rest => x.abs.max (maxAbsDy rest)

/-- R183: the smallest exponent at which a magnitude rounds to at most `lim`, `lim` = 2^k − 1. -/
def blockExp (m : Dy) (k : Nat) : Int :=
  let l : Int := m.n.natAbs.log2
  let e0 := m.e + l - (k : Int) + 1
  if rnaQ m.n.natAbs 1 (m.e - e0) ≤ 2 ^ k - 1 then e0 else e0 + 1

/-- R183: conversion of exact values to a block; the count is of underflows. -/
def toBlock (xs : List Dy) (zx : Dy) : ActBlock × Nat :=
  let m := (maxAbsDy xs).max zx.abs
  if m.n = 0 then (⟨xs.map fun _ => 0, eMin⟩, 0)
  else
    let e := blockExp m 15
    let ms := xs.map fun x => rnaQ x.n 1 (x.e - e)
    (⟨ms, e⟩, (xs.zipWith (fun x (v : Int) => b2n (x.n != 0 && v == 0)) ms).foldl (· + ·) 0)

/-- R182 to R184: the operand block of a stored 256-byte block and its header, with clips and underflows counted; ZX is an activation value
(R142 subtracts it as such). -/
def convertBlock (fmt : Nat) (data : List Byte) (hdr : Nat) (zx : Int) : ActBlock × Nat × Nat :=
  let xe := if fmt = 9 then xexpOf hdr else 0
  let vs := (List.range 128).map fun c => actVal fmt (fieldOf data (2 * c) 2) xe
  let blk := toBlock (vs.map (·.1)) ⟨zx, 0⟩
  (blk.1, (vs.map fun v => b2n v.2).foldl (· + ·) 0, blk.2)

/-- R153: one butterfly pass of the spreading transform. -/
def hadStep (len : Nat) (h : List Int) : List Int :=
  (List.range h.length).map fun i =>
    if (i / len) % 2 = 0 then h.getD i 0 + h.getD (i + len) 0 else h.getD (i - len) 0 - h.getD i 0

/-- R153: smallest right shift, at most `k`, after which every magnitude rounds to at most 32,767. -/
def spreadShift (h : List Int) : Nat → Nat → Nat
  | 0, s => s
  | k + 1, s => if h.all (fun x => rnaShr x.natAbs s ≤ 32767) then s else spreadShift h k (s + 1)

/-- R153: the spread block and its block underflows. -/
def spreadBlock (b : ActBlock) : ActBlock × Nat :=
  let h := [1, 2, 4, 8, 16, 32, 64].foldl (fun h len => hadStep len h) b.m
  if h.all (· == 0) then (⟨h, eMin⟩, 0)
  else
    let s := spreadShift h 8 0
    let m := h.map fun x => rnaShr x s
    (⟨m, b.e + s⟩, (h.zipWith (fun x (v : Int) => b2n (x != 0 && v == 0)) m).foldl (· + ·) 0)

/-- R138: signed high slice of a mantissa. -/
def sliceHi (m : Int) : Int := m / 256

/-- R138: unsigned low slice of a mantissa. -/
def sliceLo (m : Int) : Int := m % 256

/-- R111: receiver full scale by RX_GAIN. -/
def fullScale (gain : Nat) : Nat := 2 ^ (7 - min gain 4)

/-- R110, R337: the 12-bit raw word of a sub-converter, in steps of S_fs ÷ 2,048, for one symbol. `dot` is Σ d·v, `full` the field divisor of
the input (128 bipolar, 256 unipolar), `col` that of the columns (511, or 1,023 unipolar), `err` the measured field's departure in units of 2^-24 (R132). DESIGN CHOICE (log entry 55): the spec does not
say how the word is taken from the field; the model drops the part below a step, so that without trims the code is that of R112. -/
def rawWord (dot : Int) (full gain : Nat) (err : Int) (col : Nat := 511) : Int :=
  let den : Nat := col * full * 2 ^ 24 * fullScale gain
  clampInt (-2048) 2047 ((2048 * (dot * 2 ^ 24 + err * ((col * full : Nat) : Int))).tdiv (den : Int))

/-- R337: the code formed from a raw word with the trims of its tap, OFS and GN, and of its row, RG and RO. -/
def adcCode (ofs gn rg ro raw : Int) : Int :=
  let num := (raw - ofs) * (65536 + gn) * (65536 + rg) - ro * 4294967296
  clampInt (-512) 511 (rnaDiv num 17179869184)

/-- R327: a transition is a major carry of a bank of unsigned codes with the given carry bit. -/
def majorCarry (carry : Nat) (old new : Int) : Bool := old / 2 ^ carry != new / 2 ^ carry

/-- R327: a transition of a column DAC is a major carry: bit 5 of the magnitude or higher, or the sign. -/
def columnCarry (old new : Int) : Bool := old.natAbs / 32 != new.natAbs / 32 || decide (old < 0) != decide (new < 0)

/-- R327: the output of a deglitched channel a time after its transition, with the hold of its bank in the same unit. -/
def deglitch (major : Bool) (hold since : Nat) (old new : Int) : Int := if major && decide (since < hold) then old else new

/-- R327: what a cell samples from its column line: the output 800 ps into its row cycle, past the hold of 160 ps. -/
def columnSample (old new : Int) : Int := deglitch (columnCarry old new) 160 800 old new

/-- Dot product of codes and values. -/
def dotInt (a b : List Int) : Int := sumInt (a.zipWith (· * ·) b)

/-- R186: stored bits of a float32 value in an output format, with clip and underflow. -/
def outConvert (fmt : Nat) (sh : Int) (w : Nat) : Rounded × Bool :=
  let x := f32Val w
  let r : Rounded :=
    match fmt with
    | 9 =>
      let n := rnaQ x.n 1 (x.e + sh)
      let c := clampInt (-32768) 32767 n
      ⟨ofSigned c 16, c != n⟩
    | 10 => f16.round (Ex.ofDy x)
    | 11 => bf16.round (Ex.ofDy x)
    | _ => ⟨w, false⟩
  (r, x.n != 0 && r.bits == 0)

/-- Nearest code of a weight format among `n` codes (R181, step 3): best so far carried along. -/
def nearestCode (fmt : Nat) (t : Ex) : Nat → Nat → Ex × Nat → Nat
  | 0, _, best => best.2
  | k + 1, code, best =>
    let v := weightVal fmt code
    if v.2 then nearestCode fmt t k (code + 1) best
    else
      let dv : Ex := ⟨((v.1.sub t).num.natAbs : Int), (v.1.sub t).den⟩
      let db : Ex := ⟨((best.1.sub t).num.natAbs : Int), (best.1.sub t).den⟩
      let better := dv.lt db || (!(db.lt dv) && Ex.lt ⟨best.1.num.natAbs, best.1.den⟩ ⟨v.1.num.natAbs, v.1.den⟩)
      nearestCode fmt t k (code + 1) (if better then (v.1, code) else best)

/-- Largest finite magnitude of a weight format on the side of a sign (INT4 and INT8 are not symmetric). -/
def weightLimit (fmt : Nat) (neg : Bool) : Ex :=
  match fmt with
  | 3 => if neg then ⟨8, 1⟩ else ⟨7, 1⟩
  | 6 => if neg then ⟨128, 1⟩ else ⟨127, 1⟩
  | f => gridSpan f

/-- R181: the narrow code of a value w under scales s1, s2 and zero point z, with its clip. -/
def encodeWeight (fmt : Nat) (w : Dy) (s1 : Nat) (s2 : Dy) (z : Int) : Nat × Bool :=
  let s := (ue5m3 s1).mul s2
  if s.n = 0 then (0, false)
  else
    let t := (Ex.div ((Ex.ofDy w).mul (gridSpan fmt)) (Ex.ofDy s)).add ⟨z, 1⟩
    let b := fmtBits fmt
    let code := nearestCode fmt t (2 ^ b) 0 (⟨0, 1⟩, 0)
    let code := if (weightVal fmt code).1.num = 0 then 0 else code
    let lim := weightLimit fmt (decide (t.num < 0))
    (code, lim.lt ⟨t.num.natAbs, t.den⟩)

/-- A BFX48 group (R188): exponent, flags and its 64 elements. -/
structure Bfx where
  exp : Int
  zr : Bool
  ovf : Bool
  n : List Int
  deriving DecidableEq, Repr

/-- R188: group g of a 4 KiB block. -/
def bfxOf (blk : List Byte) (g : Nat) : Bfx :=
  let fl := fieldOf blk (8 * g + 2) 1
  ⟨toSigned (fieldOf blk (8 * g) 2) 16, bitAt fl 0, bitAt fl 1,
    (List.range 64).map fun i => toSigned (fieldOf blk (80 + (64 * g + i) * 6) 6) 48⟩

/-- R188: the 8 header bytes of a group. -/
def bfxHeader (b : Bfx) : List Byte := bytesOf 2 (ofSigned b.exp 16) ++ bytesOf 6 (b2n b.zr + 2 * b2n b.ovf)

/-- R188: a 4 KiB block of 10 groups. -/
def bfxBlock (gs : List Bfx) : List Byte :=
  padTo 4096 ((gs.map bfxHeader).flatten ++ (gs.map fun g => (g.n.map fun x => bytesOf 6 (ofSigned x 48)).flatten).flatten)

/-- R189: conversion of 64 values with headroom h; `x` is the exponent in fixed mode. The counts are clips and underflows. -/
def toBfx (vs : List Dy) (h : Nat) (x : Option Int) : Bfx × Nat × Nat :=
  let m := maxAbsDy vs
  let e : Int := match x with
    | some e => e
    | none => if m.n = 0 then eMin else blockExp m (47 - h)
  let zr := x.isNone && m.n == 0
  let raw := vs.map fun v => rnaQ v.n 1 (v.e - e)
  let cl := raw.map fun r => clampInt (-(2 ^ 47)) (2 ^ 47 - 1) r
  (⟨e, zr, false, cl⟩, (raw.zipWith (fun r c => b2n (r != c)) cl).foldl (· + ·) 0,
    (vs.zipWith (fun v (c : Int) => b2n (v.n != 0 && c == 0)) cl).foldl (· + ·) 0)

/-- R190: a value outside the range of a BFX48 element. -/
def bfxOut (v : Int) : Bool := decide (v < -(2 ^ 47)) || decide (2 ^ 47 - 1 < v)

/-- R190: an element in its 48 bits: a sum outside the range wraps as two's complement (00_scope.md). -/
def wrap48 (v : Int) : Int := toSigned (ofSigned v 48) 48

/-- R190: exact sum of two groups that do not carry OVF; OVF where an element leaves the range. -/
def addBfx (a b : Bfx) : Bfx :=
  if a.zr then b
  else if b.zr then a
  else
    let x := min a.exp b.exp
    let s := a.n.zipWith (fun p q => p * 2 ^ (a.exp - x).toNat + q * 2 ^ (b.exp - x).toNat) b.n
    ⟨x, false, s.any bfxOut, s.map wrap48⟩

/-- R191: float32 word of a BFX48 element. -/
def bfxVal (b : Bfx) (i : Nat) : Rounded := if b.zr then ⟨0, false⟩ else rnaf ⟨b.n.getD i 0, b.exp⟩

end Sys2Proof.Machine
end

