-- ==== Sys2Proof/Machine/Flags.lean ====
section
/-! DEFINITION. The flags the spec computes from data: block headers with MAXABS and ZERO_RANGE (R182, R186), statistics (R154), the
QFIT comparison (R193), the mod-7 residue (R377), and the CRC-32C of a block seal (R386). -/

namespace Sys2Proof.Machine

/-- R182, R186: header word of a stored 16-bit block: MAXABS, XEXP, ZERO_RANGE. -/
def blockHeader (fmt : Nat) (words : List Nat) (xexp : Int) : Nat :=
  let mag (w : Nat) : Nat := if fmt = 9 then (toSigned w 16).natAbs else bits w 0 15
  let m := (words.map mag).foldl max 0
  m + (ofSigned (if fmt = 9 then xexp else 0) 9) * 2 ^ 16 + b2n (m == 0) * 2 ^ 25

/-- R154: the larger magnitude of two float32 words, sign dropped. -/
def f32MaxAbs (a b : Nat) : Nat := max (bits a 0 31) (bits b 0 31)

/-- R193: a fraction exceeds its threshold in parts per million. -/
def qfitExceeds (num den thr : Nat) : Bool := decide (thr * den < num * 1000000)

/-- R195: floor of the fraction in ppm, held in 20 bits. DESIGN CHOICE (log entry 57): a fraction above 2^20 − 1 ppm reads 2^20 − 1. -/
def qfitFrac (num den : Nat) : Nat := if den = 0 then 0 else min (num * 1000000 / den) (2 ^ 20 - 1)

/-- R193: a fraction is evaluated when its denominator reaches 2^MIN_LOG2. -/
def qfitEvaluated (den minLog2 : Nat) : Bool := decide (2 ^ minLog2 ≤ den)

/-- One bit step of the reflected CRC-32C. -/
def crcBit (c : Nat) : Nat := if c % 2 = 1 then (c / 2) ^^^ 0x82F63B78 else c / 2

/-- One byte step of CRC-32C. -/
def crcByte (c : Nat) (b : Byte) : Nat :=
  (List.range 8).foldl (fun c _ => crcBit c) (c ^^^ b.toNat)

/-- CRC-32C of a byte string (reflected, initial value and final exclusive-or all ones). -/
def crc32c (bs : List Byte) : Nat := (bs.foldl crcByte 0xFFFFFFFF) ^^^ 0xFFFFFFFF

/-- Residue modulo 7 of an integer, 0 to 6 (R377). -/
def mod7 (x : Int) : Nat := (x % 7).toNat

end Sys2Proof.Machine
end

