-- ==== Sys2Proof/Machine/RegMap.lean ====
section
/-! DEFINITION. The register tables of the spec, field by field: the common header (R55) and the tables
R78, R81, R103, R135, R165, R195, R227, R257, R270, R316, R338, R367, R395, R421, R466, R492, R493,
R510, R511, R530, R532, R555, R556. A field is its byte offset in the page, how many instances
the row has and their stride, its lowest bit, its width, its access code (R7) and its reset value. A reset value the table
gives in words ("from calibration image", "per module", "pin level") is written 0 here and is answered by the register read from
the state that supplies it. -/

namespace Sys2Proof.Machine

/-- The access codes of R7. -/
inductive Access where
  | rw | ro | w1c | wo | rws | rc
  deriving DecidableEq, Repr

/-- One field of one register row of a page (R55 and the page tables). -/
structure Field where
  off : Nat
  count : Nat
  stride : Nat
  lsb : Nat
  width : Nat
  acc : Access
  reset : Nat
  deriving DecidableEq, Repr

/-- Byte offset of instance `i` of the field's register. -/
def Field.at (f : Field) (i : Nat) : Nat := f.off + i * f.stride

/-- The instance index at which the field's register sits at page offset `o`, if it does. -/
def Field.indexAt (f : Field) (o : Nat) : Option Nat :=
  if o < f.off then none
  else
    let d := o - f.off
    if f.count ≤ 1 then (if d = 0 then some 0 else none)
    else if d % f.stride = 0 ∧ d / f.stride < f.count then some (d / f.stride) else none

/-- The kinds of register page (R54). -/
inductive PageKind where
  | sys
  | tick
  | evt
  | frameIn
  | frameOut
  | hport
  | cistern
  | comb
  | therm
  | pwr
  | cal
  | integ
  | test
  | sec
  | boot
  | wdie
  | cluster
  | well
  | pumpq
  deriving DecidableEq, Repr

/-! ### HDR -/

def Reg.HDR.ID_TYPE : Field := ⟨0x000, 1, 0x4, 16, 16, .ro, 0⟩
def Reg.HDR.ID_INSTANCE : Field := ⟨0x000, 1, 0x4, 0, 16, .ro, 0⟩
def Reg.HDR.VERSION_MAJOR : Field := ⟨0x004, 1, 0x4, 8, 8, .ro, 1⟩
def Reg.HDR.VERSION_MINOR : Field := ⟨0x004, 1, 0x4, 0, 8, .ro, 0⟩
def Reg.HDR.CTL_EN : Field := ⟨0x008, 1, 0x4, 0, 1, .rws, 0⟩
def Reg.HDR.STATE_ST : Field := ⟨0x00C, 1, 0x4, 0, 3, .ro, 0⟩
def Reg.HDR.STATE_PENDING_EN : Field := ⟨0x00C, 1, 0x4, 8, 1, .ro, 0⟩
def Reg.HDR.EVT_RAW : Field := ⟨0x010, 1, 0x4, 0, 32, .ro, 0⟩
def Reg.HDR.EVT_EN : Field := ⟨0x014, 1, 0x4, 0, 32, .rw, 0⟩
def Reg.HDR.EVT_STAT : Field := ⟨0x018, 1, 0x4, 0, 32, .w1c, 0⟩
def Reg.HDR.EVT_SET : Field := ⟨0x01C, 1, 0x4, 0, 32, .wo, 0⟩
def Reg.HDR.TXN_CTL_GROUP : Field := ⟨0x020, 1, 0x4, 0, 8, .rw, 0⟩
def Reg.HDR.TXN_CTL_OP : Field := ⟨0x020, 1, 0x4, 8, 2, .wo, 0⟩
def Reg.HDR.TXN_STAT_STATUS : Field := ⟨0x024, 1, 0x4, 0, 4, .ro, 0⟩
def Reg.HDR.TXN_STAT_REJ_OFFSET : Field := ⟨0x024, 1, 0x4, 4, 12, .ro, 0⟩
def Reg.HDR.TXN_STAT_REJ_LSB : Field := ⟨0x024, 1, 0x4, 16, 5, .ro, 0⟩
def Reg.HDR.TXN_STAT_TICKS_LEFT : Field := ⟨0x024, 1, 0x4, 24, 8, .ro, 0⟩
def Reg.HDR.LOCK_HOLDER : Field := ⟨0x028, 1, 0x4, 0, 2, .rw, 0⟩
def Reg.HDR.SEQ : Field := ⟨0x02C, 1, 0x4, 0, 32, .ro, 0⟩

/-- Every field of the HDR table. -/
def fieldsOfHDR : List Field :=
  [Reg.HDR.ID_TYPE, Reg.HDR.ID_INSTANCE, Reg.HDR.VERSION_MAJOR, Reg.HDR.VERSION_MINOR, Reg.HDR.CTL_EN, Reg.HDR.STATE_ST, Reg.HDR.STATE_PENDING_EN, Reg.HDR.EVT_RAW, Reg.HDR.EVT_EN, Reg.HDR.EVT_STAT, Reg.HDR.EVT_SET, Reg.HDR.TXN_CTL_GROUP, Reg.HDR.TXN_CTL_OP, Reg.HDR.TXN_STAT_STATUS, Reg.HDR.TXN_STAT_REJ_OFFSET, Reg.HDR.TXN_STAT_REJ_LSB, Reg.HDR.TXN_STAT_TICKS_LEFT, Reg.HDR.LOCK_HOLDER, Reg.HDR.SEQ]

/-! ### SYS -/

def Reg.SYS.PART_NUMBER : Field := ⟨0x040, 1, 0x4, 0, 16, .ro, 0xb832⟩
def Reg.SYS.PART_STEPPING : Field := ⟨0x040, 1, 0x4, 16, 8, .ro, 1⟩
def Reg.SYS.WELLS_GOOD : Field := ⟨0x044, 1, 0x4, 0, 10, .ro, 0⟩
def Reg.SYS.WELLS_RELIEF : Field := ⟨0x044, 1, 0x4, 16, 10, .ro, 0⟩
def Reg.SYS.TXN_TIMEOUT_TICKS : Field := ⟨0x048, 1, 0x4, 0, 8, .rws, 10⟩
def Reg.SYS.CLEAR_CLR : Field := ⟨0x04C, 1, 0x4, 0, 1, .wo, 0⟩
def Reg.SYS.CLEAR_RELEASE : Field := ⟨0x04C, 1, 0x4, 1, 1, .wo, 0⟩
def Reg.SYS.CLEAR_SOFT_RESET : Field := ⟨0x04C, 1, 0x4, 8, 1, .wo, 0⟩
def Reg.SYS.CLEAR_WKEY : Field := ⟨0x04C, 1, 0x4, 16, 16, .wo, 0⟩
def Reg.SYS.CLEAR_STAT_ACTIVE : Field := ⟨0x050, 1, 0x4, 0, 1, .ro, 1⟩
def Reg.SYS.CLEAR_STAT_PIN : Field := ⟨0x050, 1, 0x4, 1, 1, .ro, 0⟩
def Reg.SYS.CLEAR_STAT_SOFT : Field := ⟨0x050, 1, 0x4, 2, 1, .ro, 0⟩
def Reg.SYS.MODULE_STATE_MS : Field := ⟨0x054, 1, 0x4, 0, 4, .ro, 0⟩
def Reg.SYS.FAULT_PIN_ON_DEGRADED : Field := ⟨0x058, 1, 0x4, 0, 1, .rws, 0⟩
def Reg.SYS.RESET_CAUSE_POWER_ON : Field := ⟨0x05C, 1, 0x4, 0, 1, .ro, 0⟩
def Reg.SYS.RESET_CAUSE_PIN : Field := ⟨0x05C, 1, 0x4, 1, 1, .ro, 0⟩
def Reg.SYS.RESET_CAUSE_SOFT : Field := ⟨0x05C, 1, 0x4, 2, 1, .ro, 0⟩
def Reg.SYS.RESET_CAUSE_WATCHDOG : Field := ⟨0x05C, 1, 0x4, 3, 1, .ro, 0⟩
def Reg.SYS.RESET_CAUSE_THERMAL : Field := ⟨0x05C, 1, 0x4, 4, 1, .ro, 0⟩
def Reg.SYS.SCRATCH : Field := ⟨0x060, 1, 0x4, 0, 32, .rw, 0⟩
def Reg.SYS.SERIAL_LO : Field := ⟨0x064, 1, 0x4, 0, 32, .ro, 0⟩
def Reg.SYS.SERIAL_HI : Field := ⟨0x068, 1, 0x4, 0, 32, .ro, 0⟩
def Reg.SYS.BIAS_CLR_CODE : Field := ⟨0x080, 6, 0x4, 0, 14, .rws, 0⟩
def Reg.SYS.BIAS_FTW : Field := ⟨0x098, 1, 0x4, 0, 32, .rws, 0⟩
def Reg.SYS.BIAS_GEN_AMP : Field := ⟨0x09C, 1, 0x4, 0, 12, .rws, 0⟩
def Reg.SYS.BIAS_MON_WIN : Field := ⟨0x0A0, 1, 0x4, 0, 8, .rws, 24⟩
def Reg.SYS.BIAS_MON_FAIL_N : Field := ⟨0x0A0, 1, 0x4, 8, 4, .rws, 3⟩
def Reg.SYS.HMEM_ADDR_LO_ADDR : Field := ⟨0x180, 2, 0x80, 6, 26, .rw, 0⟩
def Reg.SYS.HMEM_ADDR_HI_ADDR : Field := ⟨0x184, 2, 0x80, 0, 16, .rw, 0⟩
def Reg.SYS.HMEM_SEAL_TID : Field := ⟨0x188, 2, 0x80, 0, 16, .rw, 0⟩
def Reg.SYS.HMEM_SEAL_FMT : Field := ⟨0x188, 2, 0x80, 16, 8, .rw, 0⟩
def Reg.SYS.HMEM_BLK0 : Field := ⟨0x18C, 2, 0x80, 0, 32, .rw, 0⟩
def Reg.SYS.HMEM_STAT_BAD_ADDR : Field := ⟨0x190, 2, 0x80, 0, 1, .w1c, 0⟩
def Reg.SYS.HMEM_STAT_SEAL_FAIL : Field := ⟨0x190, 2, 0x80, 1, 1, .w1c, 0⟩
def Reg.SYS.HMEM_DATA0 : Field := ⟨0x1C0, 16, 0x4, 0, 32, .rw, 0⟩
def Reg.SYS.HMEM_DATA1 : Field := ⟨0x240, 16, 0x4, 0, 32, .rw, 0⟩
def Reg.SYS.I3C_STAT_DA : Field := ⟨0x100, 2, 0x20, 0, 7, .ro, 0⟩
def Reg.SYS.I3C_STAT_DA_VALID : Field := ⟨0x100, 2, 0x20, 7, 1, .ro, 0⟩
def Reg.SYS.I3C_STAT_SA : Field := ⟨0x100, 2, 0x20, 8, 7, .ro, 0⟩
def Reg.SYS.I3C_STAT_ENINT : Field := ⟨0x100, 2, 0x20, 16, 1, .ro, 1⟩
def Reg.SYS.I3C_STAT_ENHJ : Field := ⟨0x100, 2, 0x20, 17, 1, .ro, 1⟩
def Reg.SYS.I3C_STAT_HDR : Field := ⟨0x100, 2, 0x20, 18, 1, .ro, 0⟩
def Reg.SYS.I3C_CMDS : Field := ⟨0x104, 2, 0x20, 0, 32, .ro, 0⟩
def Reg.SYS.I3C_REFUSED : Field := ⟨0x108, 2, 0x20, 0, 32, .ro, 0⟩
def Reg.SYS.I3C_PERR : Field := ⟨0x10C, 2, 0x20, 0, 32, .ro, 0⟩
def Reg.SYS.I3C_IBI_SENT : Field := ⟨0x110, 2, 0x20, 0, 32, .ro, 0⟩
def Reg.SYS.I3C_PID_LO : Field := ⟨0x140, 1, 0x4, 0, 32, .ro, 0⟩
def Reg.SYS.I3C_PID_HI : Field := ⟨0x144, 1, 0x4, 0, 16, .ro, 874⟩
def Reg.SYS.I3C_MWL_PORT0 : Field := ⟨0x148, 1, 0x4, 0, 16, .ro, 69⟩
def Reg.SYS.I3C_MWL_PORT1 : Field := ⟨0x148, 1, 0x4, 16, 16, .ro, 69⟩
def Reg.SYS.I3C_MRL_PORT0 : Field := ⟨0x14C, 1, 0x4, 0, 16, .ro, 68⟩
def Reg.SYS.I3C_MRL_PORT1 : Field := ⟨0x14C, 1, 0x4, 16, 16, .ro, 68⟩

/-- Every field of the SYS table. -/
def fieldsOfSYS : List Field :=
  [Reg.SYS.PART_NUMBER, Reg.SYS.PART_STEPPING, Reg.SYS.WELLS_GOOD, Reg.SYS.WELLS_RELIEF, Reg.SYS.TXN_TIMEOUT_TICKS, Reg.SYS.CLEAR_CLR, Reg.SYS.CLEAR_RELEASE, Reg.SYS.CLEAR_SOFT_RESET, Reg.SYS.CLEAR_WKEY, Reg.SYS.CLEAR_STAT_ACTIVE, Reg.SYS.CLEAR_STAT_PIN, Reg.SYS.CLEAR_STAT_SOFT, Reg.SYS.MODULE_STATE_MS, Reg.SYS.FAULT_PIN_ON_DEGRADED, Reg.SYS.RESET_CAUSE_POWER_ON, Reg.SYS.RESET_CAUSE_PIN, Reg.SYS.RESET_CAUSE_SOFT, Reg.SYS.RESET_CAUSE_WATCHDOG, Reg.SYS.RESET_CAUSE_THERMAL, Reg.SYS.SCRATCH, Reg.SYS.SERIAL_LO, Reg.SYS.SERIAL_HI, Reg.SYS.BIAS_CLR_CODE, Reg.SYS.BIAS_FTW] ++
  [Reg.SYS.BIAS_GEN_AMP, Reg.SYS.BIAS_MON_WIN, Reg.SYS.BIAS_MON_FAIL_N, Reg.SYS.HMEM_ADDR_LO_ADDR, Reg.SYS.HMEM_ADDR_HI_ADDR, Reg.SYS.HMEM_SEAL_TID, Reg.SYS.HMEM_SEAL_FMT, Reg.SYS.HMEM_BLK0, Reg.SYS.HMEM_STAT_BAD_ADDR, Reg.SYS.HMEM_STAT_SEAL_FAIL, Reg.SYS.HMEM_DATA0, Reg.SYS.HMEM_DATA1, Reg.SYS.I3C_STAT_DA, Reg.SYS.I3C_STAT_DA_VALID, Reg.SYS.I3C_STAT_SA, Reg.SYS.I3C_STAT_ENINT, Reg.SYS.I3C_STAT_ENHJ, Reg.SYS.I3C_STAT_HDR, Reg.SYS.I3C_CMDS, Reg.SYS.I3C_REFUSED, Reg.SYS.I3C_PERR, Reg.SYS.I3C_IBI_SENT, Reg.SYS.I3C_PID_LO, Reg.SYS.I3C_PID_HI] ++
  [Reg.SYS.I3C_MWL_PORT0, Reg.SYS.I3C_MWL_PORT1, Reg.SYS.I3C_MRL_PORT0, Reg.SYS.I3C_MRL_PORT1]

/-! ### TICK -/

def Reg.TICK.PERIOD_US : Field := ⟨0x040, 1, 0x4, 0, 14, .rws, 100⟩
def Reg.TICK.SRC_SEL : Field := ⟨0x044, 1, 0x4, 0, 2, .rws, 0⟩
def Reg.TICK.STATUS_ACTIVE_SRC : Field := ⟨0x048, 1, 0x4, 0, 2, .ro, 0⟩
def Reg.TICK.STATUS_LOCKED : Field := ⟨0x048, 1, 0x4, 2, 1, .ro, 0⟩
def Reg.TICK.STATUS_HOLDOVER : Field := ⟨0x048, 1, 0x4, 3, 1, .ro, 0⟩
def Reg.TICK.STATUS_TRANSITION : Field := ⟨0x048, 1, 0x4, 4, 1, .ro, 0⟩
def Reg.TICK.STATUS_PINNED : Field := ⟨0x048, 1, 0x4, 5, 1, .ro, 0⟩
def Reg.TICK.NUMBER_LO : Field := ⟨0x050, 1, 0x4, 0, 32, .ro, 0⟩
def Reg.TICK.NUMBER_HI : Field := ⟨0x054, 1, 0x4, 0, 32, .ro, 0⟩
def Reg.TICK.OFFSET_NS : Field := ⟨0x058, 1, 0x4, 0, 32, .ro, 0⟩
def Reg.TICK.HOST_TIME_LO : Field := ⟨0x060, 1, 0x4, 0, 32, .rws, 0⟩
def Reg.TICK.HOST_TIME_HI : Field := ⟨0x064, 1, 0x4, 0, 32, .rws, 0⟩
def Reg.TICK.HOST_TIME_VALID_SET : Field := ⟨0x068, 1, 0x4, 0, 1, .ro, 0⟩
def Reg.TICK.LAST_LENGTH_NS : Field := ⟨0x070, 1, 0x4, 0, 32, .ro, 0⟩
def Reg.TICK.SYNC_OFFSET_NS : Field := ⟨0x074, 1, 0x4, 0, 32, .ro, 0⟩
def Reg.TICK.HOPS_COUNT : Field := ⟨0x078, 1, 0x4, 0, 8, .ro, 0⟩
def Reg.TICK.OVERRUN_COUNT : Field := ⟨0x07C, 1, 0x4, 0, 32, .ro, 0⟩
def Reg.TICK.DELAYED_COUNT : Field := ⟨0x080, 1, 0x4, 0, 32, .ro, 0⟩
def Reg.TICK.CAL_TICK_COUNT : Field := ⟨0x084, 1, 0x4, 0, 32, .ro, 0⟩

/-- Every field of the TICK table. -/
def fieldsOfTICK : List Field :=
  [Reg.TICK.PERIOD_US, Reg.TICK.SRC_SEL, Reg.TICK.STATUS_ACTIVE_SRC, Reg.TICK.STATUS_LOCKED, Reg.TICK.STATUS_HOLDOVER, Reg.TICK.STATUS_TRANSITION, Reg.TICK.STATUS_PINNED, Reg.TICK.NUMBER_LO, Reg.TICK.NUMBER_HI, Reg.TICK.OFFSET_NS, Reg.TICK.HOST_TIME_LO, Reg.TICK.HOST_TIME_HI, Reg.TICK.HOST_TIME_VALID_SET, Reg.TICK.LAST_LENGTH_NS, Reg.TICK.SYNC_OFFSET_NS, Reg.TICK.HOPS_COUNT, Reg.TICK.OVERRUN_COUNT, Reg.TICK.DELAYED_COUNT, Reg.TICK.CAL_TICK_COUNT]

/-! ### EVT -/

def Reg.EVT.FILT_CLR_N : Field := ⟨0x040, 1, 0x4, 0, 8, .rws, 8⟩
def Reg.EVT.FILT_CLR_SENSE : Field := ⟨0x040, 1, 0x4, 8, 2, .rws, 0⟩
def Reg.EVT.FILT_OPTOFF_N : Field := ⟨0x044, 1, 0x4, 0, 8, .rws, 8⟩
def Reg.EVT.FILT_OPTOFF_SENSE : Field := ⟨0x044, 1, 0x4, 8, 2, .rws, 0⟩
def Reg.EVT.FILT_TICK_N : Field := ⟨0x048, 1, 0x4, 0, 8, .rws, 8⟩
def Reg.EVT.FILT_TICK_SENSE : Field := ⟨0x048, 1, 0x4, 8, 2, .rws, 1⟩
def Reg.EVT.PIN_LEVEL_CLR_N : Field := ⟨0x04C, 1, 0x4, 0, 1, .ro, 0⟩
def Reg.EVT.PIN_LEVEL_OPTOFF_N : Field := ⟨0x04C, 1, 0x4, 1, 1, .ro, 0⟩
def Reg.EVT.PIN_LEVEL_TICK_IN : Field := ⟨0x04C, 1, 0x4, 2, 1, .ro, 0⟩
def Reg.EVT.PIN_LEVEL_RESET_N : Field := ⟨0x04C, 1, 0x4, 3, 1, .ro, 0⟩
def Reg.EVT.PIN_LEVEL_PWRGD : Field := ⟨0x04C, 1, 0x4, 4, 1, .ro, 0⟩
def Reg.EVT.IBI_ROUTE : Field := ⟨0x050, 1, 0x4, 0, 32, .rw, 0⟩
def Reg.EVT.IBI_CTL_EN0 : Field := ⟨0x054, 1, 0x4, 0, 1, .rw, 0⟩
def Reg.EVT.IBI_CTL_EN1 : Field := ⟨0x054, 1, 0x4, 1, 1, .rw, 0⟩
def Reg.EVT.IBI_DEPTH_PORT0 : Field := ⟨0x058, 1, 0x4, 0, 6, .ro, 0⟩
def Reg.EVT.IBI_DEPTH_PORT1 : Field := ⟨0x058, 1, 0x4, 8, 6, .ro, 0⟩
def Reg.EVT.IBI_DROP0 : Field := ⟨0x05C, 1, 0x4, 0, 32, .ro, 0⟩
def Reg.EVT.IBI_DROP1 : Field := ⟨0x060, 1, 0x4, 0, 32, .ro, 0⟩

/-- Every field of the EVT table. -/
def fieldsOfEVT : List Field :=
  [Reg.EVT.FILT_CLR_N, Reg.EVT.FILT_CLR_SENSE, Reg.EVT.FILT_OPTOFF_N, Reg.EVT.FILT_OPTOFF_SENSE, Reg.EVT.FILT_TICK_N, Reg.EVT.FILT_TICK_SENSE, Reg.EVT.PIN_LEVEL_CLR_N, Reg.EVT.PIN_LEVEL_OPTOFF_N, Reg.EVT.PIN_LEVEL_TICK_IN, Reg.EVT.PIN_LEVEL_RESET_N, Reg.EVT.PIN_LEVEL_PWRGD, Reg.EVT.IBI_ROUTE, Reg.EVT.IBI_CTL_EN0, Reg.EVT.IBI_CTL_EN1, Reg.EVT.IBI_DEPTH_PORT0, Reg.EVT.IBI_DEPTH_PORT1, Reg.EVT.IBI_DROP0, Reg.EVT.IBI_DROP1]

/-! ### FRAME_IN -/

def Reg.FRAME_IN.PHY_CFG_MODE : Field := ⟨0x040, 1, 0x4, 0, 1, .rws, 0⟩
def Reg.FRAME_IN.PHY_CFG_LANES : Field := ⟨0x040, 1, 0x4, 2, 2, .rws, 3⟩
def Reg.FRAME_IN.PHY_STAT_LOCK : Field := ⟨0x044, 1, 0x4, 0, 1, .ro, 0⟩
def Reg.FRAME_IN.PHY_STAT_RATE : Field := ⟨0x044, 1, 0x4, 4, 12, .ro, 0⟩
def Reg.FRAME_IN.MAX_TICKS_TICKS : Field := ⟨0x048, 1, 0x4, 0, 8, .rws, 4⟩
def Reg.FRAME_IN.FRAMES : Field := ⟨0x04C, 1, 0x4, 0, 32, .ro, 0⟩
def Reg.FRAME_IN.HDR_CORR : Field := ⟨0x050, 1, 0x4, 0, 32, .ro, 0⟩
def Reg.FRAME_IN.ERRORS : Field := ⟨0x054, 1, 0x4, 0, 32, .ro, 0⟩
def Reg.FRAME_IN.DROPS : Field := ⟨0x058, 1, 0x4, 0, 32, .ro, 0⟩
def Reg.FRAME_IN.ORPHANS : Field := ⟨0x05C, 1, 0x4, 0, 32, .ro, 0⟩
def Reg.FRAME_IN.LAST_MISS : Field := ⟨0x060, 1, 0x4, 0, 32, .ro, 0⟩
def Reg.FRAME_IN.RELEASE_SLOT : Field := ⟨0x064, 1, 0x4, 0, 4, .wo, 0⟩
def Reg.FRAME_IN.RELEASE_VC : Field := ⟨0x064, 1, 0x4, 4, 4, .wo, 0⟩
def Reg.FRAME_IN.VC_CFG_EN : Field := ⟨0x100, 16, 0x8, 0, 1, .rws, 0⟩
def Reg.FRAME_IN.VC_CFG_KIND : Field := ⟨0x100, 16, 0x8, 1, 2, .rws, 0⟩
def Reg.FRAME_IN.VC_CFG_SLOTS : Field := ⟨0x100, 16, 0x8, 4, 4, .rws, 1⟩
def Reg.FRAME_IN.VC_CFG_SLOT_4K : Field := ⟨0x100, 16, 0x8, 8, 11, .rws, 1⟩
def Reg.FRAME_IN.VC_CFG_AGE : Field := ⟨0x100, 16, 0x8, 20, 4, .rws, 1⟩
def Reg.FRAME_IN.VC_WIDTH_WIDTH : Field := ⟨0x104, 16, 0x8, 0, 14, .rws, 128⟩
def Reg.FRAME_IN.VC_STAT_NEXT : Field := ⟨0x180, 16, 0x4, 0, 4, .ro, 0⟩
def Reg.FRAME_IN.VC_STAT_HELD : Field := ⟨0x180, 16, 0x4, 16, 15, .ro, 0⟩

/-- Every field of the FRAME_IN table. -/
def fieldsOfFRAME_IN : List Field :=
  [Reg.FRAME_IN.PHY_CFG_MODE, Reg.FRAME_IN.PHY_CFG_LANES, Reg.FRAME_IN.PHY_STAT_LOCK, Reg.FRAME_IN.PHY_STAT_RATE, Reg.FRAME_IN.MAX_TICKS_TICKS, Reg.FRAME_IN.FRAMES, Reg.FRAME_IN.HDR_CORR, Reg.FRAME_IN.ERRORS, Reg.FRAME_IN.DROPS, Reg.FRAME_IN.ORPHANS, Reg.FRAME_IN.LAST_MISS, Reg.FRAME_IN.RELEASE_SLOT, Reg.FRAME_IN.RELEASE_VC, Reg.FRAME_IN.VC_CFG_EN, Reg.FRAME_IN.VC_CFG_KIND, Reg.FRAME_IN.VC_CFG_SLOTS, Reg.FRAME_IN.VC_CFG_SLOT_4K, Reg.FRAME_IN.VC_CFG_AGE, Reg.FRAME_IN.VC_WIDTH_WIDTH, Reg.FRAME_IN.VC_STAT_NEXT, Reg.FRAME_IN.VC_STAT_HELD]

/-! ### FRAME_OUT -/

def Reg.FRAME_OUT.PHY_CFG_MODE : Field := ⟨0x040, 1, 0x4, 0, 1, .rws, 0⟩
def Reg.FRAME_OUT.PHY_CFG_LANES : Field := ⟨0x040, 1, 0x4, 2, 2, .rws, 3⟩
def Reg.FRAME_OUT.PHY_CFG_RATE : Field := ⟨0x040, 1, 0x4, 8, 8, .rws, 60⟩
def Reg.FRAME_OUT.TX_FRAMES : Field := ⟨0x044, 1, 0x4, 0, 32, .ro, 0⟩
def Reg.FRAME_OUT.STATUS_FRAMES : Field := ⟨0x048, 1, 0x4, 0, 32, .ro, 0⟩
def Reg.FRAME_OUT.SUBSTITUTED : Field := ⟨0x04C, 1, 0x4, 0, 32, .ro, 0⟩
def Reg.FRAME_OUT.TX_ABANDON : Field := ⟨0x050, 1, 0x4, 0, 32, .ro, 0⟩
def Reg.FRAME_OUT.TX_DEPTH_FRAMES : Field := ⟨0x054, 1, 0x4, 0, 6, .ro, 0⟩
def Reg.FRAME_OUT.TX_DEPTH_KIB : Field := ⟨0x054, 1, 0x4, 12, 20, .ro, 0⟩

/-- Every field of the FRAME_OUT table. -/
def fieldsOfFRAME_OUT : List Field :=
  [Reg.FRAME_OUT.PHY_CFG_MODE, Reg.FRAME_OUT.PHY_CFG_LANES, Reg.FRAME_OUT.PHY_CFG_RATE, Reg.FRAME_OUT.TX_FRAMES, Reg.FRAME_OUT.STATUS_FRAMES, Reg.FRAME_OUT.SUBSTITUTED, Reg.FRAME_OUT.TX_ABANDON, Reg.FRAME_OUT.TX_DEPTH_FRAMES, Reg.FRAME_OUT.TX_DEPTH_KIB]

/-! ### HPORT -/

def Reg.HPORT.LINK_STAT_LS : Field := ⟨0x040, 1, 0x4, 0, 3, .ro, 0⟩
def Reg.HPORT.LINK_STAT_LANES : Field := ⟨0x040, 1, 0x4, 8, 5, .ro, 0⟩
def Reg.HPORT.LANE_ADMIN_MASK : Field := ⟨0x044, 1, 0x4, 0, 16, .rws, 0xffff⟩
def Reg.HPORT.LANE_UP : Field := ⟨0x048, 1, 0x4, 0, 16, .ro, 0⟩
def Reg.HPORT.LANE_CFG_DEG_PPM : Field := ⟨0x04C, 1, 0x4, 0, 10, .rws, 200⟩
def Reg.HPORT.LANE_CFG_DEG_TICKS : Field := ⟨0x04C, 1, 0x4, 16, 4, .rws, 4⟩
def Reg.HPORT.PEER_ID_LO : Field := ⟨0x050, 1, 0x4, 0, 32, .ro, 0⟩
def Reg.HPORT.PEER_ID_HI : Field := ⟨0x054, 1, 0x4, 0, 32, .ro, 0⟩
def Reg.HPORT.PEER_PORT : Field := ⟨0x058, 1, 0x4, 0, 5, .ro, 0⟩
def Reg.HPORT.PEER_RANK : Field := ⟨0x058, 1, 0x4, 16, 16, .ro, 0xffff⟩
def Reg.HPORT.RXBUF0_C0_MIN : Field := ⟨0x05C, 1, 0x4, 0, 14, .rws, 4096⟩
def Reg.HPORT.RXBUF0_C1_MIN : Field := ⟨0x05C, 1, 0x4, 16, 14, .rws, 1024⟩
def Reg.HPORT.RXBUF1_C2_MIN : Field := ⟨0x060, 1, 0x4, 0, 14, .rws, 256⟩
def Reg.HPORT.RBASE_LO : Field := ⟨0x064, 1, 0x4, 0, 32, .rws, 0⟩
def Reg.HPORT.RBASE_HI : Field := ⟨0x068, 1, 0x4, 0, 16, .rws, 0⟩
def Reg.HPORT.RDEST_RANK : Field := ⟨0x06C, 1, 0x4, 0, 16, .rws, 0xffff⟩
def Reg.HPORT.RDEST_ROUTED : Field := ⟨0x06C, 1, 0x4, 16, 1, .rws, 0⟩
def Reg.HPORT.TX_FRAMES_LO : Field := ⟨0x070, 1, 0x4, 0, 32, .ro, 0⟩
def Reg.HPORT.TX_FRAMES_HI : Field := ⟨0x074, 1, 0x4, 0, 32, .ro, 0⟩
def Reg.HPORT.RX_FRAMES_LO : Field := ⟨0x078, 1, 0x4, 0, 32, .ro, 0⟩
def Reg.HPORT.RX_FRAMES_HI : Field := ⟨0x07C, 1, 0x4, 0, 32, .ro, 0⟩
def Reg.HPORT.CRC_FAILS : Field := ⟨0x080, 1, 0x4, 0, 32, .ro, 0⟩
def Reg.HPORT.RETRIES : Field := ⟨0x084, 1, 0x4, 0, 32, .ro, 0⟩
def Reg.HPORT.C0_LOST : Field := ⟨0x088, 1, 0x4, 0, 32, .ro, 0⟩
def Reg.HPORT.LATE_MSGS : Field := ⟨0x08C, 1, 0x4, 0, 32, .ro, 0⟩
def Reg.HPORT.C0_EXCESS : Field := ⟨0x090, 1, 0x4, 0, 32, .ro, 0⟩
def Reg.HPORT.STALE_EPOCH : Field := ⟨0x094, 1, 0x4, 0, 32, .ro, 0⟩
def Reg.HPORT.LINK_LOSS : Field := ⟨0x098, 1, 0x4, 0, 32, .ro, 0⟩
def Reg.HPORT.FEC_CORR_LO : Field := ⟨0x09C, 1, 0x4, 0, 32, .ro, 0⟩
def Reg.HPORT.FEC_CORR_HI : Field := ⟨0x0A0, 1, 0x4, 0, 32, .ro, 0⟩
def Reg.HPORT.FEC_UNCORR : Field := ⟨0x0A4, 1, 0x4, 0, 32, .ro, 0⟩
def Reg.HPORT.LANE_ST : Field := ⟨0x100, 16, 0x4, 0, 3, .ro, 0⟩
def Reg.HPORT.LANE_DEGRADED : Field := ⟨0x100, 16, 0x4, 3, 1, .ro, 0⟩
def Reg.HPORT.LANE_DEG_RUN : Field := ⟨0x100, 16, 0x4, 8, 8, .ro, 0⟩
def Reg.HPORT.LANE_CORR_PPM : Field := ⟨0x100, 16, 0x4, 16, 16, .ro, 0⟩
def Reg.HPORT.FAB_CTL_EN : Field := ⟨0x400, 1, 0x4, 0, 1, .rws, 0⟩
def Reg.HPORT.FAB_CTL_PRIORITY : Field := ⟨0x400, 1, 0x4, 8, 8, .rws, 128⟩
def Reg.HPORT.FABRIC_ID_LO : Field := ⟨0x404, 1, 0x4, 0, 32, .rws, 0⟩
def Reg.HPORT.FABRIC_ID_HI : Field := ⟨0x408, 1, 0x4, 0, 32, .rws, 0⟩
def Reg.HPORT.EPOCH_CFG_LEAD : Field := ⟨0x40C, 1, 0x4, 0, 8, .rws, 16⟩
def Reg.HPORT.EPOCH_CFG_MEMBER_TIMEOUT : Field := ⟨0x40C, 1, 0x4, 8, 8, .rws, 8⟩
def Reg.HPORT.EPOCH_CFG_GM_TIMEOUT : Field := ⟨0x40C, 1, 0x4, 16, 8, .rws, 4⟩
def Reg.HPORT.GROUP_BASE_LO_ADDR : Field := ⟨0x410, 1, 0x4, 12, 20, .rws, 0⟩
def Reg.HPORT.GROUP_BASE_HI_ADDR : Field := ⟨0x414, 1, 0x4, 0, 16, .rws, 0⟩
def Reg.HPORT.FAB_CMD_GROUP_RELOAD : Field := ⟨0x418, 1, 0x4, 0, 1, .wo, 0⟩
def Reg.HPORT.FAB_CMD_LEAVE : Field := ⟨0x418, 1, 0x4, 1, 1, .wo, 0⟩
def Reg.HPORT.FAB_STAT_FS : Field := ⟨0x41C, 1, 0x4, 0, 3, .ro, 0⟩
def Reg.HPORT.FAB_STAT_RANK : Field := ⟨0x41C, 1, 0x4, 16, 16, .ro, 0xffff⟩
def Reg.HPORT.EPOCH : Field := ⟨0x420, 1, 0x4, 0, 32, .ro, 0⟩
def Reg.HPORT.EPOCH_TICK_LO : Field := ⟨0x424, 1, 0x4, 0, 32, .ro, 0⟩
def Reg.HPORT.EPOCH_TICK_HI : Field := ⟨0x428, 1, 0x4, 0, 32, .ro, 0⟩
def Reg.HPORT.MEMBERS_COUNT : Field := ⟨0x42C, 1, 0x4, 0, 16, .ro, 0⟩
def Reg.HPORT.GM_ID_LO : Field := ⟨0x430, 1, 0x4, 0, 32, .ro, 0⟩
def Reg.HPORT.GM_ID_HI : Field := ⟨0x434, 1, 0x4, 0, 32, .ro, 0⟩
def Reg.HPORT.MSEL_RANK : Field := ⟨0x438, 1, 0x4, 0, 16, .rw, 0⟩
def Reg.HPORT.MID_LO : Field := ⟨0x43C, 1, 0x4, 0, 32, .ro, 0⟩
def Reg.HPORT.MID_HI : Field := ⟨0x440, 1, 0x4, 0, 32, .ro, 0⟩
def Reg.HPORT.MINFO_HOPS : Field := ⟨0x444, 1, 0x4, 0, 8, .ro, 0⟩
def Reg.HPORT.MINFO_PRESENT : Field := ⟨0x444, 1, 0x4, 8, 1, .ro, 0⟩
def Reg.HPORT.ROUTE : Field := ⟨0x448, 1, 0x4, 0, 32, .ro, 0⟩
def Reg.HPORT.CTRL_SEND_SUBOP : Field := ⟨0x44C, 1, 0x4, 0, 2, .wo, 0⟩
def Reg.HPORT.CTRL_SEND_MASK : Field := ⟨0x44C, 1, 0x4, 4, 3, .wo, 0⟩
def Reg.HPORT.CTRL_SEND_RANK : Field := ⟨0x44C, 1, 0x4, 16, 16, .wo, 0⟩
def Reg.HPORT.STOPPED_COUNT : Field := ⟨0x450, 1, 0x4, 0, 16, .ro, 0⟩
def Reg.HPORT.STOPPED_MASK : Field := ⟨0x450, 1, 0x4, 16, 3, .ro, 0⟩
def Reg.HPORT.CTRL_RX : Field := ⟨0x454, 1, 0x4, 0, 32, .ro, 0⟩
def Reg.HPORT.FENCED_PEERS : Field := ⟨0x458, 1, 0x4, 0, 16, .ro, 0⟩
def Reg.HPORT.HELD_LINKS : Field := ⟨0x45C, 1, 0x4, 0, 32, .ro, 0⟩

/-- Every field of the HPORT table. -/
def fieldsOfHPORT : List Field :=
  [Reg.HPORT.LINK_STAT_LS, Reg.HPORT.LINK_STAT_LANES, Reg.HPORT.LANE_ADMIN_MASK, Reg.HPORT.LANE_UP, Reg.HPORT.LANE_CFG_DEG_PPM, Reg.HPORT.LANE_CFG_DEG_TICKS, Reg.HPORT.PEER_ID_LO, Reg.HPORT.PEER_ID_HI, Reg.HPORT.PEER_PORT, Reg.HPORT.PEER_RANK, Reg.HPORT.RXBUF0_C0_MIN, Reg.HPORT.RXBUF0_C1_MIN, Reg.HPORT.RXBUF1_C2_MIN, Reg.HPORT.RBASE_LO, Reg.HPORT.RBASE_HI, Reg.HPORT.RDEST_RANK, Reg.HPORT.RDEST_ROUTED, Reg.HPORT.TX_FRAMES_LO, Reg.HPORT.TX_FRAMES_HI, Reg.HPORT.RX_FRAMES_LO, Reg.HPORT.RX_FRAMES_HI, Reg.HPORT.CRC_FAILS, Reg.HPORT.RETRIES, Reg.HPORT.C0_LOST] ++
  [Reg.HPORT.LATE_MSGS, Reg.HPORT.C0_EXCESS, Reg.HPORT.STALE_EPOCH, Reg.HPORT.LINK_LOSS, Reg.HPORT.FEC_CORR_LO, Reg.HPORT.FEC_CORR_HI, Reg.HPORT.FEC_UNCORR, Reg.HPORT.LANE_ST, Reg.HPORT.LANE_DEGRADED, Reg.HPORT.LANE_DEG_RUN, Reg.HPORT.LANE_CORR_PPM, Reg.HPORT.FAB_CTL_EN, Reg.HPORT.FAB_CTL_PRIORITY, Reg.HPORT.FABRIC_ID_LO, Reg.HPORT.FABRIC_ID_HI, Reg.HPORT.EPOCH_CFG_LEAD, Reg.HPORT.EPOCH_CFG_MEMBER_TIMEOUT, Reg.HPORT.EPOCH_CFG_GM_TIMEOUT, Reg.HPORT.GROUP_BASE_LO_ADDR, Reg.HPORT.GROUP_BASE_HI_ADDR, Reg.HPORT.FAB_CMD_GROUP_RELOAD, Reg.HPORT.FAB_CMD_LEAVE, Reg.HPORT.FAB_STAT_FS, Reg.HPORT.FAB_STAT_RANK] ++
  [Reg.HPORT.EPOCH, Reg.HPORT.EPOCH_TICK_LO, Reg.HPORT.EPOCH_TICK_HI, Reg.HPORT.MEMBERS_COUNT, Reg.HPORT.GM_ID_LO, Reg.HPORT.GM_ID_HI, Reg.HPORT.MSEL_RANK, Reg.HPORT.MID_LO, Reg.HPORT.MID_HI, Reg.HPORT.MINFO_HOPS, Reg.HPORT.MINFO_PRESENT, Reg.HPORT.ROUTE, Reg.HPORT.CTRL_SEND_SUBOP, Reg.HPORT.CTRL_SEND_MASK, Reg.HPORT.CTRL_SEND_RANK, Reg.HPORT.STOPPED_COUNT, Reg.HPORT.STOPPED_MASK, Reg.HPORT.CTRL_RX, Reg.HPORT.FENCED_PEERS, Reg.HPORT.HELD_LINKS]

/-! ### CISTERN -/

def Reg.CISTERN.MAP_LINEAR_GIB : Field := ⟨0x040, 1, 0x4, 0, 7, .rws, 0⟩
def Reg.CISTERN.SCRUB_BLOCKS_PER_TICK : Field := ⟨0x044, 1, 0x4, 0, 16, .rws, 8⟩
def Reg.CISTERN.SCRUB_EN : Field := ⟨0x044, 1, 0x4, 16, 1, .rws, 1⟩
def Reg.CISTERN.SCRUB_POS_BLOCK : Field := ⟨0x048, 1, 0x4, 0, 24, .ro, 0⟩
def Reg.CISTERN.SCRUB_PASSES : Field := ⟨0x04C, 1, 0x4, 0, 32, .ro, 0⟩
def Reg.CISTERN.SCRUB_DEBT : Field := ⟨0x050, 1, 0x4, 0, 32, .ro, 0⟩
def Reg.CISTERN.CE_COUNT : Field := ⟨0x054, 1, 0x4, 0, 32, .ro, 0⟩
def Reg.CISTERN.UE_COUNT : Field := ⟨0x058, 1, 0x4, 0, 32, .ro, 0⟩
def Reg.CISTERN.UE_ADDR_LO : Field := ⟨0x05C, 1, 0x4, 0, 32, .ro, 0⟩
def Reg.CISTERN.UE_ADDR_HI : Field := ⟨0x060, 1, 0x4, 0, 16, .ro, 0⟩
def Reg.CISTERN.SEAL_FAILS : Field := ⟨0x064, 1, 0x4, 0, 32, .ro, 0⟩
def Reg.CISTERN.READ_BYTES_LO : Field := ⟨0x068, 1, 0x4, 0, 32, .ro, 0⟩
def Reg.CISTERN.READ_BYTES_HI : Field := ⟨0x06C, 1, 0x4, 0, 32, .ro, 0⟩
def Reg.CISTERN.WRITE_BYTES_LO : Field := ⟨0x070, 1, 0x4, 0, 32, .ro, 0⟩
def Reg.CISTERN.WRITE_BYTES_HI : Field := ⟨0x074, 1, 0x4, 0, 32, .ro, 0⟩
def Reg.CISTERN.WATCH_TID : Field := ⟨0x080, 8, 0x4, 0, 16, .rw, 0⟩
def Reg.CISTERN.WATCH_EN : Field := ⟨0x080, 8, 0x4, 16, 1, .rw, 0⟩
def Reg.CISTERN.WATCH_MAXABS : Field := ⟨0x0A0, 8, 0x4, 0, 32, .rw, 0⟩
def Reg.CISTERN.OPT_CMD : Field := ⟨0x100, 16, 0x4, 0, 32, .wo, 0⟩
def Reg.CISTERN.OPT_STAT_RUNNING : Field := ⟨0x140, 1, 0x4, 0, 1, .ro, 0⟩
def Reg.CISTERN.OPT_STAT_QUEUED : Field := ⟨0x140, 1, 0x4, 1, 1, .ro, 0⟩
def Reg.CISTERN.OPT_STAT_ERR : Field := ⟨0x140, 1, 0x4, 8, 4, .ro, 0⟩
def Reg.CISTERN.OPT_DONE : Field := ⟨0x144, 1, 0x4, 0, 32, .ro, 0⟩
def Reg.CISTERN.OPT_CLIPS : Field := ⟨0x148, 1, 0x4, 0, 32, .ro, 0⟩

/-- Every field of the CISTERN table. -/
def fieldsOfCISTERN : List Field :=
  [Reg.CISTERN.MAP_LINEAR_GIB, Reg.CISTERN.SCRUB_BLOCKS_PER_TICK, Reg.CISTERN.SCRUB_EN, Reg.CISTERN.SCRUB_POS_BLOCK, Reg.CISTERN.SCRUB_PASSES, Reg.CISTERN.SCRUB_DEBT, Reg.CISTERN.CE_COUNT, Reg.CISTERN.UE_COUNT, Reg.CISTERN.UE_ADDR_LO, Reg.CISTERN.UE_ADDR_HI, Reg.CISTERN.SEAL_FAILS, Reg.CISTERN.READ_BYTES_LO, Reg.CISTERN.READ_BYTES_HI, Reg.CISTERN.WRITE_BYTES_LO, Reg.CISTERN.WRITE_BYTES_HI, Reg.CISTERN.WATCH_TID, Reg.CISTERN.WATCH_EN, Reg.CISTERN.WATCH_MAXABS, Reg.CISTERN.OPT_CMD, Reg.CISTERN.OPT_STAT_RUNNING, Reg.CISTERN.OPT_STAT_QUEUED, Reg.CISTERN.OPT_STAT_ERR, Reg.CISTERN.OPT_DONE, Reg.CISTERN.OPT_CLIPS]

/-! ### COMB -/

def Reg.COMB.SRC_STAT_CS : Field := ⟨0x040, 1, 0x4, 0, 3, .ro, 0⟩
def Reg.COMB.SRC_STAT_REGION : Field := ⟨0x040, 1, 0x4, 4, 3, .ro, 0⟩
def Reg.COMB.SRC_STAT_PARTNER : Field := ⟨0x040, 1, 0x4, 8, 3, .ro, 7⟩
def Reg.COMB.BIAS_CODE : Field := ⟨0x044, 1, 0x4, 0, 14, .ro, 0⟩
def Reg.COMB.BIAS_MAX : Field := ⟨0x044, 1, 0x4, 16, 14, .ro, 0⟩
def Reg.COMB.POWER_W : Field := ⟨0x048, 1, 0x4, 0, 16, .ro, 0⟩
def Reg.COMB.LOOP_TARGET : Field := ⟨0x04C, 1, 0x4, 0, 16, .rws, 0⟩
def Reg.COMB.LOOP_STEP : Field := ⟨0x04C, 1, 0x4, 16, 8, .rws, 4⟩
def Reg.COMB.LOOP_EN : Field := ⟨0x04C, 1, 0x4, 24, 1, .rws, 1⟩
def Reg.COMB.TRIG_MARGIN : Field := ⟨0x050, 1, 0x4, 0, 10, .rws, 100⟩
def Reg.COMB.TRIG_BIAS_PCT : Field := ⟨0x050, 1, 0x4, 16, 7, .rws, 90⟩
def Reg.COMB.TRIG_PRE_PCT : Field := ⟨0x050, 1, 0x4, 24, 7, .rws, 85⟩
def Reg.COMB.PROJ_WIN_TICKS : Field := ⟨0x054, 1, 0x4, 0, 16, .rws, 1000⟩
def Reg.COMB.PROJ_HORIZON_TICKS : Field := ⟨0x054, 1, 0x4, 16, 16, .rws, 100⟩
def Reg.COMB.PREWARM_HORIZON_MS : Field := ⟨0x058, 1, 0x4, 0, 16, .rws, 5000⟩
def Reg.COMB.MARGIN_M : Field := ⟨0x05C, 1, 0x4, 0, 16, .ro, 0x7fff⟩
def Reg.COMB.MARGIN_PROJECTED : Field := ⟨0x05C, 1, 0x4, 16, 16, .ro, 0x7fff⟩
def Reg.COMB.WORST_WELL : Field := ⟨0x060, 1, 0x4, 0, 10, .ro, 0⟩
def Reg.COMB.WORST_ROW : Field := ⟨0x060, 1, 0x4, 16, 8, .ro, 0⟩
def Reg.COMB.HANDOVER_WELLS_MOVED : Field := ⟨0x064, 1, 0x4, 0, 8, .ro, 0⟩
def Reg.COMB.HANDOVER_LINES_MOVED : Field := ⟨0x064, 1, 0x4, 8, 5, .ro, 0⟩
def Reg.COMB.HANDOVER_FORCED : Field := ⟨0x064, 1, 0x4, 16, 1, .ro, 0⟩
def Reg.COMB.HANDOVER_COUNT : Field := ⟨0x068, 1, 0x4, 0, 32, .ro, 0⟩
def Reg.COMB.CMD_HANDOVER : Field := ⟨0x06C, 1, 0x4, 0, 1, .wo, 0⟩
def Reg.COMB.CMD_PREWARM : Field := ⟨0x06C, 1, 0x4, 1, 1, .wo, 0⟩
def Reg.COMB.LINE_POWER : Field := ⟨0x070, 16, 0x4, 0, 16, .ro, 0x8000⟩
def Reg.COMB.STARVED_COUNT : Field := ⟨0x0B0, 1, 0x4, 0, 8, .ro, 0⟩
def Reg.COMB.APR_STAT : Field := ⟨0x100, 1, 0x4, 0, 32, .ro, 0xffffffff⟩
def Reg.COMB.APR_COUNT : Field := ⟨0x104, 1, 0x4, 0, 32, .ro, 0⟩
def Reg.COMB.OPTOFF_ACTIVE : Field := ⟨0x108, 1, 0x4, 0, 1, .ro, 0⟩

/-- Every field of the COMB table. -/
def fieldsOfCOMB : List Field :=
  [Reg.COMB.SRC_STAT_CS, Reg.COMB.SRC_STAT_REGION, Reg.COMB.SRC_STAT_PARTNER, Reg.COMB.BIAS_CODE, Reg.COMB.BIAS_MAX, Reg.COMB.POWER_W, Reg.COMB.LOOP_TARGET, Reg.COMB.LOOP_STEP, Reg.COMB.LOOP_EN, Reg.COMB.TRIG_MARGIN, Reg.COMB.TRIG_BIAS_PCT, Reg.COMB.TRIG_PRE_PCT, Reg.COMB.PROJ_WIN_TICKS, Reg.COMB.PROJ_HORIZON_TICKS, Reg.COMB.PREWARM_HORIZON_MS, Reg.COMB.MARGIN_M, Reg.COMB.MARGIN_PROJECTED, Reg.COMB.WORST_WELL, Reg.COMB.WORST_ROW, Reg.COMB.HANDOVER_WELLS_MOVED, Reg.COMB.HANDOVER_LINES_MOVED, Reg.COMB.HANDOVER_FORCED, Reg.COMB.HANDOVER_COUNT, Reg.COMB.CMD_HANDOVER] ++
  [Reg.COMB.CMD_PREWARM, Reg.COMB.LINE_POWER, Reg.COMB.STARVED_COUNT, Reg.COMB.APR_STAT, Reg.COMB.APR_COUNT, Reg.COMB.OPTOFF_ACTIVE]

/-! ### THERM -/

def Reg.THERM.LIMITS_WARN_C : Field := ⟨0x040, 1, 0x4, 0, 8, .rws, 95⟩
def Reg.THERM.LIMITS_THROTTLE_C : Field := ⟨0x040, 1, 0x4, 8, 8, .ro, 100⟩
def Reg.THERM.LIMITS_CRIT_C : Field := ⟨0x040, 1, 0x4, 16, 8, .ro, 110⟩
def Reg.THERM.THR_CTL_MODE : Field := ⟨0x044, 1, 0x4, 0, 1, .rws, 0⟩
def Reg.THERM.THR_CTL_RISE_10US : Field := ⟨0x044, 1, 0x4, 8, 8, .rws, 50⟩
def Reg.THERM.THR_CTL_HYST_C : Field := ⟨0x044, 1, 0x4, 16, 4, .rws, 3⟩
def Reg.THERM.THR_CTL_RELAX_MS : Field := ⟨0x044, 1, 0x4, 24, 8, .rws, 50⟩
def Reg.THERM.STEP_CTL_RATE : Field := ⟨0x048, 1, 0x4, 0, 8, .rws, 20⟩
def Reg.THERM.LEVEL : Field := ⟨0x04C, 1, 0x4, 0, 16, .ro, 0⟩
def Reg.THERM.HOT_01_D0 : Field := ⟨0x050, 1, 0x4, 0, 16, .ro, 0x8000⟩
def Reg.THERM.HOT_01_D1 : Field := ⟨0x050, 1, 0x4, 16, 16, .ro, 0x8000⟩
def Reg.THERM.HOT_23_D2 : Field := ⟨0x054, 1, 0x4, 0, 16, .ro, 0x8000⟩
def Reg.THERM.HOT_23_D3 : Field := ⟨0x054, 1, 0x4, 16, 16, .ro, 0x8000⟩
def Reg.THERM.HOT_MOD_SENSOR : Field := ⟨0x058, 1, 0x4, 0, 12, .ro, 0⟩
def Reg.THERM.HOT_MOD_T : Field := ⟨0x058, 1, 0x4, 16, 16, .ro, 0x8000⟩
def Reg.THERM.FAST_DIE : Field := ⟨0x05C, 1, 0x4, 0, 4, .ro, 0⟩
def Reg.THERM.FAST_CISTERN : Field := ⟨0x05C, 1, 0x4, 4, 1, .ro, 0⟩
def Reg.THERM.FAST_HUB : Field := ⟨0x05C, 1, 0x4, 5, 1, .ro, 0⟩
def Reg.THERM.SENSOR_SEL_INDEX : Field := ⟨0x060, 1, 0x4, 0, 12, .rw, 0⟩
def Reg.THERM.SENSOR_READ_T : Field := ⟨0x064, 1, 0x4, 0, 16, .ro, 0x8000⟩
def Reg.THERM.SENSOR_READ_BROKEN : Field := ⟨0x064, 1, 0x4, 16, 1, .ro, 0⟩
def Reg.THERM.SENSOR_READ_CAUSE : Field := ⟨0x064, 1, 0x4, 17, 3, .ro, 0⟩
def Reg.THERM.BROKEN_COUNT : Field := ⟨0x068, 1, 0x4, 0, 12, .ro, 0⟩
def Reg.THERM.STEP_WELLS_COUNT : Field := ⟨0x06C, 1, 0x4, 0, 10, .ro, 0⟩
def Reg.THERM.STEP_COUNT : Field := ⟨0x070, 1, 0x4, 0, 32, .ro, 0⟩
def Reg.THERM.THROTTLE_TICKS : Field := ⟨0x074, 1, 0x4, 0, 32, .ro, 0⟩
def Reg.THERM.WARN_COUNT : Field := ⟨0x078, 1, 0x4, 0, 32, .ro, 0⟩

/-- Every field of the THERM table. -/
def fieldsOfTHERM : List Field :=
  [Reg.THERM.LIMITS_WARN_C, Reg.THERM.LIMITS_THROTTLE_C, Reg.THERM.LIMITS_CRIT_C, Reg.THERM.THR_CTL_MODE, Reg.THERM.THR_CTL_RISE_10US, Reg.THERM.THR_CTL_HYST_C, Reg.THERM.THR_CTL_RELAX_MS, Reg.THERM.STEP_CTL_RATE, Reg.THERM.LEVEL, Reg.THERM.HOT_01_D0, Reg.THERM.HOT_01_D1, Reg.THERM.HOT_23_D2, Reg.THERM.HOT_23_D3, Reg.THERM.HOT_MOD_SENSOR, Reg.THERM.HOT_MOD_T, Reg.THERM.FAST_DIE, Reg.THERM.FAST_CISTERN, Reg.THERM.FAST_HUB, Reg.THERM.SENSOR_SEL_INDEX, Reg.THERM.SENSOR_READ_T, Reg.THERM.SENSOR_READ_BROKEN, Reg.THERM.SENSOR_READ_CAUSE, Reg.THERM.BROKEN_COUNT, Reg.THERM.STEP_WELLS_COUNT] ++
  [Reg.THERM.STEP_COUNT, Reg.THERM.THROTTLE_TICKS, Reg.THERM.WARN_COUNT]

/-! ### PWR -/

def Reg.PWR.RAIL_MV : Field := ⟨0x040, 7, 0x4, 0, 16, .ro, 0⟩
def Reg.PWR.RAIL_A : Field := ⟨0x040, 7, 0x4, 16, 16, .ro, 0⟩
def Reg.PWR.RAIL_STAT_WARN : Field := ⟨0x05C, 1, 0x4, 0, 7, .ro, 0⟩
def Reg.PWR.RAIL_STAT_FAULT : Field := ⟨0x05C, 1, 0x4, 8, 7, .ro, 0⟩
def Reg.PWR.POWER_W : Field := ⟨0x060, 1, 0x4, 0, 16, .ro, 0⟩
def Reg.PWR.STATE_PS : Field := ⟨0x064, 1, 0x4, 0, 3, .ro, 0⟩
def Reg.PWR.CAP_W : Field := ⟨0x068, 1, 0x4, 0, 12, .rws, 0⟩
def Reg.PWR.CAP_STAT_LEVEL : Field := ⟨0x06C, 1, 0x4, 0, 4, .ro, 0⟩
def Reg.PWR.CAP_STAT_ACTIVE : Field := ⟨0x06C, 1, 0x4, 8, 1, .ro, 0⟩
def Reg.PWR.ENERGY_LO : Field := ⟨0x070, 1, 0x4, 0, 32, .ro, 0⟩
def Reg.PWR.ENERGY_HI : Field := ⟨0x074, 1, 0x4, 0, 32, .ro, 0⟩
def Reg.PWR.PEAK_W : Field := ⟨0x078, 1, 0x4, 0, 16, .rw, 0⟩

/-- Every field of the PWR table. -/
def fieldsOfPWR : List Field :=
  [Reg.PWR.RAIL_MV, Reg.PWR.RAIL_A, Reg.PWR.RAIL_STAT_WARN, Reg.PWR.RAIL_STAT_FAULT, Reg.PWR.POWER_W, Reg.PWR.STATE_PS, Reg.PWR.CAP_W, Reg.PWR.CAP_STAT_LEVEL, Reg.PWR.CAP_STAT_ACTIVE, Reg.PWR.ENERGY_LO, Reg.PWR.ENERGY_HI, Reg.PWR.PEAK_W]

/-! ### CAL -/

def Reg.CAL.ENABLES_WELL : Field := ⟨0x040, 1, 0x4, 0, 1, .rws, 1⟩
def Reg.CAL.ENABLES_LANE : Field := ⟨0x040, 1, 0x4, 1, 1, .rws, 1⟩
def Reg.CAL.ENABLES_COMB : Field := ⟨0x040, 1, 0x4, 2, 1, .rws, 1⟩
def Reg.CAL.INTERVAL_MS : Field := ⟨0x044, 1, 0x4, 0, 14, .rws, 2000⟩
def Reg.CAL.EARLY_MS : Field := ⟨0x048, 1, 0x4, 0, 14, .rws, 500⟩
def Reg.CAL.OVERDUE_MS : Field := ⟨0x04C, 1, 0x4, 0, 14, .rws, 100⟩
def Reg.CAL.LANE_INTERVAL_MS : Field := ⟨0x050, 1, 0x4, 0, 16, .rws, 0x2710⟩
def Reg.CAL.COMB_INTERVAL_MS : Field := ⟨0x054, 1, 0x4, 0, 16, .rws, 1000⟩
def Reg.CAL.CMD_WELL_NOW : Field := ⟨0x058, 1, 0x4, 0, 1, .wo, 0⟩
def Reg.CAL.CMD_REFCHECK : Field := ⟨0x058, 1, 0x4, 1, 1, .wo, 0⟩
def Reg.CAL.CMD_LANE_NOW : Field := ⟨0x058, 1, 0x4, 2, 1, .wo, 0⟩
def Reg.CAL.CMD_COMB_NOW : Field := ⟨0x058, 1, 0x4, 3, 1, .wo, 0⟩
def Reg.CAL.REF_STAT_RESULT : Field := ⟨0x05C, 1, 0x4, 0, 3, .ro, 0⟩
def Reg.CAL.REF_DEV_IREF : Field := ⟨0x060, 1, 0x4, 0, 32, .ro, 0⟩
def Reg.CAL.REF_DEV_HSPAN : Field := ⟨0x064, 1, 0x4, 0, 32, .ro, 0⟩
def Reg.CAL.REF_DEV_MON : Field := ⟨0x068, 1, 0x4, 0, 32, .ro, 0⟩
def Reg.CAL.ACTIVE : Field := ⟨0x06C, 1, 0x4, 0, 32, .ro, 0xffffffff⟩
def Reg.CAL.WSEL_WELL : Field := ⟨0x070, 1, 0x4, 0, 10, .rw, 0⟩
def Reg.CAL.WCAL_COUNT : Field := ⟨0x074, 1, 0x4, 0, 32, .ro, 0⟩
def Reg.CAL.WCAL_LAST_LO : Field := ⟨0x078, 1, 0x4, 0, 32, .ro, 0⟩
def Reg.CAL.WCAL_LAST_HI : Field := ⟨0x07C, 1, 0x4, 0, 32, .ro, 0⟩
def Reg.CAL.WCAL_TICK_LO : Field := ⟨0x080, 1, 0x4, 0, 32, .ro, 0⟩
def Reg.CAL.WCAL_TICK_HI : Field := ⟨0x084, 1, 0x4, 0, 32, .ro, 0⟩
def Reg.CAL.WCAL_DUE_LO : Field := ⟨0x088, 1, 0x4, 0, 32, .ro, 0⟩
def Reg.CAL.WCAL_DUE_HI : Field := ⟨0x08C, 1, 0x4, 0, 32, .ro, 0⟩
def Reg.CAL.WCAL_STAT_ST : Field := ⟨0x090, 1, 0x4, 0, 3, .ro, 0⟩
def Reg.CAL.WCAL_STAT_RETRIES : Field := ⟨0x090, 1, 0x4, 8, 2, .ro, 0⟩
def Reg.CAL.WCAL_STAT_WEAK_ROW : Field := ⟨0x090, 1, 0x4, 16, 8, .ro, 255⟩
def Reg.CAL.LSEL_PORT : Field := ⟨0x094, 1, 0x4, 0, 5, .rw, 0⟩
def Reg.CAL.LSEL_LANE : Field := ⟨0x094, 1, 0x4, 8, 4, .rw, 0⟩
def Reg.CAL.LCAL_COUNT : Field := ⟨0x098, 1, 0x4, 0, 32, .ro, 0⟩
def Reg.CAL.LCAL_LAST_LO : Field := ⟨0x09C, 1, 0x4, 0, 32, .ro, 0⟩
def Reg.CAL.LCAL_LAST_HI : Field := ⟨0x0A0, 1, 0x4, 0, 32, .ro, 0⟩
def Reg.CAL.LCAL_STAT_CONSEC : Field := ⟨0x0A4, 1, 0x4, 0, 8, .ro, 0⟩
def Reg.CAL.LCAL_STAT_REJECTS : Field := ⟨0x0A4, 1, 0x4, 16, 16, .ro, 0⟩
def Reg.CAL.CSEL_SOURCE : Field := ⟨0x0A8, 1, 0x4, 0, 3, .rw, 0⟩
def Reg.CAL.CCAL_COUNT : Field := ⟨0x0AC, 1, 0x4, 0, 32, .ro, 0⟩
def Reg.CAL.CCAL_LAST_LO : Field := ⟨0x0B0, 1, 0x4, 0, 32, .ro, 0⟩
def Reg.CAL.CCAL_LAST_HI : Field := ⟨0x0B4, 1, 0x4, 0, 32, .ro, 0⟩
def Reg.CAL.CCAL_STAT_LINES_REJ : Field := ⟨0x0B8, 1, 0x4, 0, 16, .ro, 0⟩
def Reg.CAL.WELL_CALS : Field := ⟨0x0BC, 1, 0x4, 0, 32, .ro, 0⟩
def Reg.CAL.WELL_RETRIES : Field := ⟨0x0C0, 1, 0x4, 0, 32, .ro, 0⟩
def Reg.CAL.DRIFT_FENCES : Field := ⟨0x0C4, 1, 0x4, 0, 32, .ro, 0⟩
def Reg.CAL.OVERDUE_COUNT : Field := ⟨0x0C8, 1, 0x4, 0, 32, .ro, 0⟩
def Reg.CAL.STANDIN_COUNT : Field := ⟨0x0CC, 1, 0x4, 0, 32, .ro, 0⟩
def Reg.CAL.LANE_REJECTS : Field := ⟨0x0D0, 1, 0x4, 0, 32, .ro, 0⟩
def Reg.CAL.COMB_REJECTS : Field := ⟨0x0D4, 1, 0x4, 0, 32, .ro, 0⟩

/-- Every field of the CAL table. -/
def fieldsOfCAL : List Field :=
  [Reg.CAL.ENABLES_WELL, Reg.CAL.ENABLES_LANE, Reg.CAL.ENABLES_COMB, Reg.CAL.INTERVAL_MS, Reg.CAL.EARLY_MS, Reg.CAL.OVERDUE_MS, Reg.CAL.LANE_INTERVAL_MS, Reg.CAL.COMB_INTERVAL_MS, Reg.CAL.CMD_WELL_NOW, Reg.CAL.CMD_REFCHECK, Reg.CAL.CMD_LANE_NOW, Reg.CAL.CMD_COMB_NOW, Reg.CAL.REF_STAT_RESULT, Reg.CAL.REF_DEV_IREF, Reg.CAL.REF_DEV_HSPAN, Reg.CAL.REF_DEV_MON, Reg.CAL.ACTIVE, Reg.CAL.WSEL_WELL, Reg.CAL.WCAL_COUNT, Reg.CAL.WCAL_LAST_LO, Reg.CAL.WCAL_LAST_HI, Reg.CAL.WCAL_TICK_LO, Reg.CAL.WCAL_TICK_HI, Reg.CAL.WCAL_DUE_LO] ++
  [Reg.CAL.WCAL_DUE_HI, Reg.CAL.WCAL_STAT_ST, Reg.CAL.WCAL_STAT_RETRIES, Reg.CAL.WCAL_STAT_WEAK_ROW, Reg.CAL.LSEL_PORT, Reg.CAL.LSEL_LANE, Reg.CAL.LCAL_COUNT, Reg.CAL.LCAL_LAST_LO, Reg.CAL.LCAL_LAST_HI, Reg.CAL.LCAL_STAT_CONSEC, Reg.CAL.LCAL_STAT_REJECTS, Reg.CAL.CSEL_SOURCE, Reg.CAL.CCAL_COUNT, Reg.CAL.CCAL_LAST_LO, Reg.CAL.CCAL_LAST_HI, Reg.CAL.CCAL_STAT_LINES_REJ, Reg.CAL.WELL_CALS, Reg.CAL.WELL_RETRIES, Reg.CAL.DRIFT_FENCES, Reg.CAL.OVERDUE_COUNT, Reg.CAL.STANDIN_COUNT, Reg.CAL.LANE_REJECTS, Reg.CAL.COMB_REJECTS]

/-! ### INTEG -/

def Reg.INTEG.TRANS_MAX : Field := ⟨0x040, 1, 0x4, 0, 8, .rws, 3⟩
def Reg.INTEG.TRANS_WIN_TICKS : Field := ⟨0x044, 1, 0x4, 0, 32, .rws, 0x186a0⟩
def Reg.INTEG.CAPTURE_BUSY : Field := ⟨0x048, 1, 0x4, 0, 4, .ro, 0⟩
def Reg.INTEG.CAPTURE_LOST : Field := ⟨0x04C, 1, 0x4, 0, 32, .ro, 0⟩
def Reg.INTEG.REPEATS : Field := ⟨0x050, 1, 0x4, 0, 32, .ro, 0⟩
def Reg.INTEG.TRANSIENTS : Field := ⟨0x054, 1, 0x4, 0, 32, .ro, 0⟩
def Reg.INTEG.PERMANENTS : Field := ⟨0x058, 1, 0x4, 0, 32, .ro, 0⟩
def Reg.INTEG.INTERMITTENT : Field := ⟨0x05C, 1, 0x4, 0, 32, .ro, 0⟩
def Reg.INTEG.SEAL_FAILS : Field := ⟨0x060, 1, 0x4, 0, 32, .ro, 0⟩
def Reg.INTEG.DIGEST_FAILS : Field := ⟨0x064, 1, 0x4, 0, 32, .ro, 0⟩
def Reg.INTEG.LAST_WELL : Field := ⟨0x068, 1, 0x4, 0, 10, .ro, 0⟩
def Reg.INTEG.LAST_KIND : Field := ⟨0x068, 1, 0x4, 16, 3, .ro, 0⟩

/-- Every field of the INTEG table. -/
def fieldsOfINTEG : List Field :=
  [Reg.INTEG.TRANS_MAX, Reg.INTEG.TRANS_WIN_TICKS, Reg.INTEG.CAPTURE_BUSY, Reg.INTEG.CAPTURE_LOST, Reg.INTEG.REPEATS, Reg.INTEG.TRANSIENTS, Reg.INTEG.PERMANENTS, Reg.INTEG.INTERMITTENT, Reg.INTEG.SEAL_FAILS, Reg.INTEG.DIGEST_FAILS, Reg.INTEG.LAST_WELL, Reg.INTEG.LAST_KIND]

/-! ### TEST -/

def Reg.TEST.FT_CTL_EN : Field := ⟨0x040, 1, 0x4, 0, 1, .rws, 1⟩
def Reg.TEST.FT_CTL_FLEET_EN : Field := ⟨0x040, 1, 0x4, 1, 1, .rws, 1⟩
def Reg.TEST.FT_CTL_LOCAL_EN : Field := ⟨0x040, 1, 0x4, 2, 1, .rws, 1⟩
def Reg.TEST.FT_CTL_RET_MAX : Field := ⟨0x040, 1, 0x4, 8, 8, .rws, 2⟩
def Reg.TEST.FT_INTERVAL_S : Field := ⟨0x044, 1, 0x4, 0, 16, .rws, 600⟩
def Reg.TEST.FT_EARLY_S : Field := ⟨0x048, 1, 0x4, 0, 16, .rws, 60⟩
def Reg.TEST.CMD_TEST_NOW : Field := ⟨0x04C, 1, 0x4, 0, 1, .wo, 0⟩
def Reg.TEST.CMD_RETURN_NOW : Field := ⟨0x04C, 1, 0x4, 1, 1, .wo, 0⟩
def Reg.TEST.CMD_FLEET_LOAD : Field := ⟨0x04C, 1, 0x4, 2, 1, .wo, 0⟩
def Reg.TEST.CMD_REC_POP : Field := ⟨0x04C, 1, 0x4, 3, 1, .wo, 0⟩
def Reg.TEST.WSEL_WELL : Field := ⟨0x050, 1, 0x4, 0, 10, .rw, 0⟩
def Reg.TEST.FT_STAT_ST : Field := ⟨0x054, 1, 0x4, 0, 3, .ro, 0⟩
def Reg.TEST.FT_STAT_LAST : Field := ⟨0x054, 1, 0x4, 4, 4, .ro, 0⟩
def Reg.TEST.FT_STAT_FENCE_CAUSE : Field := ⟨0x054, 1, 0x4, 8, 8, .ro, 0⟩
def Reg.TEST.FT_STAT_RETURNS : Field := ⟨0x054, 1, 0x4, 16, 8, .ro, 0⟩
def Reg.TEST.FT_COUNT : Field := ⟨0x058, 1, 0x4, 0, 32, .ro, 0⟩
def Reg.TEST.FT_LAST_LO : Field := ⟨0x05C, 1, 0x4, 0, 32, .ro, 0⟩
def Reg.TEST.FT_LAST_HI : Field := ⟨0x060, 1, 0x4, 0, 32, .ro, 0⟩
def Reg.TEST.FT_FAILS : Field := ⟨0x064, 1, 0x4, 0, 32, .ro, 0⟩
def Reg.TEST.FT_SESSIONS : Field := ⟨0x068, 1, 0x4, 0, 32, .ro, 0⟩
def Reg.TEST.FLEET_ADDR_LO_ADDR : Field := ⟨0x06C, 1, 0x4, 12, 20, .rw, 0⟩
def Reg.TEST.FLEET_ADDR_HI_ADDR : Field := ⟨0x070, 1, 0x4, 0, 16, .rw, 0⟩
def Reg.TEST.FLEET_STAT_ST : Field := ⟨0x074, 1, 0x4, 0, 3, .ro, 0⟩
def Reg.TEST.FLEET_STAT_REASON : Field := ⟨0x074, 1, 0x4, 4, 4, .ro, 0⟩
def Reg.TEST.FLEET_STAT_COUNT : Field := ⟨0x074, 1, 0x4, 16, 16, .ro, 0⟩
def Reg.TEST.FLEET_VERSION : Field := ⟨0x078, 1, 0x4, 0, 32, .ro, 0⟩
def Reg.TEST.LOCAL : Field := ⟨0x07C, 1, 0x4, 0, 16, .ro, 0⟩
def Reg.TEST.SAFE_CAUSE : Field := ⟨0x080, 1, 0x4, 0, 18, .ro, 0⟩
def Reg.TEST.REC_STAT_DEPTH : Field := ⟨0x084, 1, 0x4, 0, 11, .ro, 0⟩
def Reg.TEST.REC_DROP : Field := ⟨0x088, 1, 0x4, 0, 32, .ro, 0⟩
def Reg.TEST.REC_SEQ : Field := ⟨0x08C, 1, 0x4, 0, 32, .ro, 0⟩
def Reg.TEST.REC_LEN : Field := ⟨0x090, 1, 0x4, 0, 32, .ro, 0⟩
def Reg.TEST.REC_PAGE_PAGE : Field := ⟨0x094, 1, 0x4, 0, 9, .rw, 0⟩
def Reg.TEST.REC_TOTAL : Field := ⟨0x098, 1, 0x4, 0, 32, .ro, 0⟩
def Reg.TEST.REC_WIN : Field := ⟨0x400, 256, 0x4, 0, 32, .ro, 0⟩

/-- Every field of the TEST table. -/
def fieldsOfTEST : List Field :=
  [Reg.TEST.FT_CTL_EN, Reg.TEST.FT_CTL_FLEET_EN, Reg.TEST.FT_CTL_LOCAL_EN, Reg.TEST.FT_CTL_RET_MAX, Reg.TEST.FT_INTERVAL_S, Reg.TEST.FT_EARLY_S, Reg.TEST.CMD_TEST_NOW, Reg.TEST.CMD_RETURN_NOW, Reg.TEST.CMD_FLEET_LOAD, Reg.TEST.CMD_REC_POP, Reg.TEST.WSEL_WELL, Reg.TEST.FT_STAT_ST, Reg.TEST.FT_STAT_LAST, Reg.TEST.FT_STAT_FENCE_CAUSE, Reg.TEST.FT_STAT_RETURNS, Reg.TEST.FT_COUNT, Reg.TEST.FT_LAST_LO, Reg.TEST.FT_LAST_HI, Reg.TEST.FT_FAILS, Reg.TEST.FT_SESSIONS, Reg.TEST.FLEET_ADDR_LO_ADDR, Reg.TEST.FLEET_ADDR_HI_ADDR, Reg.TEST.FLEET_STAT_ST, Reg.TEST.FLEET_STAT_REASON] ++
  [Reg.TEST.FLEET_STAT_COUNT, Reg.TEST.FLEET_VERSION, Reg.TEST.LOCAL, Reg.TEST.SAFE_CAUSE, Reg.TEST.REC_STAT_DEPTH, Reg.TEST.REC_DROP, Reg.TEST.REC_SEQ, Reg.TEST.REC_LEN, Reg.TEST.REC_PAGE_PAGE, Reg.TEST.REC_TOTAL, Reg.TEST.REC_WIN]

/-! ### SEC -/

def Reg.SEC.SEC_STAT_PUF_OK : Field := ⟨0x040, 1, 0x4, 0, 1, .ro, 0⟩
def Reg.SEC.SEC_STAT_KEYS_READY : Field := ⟨0x040, 1, 0x4, 1, 1, .ro, 0⟩
def Reg.SEC.SEC_STAT_RP_OK : Field := ⟨0x040, 1, 0x4, 2, 1, .ro, 0⟩
def Reg.SEC.SEC_STAT_OWNER : Field := ⟨0x040, 1, 0x4, 3, 1, .ro, 0⟩
def Reg.SEC.CMD_EVIDENCE : Field := ⟨0x044, 1, 0x4, 0, 1, .wo, 0⟩
def Reg.SEC.CMD_OWNER : Field := ⟨0x044, 1, 0x4, 1, 1, .wo, 0⟩
def Reg.SEC.REQ_ADDR_LO_ADDR : Field := ⟨0x048, 1, 0x4, 6, 26, .rw, 0⟩
def Reg.SEC.REQ_ADDR_HI_ADDR : Field := ⟨0x04C, 1, 0x4, 0, 16, .rw, 0⟩
def Reg.SEC.EV_STAT_ST : Field := ⟨0x050, 1, 0x4, 0, 2, .ro, 0⟩
def Reg.SEC.EV_STAT_REASON : Field := ⟨0x050, 1, 0x4, 4, 4, .ro, 0⟩
def Reg.SEC.EV_LEN : Field := ⟨0x054, 1, 0x4, 0, 32, .ro, 0⟩
def Reg.SEC.EV_PAGE_PAGE : Field := ⟨0x058, 1, 0x4, 0, 6, .rw, 0⟩
def Reg.SEC.OWN_STAT_ST : Field := ⟨0x05C, 1, 0x4, 0, 2, .ro, 0⟩
def Reg.SEC.OWN_STAT_REASON : Field := ⟨0x05C, 1, 0x4, 4, 4, .ro, 0⟩
def Reg.SEC.OWN_STAT_OWNER_SEQ : Field := ⟨0x05C, 1, 0x4, 16, 16, .ro, 0⟩
def Reg.SEC.DEVID_HASH : Field := ⟨0x060, 12, 0x4, 0, 32, .ro, 0⟩
def Reg.SEC.EV_WIN : Field := ⟨0x400, 256, 0x4, 0, 32, .ro, 0⟩

/-- Every field of the SEC table. -/
def fieldsOfSEC : List Field :=
  [Reg.SEC.SEC_STAT_PUF_OK, Reg.SEC.SEC_STAT_KEYS_READY, Reg.SEC.SEC_STAT_RP_OK, Reg.SEC.SEC_STAT_OWNER, Reg.SEC.CMD_EVIDENCE, Reg.SEC.CMD_OWNER, Reg.SEC.REQ_ADDR_LO_ADDR, Reg.SEC.REQ_ADDR_HI_ADDR, Reg.SEC.EV_STAT_ST, Reg.SEC.EV_STAT_REASON, Reg.SEC.EV_LEN, Reg.SEC.EV_PAGE_PAGE, Reg.SEC.OWN_STAT_ST, Reg.SEC.OWN_STAT_REASON, Reg.SEC.OWN_STAT_OWNER_SEQ, Reg.SEC.DEVID_HASH, Reg.SEC.EV_WIN]

/-! ### BOOT -/

def Reg.BOOT.SVC_CMD_OP : Field := ⟨0x800, 1, 0x4, 0, 3, .wo, 0⟩
def Reg.BOOT.SVC_ADDR_LO_ADDR : Field := ⟨0x804, 1, 0x4, 12, 20, .rw, 0⟩
def Reg.BOOT.SVC_ADDR_HI_ADDR : Field := ⟨0x808, 1, 0x4, 0, 16, .rw, 0⟩
def Reg.BOOT.SVC_STAT_ST : Field := ⟨0x80C, 1, 0x4, 0, 3, .ro, 0⟩
def Reg.BOOT.SVC_STAT_REFUSE : Field := ⟨0x80C, 1, 0x4, 8, 4, .ro, 0⟩
def Reg.BOOT.SVC_STAT_RESUMED : Field := ⟨0x80C, 1, 0x4, 12, 1, .ro, 0⟩
def Reg.BOOT.SVC_CTL_REQUIRE_SIGNED : Field := ⟨0x810, 1, 0x4, 0, 1, .rws, 0⟩
def Reg.BOOT.SVC_CTL_RESUME : Field := ⟨0x810, 1, 0x4, 1, 1, .rws, 0⟩
def Reg.BOOT.PLAN_ID_LO : Field := ⟨0x814, 1, 0x4, 0, 32, .ro, 0⟩
def Reg.BOOT.PLAN_ID_HI : Field := ⟨0x818, 1, 0x4, 0, 32, .ro, 0⟩
def Reg.BOOT.START_TICK_LO : Field := ⟨0x81C, 1, 0x4, 0, 32, .ro, 0⟩
def Reg.BOOT.START_TICK_HI : Field := ⟨0x820, 1, 0x4, 0, 32, .ro, 0⟩
def Reg.BOOT.WELLS_REQ : Field := ⟨0x824, 1, 0x4, 0, 10, .ro, 0⟩
def Reg.BOOT.WELLS_STANDINS : Field := ⟨0x824, 1, 0x4, 16, 10, .ro, 0⟩
def Reg.BOOT.MAP_SEL_LOGICAL : Field := ⟨0x828, 1, 0x4, 0, 10, .rw, 0⟩
def Reg.BOOT.MAP_READ_PHYS : Field := ⟨0x82C, 1, 0x4, 0, 10, .ro, 0⟩
def Reg.BOOT.MAP_READ_VALID : Field := ⟨0x82C, 1, 0x4, 15, 1, .ro, 0⟩
def Reg.BOOT.MAP_READ_STANDING_IN : Field := ⟨0x82C, 1, 0x4, 16, 1, .ro, 0⟩
def Reg.BOOT.CKPT_TICK : Field := ⟨0x830, 1, 0x4, 0, 32, .ro, 0⟩
def Reg.BOOT.CKPT_PROG_PROG : Field := ⟨0x834, 1, 0x4, 0, 16, .ro, 0⟩
def Reg.BOOT.CKPT_PROG_VALID : Field := ⟨0x834, 1, 0x4, 16, 1, .ro, 0⟩
def Reg.BOOT.SEQ_TIMEOUT_TICKS : Field := ⟨0x838, 1, 0x4, 0, 16, .rws, 0x2710⟩
def Reg.BOOT.REQ_ACCEPTED : Field := ⟨0x83C, 1, 0x4, 0, 32, .ro, 0⟩
def Reg.BOOT.REQ_REFUSED : Field := ⟨0x840, 1, 0x4, 0, 32, .ro, 0⟩
def Reg.BOOT.BOOT_STAT_PHASE : Field := ⟨0x040, 1, 0x4, 0, 3, .ro, 0⟩
def Reg.BOOT.BOOT_STAT_SLOT : Field := ⟨0x040, 1, 0x4, 4, 1, .ro, 0⟩
def Reg.BOOT.BOOT_STAT_TRIAL : Field := ⟨0x040, 1, 0x4, 5, 1, .ro, 0⟩
def Reg.BOOT.BOOT_STAT_FALLBACK : Field := ⟨0x040, 1, 0x4, 6, 1, .ro, 0⟩
def Reg.BOOT.BOOT_STAT_FAIL_IMG : Field := ⟨0x040, 1, 0x4, 8, 4, .ro, 0⟩
def Reg.BOOT.BOOT_STAT_FAIL_CAL : Field := ⟨0x040, 1, 0x4, 12, 4, .ro, 0⟩
def Reg.BOOT.FW_VERSION : Field := ⟨0x044, 1, 0x4, 0, 32, .ro, 0⟩
def Reg.BOOT.SVN_SVN : Field := ⟨0x048, 1, 0x4, 0, 16, .ro, 0⟩
def Reg.BOOT.SVN_MIN : Field := ⟨0x048, 1, 0x4, 16, 16, .ro, 0⟩
def Reg.BOOT.READY_MS : Field := ⟨0x04C, 1, 0x4, 0, 32, .ro, 0⟩
def Reg.BOOT.CFG_FABRIC_AUTO : Field := ⟨0x050, 1, 0x4, 0, 1, .rw, 0⟩
def Reg.BOOT.CMD_UPDATE : Field := ⟨0x054, 1, 0x4, 0, 1, .wo, 0⟩
def Reg.BOOT.CMD_COMMIT : Field := ⟨0x054, 1, 0x4, 1, 1, .wo, 0⟩
def Reg.BOOT.CMD_SAVE_CFG : Field := ⟨0x054, 1, 0x4, 2, 1, .wo, 0⟩
def Reg.BOOT.UPD_ADDR_LO_ADDR : Field := ⟨0x058, 1, 0x4, 12, 20, .rw, 0⟩
def Reg.BOOT.UPD_ADDR_HI_ADDR : Field := ⟨0x05C, 1, 0x4, 0, 16, .rw, 0⟩
def Reg.BOOT.UPD_STAT_ST : Field := ⟨0x060, 1, 0x4, 0, 3, .ro, 0⟩
def Reg.BOOT.UPD_STAT_REASON : Field := ⟨0x060, 1, 0x4, 4, 4, .ro, 0⟩
def Reg.BOOT.BOOT_COUNT : Field := ⟨0x064, 1, 0x4, 0, 32, .ro, 0⟩

/-- Every field of the BOOT table. -/
def fieldsOfBOOT : List Field :=
  [Reg.BOOT.SVC_CMD_OP, Reg.BOOT.SVC_ADDR_LO_ADDR, Reg.BOOT.SVC_ADDR_HI_ADDR, Reg.BOOT.SVC_STAT_ST, Reg.BOOT.SVC_STAT_REFUSE, Reg.BOOT.SVC_STAT_RESUMED, Reg.BOOT.SVC_CTL_REQUIRE_SIGNED, Reg.BOOT.SVC_CTL_RESUME, Reg.BOOT.PLAN_ID_LO, Reg.BOOT.PLAN_ID_HI, Reg.BOOT.START_TICK_LO, Reg.BOOT.START_TICK_HI, Reg.BOOT.WELLS_REQ, Reg.BOOT.WELLS_STANDINS, Reg.BOOT.MAP_SEL_LOGICAL, Reg.BOOT.MAP_READ_PHYS, Reg.BOOT.MAP_READ_VALID, Reg.BOOT.MAP_READ_STANDING_IN, Reg.BOOT.CKPT_TICK, Reg.BOOT.CKPT_PROG_PROG, Reg.BOOT.CKPT_PROG_VALID, Reg.BOOT.SEQ_TIMEOUT_TICKS, Reg.BOOT.REQ_ACCEPTED, Reg.BOOT.REQ_REFUSED] ++
  [Reg.BOOT.BOOT_STAT_PHASE, Reg.BOOT.BOOT_STAT_SLOT, Reg.BOOT.BOOT_STAT_TRIAL, Reg.BOOT.BOOT_STAT_FALLBACK, Reg.BOOT.BOOT_STAT_FAIL_IMG, Reg.BOOT.BOOT_STAT_FAIL_CAL, Reg.BOOT.FW_VERSION, Reg.BOOT.SVN_SVN, Reg.BOOT.SVN_MIN, Reg.BOOT.READY_MS, Reg.BOOT.CFG_FABRIC_AUTO, Reg.BOOT.CMD_UPDATE, Reg.BOOT.CMD_COMMIT, Reg.BOOT.CMD_SAVE_CFG, Reg.BOOT.UPD_ADDR_LO_ADDR, Reg.BOOT.UPD_ADDR_HI_ADDR, Reg.BOOT.UPD_STAT_ST, Reg.BOOT.UPD_STAT_REASON, Reg.BOOT.BOOT_COUNT]

/-! ### WDIE -/

def Reg.WDIE.PUMP_POOL_MIN_SUM : Field := ⟨0x100, 4, 0x10, 0, 12, .ro, 0⟩
def Reg.WDIE.PUMP_POOL_FREE : Field := ⟨0x100, 4, 0x10, 16, 12, .ro, 2048⟩
def Reg.WDIE.PUMP_BYTES_LO : Field := ⟨0x104, 4, 0x10, 0, 32, .ro, 0⟩
def Reg.WDIE.PUMP_BYTES_HI : Field := ⟨0x108, 4, 0x10, 0, 32, .ro, 0⟩
def Reg.WDIE.PUMP_BUSY : Field := ⟨0x10C, 4, 0x10, 0, 32, .ro, 0⟩
def Reg.WDIE.BAR_CFG_TARGET : Field := ⟨0x200, 16, 0x8, 0, 16, .rw, 0⟩
def Reg.WDIE.BAR_STAT_COUNT : Field := ⟨0x204, 16, 0x8, 0, 16, .ro, 0⟩
def Reg.WDIE.BAR_STAT_GEN : Field := ⟨0x204, 16, 0x8, 16, 8, .ro, 0⟩
def Reg.WDIE.IN_CLR_CODE : Field := ⟨0x300, 1, 0x4, 0, 9, .rws, 0⟩
def Reg.WDIE.COL_CLR_CODE : Field := ⟨0x304, 1, 0x4, 0, 10, .rws, 0⟩
def Reg.WDIE.HTR_PARK_CODE : Field := ⟨0x308, 1, 0x4, 0, 12, .rws, 2048⟩
def Reg.WDIE.GEN_HTR_FTW : Field := ⟨0x30C, 1, 0x4, 0, 32, .rws, 0x418937⟩
def Reg.WDIE.GEN_HTR_K_KOFF : Field := ⟨0x310, 1, 0x4, 0, 8, .rws, 20⟩
def Reg.WDIE.GEN_IN_FTW : Field := ⟨0x314, 1, 0x4, 0, 32, .rws, 0⟩
def Reg.WDIE.GEN_IN_CTL_AMP : Field := ⟨0x318, 1, 0x4, 0, 12, .rws, 0⟩
def Reg.WDIE.GEN_IN_CTL_CH : Field := ⟨0x318, 1, 0x4, 16, 8, .rws, 0⟩
def Reg.WDIE.GEN_COL_FTW : Field := ⟨0x31C, 1, 0x4, 0, 32, .rws, 0⟩
def Reg.WDIE.GEN_COL_CTL_AMP : Field := ⟨0x320, 1, 0x4, 0, 12, .rws, 0⟩
def Reg.WDIE.GEN_COL_CTL_CH : Field := ⟨0x320, 1, 0x4, 16, 8, .rws, 0⟩
def Reg.WDIE.MON_CTL_WIN : Field := ⟨0x324, 1, 0x4, 0, 8, .rws, 24⟩
def Reg.WDIE.MON_CTL_FAIL_N : Field := ⟨0x324, 1, 0x4, 8, 4, .rws, 3⟩
def Reg.WDIE.MON_FAILS : Field := ⟨0x328, 1, 0x4, 0, 32, .ro, 0⟩
def Reg.WDIE.MON_LAST_WELL : Field := ⟨0x32C, 1, 0x4, 0, 8, .ro, 0⟩
def Reg.WDIE.MON_LAST_BANK : Field := ⟨0x32C, 1, 0x4, 8, 2, .ro, 0⟩
def Reg.WDIE.MON_LAST_CH : Field := ⟨0x32C, 1, 0x4, 16, 10, .ro, 0⟩
def Reg.WDIE.MON_MISS : Field := ⟨0x330, 1, 0x4, 0, 32, .ro, 0⟩

/-- Every field of the WDIE table. -/
def fieldsOfWDIE : List Field :=
  [Reg.WDIE.PUMP_POOL_MIN_SUM, Reg.WDIE.PUMP_POOL_FREE, Reg.WDIE.PUMP_BYTES_LO, Reg.WDIE.PUMP_BYTES_HI, Reg.WDIE.PUMP_BUSY, Reg.WDIE.BAR_CFG_TARGET, Reg.WDIE.BAR_STAT_COUNT, Reg.WDIE.BAR_STAT_GEN, Reg.WDIE.IN_CLR_CODE, Reg.WDIE.COL_CLR_CODE, Reg.WDIE.HTR_PARK_CODE, Reg.WDIE.GEN_HTR_FTW, Reg.WDIE.GEN_HTR_K_KOFF, Reg.WDIE.GEN_IN_FTW, Reg.WDIE.GEN_IN_CTL_AMP, Reg.WDIE.GEN_IN_CTL_CH, Reg.WDIE.GEN_COL_FTW, Reg.WDIE.GEN_COL_CTL_AMP, Reg.WDIE.GEN_COL_CTL_CH, Reg.WDIE.MON_CTL_WIN, Reg.WDIE.MON_CTL_FAIL_N, Reg.WDIE.MON_FAILS, Reg.WDIE.MON_LAST_WELL, Reg.WDIE.MON_LAST_BANK] ++
  [Reg.WDIE.MON_LAST_CH, Reg.WDIE.MON_MISS]

/-! ### CLUSTER -/

def Reg.CLUSTER.CONV_MODE_IN_SPAN : Field := ⟨0x100, 16, 0x4, 0, 2, .rws, 0⟩
def Reg.CLUSTER.CONV_MODE_COL_SPAN : Field := ⟨0x100, 16, 0x4, 4, 1, .rws, 0⟩
def Reg.CLUSTER.CONV_MODE_HTR_SPAN : Field := ⟨0x100, 16, 0x4, 8, 1, .rws, 0⟩
def Reg.CLUSTER.TRIM_ADDR_WELL : Field := ⟨0x140, 1, 0x4, 0, 4, .rw, 0⟩
def Reg.CLUSTER.TRIM_ADDR_KIND : Field := ⟨0x140, 1, 0x4, 4, 4, .rw, 0⟩
def Reg.CLUSTER.TRIM_ADDR_CH : Field := ⟨0x140, 1, 0x4, 8, 8, .rw, 0⟩
def Reg.CLUSTER.TRIM_ADDR_ELEM : Field := ⟨0x140, 1, 0x4, 16, 9, .rw, 0⟩
def Reg.CLUSTER.TRIM_ADDR_SUB : Field := ⟨0x140, 1, 0x4, 25, 3, .rw, 0⟩
def Reg.CLUSTER.TRIM_DATA_VALUE : Field := ⟨0x144, 1, 0x4, 0, 16, .rw, 0⟩
def Reg.CLUSTER.TRIM_STAT_BAD_ADDR : Field := ⟨0x148, 1, 0x4, 0, 1, .w1c, 0⟩
def Reg.CLUSTER.TRIM_STAT_BUSY : Field := ⟨0x148, 1, 0x4, 1, 1, .w1c, 0⟩

/-- Every field of the CLUSTER table. -/
def fieldsOfCLUSTER : List Field :=
  [Reg.CLUSTER.CONV_MODE_IN_SPAN, Reg.CLUSTER.CONV_MODE_COL_SPAN, Reg.CLUSTER.CONV_MODE_HTR_SPAN, Reg.CLUSTER.TRIM_ADDR_WELL, Reg.CLUSTER.TRIM_ADDR_KIND, Reg.CLUSTER.TRIM_ADDR_CH, Reg.CLUSTER.TRIM_ADDR_ELEM, Reg.CLUSTER.TRIM_ADDR_SUB, Reg.CLUSTER.TRIM_DATA_VALUE, Reg.CLUSTER.TRIM_STAT_BAD_ADDR, Reg.CLUSTER.TRIM_STAT_BUSY]

/-! ### WELL -/

def Reg.WELL.OPT_CTL_RX_GAIN : Field := ⟨0x040, 1, 0x4, 0, 3, .rws, 2⟩
def Reg.WELL.OPT_CTL_PILOT_TRACK : Field := ⟨0x040, 1, 0x4, 3, 1, .rws, 1⟩
def Reg.WELL.OPT_CTL_REFRESH_EN : Field := ⟨0x040, 1, 0x4, 4, 1, .rws, 1⟩
def Reg.WELL.PILOT_CTL_WIN_LOG2 : Field := ⟨0x044, 1, 0x4, 0, 5, .rws, 12⟩
def Reg.WELL.PILOT_CTL_PHASE_THR : Field := ⟨0x044, 1, 0x4, 8, 8, .rws, 20⟩
def Reg.WELL.PILOT_CTL_GAIN_THR : Field := ⟨0x044, 1, 0x4, 16, 8, .rws, 50⟩
def Reg.WELL.SPARE_EN : Field := ⟨0x048, 1, 0x4, 0, 1, .rws, 0⟩
def Reg.WELL.SPARE_ROW : Field := ⟨0x048, 1, 0x4, 8, 8, .rws, 0⟩
def Reg.WELL.PLANE_STAT_A : Field := ⟨0x04C, 1, 0x4, 0, 3, .ro, 0⟩
def Reg.WELL.PLANE_STAT_B : Field := ⟨0x04C, 1, 0x4, 4, 3, .ro, 0⟩
def Reg.WELL.PLANE_STAT_ACTIVE : Field := ⟨0x04C, 1, 0x4, 8, 1, .ro, 0⟩
def Reg.WELL.PLANE_STAT_DARK : Field := ⟨0x04C, 1, 0x4, 9, 1, .ro, 1⟩
def Reg.WELL.LINE_LINE : Field := ⟨0x050, 1, 0x4, 0, 4, .ro, 0⟩
def Reg.WELL.LINE_SOURCE : Field := ⟨0x050, 1, 0x4, 4, 3, .ro, 0⟩
def Reg.WELL.LO_STAT_LO_LOCKED : Field := ⟨0x054, 1, 0x4, 0, 1, .ro, 0⟩
def Reg.WELL.LO_STAT_WORST_ROW : Field := ⟨0x054, 1, 0x4, 8, 8, .ro, 0⟩
def Reg.WELL.LO_STAT_WORST_ERR : Field := ⟨0x054, 1, 0x4, 16, 16, .ro, 0⟩
def Reg.WELL.PILOT_PHASE : Field := ⟨0x058, 1, 0x4, 0, 32, .ro, 0⟩
def Reg.WELL.PILOT_GAIN : Field := ⟨0x05C, 1, 0x4, 0, 32, .ro, 0x3f800000⟩
def Reg.WELL.PILOT_SKIP : Field := ⟨0x060, 1, 0x4, 0, 32, .ro, 0⟩
def Reg.WELL.SWAP_COUNT : Field := ⟨0x064, 1, 0x4, 0, 32, .ro, 0⟩
def Reg.WELL.DARK_SYMBOLS_LO : Field := ⟨0x068, 1, 0x4, 0, 32, .ro, 0⟩
def Reg.WELL.DARK_SYMBOLS_HI : Field := ⟨0x06C, 1, 0x4, 0, 32, .ro, 0⟩
def Reg.WELL.REFRESH_COUNT : Field := ⟨0x070, 1, 0x4, 0, 32, .ro, 0⟩
def Reg.WELL.RXP_SEL_ROW : Field := ⟨0x074, 1, 0x4, 0, 8, .rw, 0⟩
def Reg.WELL.RXP_POWER : Field := ⟨0x078, 1, 0x4, 0, 16, .ro, 0x8000⟩
def Reg.WELL.HTR_INFO_COUNT : Field := ⟨0x07C, 1, 0x4, 0, 10, .ro, 800⟩
def Reg.WELL.PASS_STAT_ST : Field := ⟨0x100, 1, 0x4, 0, 2, .ro, 0⟩
def Reg.WELL.PASS_STAT_QDEPTH : Field := ⟨0x100, 1, 0x4, 8, 4, .ro, 0⟩
def Reg.WELL.PASS_STAT_PASS_ID : Field := ⟨0x100, 1, 0x4, 16, 16, .ro, 0⟩
def Reg.WELL.PASSQ_BASE_OFFSET : Field := ⟨0x104, 1, 0x4, 6, 14, .rws, 0⟩
def Reg.WELL.PASSQ_HEAD_INDEX : Field := ⟨0x108, 1, 0x4, 0, 4, .rw, 0⟩
def Reg.WELL.PASSQ_TAIL_INDEX : Field := ⟨0x10C, 1, 0x4, 0, 4, .ro, 0⟩
def Reg.WELL.PASS_COUNT : Field := ⟨0x110, 1, 0x4, 0, 32, .ro, 0⟩
def Reg.WELL.ABORT_COUNT : Field := ⟨0x114, 1, 0x4, 0, 32, .ro, 0⟩
def Reg.WELL.REFUSE_STAT_REASON : Field := ⟨0x118, 1, 0x4, 0, 3, .ro, 0⟩
def Reg.WELL.REFUSE_STAT_PASS_ID : Field := ⟨0x118, 1, 0x4, 16, 16, .ro, 0⟩
def Reg.WELL.ADC_CLIPS_LO : Field := ⟨0x120, 1, 0x4, 0, 32, .ro, 0⟩
def Reg.WELL.ADC_CLIPS_HI : Field := ⟨0x124, 1, 0x4, 0, 32, .ro, 0⟩
def Reg.WELL.REQ_CLIPS_LO : Field := ⟨0x128, 1, 0x4, 0, 32, .ro, 0⟩
def Reg.WELL.REQ_CLIPS_HI : Field := ⟨0x12C, 1, 0x4, 0, 32, .ro, 0⟩
def Reg.WELL.UNDERFLOWS_LO : Field := ⟨0x130, 1, 0x4, 0, 32, .ro, 0⟩
def Reg.WELL.UNDERFLOWS_HI : Field := ⟨0x134, 1, 0x4, 0, 32, .ro, 0⟩
def Reg.WELL.OUTPUTS_LO : Field := ⟨0x138, 1, 0x4, 0, 32, .ro, 0⟩
def Reg.WELL.OUTPUTS_HI : Field := ⟨0x13C, 1, 0x4, 0, 32, .ro, 0⟩
def Reg.WELL.ADC_SAMPLES_LO : Field := ⟨0x140, 1, 0x4, 0, 32, .ro, 0⟩
def Reg.WELL.ADC_SAMPLES_HI : Field := ⟨0x144, 1, 0x4, 0, 32, .ro, 0⟩
def Reg.WELL.TENSOR_MAXABS : Field := ⟨0x148, 1, 0x4, 0, 32, .rw, 0⟩
def Reg.WELL.CHK_FAILS : Field := ⟨0x14C, 1, 0x4, 0, 32, .ro, 0⟩
def Reg.WELL.CHK_LAST_D : Field := ⟨0x150, 1, 0x4, 0, 16, .ro, 0⟩
def Reg.WELL.ROWSUM_MISMATCH : Field := ⟨0x154, 1, 0x4, 0, 32, .ro, 0⟩
def Reg.WELL.CNT_CLR_CLR : Field := ⟨0x158, 1, 0x4, 0, 1, .wo, 0⟩
def Reg.WELL.QFIT_CTL_WIN_TICKS : Field := ⟨0x200, 1, 0x4, 0, 16, .rws, 100⟩
def Reg.WELL.QFIT_CTL_EN : Field := ⟨0x200, 1, 0x4, 16, 1, .rws, 1⟩
def Reg.WELL.QFIT_CTL_MIN_LOG2 : Field := ⟨0x200, 1, 0x4, 24, 5, .rws, 16⟩
def Reg.WELL.QFIT_ADC_PPM : Field := ⟨0x204, 1, 0x4, 0, 20, .rws, 100⟩
def Reg.WELL.QFIT_REQ_PPM : Field := ⟨0x208, 1, 0x4, 0, 20, .rws, 100⟩
def Reg.WELL.QFIT_UFL_PPM : Field := ⟨0x20C, 1, 0x4, 0, 20, .rws, 0x2710⟩
def Reg.WELL.QFIT_STAT_ADC : Field := ⟨0x210, 1, 0x4, 0, 1, .ro, 0⟩
def Reg.WELL.QFIT_STAT_REQ : Field := ⟨0x210, 1, 0x4, 1, 1, .ro, 0⟩
def Reg.WELL.QFIT_STAT_UFL : Field := ⟨0x210, 1, 0x4, 2, 1, .ro, 0⟩
def Reg.WELL.QFIT_FRAC_ADC : Field := ⟨0x214, 1, 0x4, 0, 20, .ro, 0⟩
def Reg.WELL.QFIT_FRAC_REQ : Field := ⟨0x218, 1, 0x4, 0, 20, .ro, 0⟩
def Reg.WELL.QFIT_FRAC_UFL : Field := ⟨0x21C, 1, 0x4, 0, 20, .ro, 0⟩
def Reg.WELL.QFIT_COUNT : Field := ⟨0x220, 1, 0x4, 0, 32, .ro, 0⟩
def Reg.WELL.QFIT_TICK_LO : Field := ⟨0x224, 1, 0x4, 0, 32, .ro, 0⟩
def Reg.WELL.QFIT_TICK_HI : Field := ⟨0x228, 1, 0x4, 0, 32, .ro, 0⟩
def Reg.WELL.INT_CTL_ROW_EN : Field := ⟨0x240, 1, 0x4, 0, 1, .rws, 1⟩
def Reg.WELL.INT_CTL_VEC_EN : Field := ⟨0x240, 1, 0x4, 1, 1, .rws, 0⟩
def Reg.WELL.INT_CTL_RES_EN : Field := ⟨0x240, 1, 0x4, 2, 1, .rws, 1⟩
def Reg.WELL.INT_CTL_PILOT_EN : Field := ⟨0x240, 1, 0x4, 3, 1, .rws, 1⟩
def Reg.WELL.INT_CTL_VEC_LOG2 : Field := ⟨0x240, 1, 0x4, 4, 3, .rws, 6⟩
def Reg.WELL.INT_CTL_ROW_K : Field := ⟨0x240, 1, 0x4, 8, 8, .rws, 96⟩
def Reg.WELL.INT_CTL_VEC_K : Field := ⟨0x240, 1, 0x4, 16, 8, .rws, 96⟩
def Reg.WELL.NOISE_01_G0 : Field := ⟨0x244, 1, 0x4, 0, 16, .ro, 100⟩
def Reg.WELL.NOISE_01_G1 : Field := ⟨0x244, 1, 0x4, 16, 16, .ro, 102⟩
def Reg.WELL.NOISE_23_G2 : Field := ⟨0x248, 1, 0x4, 0, 16, .ro, 111⟩
def Reg.WELL.NOISE_23_G3 : Field := ⟨0x248, 1, 0x4, 16, 16, .ro, 143⟩
def Reg.WELL.NOISE_4_G4 : Field := ⟨0x24C, 1, 0x4, 0, 16, .ro, 229⟩
def Reg.WELL.TOL_ROW : Field := ⟨0x250, 1, 0x4, 0, 16, .ro, 335⟩
def Reg.WELL.EXCURSIONS : Field := ⟨0x254, 1, 0x4, 0, 32, .ro, 0⟩
def Reg.WELL.VEC_FAILS : Field := ⟨0x258, 1, 0x4, 0, 32, .ro, 0⟩
def Reg.WELL.RES_FAILS : Field := ⟨0x25C, 1, 0x4, 0, 32, .ro, 0⟩
def Reg.WELL.PILOT_FAILS : Field := ⟨0x260, 1, 0x4, 0, 32, .ro, 0⟩
def Reg.WELL.REPEAT_STAT_ST : Field := ⟨0x264, 1, 0x4, 0, 2, .ro, 0⟩
def Reg.WELL.REPEAT_STAT_LAST : Field := ⟨0x264, 1, 0x4, 4, 2, .ro, 0⟩
def Reg.WELL.REPEAT_STAT_KIND : Field := ⟨0x264, 1, 0x4, 8, 3, .ro, 0⟩
def Reg.WELL.TRANSIENTS : Field := ⟨0x268, 1, 0x4, 0, 32, .ro, 0⟩
def Reg.WELL.WITHHELD_PASSES : Field := ⟨0x26C, 1, 0x4, 0, 32, .ro, 0⟩

/-- Every field of the WELL table. -/
def fieldsOfWELL : List Field :=
  [Reg.WELL.OPT_CTL_RX_GAIN, Reg.WELL.OPT_CTL_PILOT_TRACK, Reg.WELL.OPT_CTL_REFRESH_EN, Reg.WELL.PILOT_CTL_WIN_LOG2, Reg.WELL.PILOT_CTL_PHASE_THR, Reg.WELL.PILOT_CTL_GAIN_THR, Reg.WELL.SPARE_EN, Reg.WELL.SPARE_ROW, Reg.WELL.PLANE_STAT_A, Reg.WELL.PLANE_STAT_B, Reg.WELL.PLANE_STAT_ACTIVE, Reg.WELL.PLANE_STAT_DARK, Reg.WELL.LINE_LINE, Reg.WELL.LINE_SOURCE, Reg.WELL.LO_STAT_LO_LOCKED, Reg.WELL.LO_STAT_WORST_ROW, Reg.WELL.LO_STAT_WORST_ERR, Reg.WELL.PILOT_PHASE, Reg.WELL.PILOT_GAIN, Reg.WELL.PILOT_SKIP, Reg.WELL.SWAP_COUNT, Reg.WELL.DARK_SYMBOLS_LO, Reg.WELL.DARK_SYMBOLS_HI, Reg.WELL.REFRESH_COUNT] ++
  [Reg.WELL.RXP_SEL_ROW, Reg.WELL.RXP_POWER, Reg.WELL.HTR_INFO_COUNT, Reg.WELL.PASS_STAT_ST, Reg.WELL.PASS_STAT_QDEPTH, Reg.WELL.PASS_STAT_PASS_ID, Reg.WELL.PASSQ_BASE_OFFSET, Reg.WELL.PASSQ_HEAD_INDEX, Reg.WELL.PASSQ_TAIL_INDEX, Reg.WELL.PASS_COUNT, Reg.WELL.ABORT_COUNT, Reg.WELL.REFUSE_STAT_REASON, Reg.WELL.REFUSE_STAT_PASS_ID, Reg.WELL.ADC_CLIPS_LO, Reg.WELL.ADC_CLIPS_HI, Reg.WELL.REQ_CLIPS_LO, Reg.WELL.REQ_CLIPS_HI, Reg.WELL.UNDERFLOWS_LO, Reg.WELL.UNDERFLOWS_HI, Reg.WELL.OUTPUTS_LO, Reg.WELL.OUTPUTS_HI, Reg.WELL.ADC_SAMPLES_LO, Reg.WELL.ADC_SAMPLES_HI, Reg.WELL.TENSOR_MAXABS] ++
  [Reg.WELL.CHK_FAILS, Reg.WELL.CHK_LAST_D, Reg.WELL.ROWSUM_MISMATCH, Reg.WELL.CNT_CLR_CLR, Reg.WELL.QFIT_CTL_WIN_TICKS, Reg.WELL.QFIT_CTL_EN, Reg.WELL.QFIT_CTL_MIN_LOG2, Reg.WELL.QFIT_ADC_PPM, Reg.WELL.QFIT_REQ_PPM, Reg.WELL.QFIT_UFL_PPM, Reg.WELL.QFIT_STAT_ADC, Reg.WELL.QFIT_STAT_REQ, Reg.WELL.QFIT_STAT_UFL, Reg.WELL.QFIT_FRAC_ADC, Reg.WELL.QFIT_FRAC_REQ, Reg.WELL.QFIT_FRAC_UFL, Reg.WELL.QFIT_COUNT, Reg.WELL.QFIT_TICK_LO, Reg.WELL.QFIT_TICK_HI, Reg.WELL.INT_CTL_ROW_EN, Reg.WELL.INT_CTL_VEC_EN, Reg.WELL.INT_CTL_RES_EN, Reg.WELL.INT_CTL_PILOT_EN, Reg.WELL.INT_CTL_VEC_LOG2] ++
  [Reg.WELL.INT_CTL_ROW_K, Reg.WELL.INT_CTL_VEC_K, Reg.WELL.NOISE_01_G0, Reg.WELL.NOISE_01_G1, Reg.WELL.NOISE_23_G2, Reg.WELL.NOISE_23_G3, Reg.WELL.NOISE_4_G4, Reg.WELL.TOL_ROW, Reg.WELL.EXCURSIONS, Reg.WELL.VEC_FAILS, Reg.WELL.RES_FAILS, Reg.WELL.PILOT_FAILS, Reg.WELL.REPEAT_STAT_ST, Reg.WELL.REPEAT_STAT_LAST, Reg.WELL.REPEAT_STAT_KIND, Reg.WELL.TRANSIENTS, Reg.WELL.WITHHELD_PASSES]

/-! ### PUMPQ -/

def Reg.PUMPQ.RING_BASE_LO_ADDR : Field := ⟨0x040, 1, 0x4, 12, 20, .rws, 0⟩
def Reg.PUMPQ.RING_BASE_HI_ADDR : Field := ⟨0x044, 1, 0x4, 0, 16, .rws, 0⟩
def Reg.PUMPQ.RING_CFG_LOG2 : Field := ⟨0x048, 1, 0x4, 0, 5, .rws, 4⟩
def Reg.PUMPQ.HEAD_INDEX : Field := ⟨0x04C, 1, 0x4, 0, 16, .rw, 0⟩
def Reg.PUMPQ.TAIL_INDEX : Field := ⟨0x050, 1, 0x4, 0, 16, .ro, 0⟩
def Reg.PUMPQ.SCHED_PRIO : Field := ⟨0x054, 1, 0x4, 0, 3, .rws, 0⟩
def Reg.PUMPQ.SCHED_WEIGHT : Field := ⟨0x054, 1, 0x4, 8, 5, .rws, 1⟩
def Reg.PUMPQ.SCHED_OUTSTANDING : Field := ⟨0x054, 1, 0x4, 16, 7, .rws, 8⟩
def Reg.PUMPQ.CREDIT_MIN : Field := ⟨0x058, 1, 0x4, 0, 12, .rws, 8⟩
def Reg.PUMPQ.CREDIT_MAX : Field := ⟨0x058, 1, 0x4, 16, 12, .rws, 2048⟩
def Reg.PUMPQ.PAIR_QUEUE : Field := ⟨0x05C, 1, 0x4, 0, 12, .rws, 0⟩
def Reg.PUMPQ.PAIR_EN : Field := ⟨0x05C, 1, 0x4, 12, 1, .rws, 0⟩
def Reg.PUMPQ.PAIR_ROLE : Field := ⟨0x05C, 1, 0x4, 13, 1, .rws, 0⟩
def Reg.PUMPQ.TGT_CFG_GROUP : Field := ⟨0x060, 1, 0x4, 0, 8, .rws, 0⟩
def Reg.PUMPQ.TGT_CFG_COUNT : Field := ⟨0x060, 1, 0x4, 8, 4, .rws, 0⟩
def Reg.PUMPQ.TGT_WELL01_N0 : Field := ⟨0x064, 1, 0x4, 0, 10, .rws, 0⟩
def Reg.PUMPQ.TGT_WELL01_PHYS0 : Field := ⟨0x064, 1, 0x4, 14, 1, .rws, 0⟩
def Reg.PUMPQ.TGT_WELL01_N1 : Field := ⟨0x064, 1, 0x4, 16, 10, .rws, 0⟩
def Reg.PUMPQ.TGT_WELL01_PHYS1 : Field := ⟨0x064, 1, 0x4, 30, 1, .rws, 0⟩
def Reg.PUMPQ.TGT_WELL23_N0 : Field := ⟨0x068, 1, 0x4, 0, 10, .rws, 0⟩
def Reg.PUMPQ.TGT_WELL23_PHYS0 : Field := ⟨0x068, 1, 0x4, 14, 1, .rws, 0⟩
def Reg.PUMPQ.TGT_WELL23_N1 : Field := ⟨0x068, 1, 0x4, 16, 10, .rws, 0⟩
def Reg.PUMPQ.TGT_WELL23_PHYS1 : Field := ⟨0x068, 1, 0x4, 30, 1, .rws, 0⟩
def Reg.PUMPQ.TGT_WELL45_N0 : Field := ⟨0x06C, 1, 0x4, 0, 10, .rws, 0⟩
def Reg.PUMPQ.TGT_WELL45_PHYS0 : Field := ⟨0x06C, 1, 0x4, 14, 1, .rws, 0⟩
def Reg.PUMPQ.TGT_WELL45_N1 : Field := ⟨0x06C, 1, 0x4, 16, 10, .rws, 0⟩
def Reg.PUMPQ.TGT_WELL45_PHYS1 : Field := ⟨0x06C, 1, 0x4, 30, 1, .rws, 0⟩
def Reg.PUMPQ.TGT_WELL67_N0 : Field := ⟨0x070, 1, 0x4, 0, 10, .rws, 0⟩
def Reg.PUMPQ.TGT_WELL67_PHYS0 : Field := ⟨0x070, 1, 0x4, 14, 1, .rws, 0⟩
def Reg.PUMPQ.TGT_WELL67_N1 : Field := ⟨0x070, 1, 0x4, 16, 10, .rws, 0⟩
def Reg.PUMPQ.TGT_WELL67_PHYS1 : Field := ⟨0x070, 1, 0x4, 30, 1, .rws, 0⟩
def Reg.PUMPQ.REARM_SLOT : Field := ⟨0x074, 1, 0x4, 0, 16, .wo, 0⟩
def Reg.PUMPQ.REARM_GEN : Field := ⟨0x074, 1, 0x4, 16, 8, .wo, 0⟩
def Reg.PUMPQ.REARM_STAT_SHADOW_FULL : Field := ⟨0x078, 1, 0x4, 0, 1, .ro, 0⟩
def Reg.PUMPQ.REARM_STAT_REJECTS : Field := ⟨0x078, 1, 0x4, 16, 16, .ro, 0⟩
def Reg.PUMPQ.DONE_COUNT : Field := ⟨0x07C, 1, 0x4, 0, 32, .ro, 0⟩
def Reg.PUMPQ.Q_STAT_QST : Field := ⟨0x080, 1, 0x4, 0, 3, .ro, 0⟩
def Reg.PUMPQ.Q_STAT_INFLIGHT : Field := ⟨0x080, 1, 0x4, 8, 7, .ro, 0⟩
def Reg.PUMPQ.Q_STAT_CREDITS : Field := ⟨0x080, 1, 0x4, 16, 12, .ro, 0⟩
def Reg.PUMPQ.LAST_ERR_CODE : Field := ⟨0x084, 1, 0x4, 0, 8, .ro, 0⟩
def Reg.PUMPQ.LAST_ERR_SLOT : Field := ⟨0x084, 1, 0x4, 8, 16, .ro, 0⟩
def Reg.PUMPQ.LAST_ERR_GEN : Field := ⟨0x084, 1, 0x4, 24, 8, .ro, 0⟩
def Reg.PUMPQ.BYTES_LO : Field := ⟨0x088, 1, 0x4, 0, 32, .ro, 0⟩
def Reg.PUMPQ.BYTES_HI : Field := ⟨0x08C, 1, 0x4, 0, 32, .ro, 0⟩
def Reg.PUMPQ.MERGED : Field := ⟨0x090, 1, 0x4, 0, 32, .ro, 0⟩
def Reg.PUMPQ.OVERRUN_DISCARDS : Field := ⟨0x094, 1, 0x4, 0, 32, .ro, 0⟩
def Reg.PUMPQ.SKEW_EXP : Field := ⟨0x098, 1, 0x4, 0, 32, .ro, 0⟩
def Reg.PUMPQ.SKEW_GOT : Field := ⟨0x09C, 1, 0x4, 0, 32, .ro, 0⟩
def Reg.PUMPQ.SKEW_TID_EXP : Field := ⟨0x0A0, 1, 0x4, 0, 16, .ro, 0⟩
def Reg.PUMPQ.SKEW_TID_GOT : Field := ⟨0x0A0, 1, 0x4, 16, 16, .ro, 0⟩

/-- Every field of the PUMPQ table. -/
def fieldsOfPUMPQ : List Field :=
  [Reg.PUMPQ.RING_BASE_LO_ADDR, Reg.PUMPQ.RING_BASE_HI_ADDR, Reg.PUMPQ.RING_CFG_LOG2, Reg.PUMPQ.HEAD_INDEX, Reg.PUMPQ.TAIL_INDEX, Reg.PUMPQ.SCHED_PRIO, Reg.PUMPQ.SCHED_WEIGHT, Reg.PUMPQ.SCHED_OUTSTANDING, Reg.PUMPQ.CREDIT_MIN, Reg.PUMPQ.CREDIT_MAX, Reg.PUMPQ.PAIR_QUEUE, Reg.PUMPQ.PAIR_EN, Reg.PUMPQ.PAIR_ROLE, Reg.PUMPQ.TGT_CFG_GROUP, Reg.PUMPQ.TGT_CFG_COUNT, Reg.PUMPQ.TGT_WELL01_N0, Reg.PUMPQ.TGT_WELL01_PHYS0, Reg.PUMPQ.TGT_WELL01_N1, Reg.PUMPQ.TGT_WELL01_PHYS1, Reg.PUMPQ.TGT_WELL23_N0, Reg.PUMPQ.TGT_WELL23_PHYS0, Reg.PUMPQ.TGT_WELL23_N1, Reg.PUMPQ.TGT_WELL23_PHYS1, Reg.PUMPQ.TGT_WELL45_N0] ++
  [Reg.PUMPQ.TGT_WELL45_PHYS0, Reg.PUMPQ.TGT_WELL45_N1, Reg.PUMPQ.TGT_WELL45_PHYS1, Reg.PUMPQ.TGT_WELL67_N0, Reg.PUMPQ.TGT_WELL67_PHYS0, Reg.PUMPQ.TGT_WELL67_N1, Reg.PUMPQ.TGT_WELL67_PHYS1, Reg.PUMPQ.REARM_SLOT, Reg.PUMPQ.REARM_GEN, Reg.PUMPQ.REARM_STAT_SHADOW_FULL, Reg.PUMPQ.REARM_STAT_REJECTS, Reg.PUMPQ.DONE_COUNT, Reg.PUMPQ.Q_STAT_QST, Reg.PUMPQ.Q_STAT_INFLIGHT, Reg.PUMPQ.Q_STAT_CREDITS, Reg.PUMPQ.LAST_ERR_CODE, Reg.PUMPQ.LAST_ERR_SLOT, Reg.PUMPQ.LAST_ERR_GEN, Reg.PUMPQ.BYTES_LO, Reg.PUMPQ.BYTES_HI, Reg.PUMPQ.MERGED, Reg.PUMPQ.OVERRUN_DISCARDS, Reg.PUMPQ.SKEW_EXP, Reg.PUMPQ.SKEW_GOT] ++
  [Reg.PUMPQ.SKEW_TID_EXP, Reg.PUMPQ.SKEW_TID_GOT]

/-- The fields a page kind has after the common header (R55). -/
def PageKind.fields : PageKind → List Field
  | .sys => fieldsOfSYS
  | .tick => fieldsOfTICK
  | .evt => fieldsOfEVT
  | .frameIn => fieldsOfFRAME_IN
  | .frameOut => fieldsOfFRAME_OUT
  | .hport => fieldsOfHPORT
  | .cistern => fieldsOfCISTERN
  | .comb => fieldsOfCOMB
  | .therm => fieldsOfTHERM
  | .pwr => fieldsOfPWR
  | .cal => fieldsOfCAL
  | .integ => fieldsOfINTEG
  | .test => fieldsOfTEST
  | .sec => fieldsOfSEC
  | .boot => fieldsOfBOOT
  | .wdie => fieldsOfWDIE
  | .cluster => fieldsOfCLUSTER
  | .well => fieldsOfWELL
  | .pumpq => fieldsOfPUMPQ

end Sys2Proof.Machine
end

