-- ==== Sys2Proof/Machine/Sparse.lean ====
section
/-! DEFINITION. Sparse tables: a list of (key, value) pairs in one canonical form, keys strictly rising and no entry equal to
what an unlisted key reads as. Registers, memory and block seals are held in it, so equal contents are equal lists. -/

namespace Sys2Proof.Machine

variable {α : Type}

/-- The listed value at a key. -/
def sparseFind : List (Nat × α) → Nat → Option α
  | [], _ => none
  | (k, v) :: rest, key => if k = key then some v else sparseFind rest key

/-- The value at a key: the listed one, else what an unlisted key reads as. -/
def sparseGet (dflt : Nat → α) (l : List (Nat × α)) (key : Nat) : α :=
  (sparseFind l key).getD (dflt key)

/-- The table without a key. -/
def sparseErase (l : List (Nat × α)) (key : Nat) : List (Nat × α) := l.filter fun e => decide (e.1 ≠ key)

/-- The table with a value at a key, keys kept in rising order. -/
def sparseInsert : List (Nat × α) → Nat → α → List (Nat × α)
  | [], key, x => [(key, x)]
  | (k, v) :: rest, key, x =>
    if key < k then (key, x) :: (k, v) :: rest
    else if key = k then (key, x) :: rest
    else (k, v) :: sparseInsert rest key x

/-- Write: an entry equal to what the unlisted key reads as is removed. -/
def sparsePut [DecidableEq α] (dflt : Nat → α) (l : List (Nat × α)) (key : Nat) (x : α) : List (Nat × α) :=
  if x = dflt key then sparseErase l key else sparseInsert l key x

/-- Every key of the table is above a bound. -/
def sparseAbove (b : Nat) (l : List (Nat × α)) : Bool := l.all (fun e => b < e.1)

/-- The canonical form: keys strictly rising, no entry equal to what its key reads as when unlisted. -/
def sparseWf [DecidableEq α] (dflt : Nat → α) : List (Nat × α) → Bool
  | [] => true
  | (k, v) :: rest => decide (v ≠ dflt k) && sparseAbove k rest && sparseWf dflt rest

end Sys2Proof.Machine
end

