-- ==== Sys2Proof/Machine/State.lean ====
section
/-! DEFINITION. The state of the module as plain data: the register file, memory with its block seals, and one record of plain
data per unit for what the spec gives the machine and no register shows. `State.reset` is the module right after the release
of power-on reset (R30, R535). -/

namespace Sys2Proof.Machine

/-- The time base (R21 to R38). -/
structure TickUnit where
  /-- R30: number of the current tick. -/
  number : Nat := 0
  /-- Nanoseconds since the current boundary at the latest command (R31). -/
  off : Nat := 0
  /-- R21, R25, R27: the period in force, in µs. -/
  periodUs : Nat := 100
  /-- Length in ns of the current tick on the internal counter, fixed as it begins: the period, with the correction of R38. -/
  len : Nat := 100000
  /-- R23: the source in force: 0 internal, 1 TICK_IN, 2 fabric. -/
  src : Nat := 0
  /-- R24: acquiring TICK_IN; tracking when false. -/
  acquiring : Bool := false
  /-- R24: consecutive accepted edges since an acquisition or a holdover began. -/
  accepted : Nat := 0
  /-- R24: TICK_SRC_LOST has been raised in this acquisition. -/
  acqLost : Bool := false
  /-- R38: signed correction in ns (within 10 ns) that the current tick's length carries. -/
  corr : Int := 0
  /-- R25, R38: the stretch in ns that the current tick's length carries. -/
  stretch : Nat := 0
  /-- R25, R38: instant of a boundary of the grandmaster, in ns since the release of reset, as the parent's latest announcement gave it. -/
  gmPhase : Option Int := none
  /-- R27: this module was its own grandmaster, at its own period, at the latest boundary. -/
  leads : Bool := false
  /-- R30: the number that the next tick takes from the fabric. -/
  syncNumber : Option Nat := none
  /-- R28: a period announced for epoch boundary E (tick, µs). -/
  epochPeriod : Option (Nat × Nat) := none
  /-- R28: holding over at the plan's period because the fabric's differs. -/
  planHold : Bool := false
  /-- Nanoseconds from the release of reset to the current boundary. -/
  elapsed : Nat := 0
  /-- R42: payloads of the overruns of the latest boundary: unit page, tick, plan step, pass. -/
  overruns : List (Nat × Nat × Nat × Nat) := []
  /-- R32: host time at the current boundary, in ns. -/
  hostTime : Nat := 0
  /-- R563: tick of the last rising edge of TICK_OUT and its offset in that tick. -/
  tickOut : Stamp := {}
  deriving DecidableEq, Repr

/-- An open or commit-pending transaction group (R63 to R70). -/
structure TxnGroup where
  id : Nat
  /-- R63: identity of the path that opened it. -/
  owner : Nat
  pages : List Nat
  /-- R64, R70: the tick in which it opened and its timeout in ticks. -/
  opened : Nat
  timeout : Nat
  /-- R66: the commit stamp; none while the group is open. -/
  commit : Option Stamp := none
  /-- R573: nanoseconds into its tick at which it opened. -/
  openedOff : Nat := 0
  deriving DecidableEq, Repr

/-- An RWS write made outside any group, waiting for the boundary (R69). -/
structure LoneWrite where
  stamp : Stamp
  addr : Nat
  value : Word
  deriving DecidableEq, Repr

/-- Transactions and page latches (R53, R63 to R77). -/
structure TxnUnit where
  groups : List TxnGroup := []
  /-- Shadow words of pages in a group, by register address. -/
  shadow : List (Nat × Word) := []
  /-- R7, R82: words that a page of a group shows as its BEGIN found them but that only a write puts into the group: the host time, and
  registers of the fabric reached through a page other than the first. -/
  seen : List (Nat × Word) := []
  lone : List LoneWrite := []
  /-- R53: captured HI words: path, address of the HI word, value. -/
  hiCap : List (Nat × Nat × Word) := []
  /-- The word that the latest read with an effect returned: CLAIM, HCLAIM, HMEM_DATA. -/
  answer : Word := 0
  /-- R136, R235, R318, R468, R494: pages in STARTING and the instant, in ns since the release of reset, at which they entered it. -/
  started : List (Nat × Nat) := []
  /-- R75: pages whose start sequence has completed, has failed, and whose drain has completed. -/
  startDone : List Nat := []
  startFail : List Nat := []
  drainDone : List Nat := []
  /-- R75: pages whose block has reported a fault that no unit of it accounts for. -/
  blockFault : List Nat := []
  /-- R52: the register address of the latest internal access that took an access fault. -/
  accessFault : Option Nat := none
  deriving DecidableEq, Repr

/-- A queued in-band interrupt request (R101). -/
structure IbiReq where
  group : Nat
  ctl : Nat
  src : Nat
  prio : Nat
  stamp : Stamp
  deriving DecidableEq, Repr

/-- A source in service and the side that claimed it (R90 to R93). -/
structure InService where
  ctl : Nat
  src : Nat
  host : Bool
  /-- R93: its priority at the claim. -/
  prio : Nat
  deriving DecidableEq, Repr

/-- The event controllers' hidden state (R84 to R102). -/
structure EvtUnit where
  /-- Pending edge sources: (controller, source). -/
  edges : List (Nat × Nat) := []
  /-- R101: sources that were enabled and pending when requests were last considered: (controller, source). -/
  standing : List (Nat × Nat) := []
  inService : List InService := []
  /-- Request queues of I3C ports 0 and 1, oldest first. -/
  ibi0 : List IbiReq := []
  ibi1 : List IbiReq := []
  deriving DecidableEq, Repr

/-- Pin levels (R96 to R99, R557 to R566): true is high. -/
structure PinUnit where
  /-- R96 to R98: CLR_N, OPTOFF_N, TICK_IN, RESET_N and PWRGD, as the pins stand. -/
  clrN : Bool := true
  optoffN : Bool := true
  tickIn : Bool := false
  resetN : Bool := true
  pwrgd : Bool := true
  /-- FAULT_N output: false is asserted, as from any reset until boot step 1 (R561). -/
  faultN : Bool := false
  /-- REFCLK is present (R562). -/
  refclk : Bool := true
  /-- ADDR_SEL straps as sampled at reset release (R560). -/
  addrSel : Nat := 0
  deriving DecidableEq, Repr

/-- R125: plane states, encoded 0 to 4 in WELL.PLANE_STAT. -/
inductive PlaneState where
  | empty | loading | ready | active | refreshing
  deriving DecidableEq, Repr

/-- One weight plane: its state and the copy of what was written to it (R120), with what the digital side holds for its tile. -/
structure Plane where
  st : PlaneState := .empty
  /-- Codes by physical row, 0 to 129 (R114, R118). -/
  rows : List (List Int) := []
  /-- R115: residuals of the check row. -/
  rho : List Int := []
  /-- R145: row sums of the loader, and drive-domain zero points by row and sub-block. -/
  sums : List Int := []
  zd : List (List Int) := []
  /-- The pass and the K tile the plane was loaded for. -/
  pass : Nat := 0
  tile : Nat := 0
  /-- The tile or its scales came withheld or failed a seal check (R390). -/
  withheld : Bool := false
  /-- R124: symbol of its die's clock at which it became ACTIVE or was last refreshed. -/
  since : Nat := 0
  /-- R127, R337: symbol of its die's clock at which its tile's first symbol is modulated. -/
  sym0 : Nat := 0
  deriving DecidableEq, Repr

/-- A tile in weight staging (R213, R219). -/
structure StagedTile where
  queue : Nat
  tid : Nat
  /-- Block index of the seal of the first block, and byte offset of the tile in it. -/
  blk : Nat
  off : Nat
  fmt : Nat
  bytes : List Byte
  withheld : Bool
  /-- R219: a later block's seal names another TID or block index: the block index expected and received, and the TIDs. -/
  skewed : Option (Nat × Nat × Nat × Nat)
  deriving DecidableEq, Repr

/-- An item at the scale input with its pairing tag (R218): kind 0 record, 1 first-level scales, 2 row sums. -/
structure ScaleItem where
  queue : Nat
  kind : Nat
  tid : Nat
  wbits : Nat
  first : Nat
  last : Nat
  bytes : List Byte
  withheld : Bool
  deriving DecidableEq, Repr

/-- A captured failure in a die's slot (R381). -/
structure Capture where
  die : Nat
  well : Nat
  /-- 1 check row, 2 check vector, 3 residue. -/
  kind : Nat
  /-- R381: codes of the plane, the operand blocks, the pass descriptor, the row scale record, the gain, D, the symbol and the stamp of the failure. -/
  codes : List (List Int)
  blocks : List (List Int × Int)
  desc : List Byte
  record : List Byte
  gain : Nat
  d : Int
  symbol : Nat
  stamp : Stamp
  /-- 1 repeat pending, 2 kept as permanent (R382). -/
  state : Nat := 1
  /-- SEQ of the failure's record (R411). -/
  seq : Nat := 0
  /-- R382: checks enabled at the failure: bit 0 check row, 1 check vector, 2 residue. -/
  checks : Nat := 0
  /-- Stored activation blocks of 256 bytes, each with its header of 4 bytes (R381, R407); `blocks` are what was modulated from them. -/
  act : List (List Byte) := []
  /-- R382: VEC_LOG2 in force at the failure. -/
  vecLog2 : Nat := 0
  deriving DecidableEq, Repr

/-- A pass in SETUP (1), RUN (2) or EPILOGUE (3) (R160, R162). -/
structure PassRun where
  slot : Nat
  desc : List Byte
  st : Nat := 1
  /-- Tick in which it entered SETUP. -/
  tick : Nat := 0
  /-- Next K tile to modulate, and next K tile to load. -/
  tile : Nat := 0
  loaded : Nat := 0
  /-- Row scale record (R157), with its clips counted per R172 in loading. -/
  record : List Byte := []
  haveRecord : Bool := false
  /-- R169: weight format of the pass's first tile, and WBITS of its scale stream. -/
  fmt : Nat := 0
  wbits : Nat := 0
  /-- A block it read was WITHHELD or failed its seal (R44, R390), and was withheld under R42. -/
  withheld : Bool := false
  late : Bool := false
  /-- R380: a check has failed; R381: the capture to take, of the first failure in the order check row, check vector, residue. -/
  failed : Bool := false
  cap : Option Capture := none
  /-- Operand blocks of the latest modulated tile, as modulated, and as stored, each with its header; R381: the codes of its plane. -/
  blocks : List (List Int × Int) := []
  codes : List (List Int) := []
  act : List (List Byte) := []
  deriving DecidableEq, Repr

/-- QFIT window counts (R193). -/
structure QfitCounts where
  clips : Nat := 0
  samples : Nat := 0
  req : Nat := 0
  ufl : Nat := 0
  outputs : Nat := 0
  deriving DecidableEq, Repr

/-- Pilot estimator sums (R130). -/
structure PilotSums where
  sII : Int := 0
  sQQ : Int := 0
  sIQ : Int := 0
  sYI : Int := 0
  sYQ : Int := 0
  count : Nat := 0
  /-- Passes with a symbol in the window (R379): their ring slots and descriptors. -/
  passes : List (Nat × List Byte) := []
  deriving DecidableEq, Repr

/-- What a physical well holds beside its registers and pool. -/
structure Well where
  planeA : Plane := {}
  planeB : Plane := {}
  /-- Active plane: false A, true B. -/
  activeB : Bool := false
  /-- The active tile's last symbol has been modulated (R122). -/
  tileDone : Bool := true
  /-- R129: dark because a row lost LO lock. -/
  darkLo : Bool := false
  /-- R302, R304, R307: moved to another source; it computes again from the first boundary after its LO has re-locked. -/
  moved : Bool := false
  /-- R306: dark for light, with the ticks it has lasted. -/
  darkLight : Bool := false
  darkTicks : Nat := 0
  /-- Consecutive samples at or above −12.0 dBm while dark for light (R306). -/
  lightRun : Nat := 0
  /-- R523: in thermal step. -/
  darkStep : Bool := false
  /-- LO power of each receiver in 0.01 dBm; empty when no light has been sampled. -/
  rxp : List Int := []
  /-- R308: a forced handover has started since the well went dark for light. -/
  saved : Bool := false
  /-- R329: the input and column banks keep their clear codes until their next strobe. -/
  cleared : Bool := true
  /-- R213, R219: tiles in weight staging, oldest first. -/
  staged : List StagedTile := []
  /-- R213, R218: items at the scale input, oldest first. -/
  scales : List ScaleItem := []
  /-- Oldest pass first (R162). -/
  passes : List PassRun := []
  /-- R161: descriptors abandoned behind the passes in progress, for TAIL to pass over. -/
  stale : Nat := 0
  /-- R130: the pilot window under way. -/
  pilot : PilotSums := {}
  /-- Completed windows waiting for the moon (R131), oldest first. -/
  pilotDone : List PilotSums := []
  /-- R131: pilot references φ_ref and g_ref as float32 words. -/
  phiRef : Nat := 0
  gRef : Nat := 0x3F800000
  /-- R131: accumulated move of the LO heater phase targets, as a float32 word in rad. -/
  loTrim : Nat := 0
  /-- R193: counts of the QFIT window under way. -/
  qfit : QfitCounts := {}
  /-- R122: symbol of the die's clock up to which dark symbol slots are counted. -/
  acct : Nat := 0
  /-- R122: symbol of the die's clock that follows the last symbol of the tile modulated last. -/
  lastSym : Nat := 0
  /-- R379, R380: completed passes with a symbol in a pilot window under way or waiting that WITHHELD_PASSES has counted. -/
  counted : List (Nat × List Byte) := []
  /-- Boundary of the window evaluated last (R193). -/
  qfitDone : Nat := 0
  /-- R194: evaluation waits for a multiple of WIN_TICKS. -/
  qfitWait : Bool := false
  deriving DecidableEq, Repr

/-- A descriptor in a queue's engine (R199, R203). -/
structure Exec where
  slot : Nat
  desc : List Byte
  /-- Descriptors merged behind it (R209): slot and bytes. -/
  merged : List (Nat × List Byte) := []
  /-- The status it will complete with (R208); of merged descriptors, each its own. -/
  code : Nat := 1
  codes : List Nat := []
  /-- Transfers issued and acknowledged; items (tiles, scale items, items of an index list) delivered. -/
  issued : Nat := 0
  acked : Nat := 0
  items : Nat := 0
  /-- Of the tile under way: transfers issued, and its bytes. -/
  part : Nat := 0
  tileB : Nat := 0
  /-- Answers to READ_REQ messages that wait to be written to a destination other than memory (R442): tag, address, bytes,
  withheld, and the format of their seal (R388). -/
  got : List (Nat × Nat × List Byte × Bool × Nat) := []
  deriving DecidableEq, Repr

/-- A transfer in flight (R210, R211). -/
structure Transfer where
  /-- R210: its size in bytes. -/
  bytes : Nat
  /-- R575: receive buffers and the credits it holds in each. -/
  dests : List (Nat × Nat)
  /-- Destinations that it is delivered to (R217). -/
  copies : Nat := 1
  /-- R442: tags of the READ_REQ messages whose answers it waits for. -/
  tags : List Nat := []
  /-- R210: fetch credits that it holds for its source bytes. -/
  fetch : Nat := 0
  deriving DecidableEq, Repr

/-- A hardware queue's engine beside its PUMPQ page (R223). -/
structure Queue where
  exec : Option Exec := none
  /-- R221: the shadow slot: ring slot and descriptor. -/
  shadow : Option (Nat × List Byte) := none
  /-- R210, R211: transfers in flight, oldest first. -/
  inflight : List Transfer := []
  /-- R214: deficit of the round robin, in bytes. -/
  deficit : Nat := 0
  /-- R220: skew found, waiting for the transfers in flight. -/
  skew : Bool := false
  deriving DecidableEq, Repr

/-- R575: a queue's request for credits of a receive buffer; once granted, the credits are its own. -/
structure Asked where
  buffer : Nat
  queue : Nat
  credits : Nat
  granted : Bool := false
  deriving DecidableEq, Repr

/-- Pumps and barriers beside their registers. -/
structure PumpUnit where
  queues : List (Nat × Queue) := []
  /-- R214: 1 more than the queue that each pump's round robin visits, by pump. -/
  turn : List (Nat × Nat) := []
  /-- R575: credits taken from each receive buffer. -/
  taken : List (Nat × Nat) := []
  /-- R201: the timestamps of STATS records completed in the current tick, by key of their first byte, with the offset in the tick. -/
  stamped : List (Nat × Nat) := []
  /-- R575: requests for credits of receive buffers whose transfers have not started, in the order they were made. -/
  asked : List Asked := []
  /-- R189: clips and underflows that conversions to BFX48 have counted. -/
  clips : Nat := 0
  underflows : Nat := 0
  /-- R206: passes completed under each logical number. -/
  passCount : List (Nat × Nat) := []
  deriving DecidableEq, Repr

/-- The seal of one 4 KiB block (R385); `bad` says that its stored CRC does not match the stored bytes, and `late` that the block is withheld
under R42, which R488 asks for. -/
structure Seal where
  /-- R385: TID, block index, GEN, FMT, and the flags WITHHELD and DELAYED. -/
  tid : Nat := 0
  blk : Nat := 0
  gen : Nat := 0
  fmt : Nat := 0
  withheld : Bool := false
  delayed : Bool := false
  bad : Bool := false
  late : Bool := false
  deriving DecidableEq, Repr

/-- An optimiser command held by a base die (R252): its 64 bytes and whether it has run (its ERR). -/
structure OptCmd where
  words : List Byte
  done : Option Nat := none
  /-- R45: the descriptor that launched it runs in a delayed tick. -/
  delayed : Bool := false
  deriving DecidableEq, Repr

/-- Cisterns beside their registers. -/
structure CisternUnit where
  /-- Blocks held uncorrectable (R239), by block key. -/
  eccBad : List Nat := []
  /-- R252: commands of each cistern, running first. -/
  opt : List (Nat × List OptCmd) := []
  /-- R247: row-sum builds in progress, by address of the scale tensor. -/
  builds : List Nat := []
  /-- R240: blocks scrubbed in the current tick, by cistern. -/
  scrubbed : List (Nat × Nat) := []
  /-- R236: a command completes work that the cisterns have accepted; false between commands. -/
  serving : Bool := false
  /-- R230: the link port, by its die, that each cistern's round robin visits first, by 4 · cistern + class. -/
  turn : List (Nat × Nat) := []
  deriving DecidableEq, Repr

/-- Work that a plan step issues (R42, R278): the step, the tick in which it runs, whether that tick is a delayed one of its instance (R45),
and the work: a pass of a logical well, or a descriptor of a queue. -/
structure Issued where
  /-- Index of the program in section 1, and its record. -/
  prog : Nat
  record : Nat
  tick : Nat
  delayed : Bool
  /-- True for a pass; then `at_` is the logical well, else the queue. -/
  pass : Bool
  at_ : Nat
  desc : List Byte
  deriving DecidableEq, Repr

/-- A pass entry that waits to be written (R280): its work, wait kind, reference, and rebased value. -/
structure PassEntry where
  work : Issued
  kind : Nat
  ref : Nat
  val : Nat
  deriving DecidableEq, Repr

/-- A running instance of a program (R277). -/
structure Instance where
  /-- Index of its program entry in section 1. -/
  prog : Nat
  /-- Its first tick s, the record it runs or ran latest, and the calibration ticks inserted since s. -/
  start : Nat
  record : Nat := 0
  d : Nat := 0
  /-- Its record has not run yet: it started in a calibration tick. -/
  fresh : Bool := false
  /-- R279: sampled bases by (kind, reference). -/
  bases : List (Nat × Nat × Nat) := []
  /-- R283: requests of the batch, each with its first vector slot. -/
  batch : List (Nat × Nat) := []
  /-- R284: DONE_COUNT of ING_Q at which its ingest copies are complete; none once their frame slots are released. -/
  ingest : Option Nat := none
  deriving DecidableEq, Repr

/-- A waiting or batched request (R283, R478). -/
structure Request where
  id : Nat
  port : Nat
  vc : Nat
  slot : Nat
  prog : Nat
  vectors : Nat
  cls : Nat
  frameEnd : Stamp
  /-- The 64 bytes of the request descriptor (R478). -/
  desc : List Byte
  /-- R287: sequence slot in a STATEFUL program. -/
  seqSlot : Nat := 0
  deriving DecidableEq, Repr

/-- A sequence slot in use (R287). -/
structure SeqSlot where
  prog : Nat
  slot : Nat
  seq : Nat
  /-- Tick of its sequence's latest request. -/
  last : Nat
  deriving DecidableEq, Repr

/-- A collective running since its tick (R281, R447). -/
structure Coll where
  /-- Index of its entry in section 5, its tick T, and the epoch in force at T. -/
  cidx : Nat
  tick : Nat
  epoch : Nat
  /-- Fabric rank of each member of the group, by group rank; none when absent (R446). -/
  ranks : List (Option Nat)
  /-- This module's group rank; class of the contributions. -/
  own : Nat
  cls : Nat := 1
  /-- Contribution blocks for this module's shard: group rank, block, bytes, withheld. -/
  parts : List (Nat × Nat × List Byte × Bool) := []
  /-- Blocks that this module has contributed, and the digest of them by reducer (R392). -/
  sent : List Nat := []
  ownDigest : List (Nat × Nat) := []
  /-- Digests that the members sent, by group rank. -/
  digests : List (Nat × Nat) := []
  /-- Blocks received of other shards, or of a broadcast: block, bytes, withheld. -/
  results : List (Nat × List Byte × Bool) := []
  /-- Reducers whose list digest has arrived. -/
  listed : List Nat := []
  /-- R393: digest lists not yet checked, since blocks of their shard are missing: reducer, port and payload. -/
  lists : List (Nat × Nat × List Byte) := []
  /-- R42: the plan step that issued it; R45: its tick is a delayed one of that step's instance. -/
  step : Nat := 0
  delayed : Bool := false
  deriving DecidableEq, Repr

/-- An emission that waits for its channel to be free (R286, R489): its COPY on EMIT_Q, transmit port and channel, preamble. -/
structure Emission where
  work : Issued
  port : Nat
  vc : Nat
  preamble : List Byte
  deriving DecidableEq, Repr

/-- The serving firmware (R259 to R290). -/
structure PlanUnit where
  /-- Image address of the plan being checked or loaded. -/
  addr : Nat := 0
  /-- Header and tables as read at LOAD (R259). -/
  header : List Byte := []
  tensors : List (List Byte) := []
  programs : List (List Byte) := []
  colls : List (List Byte) := []
  ckpts : List (Nat × Nat × List Nat) := []
  /-- R273: START stamped in this tick, and the tick s fixed by its checks. -/
  startAt : Option Nat := none
  firstTick : Option Nat := none
  /-- R279: the counters sampled at the latest boundary, as (kind, reference, value). -/
  sampled : List (Nat × Nat × Nat) := []
  /-- R274: tick in which STOP was stamped. -/
  stopAt : Option Nat := none
  /-- R573: nanoseconds into their ticks at which START and STOP were stamped. -/
  startOff : Nat := 0
  stopOff : Nat := 0
  /-- R274: the stop comes from a fence or SAFE, not from a STOP command. -/
  stopForced : Bool := false
  /-- The RESUME bit found by START. -/
  resume : Bool := false
  /-- R277: running instances. -/
  instances : List Instance := []
  waiting : List Request := []
  requests : List Request := []
  nextReq : Nat := 0
  /-- R287: sequence slots in use. -/
  seqs : List SeqSlot := []
  /-- Recorded checkpoints: program and TICK_INDEX (R276). -/
  recorded : List (Nat × Nat) := []
  /-- Pass entries waiting for their condition (R280). -/
  entries : List PassEntry := []
  /-- Emissions of the current tick that are not written yet, in batch order. -/
  emits : List Emission := []
  /-- Work issued for recent ticks, and work that was not issued because a ring was full (R278). -/
  steps : List Issued := []
  dropped : List Issued := []
  /-- R159: plan steps whose results are all withheld: program and tick. -/
  badSteps : List (Nat × Nat) := []
  /-- R278: programs whose record for a tick is written ahead, but for what waits for its boundary: program, tick. -/
  ahead : List (Nat × Nat) := []
  /-- R277: programs whose instance ended at the latest boundary. -/
  endedNow : List Nat := []
  /-- R276: by TID of a loaded plan with checkpoints, 1 more than the tick of the latest write under that TID. -/
  written : List (Nat × Nat) := []
  /-- R281: collectives that run. -/
  collsRunning : List Coll := []
  /-- An overrun happened in the tick, for a plan step of a program (R276). -/
  overran : Bool := false
  deriving DecidableEq, Repr

/-- A handover of one region (R301 to R307). -/
structure Handover where
  region : Nat
  outgoing : Nat
  incoming : Nat
  start : Nat
  forced : Bool := false
  /-- Next line number to move; the line now out, restored at the first boundary after its lane has trained (R303). -/
  nextLine : Nat := 0
  lineOut : Option Nat := none
  /-- Wells moved, by physical Well ID. -/
  moved : List Nat := []
  deriving DecidableEq, Repr

/-- A comb source beside its page (R294 to R299). -/
structure Source where
  /-- CS of R294. -/
  cs : Nat := 0
  /-- Region fed or committed to; 7 none. -/
  region : Nat := 7
  /-- Entry into WARMING, ns since reset; and whether it is for the boot of its region. -/
  warmAt : Nat := 0
  warmBoot : Bool := false
  bias : Nat := 0
  /-- R327: the bias code before the latest strobe, and the instant of that strobe. -/
  biasWas : Nat := 0
  biasAt : Nat := 0
  /-- Latest tap powers of its 16 lines in 0.01 dBm; empty when dark. -/
  taps : List Int := []
  /-- Margins of past boundaries in the current state, newest first (R297). -/
  margins : List Int := []
  /-- R294: instant, ns since reset, of the latest sample of a line more than 0.2 dB from TARGET. -/
  offAt : Nat := 0
  /-- R314: held at a clear code above idle. -/
  heldClear : Bool := false
  /-- R313, R329: lit when OPTOFF_N or a clear darkened it. -/
  back : Bool := false
  /-- R330: warming since the end of a clear or of OPTOFF_N. -/
  relit : Bool := false
  /-- Manual triggers waiting for the next boundary (R298): prewarm, handover. -/
  cmdPrewarm : Bool := false
  cmdHandover : Bool := false
  /-- Consecutive failing monitor reads of its bias DAC (R336). -/
  monRun : Nat := 0
  /-- R318: a full sweep of read-back has passed. -/
  monSwept : Bool := false
  deriving DecidableEq, Repr

/-- Light sources and shutters. -/
structure LightUnit where
  src0 : Source := {}
  src1 : Source := {}
  src2 : Source := {}
  src3 : Source := {}
  src4 : Source := {}
  src5 : Source := {}
  /-- Source in service of regions 0 to 3 (R293); 7 none. -/
  feed : List Nat := [0, 1, 2, 3]
  handovers : List Handover := []
  /-- R300: regions for which NO_SPARE has been raised. -/
  noSpare : List Nat := []
  /-- R307: regions whose forced handover starts at the next boundary. -/
  forceNext : List Nat := []
  /-- Handovers waiting for a WARMING spare: region (R298). -/
  handWait : List Nat := []
  /-- Handovers that a clear or OPTOFF_N interrupted (R313, R314). -/
  interrupted : List Handover := []
  /-- R315: shutters closed, by port; those whose reopening waits for a boundary; those probing. -/
  closed : Nat := 0xFFFFFFFF
  reopen : List Nat := []
  probing : List Nat := []
  /-- R313: what the return from OPTOFF_N waits for: 0 nothing, 1 the sources, 2 the check of the wells. -/
  returning : Nat := 0
  /-- Wells whose line came from a source that differs from their region's feed: well, source (R302). -/
  wellSrc : List (Nat × Nat) := []
  deriving DecidableEq, Repr

/-- Clear causes and converter state (R325 to R339). -/
structure ConvUnit where
  /-- R328: clear causes in force: power-on, SYS clear, and CLR_N until its boundary. -/
  clrPower : Bool := true
  clrSoft : Bool := false
  clrPin : Bool := false
  /-- R79: a release of the SYS clear waits for its commit or boundary. -/
  release : Bool := false
  /-- Trim words away from 0: key (cluster, address), value (R339). -/
  trims : List (Nat × Nat) := []
  /-- Consecutive failing monitor reads by (well, bank, channel) key; 16 once the channel has failed (R336). -/
  monRuns : List (Nat × Nat) := []
  /-- R310, R325: heater codes in the holding registers of each well, as the latest temperature sample gave them. -/
  hold : List (Nat × List Nat) := []
  /-- R310, R325: heater codes at the outputs of each well; none while they stand at the clear code. -/
  heat : List (Nat × List Nat) := []
  /-- R327: by well, the instant of the latest heater strobe, in ns since reset, and the codes before it. -/
  heatWas : List (Nat × Nat × List Nat) := []
  /-- R129, R309: corrections of the LO loop in the latest strobe, by well, as float32 words by row. -/
  loLoop : List (Nat × List Nat) := []
  /-- R349: trims of a well's heaters in force, as float32 words, by heater (R309). -/
  heatTrim : List (Nat × List (Nat × Nat)) := []
  /-- R332: phase accumulators of the generators by bank key, and the amplitudes of LO heaters of each well (R334). -/
  acc : List (Nat × Nat) := []
  loAmp : List (Nat × List Nat) := []
  deriving DecidableEq, Repr

/-- A recalibration sequence on a well (R346 to R349). -/
structure CalSeq where
  well : Nat
  /-- Start, ns since reset. -/
  start : Nat
  /-- Tick in which it started. -/
  tick : Nat
  passes : Nat := 0
  retries : Nat := 0
  /-- 0 measuring, 1 agreed with trims staged, 2 fenced, 3 interrupted (R524). -/
  result : Nat := 0
  /-- Rows found weak at agreement (R350). -/
  weak : List Nat := []
  /-- The latest pass (R347): gain and phase quantities, and the error terms of R371. -/
  gains : List Int := []
  phases : List Int := []
  sigma : List Nat := []
  /-- Staged: NOISE_g words; φ_ref and g_ref as float32 words; trim words by trim address; heater trims as float32 words. -/
  noise : List Nat := []
  phi : Nat := 0
  g : Nat := 0x3F800000
  trims : List (Nat × Int) := []
  heat : List (Nat × Nat) := []
  /-- Runs with a stand-in; else without (R353). -/
  standin : Bool := false
  /-- Part of a return (R401). -/
  forReturn : Bool := false
  deriving DecidableEq, Repr

/-- A relief well standing in, or preparing to (R356 to R362). -/
structure StandIn where
  logical : Nat
  orig : Nat
  relief : Nat
  /-- Tick of its preparation; it carries the number from the next boundary. -/
  prep : Nat
  /-- 1 replacement of a fenced well, 2 recalibration, 3 field test, 4 repeat, 5 recalibration of a handover. -/
  kind : Nat
  /-- Logical number at or beyond REQ_WELLS that the relief well carries otherwise (R275); unmapped while it stands in (log entry 33). -/
  own : Option Nat := none
  begun : Bool := false
  /-- Blocks copied in the preparation tick (R357). -/
  copied : Bool := false
  /-- R17: tick in which its slot began. -/
  began : Nat := 0
  deriving DecidableEq, Repr

/-- Calibration data of a well (R349 to R351, R366). -/
structure WellCal where
  /-- t_c as tick number and as ns since reset. -/
  tick : Nat := 0
  ns : Nat := 0
  /-- R366: recalibrations applied, host time of the last, and retries of the last sequence. -/
  count : Nat := 0
  host : Nat := 0
  retries : Nat := 0
  /-- Row of the field record; none when no row is recorded (R350). -/
  weakRow : Option Nat := none
  /-- Due at once: WELL_NOW, pilot failures, heater clamps and the like. -/
  dueNow : Bool := false
  /-- The boundary from which it has been due at once. -/
  dueTick : Nat := 0
  /-- R301: due tick of a handover demand. -/
  handDue : Option Nat := none
  eligible : Bool := false
  overdue : Bool := false
  /-- R379: a pilot failure made the recalibration due, and the next window decides. -/
  pilotWatch : Bool := false
  pilotArmed : Bool := false
  deriving DecidableEq, Repr

/-- Recalibration records of a lane or a comb source (R364 to R366). -/
structure CalRec where
  count : Nat := 0
  host : Nat := 0
  consec : Nat := 0
  rejects : Nat := 0
  /-- Lines whose last result was implausible, as a bit mask. -/
  linesRej : Nat := 0
  /-- Tick of the last start, and a request to run now. -/
  last : Nat := 0
  now : Bool := false
  /-- Out for measurement; measured and waiting to be restored. -/
  out : Bool := false
  measured : Bool := false
  /-- R365: tap-monitor gain corrections of the lines in force, in 0.01 dB, and those that apply at the next boundary. -/
  corr : List Int := []
  staged : List Int := []
  /-- R365: frequency trims of the lines in force, in MHz, and those that apply at the next boundary. -/
  freq : List Int := []
  stagedFreq : List Int := []
  /-- R363, R364: a lane's values: transmit bias, level spacing, three thresholds, equaliser gain, skew; none before its first accepted result. -/
  values : List Int := []
  deriving DecidableEq, Repr

/-- Calibration and relief (R15 to R18, R343 to R366). -/
structure CalUnit where
  /-- Logical-to-physical map of the current tick, 1023 for a number that no well carries; empty before the boot map. -/
  map : List Nat := []
  /-- R198: maps of past ticks, newest first: the last tick in which each was in force, and the map. -/
  past : List (Nat × List Nat) := []
  /-- R349 to R351: calibration data by well. -/
  wells : List (Nat × WellCal) := []
  /-- R346: recalibration sequences under way. -/
  seqs : List CalSeq := []
  /-- R356 to R362: relief wells standing in, or preparing to. -/
  standins : List StandIn := []
  /-- R363 to R366: records by 16 · port + lane, and by comb source. -/
  lanes : List (Nat × CalRec) := []
  combs : List (Nat × CalRec) := []
  /-- R18, R354: a calibration tick is running; ticks it still lasts; and whether the next tick begins one. -/
  calTick : Nat := 0
  calNext : Bool := false
  /-- R363: by port, the lane that the next turn begins to look at; 0 when unlisted. -/
  laneNext : List (Nat × Nat) := []
  deriving DecidableEq, Repr

/-- Integrity state (R380 to R384). -/
structure IntegUnit where
  captures : List Capture := []
  /-- R384: stamps' ticks of transients by well. -/
  transients : List (Nat × Nat) := []
  deriving DecidableEq, Repr

/-- Field tests and fencing of a physical well (R399 to R405). -/
structure FtRec where
  /-- R403: tick of its last test. -/
  tick : Nat := 0
  /-- R403, R421: field tests run, and the host time of the last. -/
  count : Nat := 0
  host : Nat := 0
  /-- FT_STAT.LAST of R421. -/
  last : Nat := 0
  /-- R399: fence cause in force; 0 when not fenced. -/
  cause : Nat := 0
  /-- R399: tick of the fence in force; R401: returns so far. -/
  fenceTick : Nat := 0
  returns : Nat := 0
  /-- R403: a test may run; one is asked for at once. -/
  eligible : Bool := false
  dueNow : Bool := false
  /-- R16: tick from which a test asked for at once is due; 0 until its first boundary. -/
  dueTick : Nat := 0
  /-- R402: excluded from mapping until the next power-on. -/
  excluded : Bool := false
  /-- R401: a return is asked for. -/
  returnDemand : Bool := false
  /-- R350: a WEAK_ROW fence that may return, once; a later recalibration that found weak rows bars every return. -/
  weakReturn : Bool := false
  barred : Bool := false
  /-- R410: a PERMANENT fence found suspect. -/
  suspect : Bool := false
  /-- Instant, ns since reset, since which the return condition of LIGHT has held, and whether it has brought its return demand. -/
  okSince : Option Nat := none
  asked : Bool := false
  /-- R405: index of the next fleet pattern. -/
  nextFleet : Nat := 0
  deriving DecidableEq, Repr

/-- A slot running on a well: 1 session, 2 return session, 3 repeat (R382, R401, R404). -/
structure Session where
  well : Nat
  kind : Nat
  start : Nat
  tick : Nat
  /-- Its verdict is in; it passed; it was interrupted. -/
  done : Bool := false
  passed : Bool := false
  cut : Bool := false
  /-- Fleet package index limit at its start (R408). -/
  package : List Byte := []
  deriving DecidableEq, Repr

/-- A queued comet record (R413, R414). -/
structure Comet where
  /-- R411, R413: its sequence number, severity and bytes. -/
  seq : Nat
  severity : Nat
  bytes : List Byte
  deriving DecidableEq, Repr

/-- Faults, field tests and safety (R398 to R423). -/
structure FaultUnit where
  /-- R400: fences waiting for the next boundary: well, cause, SEQ of the causing record. -/
  fences : List (Nat × Nat × Nat) := []
  /-- R399 to R405: records of field tests and fencing, by well. -/
  ft : List (Nat × FtRec) := []
  /-- R404: slots running. -/
  sessions : List Session := []
  /-- R409: local patterns: die and pattern, oldest first. -/
  local_ : List (Nat × List Byte) := []
  /-- R410: captures waiting for another well of the die: fenced well and pattern. -/
  xcheck : List (Nat × List Byte) := []
  /-- R414: the comet ring, oldest first, and the last record sequence number. -/
  ring : List Comet := []
  seq : Nat := 0
  /-- R418: edge inputs whose reaction entered SAFE. -/
  safeEdges : List Nat := []
  /-- R417: die and tick of planet-pair events. -/
  dieEvents : List (Nat × Nat) := []
  /-- R418: instant since which the service planets miss their watchdog. -/
  svcMiss : Option Nat := none
  /-- R416: SAFE was entered for a cause that only a reset leaves. -/
  safeHard : Bool := false
  /-- R408: a package being written, active from the next boundary. -/
  fleetNext : List Byte := []
  deriving DecidableEq, Repr

/-- A frame in a transmitter: its class (3 control), sequence number, times sent, and message (R433 to R437). -/
structure TxFrame where
  seq : Nat
  sends : Nat := 1
  msg : Msg
  /-- R427: number of its first unit in the stripe epoch in which it was sent last. -/
  first : Nat := 0
  deriving DecidableEq, Repr

/-- What a neighbour announced last (R454): identity, FABRIC_ID, EN, far port, candidate, level, epoch, route distances by rank. -/
structure Heard where
  ann : Announce
  tick : Nat
  deriving DecidableEq, Repr

/-- A Holade port beside its page (R424 to R440). -/
structure Port where
  /-- Next sequence number expected and whether frames are discarded until it arrives: data, control, class 0. -/
  rxD : Nat := 0
  rxC : Nat := 0
  rx0 : Nat := 0
  /-- A NAK is owed: data, control. -/
  nakD : Bool := false
  nakC : Bool := false
  /-- Next sequence number to send in each space. -/
  txD : Nat := 0
  txC : Nat := 0
  tx0 : Nat := 0
  /-- Frames waiting for credits or an UP link, oldest first. -/
  waiting : List Msg := []
  /-- Replay buffers of the data and the control space, oldest first (R437). -/
  replayD : List TxFrame := []
  replayC : List TxFrame := []
  /-- Units of the far end's receive buffer taken by classes 0, 1, 2 and control (R439). -/
  used : List Nat := [0, 0, 0, 0]
  /-- R452: of the latest 63 frames sent, newest first, which were control frames. -/
  recent : List Bool := []
  /-- R426, R427: stripe epoch modulo 16, and the units sent in it. -/
  stripe : Nat := 0
  units : Nat := 0
  /-- Lanes trained and released, waiting for a boundary; lanes that leave at the next boundary; lanes that lost lock. -/
  trained : List Nat := []
  drops : List Nat := []
  lost : List Nat := []
  /-- R429: training failures in a row by lane. -/
  fails : List (Nat × Nat) := []
  /-- R431: lanes with an uncorrectable codeword in the tick; corrected symbols of each lane. -/
  uncorr : List Nat := []
  corr : List (Nat × Nat) := []
  /-- R454: what the neighbour announced last. -/
  heard : Option Heard := none
  /-- R462: DELAY_REQ under way (send instant, 1/16 ns) and the measured one-way delay, in 1/16 ns. -/
  delayReq : Option Nat := none
  delay : Int := 0
  /-- R463: tick of the latest TICK_SYNC announcement. -/
  syncTick : Nat := 0
  /-- R50: class-0 units sent in the tick. -/
  c0Units : Nat := 0
  deriving DecidableEq, Repr

/-- A scheduled epoch (R457): number, tick E, period in µs, joins and leaves. -/
structure Epoch where
  number : Nat
  tick : Nat
  period : Nat
  joins : List (Nat × Nat)
  leaves : List Nat
  deriving DecidableEq, Repr

/-- A READ_REQ under way (R442): its tag, the queue and descriptor that asked, and the offset and length of its part. -/
structure PendingRead where
  tag : Nat
  queue : Nat
  desc : List Byte
  off : Nat
  len : Nat
  /-- The port that it left by. -/
  port : Nat
  deriving DecidableEq, Repr

/-- The Holade fabric (R424 to R469). -/
structure FabricUnit where
  ports : List (Nat × Port) := []
  /-- R456: member table, rank and identity, and ranks freed with the epoch that freed them. -/
  members : List (Nat × Nat) := []
  freed : List (Nat × Nat) := []
  /-- R457: epochs announced and not yet applied; as grandmaster, joins and leaves asked for. -/
  epochs : List Epoch := []
  wantJoin : List Nat := []
  wantLeave : List Nat := []
  /-- A link's report that an epoch is due for (R460), and a JOIN sent and not yet answered (R456). -/
  report : Bool := false
  joinSent : Bool := false
  /-- R457: tick of the latest epoch boundary, and the epoch before it. -/
  lastEpochTick : Nat := 0
  prevEpoch : Nat := 0
  /-- R455: grandmaster candidate in force, as identity; R459: own level. -/
  gm : Option Nat := none
  level : Nat := 0
  /-- R459: rank, route length, and ports of its route set, in force and computed for the next epoch. -/
  routes : List (Nat × Nat × List Nat) := []
  nextRoutes : List (Nat × Nat × List Nat) := []
  /-- R446: group number and member identities. -/
  groups : List (Nat × List Nat) := []
  /-- R446: the group table is read again at the next boundary. -/
  reload : Bool := false
  /-- R450: control messages sent; last CSEQ applied by sender; STOPs by sender with masks; fenced peers. -/
  cseq : Nat := 0
  seen : List (Nat × Nat) := []
  stops : List (Nat × Nat) := []
  fences : List Nat := []
  /-- Messages of this module that STOPs hold (R451), oldest first. -/
  held : List Msg := []
  /-- R451: exclusions this module asks the grandmaster for. -/
  exclude : List Nat := []
  /-- R442: READ_REQ messages under way. -/
  reads : List PendingRead := []
  /-- Collective messages of a tick that has not begun here (R35, R36): port and message. -/
  early : List (Nat × Msg) := []
  /-- R442: tag of the next READ_REQ. -/
  nextTag : Nat := 0
  deriving DecidableEq, Repr

/-- A frame in a receive slot (R473 to R484), or a dropped one whose packets are still arriving. -/
structure RxFrame where
  port : Nat
  vc : Nat
  slot : Nat
  /-- KIND of its channel (R472): 0 tensor, 1 raw, 2 load. -/
  kind : Nat
  dropped : Bool := false
  start : Stamp
  ended : Option Stamp := none
  number : Nat := 0
  /-- Packets taken so far in the order of R478 or R482: 0 Frame Start, 1 request descriptor or load header, 2 tensor header,
  3 payload. -/
  stage : Nat := 0
  desc : List Byte := []
  /-- The request descriptor or load header arrived with a good CRC. -/
  descOk : Bool := false
  thdr : List Byte := []
  payload : List Byte := []
  /-- R480: header words of the 256-byte blocks. -/
  headers : List Nat := []
  err : Nat := 0
  /-- R481: data type of the first line, and lines taken. -/
  rawType : Nat := 0
  lines : Nat := 0
  /-- R483: the load was refused. -/
  refused : Bool := false
  /-- R483: bytes of a load received and written. R484: bytes of payload received, stored or not. -/
  taken : Nat := 0
  /-- R475: a release waits for the transfers from the slot in flight. -/
  release : Bool := false
  deriving DecidableEq, Repr

/-- A transmit frame under assembly (R485, R486). -/
structure Assembly where
  vc : Nat
  kind : Nat
  desc : List Byte
  thdr : List Byte
  length : Nat
  /-- Payload written so far: offset and bytes, oldest first. -/
  parts : List (Nat × List Byte) := []
  withheld : Bool := false
  overrun : Bool := false
  deriving DecidableEq, Repr

/-- A transmit frame complete and waiting, or being sent (R488, R489). -/
structure OutFrame where
  vc : Nat
  kind : Nat
  desc : List Byte
  thdr : List Byte
  payload : List Byte
  /-- Tick in which it was completed. -/
  tick : Nat
  /-- Frame number, once sending has begun. -/
  number : Nat := 0
  deriving DecidableEq, Repr

/-- A transmit frame port. -/
structure TxPort where
  assembling : List Assembly := []
  ready : List OutFrame := []
  sending : Option OutFrame := none
  /-- Next frame number by channel (R488). -/
  numbers : List (Nat × Nat) := []
  deriving DecidableEq, Repr

/-- CSI-2 frame ports (R470 to R494). -/
structure FrameUnit where
  rx : List RxFrame := []
  tx : List (Nat × TxPort) := []
  deriving DecidableEq, Repr

/-- An I3C target port beside its registers (R495 to R509). -/
structure I3cPort where
  /-- R504: the response to the last command: STATUS, DONE, captured words; none since reset. -/
  status : Nat := 7
  done : Nat := 0
  words : List Word := []
  /-- R505: instant (ns since reset) from which the response is ready. -/
  ready : Nat := 0
  /-- R502: protocol error since the last GETSTATUS. -/
  perr : Bool := false
  /-- R501: maximum IBI payload. -/
  ibiMax : Nat := 17
  /-- R499: instant at which the peripheral became ready, and whether its Hot-Join has been sent. -/
  readyAt : Nat := 0
  hotJoined : Bool := false
  /-- R501: RSTACT action in force: 1 resets the port's peripheral, 0 none (log entry 41). -/
  rstact : Nat := 1
  /-- R509: start address S of the host memory window. -/
  winStart : Nat := 0
  /-- What the port answered to the latest transfer that reads from it: its bytes; none when it did not acknowledge. -/
  reply : Option (List Byte) := none
  deriving DecidableEq, Repr

structure I3cUnit where
  port0 : I3cPort := {}
  port1 : I3cPort := {}
  deriving DecidableEq, Repr

/-- A temperature sensor (R513 to R517), readings in 0.01 °C. -/
structure Sensor where
  t : Int := 0
  seen : Bool := false
  broken : Bool := false
  /-- 0 none, 1 open, 2 short, 3 implausible, 4 neighbour. -/
  cause : Nat := 0
  /-- Consecutive samples meeting each condition of R516: open, short, implausible, neighbour. -/
  runs : List Nat := [0, 0, 0, 0]
  /-- Since when a broken sensor reads without any condition. -/
  cleanSince : Option Nat := none
  /-- R522: consecutive samples at or above CRIT_C. -/
  crit : Nat := 0
  /-- Instant of the latest sample, ns since reset, and the samples of the last 100 µs and the one before them, newest first. -/
  at_ : Nat := 0
  hist : List (Nat × Int) := []
  deriving DecidableEq, Repr

/-- A sampled group: 0 to 3 well dies, 4 to 15 cisterns, 16 the hub die (R515, R518, R520). -/
structure ThermGroup where
  level : Nat := 0
  /-- Since when the reading is above THROTTLE_C (the rise timer), and below the hysteresis (the relax timer). -/
  above : Option Nat := none
  below : Option Nat := none
  warned : Bool := false
  /-- R515: sampling fast, and the latest instant of a fast-rate condition. -/
  fast : Bool := false
  fastAt : Nat := 0
  deriving DecidableEq, Repr

/-- Temperature, throttling, rails and power (R513 to R533). -/
structure ThermUnit where
  /-- R522: thermal shutdown, and since when every sensor reads below 80 °C. -/
  shutdown : Bool := false
  coolSince : Option Nat := none
  sensors : List (Nat × Sensor) := []
  groups : List (Nat × ThermGroup) := []
  /-- R127, R128: symbol clock of each well die: quarter symbols counted up to an instant in ns since reset, and that instant. -/
  clock : List (Nat × Nat × Nat) := []
  /-- T_w history by well: instant and 0.01 °C, newest first: the last 100 µs and the one before them. -/
  hist : List (Nat × List (Nat × Int)) := []
  /-- R523: consecutive calm samples of wells in thermal step. -/
  calm : List (Nat × Nat) := []
  /-- R527: rail and the instant since which it is outside ±5 %, or above its peak current. -/
  railOut : List (Nat × Nat) := []
  railOver : List (Nat × Nat) := []
  /-- Module power samples over 10 ms: instant and 0.1 mW, newest first. -/
  power : List (Nat × Nat) := []
  /-- Energy below one millijoule, in 10⁻¹³ J. -/
  energyRest : Nat := 0
  /-- R529: since when the average has been below 95 % of the cap. -/
  capBelow : Option Nat := none
  deriving DecidableEq, Repr

/-- A firmware slot of flash (R536, R538): its bytes, whether they verify under R539 but for SVN, and their header fields. -/
structure FwSlot where
  bytes : List Byte := []
  /-- The slot holds a whole image that R539 verified when it was written. -/
  ok : Bool := true
  version : Nat := 0
  svn : Nat := 0
  raiseSvn : Bool := false
  deriving DecidableEq, Repr

/-- What flash keeps over every reset (R343, R536, R537). -/
structure Flash where
  serial : Nat := 0
  slotA : FwSlot := {}
  slotB : FwSlot := {}
  /-- The boot record: ACTIVE (0 A, 1 B), the trial, MIN_SVN, FABRIC_AUTO. -/
  active : Nat := 0
  trial : Option Nat := none
  minSvn : Nat := 0
  fabricAuto : Bool := true
  /-- R554: owner key pair (empty: none) and owner sequence. -/
  ownerKey : List Byte := []
  ownerSeq : Nat := 0
  /-- Calibration image: wells that are not good, and factory spared rows by well. -/
  badWells : List Nat := []
  spare : List (Nat × Nat) := []
  /-- Field records: weak rows by well (R350), and the persistent source record (R293): source of each region and FAILED sources. -/
  weakRows : List (Nat × List Nat) := []
  feed : List Nat := [0, 1, 2, 3]
  failed : List Nat := []
  /-- R293: RETIRED sources. -/
  retired : List Nat := []
  /-- Persistent log: fences (R402) by well and cause, and error records (R414). -/
  fenceLog : List (Nat × Nat) := []
  log : List (List Byte) := []
  /-- R408: the active fleet package. -/
  fleet : List Byte := []
  /-- Boots since manufacture, modulo 2^32 (BOOT.BOOT_COUNT). -/
  bootCount : Nat := 0
  deriving DecidableEq, Repr

/-- Reset, boot and security (R534 to R556). -/
structure BootUnit where
  /-- R561: reset is held. -/
  held : Bool := false
  /-- The boot sequence has begun since the release of reset. -/
  begun : Bool := false
  /-- R545, R546: boot has ended; BOOT_LATE has been raised. -/
  ended : Bool := false
  late : Bool := false
  /-- What flash keeps. -/
  flash : Flash := {}
  /-- R547: an image being written: its bytes. -/
  writing : Option (List Byte) := none
  /-- R552: nonce being served; the latest evidence record. -/
  nonce : Option (List Byte) := none
  evidence : List Byte := []
  /-- R553: SHA-384 of the loaded plan image outside section 7; empty for none. -/
  planDigest : List Byte := []
  deriving DecidableEq, Repr

/-- The module (R10): registers, memory, and one record per unit. -/
structure State where
  /-- Register words away from their reset value, by 32-bit register address (R51, R54). -/
  regs : List (Nat × Word) := []
  /-- Bytes away from zero, by physical key: cistern block storage, well pools, die reservoirs and hub SRAM (R197, R235, R387). -/
  mem : List (Nat × Byte) := []
  /-- Seals away from the reset seal, by block key (R385, R387). -/
  seals : List (Nat × Seal) := []
  /-- The time base. -/
  tick : TickUnit := {}
  /-- Transactions and page latches. -/
  txn : TxnUnit := {}
  /-- Event controllers and in-band interrupt queues. -/
  evt : EvtUnit := {}
  /-- Pin levels. -/
  pins : PinUnit := {}
  /-- Physical wells away from their reset contents, by Well ID. -/
  wells : List (Nat × Well) := []
  /-- Pumps, queues and barriers. -/
  pump : PumpUnit := {}
  /-- Cisterns. -/
  cist : CisternUnit := {}
  /-- The serving firmware. -/
  plan : PlanUnit := {}
  /-- Comb sources and shutters. -/
  light : LightUnit := {}
  /-- Converter banks. -/
  conv : ConvUnit := {}
  /-- Calibration and relief. -/
  cal : CalUnit := {}
  /-- Captures and transients. -/
  integ : IntegUnit := {}
  /-- Fences, field tests, records and safety. -/
  fault : FaultUnit := {}
  /-- Holade ports and fabric membership. -/
  fabric : FabricUnit := {}
  /-- CSI-2 frame ports. -/
  frames : FrameUnit := {}
  /-- I3C target ports. -/
  i3c : I3cUnit := {}
  /-- Temperature and throttling. -/
  therm : ThermUnit := {}
  /-- Reset, boot and flash. -/
  boot : BootUnit := {}
  /-- Commands waiting, first in, first out. -/
  pending : List Instr := []
  /-- The model's own field: how many free values have been drawn. No statement rests on its value. -/
  free : Nat := 0
  deriving DecidableEq, Repr

/-- Faults: none. No command of the spec stops the module. -/
inductive Fault where
  /-- Kept so that the type is closed: no meaning raises it; safe. -/
  | unused
  deriving DecidableEq, Repr

/-- Refusals of the model. -/
inductive Refusal where
  /-- The named command has no meaning in the model yet; raised by the dispatch only; safe. -/
  | notModelled (mnemonic : String)
  deriving DecidableEq, Repr

/-- The module right after the release of power-on reset (R30, R534, R535, R561): registers at their reset values with RESET_CAUSE reading
POWER_ON, memory with nothing listed, tick 0, the clear codes of power-on in force and FAULT_N low; the boot sequence has not begun. Flash
and pins hold what log entries 3, 4 and 5 name. -/
def State.reset : State := { regs := [(0x05C, 1)] }

end Sys2Proof.Machine
end

