-- ==== Sys2Proof/Machine/Ops.lean ====
section
/-! DEFINITION. The named operations on the state: the register file with its pages and fields (R51 to R57), counters, page
events (R56), time (R30 to R33), and the per-unit tables. -/

namespace Sys2Proof.Machine

/-! ### Pages (R54) -/

def pgSYS : Nat := 0x00000
def pgTICK : Nat := 0x00001
def pgEVT : Nat := 0x00002
def pgFrameIn (p : Nat) : Nat := 0x00010 + p
def pgFrameOut (p : Nat) : Nat := 0x00018 + p
def pgHport (p : Nat) : Nat := 0x00020 + p
def pgCistern (c : Nat) : Nat := 0x00040 + c
def pgComb (c : Nat) : Nat := 0x00050 + c
def pgTHERM : Nat := 0x00060
def pgPWR : Nat := 0x00061
def pgCAL : Nat := 0x00062
def pgINTEG : Nat := 0x00063
def pgTEST : Nat := 0x00064
def pgSEC : Nat := 0x00065
def pgBOOT : Nat := 0x00066
def pgWdie (d : Nat) : Nat := 0x00070 + d
def pgCluster (c : Nat) : Nat := 0x00080 + c
def pgWell (w : Nat) : Nat := 0x00100 + w
def pgPumpq (q : Nat) : Nat := 0x01000 + q

/-- R54: kind, first index and count of the range a page index lies in. -/
def pageRange (pg : Nat) : Option (PageKind × Nat × Nat) :=
  let t : List (PageKind × Nat × Nat) :=
    [(.sys, 0, 1), (.tick, 1, 1), (.evt, 2, 1), (.frameIn, 0x10, 8), (.frameOut, 0x18, 8), (.hport, 0x20, 32),
     (.cistern, 0x40, 12), (.comb, 0x50, 6), (.therm, 0x60, 1), (.pwr, 0x61, 1), (.cal, 0x62, 1), (.integ, 0x63, 1),
     (.test, 0x64, 1), (.sec, 0x65, 1), (.boot, 0x66, 1), (.wdie, 0x70, 4), (.cluster, 0x80, 52), (.well, 0x100, 832),
     (.pumpq, 0x1000, 4096)]
  t.find? fun e => decide (e.2.1 ≤ pg ∧ pg < e.2.1 + e.2.2)

def pageKind (pg : Nat) : Option PageKind := (pageRange pg).map (·.1)

/-- R54: type codes. -/
def PageKind.code : PageKind → Nat
  | .sys => 0x0001 | .tick => 0x0002 | .evt => 0x0003 | .frameIn => 0x0010 | .frameOut => 0x0011 | .hport => 0x0020
  | .cistern => 0x0040 | .comb => 0x0050 | .therm => 0x0060 | .pwr => 0x0061 | .cal => 0x0062 | .integ => 0x0063
  | .test => 0x0064 | .sec => 0x0065 | .boot => 0x0066 | .wdie => 0x0070 | .cluster => 0x0080 | .well => 0x0100
  | .pumpq => 0x1000

/-- R55: SYS, TICK, EVT, THERM, PWR, SEC and BOOT are always on. -/
def PageKind.alwaysOn : PageKind → Bool
  | .sys | .tick | .evt | .therm | .pwr | .sec | .boot => true
  | _ => false

/-- Every page index of R54. -/
def allPages : List Nat :=
  [0, 1, 2] ++ (List.range 8).map pgFrameIn ++ (List.range 8).map pgFrameOut ++ (List.range 32).map pgHport ++
  (List.range 12).map pgCistern ++ (List.range 6).map pgComb ++ (List.range 7).map (0x60 + ·) ++ (List.range 4).map pgWdie ++
  (List.range 52).map pgCluster ++ (List.range 832).map pgWell ++ (List.range 4096).map pgPumpq

/-- The registers that are module-wide (R316, R466) live on the first page of their block. -/
def canonReg (pg off : Nat) : Nat × Nat :=
  if 0x50 ≤ pg ∧ pg < 0x56 ∧ 0x100 ≤ off ∧ off ≤ 0x108 then (0x50, off)
  else if 0x20 ≤ pg ∧ pg < 0x40 ∧ 0x400 ≤ off then (0x20, off)
  else (pg, off)

/-- R51: address of a register. -/
def regAddr (pg off : Nat) : Nat :=
  let c := canonReg pg off
  c.1 * 0x1000 + c.2

/-- Fields of a page whose register sits at an offset, with the instance index. -/
def fieldsAt (k : PageKind) (off : Nat) : List (Field × Nat) :=
  (fieldsOfHDR ++ k.fields).filterMap fun f => (f.indexAt off).map fun i => (f, i)

/-- Reset word of a register (R55 and the page tables). -/
def resetWord (addr : Nat) : Word :=
  let pg := addr / 0x1000
  let off := addr % 0x1000
  match pageRange pg with
  | none => 0
  | some (k, base, _) =>
    if off = 0x000 then BitVec.ofNat 32 (k.code * 2 ^ 16 + (pg - base))
    else if off = 0x008 then BitVec.ofNat 32 (b2n k.alwaysOn)
    else if off = 0x00C then (if k.alwaysOn then 2 else 0)
    else BitVec.ofNat 32 ((fieldsAt k off).foldl (fun a f => a + f.1.reset <<< f.1.lsb) 0)

namespace State

/-- Stored word of a register. -/
def word (s : State) (addr : Nat) : Word := sparseGet resetWord s.regs addr

/-- The state with a register word stored. -/
def setWord (s : State) (addr : Nat) (w : Word) : State := { s with regs := sparsePut resetWord s.regs addr w }

/-- Value of a field of a page, instance `i` of its row. -/
def rd (s : State) (pg : Nat) (f : Field) (i : Nat := 0) : Nat :=
  bits (s.word (regAddr pg (f.at i))).toNat f.lsb f.width

/-- The state with a field of a page written. -/
def wr (s : State) (pg : Nat) (f : Field) (v : Nat) (i : Nat := 0) : State :=
  let a := regAddr pg (f.at i)
  s.setWord a (BitVec.ofNat 32 (setBits (s.word a).toNat f.lsb f.width v))

/-- One bit of a field. -/
def rdBit (s : State) (pg : Nat) (f : Field) (b : Nat) : Bool := bitAt (s.rd pg f) b

/-- The state with one bit of a field set or cleared. -/
def wrBit (s : State) (pg : Nat) (f : Field) (b : Nat) (v : Bool) : State :=
  s.wr pg f (setBits (s.rd pg f) b 1 (b2n v))

/-- A field of one bit as a Bool. -/
def flag (s : State) (pg : Nat) (f : Field) (i : Nat := 0) : Bool := s.rd pg f i == 1

/-- Add to a saturating counter. -/
def bump (s : State) (pg : Nat) (f : Field) (n : Nat := 1) (i : Nat := 0) : State :=
  s.wr pg f (satAdd f.width (s.rd pg f i) n) i

/-- Add to a wrapping counter. -/
def bumpWrap (s : State) (pg : Nat) (f : Field) (n : Nat := 1) (i : Nat := 0) : State :=
  s.wr pg f (s.rd pg f i + n) i

/-- Value of a LO/HI pair (R53); the HI word follows the LO word. -/
def rd64 (s : State) (pg : Nat) (lo : Field) (i : Nat := 0) : Nat :=
  (s.word (regAddr pg (lo.at i))).toNat + 2 ^ 32 * (s.word (regAddr pg (lo.at i + 4))).toNat

/-- The state with a LO/HI pair written. -/
def wr64 (s : State) (pg : Nat) (lo : Field) (v : Nat) (i : Nat := 0) : State :=
  (s.setWord (regAddr pg (lo.at i)) (BitVec.ofNat 32 v)).setWord (regAddr pg (lo.at i + 4)) (BitVec.ofNat 32 (v / 2 ^ 32))

/-- Add to a 64-bit counter that saturates (R165) or wraps. -/
def bump64 (s : State) (pg : Nat) (lo : Field) (n : Nat) (i : Nat := 0) : State :=
  s.wr64 pg lo (satAdd 64 (s.rd64 pg lo i) n) i

/-- A 48-bit address held as LO and HI fields, the LO field in place. -/
def rdAddr (s : State) (pg : Nat) (lo : Field) : Nat :=
  let w := (s.word (regAddr pg lo.off)).toNat
  (w >>> lo.lsb) <<< lo.lsb + 2 ^ 32 * bits (s.word (regAddr pg (lo.off + 4))).toNat 0 16

/-- Set EVT_RAW bit `b` of a page (R55, R56). -/
def raise (s : State) (pg b : Nat) : State := s.wrBit pg Reg.HDR.EVT_RAW b true

/-- STATE.ST of a page (R55). -/
def st (s : State) (pg : Nat) : Nat := s.rd pg Reg.HDR.STATE_ST

/-- A page is ON. -/
def isOn (s : State) (pg : Nat) : Bool := s.st pg == 2

/-- R56, R57: change STATE.ST, raising STATE_CHANGE when it changes. -/
def setSt (s : State) (pg v : Nat) : State :=
  if s.st pg = v then s else (s.wr pg Reg.HDR.STATE_ST v).raise pg 0

/-- R223: a page's engine runs while the page is ON or STOPPING. -/
def runs (s : State) (pg : Nat) : Bool := s.st pg == 2 || s.st pg == 3

/-! ### Time -/

/-- The instant of the command being executed (R31). -/
def now (s : State) : Stamp := ⟨s.tick.number, s.tick.off⟩

/-- Nanoseconds since the release of reset. -/
def ns (s : State) : Nat := s.tick.elapsed + s.tick.off

/-- Host time now (R32): 0 until the host has set it. -/
def hostNow (s : State) : Nat := if s.flag pgTICK Reg.TICK.HOST_TIME_VALID_SET then s.tick.hostTime + s.tick.off else 0

/-- R33, R366: host time at the boundary that began the tick; 0 while it is not valid. -/
def hostAtTick (s : State) : Nat := if s.flag pgTICK Reg.TICK.HOST_TIME_VALID_SET then s.tick.hostTime else 0

/-- Time advances to the stamp of a command; it never runs back. -/
def advance (s : State) (at_ : Nat) : State := { s with tick := { s.tick with off := max s.tick.off at_ } }

/-- R31: the 12 bytes of a timestamp. -/
def stampBytes (t : Stamp) : List Byte := bytesOf 8 t.tick ++ bytesOf 4 t.off

/-! ### Per-unit tables -/

def well (s : State) (w : Nat) : Well := sparseGet (fun _ => {}) s.wells w

def setWell (s : State) (w : Nat) (x : Well) : State := { s with wells := sparsePut (fun _ => {}) s.wells w x }

def onWell (s : State) (w : Nat) (f : Well → Well) : State := s.setWell w (f (s.well w))

def queue (s : State) (q : Nat) : Queue := sparseGet (fun _ => {}) s.pump.queues q

def setQueue (s : State) (q : Nat) (x : Queue) : State :=
  { s with pump := { s.pump with queues := sparsePut (fun _ => {}) s.pump.queues q x } }

/-- Field-test record of a well. -/
def ftRec (s : State) (w : Nat) : FtRec := sparseGet (fun _ => {}) s.fault.ft w

def onFt (s : State) (w : Nat) (f : FtRec → FtRec) : State :=
  { s with fault := { s.fault with ft := sparsePut (fun _ => {}) s.fault.ft w (f (s.ftRec w)) } }

def port (s : State) (p : Nat) : Port := sparseGet (fun _ => {}) s.fabric.ports p

def onPort (s : State) (p : Nat) (f : Port → Port) : State :=
  { s with fabric := { s.fabric with ports := sparsePut (fun _ => {}) s.fabric.ports p (f (s.port p)) } }

def txPort (s : State) (q : Nat) : TxPort := sparseGet (fun _ => {}) s.frames.tx q

def onTxPort (s : State) (q : Nat) (f : TxPort → TxPort) : State :=
  { s with frames := { s.frames with tx := sparsePut (fun _ => {}) s.frames.tx q (f (s.txPort q)) } }

def sensor (s : State) (i : Nat) : Sensor := sparseGet (fun _ => {}) s.therm.sensors i

def onSensor (s : State) (i : Nat) (f : Sensor → Sensor) : State :=
  { s with therm := { s.therm with sensors := sparsePut (fun _ => {}) s.therm.sensors i (f (s.sensor i)) } }

def i3cPort (s : State) (k : Nat) : I3cPort := if k = 0 then s.i3c.port0 else s.i3c.port1

def onI3c (s : State) (k : Nat) (f : I3cPort → I3cPort) : State :=
  if k = 0 then { s with i3c := { s.i3c with port0 := f s.i3c.port0 } } else { s with i3c := { s.i3c with port1 := f s.i3c.port1 } }

/-- An update of the flash contents. -/
def onFlash (s : State) (f : Flash → Flash) : State := { s with boot := { s.boot with flash := f s.boot.flash } }

def onQueue (s : State) (q : Nat) (f : Queue → Queue) : State := s.setQueue q (f (s.queue q))

def wellCal (s : State) (w : Nat) : WellCal := sparseGet (fun _ => {}) s.cal.wells w

def onWellCal (s : State) (w : Nat) (f : WellCal → WellCal) : State :=
  { s with cal := { s.cal with wells := sparsePut (fun _ => {}) s.cal.wells w (f (s.wellCal w)) } }

/-- Physical well that carries a logical number in the current tick (R198); none before the boot map. -/
def physOf (s : State) (n : Nat) : Option Nat := (s.cal.map[n]?).filter fun w => decide (w < 832)

/-- Logical number that a physical well carries in the current tick. -/
def logicalOf (s : State) (w : Nat) : Option Nat :=
  let i := s.cal.map.findIdx (· == w)
  if i < s.cal.map.length then some i else none

/-- R346, R404: a well whose calibration engine works on it: its modulators serve the sequence. -/
def inSlot (s : State) (w : Nat) : Bool := (s.cal.seqs.any fun q => q.well == w) || s.fault.sessions.any fun x => x.well == w

/-- The stand-in in which a well is standing in for another. -/
def standInOf (s : State) (w : Nat) : Option StandIn := s.cal.standins.find? fun x => x.relief == w && x.begun

/-- A plan is RUNNING or STOPPING (R274). -/
def planRunning (s : State) : Bool := s.rd pgBOOT Reg.BOOT.SVC_STAT_ST == 3

/-- R30, R38: number of the tick that follows the current one. -/
def nextTickNo (s : State) : Nat :=
  match s.tick.syncNumber with
  | some m => if s.tick.src == 2 && !s.planRunning then m else s.tick.number + 1
  | none => s.tick.number + 1

/-- A well of the good-well list that is not excluded (R15, R402). -/
def goodWell (s : State) (w : Nat) : Bool :=
  decide (w < 832) && !s.boot.flash.badWells.contains w && !(sparseGet (fun _ => ({} : FtRec)) s.fault.ft w).excluded

/-- R15: good wells that no fence or fault has taken. -/
def goodNow (s : State) : Nat :=
  ((List.range 832).filter fun w => s.goodWell w && s.st (pgWell w) != 4 && s.st (pgWell w) != 5).length

/-- R15, R78: relief wells available now; 0 until mapping. -/
def relief (s : State) : Nat := if s.cal.map.isEmpty then 0 else s.goodNow - 800

/-- R275, R80: wells that can stand in: with a plan running, the good wells beyond REQ_WELLS. -/
def standInsLeft (s : State) : Nat :=
  if s.planRunning then s.goodNow - s.rd pgBOOT Reg.BOOT.WELLS_REQ else s.relief

/-- R328, R522: clear codes are in force. -/
def clearActive (s : State) : Bool := s.conv.clrPower || s.conv.clrSoft || s.conv.clrPin || s.therm.shutdown

/-- Source record by number. -/
def source (s : State) : Nat → Source
  | 0 => s.light.src0 | 1 => s.light.src1 | 2 => s.light.src2 | 3 => s.light.src3 | 4 => s.light.src4 | _ => s.light.src5

def setSource (s : State) (i : Nat) (x : Source) : State :=
  match i with
  | 0 => { s with light := { s.light with src0 := x } }
  | 1 => { s with light := { s.light with src1 := x } }
  | 2 => { s with light := { s.light with src2 := x } }
  | 3 => { s with light := { s.light with src3 := x } }
  | 4 => { s with light := { s.light with src4 := x } }
  | _ => { s with light := { s.light with src5 := x } }

def onSource (s : State) (i : Nat) (f : Source → Source) : State := s.setSource i (f (s.source i))

/-- Run an update for every element of a list, in order. -/
def each {α : Type} (s : State) (l : List α) (f : State → α → State) : State := l.foldl f s

end State

end Sys2Proof.Machine
end

