-- ==== Sys2Proof/Machine/Events.lean ====
section
/-! DEFINITION. Event controllers (R84 to R95), in-band interrupt queues (R100 to R102), and `settle`: what every command ends with,
the outputs and events that follow from the state by themselves (R80, R98, R101, R418, R419). -/

namespace Sys2Proof.Machine

/-- R84: the controllers' numbers. -/
def isController (c : Nat) : Bool := c < 52 || (64 ≤ c && c < 68) || c == 96 || c == 97

/-- R84: address of a controller's register block. -/
def ctlBase (c : Nat) : Nat :=
  if c < 52 then pgCluster c * 0x1000 + 0xE00
  else if c < 68 then pgWdie (c - 64) * 0x1000 + 0xB00
  else if c = 96 then pgEVT * 0x1000 + 0x200
  else pgEVT * 0x1000 + 0x800

/-- R84: number of sources. -/
def ctlSources (c : Nat) : Nat := if c < 52 then 256 else 1024

/-- R85: words per bit array. -/
def ctlWords (c : Nat) : Nat := ctlSources c / 32

/-- The controller whose block a register address lies in, and the offset in the block. -/
def ctlAt (addr : Nat) : Option (Nat × Nat) :=
  let pg := addr / 0x1000
  let off := addr % 0x1000
  if 0x80 ≤ pg ∧ pg < 0x80 + 52 ∧ 0xE00 ≤ off ∧ off < 0xE00 + 0x120 then some (pg - 0x80, off - 0xE00)
  else if 0x70 ≤ pg ∧ pg < 0x74 ∧ 0xB00 ≤ off ∧ off < 0xB00 + 0x420 then some (64 + (pg - 0x70), off - 0xB00)
  else if pg = pgEVT ∧ 0x200 ≤ off ∧ off < 0x200 + 0x420 then some (96, off - 0x200)
  else if pg = pgEVT ∧ 0x800 ≤ off ∧ off < 0x800 + 0x420 then some (97, off - 0x800)
  else none

/-- R87: software sources of a controller. -/
def isSoftware (c id : Nat) : Bool :=
  if c < 52 then 224 ≤ id && id < 256 else if c == 97 then false else 992 ≤ id && id < 1024

/-- R87: the pages behind a source, as a list (a PUMPQ source covers eight). -/
def sourcePages (c id : Nat) : List Nat :=
  if c < 52 then
    if id < 16 then [pgWell (16 * c + id)] else if id = 16 then [pgCluster c] else []
  else if c < 68 then
    if id = 0 then [pgWdie (c - 64)]
    else if 16 ≤ id ∧ id < 144 then (List.range 8).map fun i => pgPumpq ((c - 64) * 1024 + (id - 16) * 8 + i)
    else []
  else if c = 96 then (if id ≤ 102 ∧ (pageKind id).isSome then [id] else [])
  else if id = 1 ∨ id = 96 ∨ id = 97 ∨ id = 99 ∨ id = 100 then [id] else []

/-- R100: event group of a page kind. -/
def PageKind.group : PageKind → Nat
  | .tick => 1 | .well | .cluster | .wdie => 2 | .pumpq | .cistern => 3 | .frameIn | .frameOut | .hport => 4
  | .comb | .cal => 5 | .integ | .test => 6 | .therm | .pwr => 7 | .sys | .evt | .sec | .boot => 8

/-- R100: event group of a source. -/
def sourceGroup (c id : Nat) : Nat :=
  if isSoftware c id then 9
  else if c == 97 && 128 ≤ id && id < 256 then 0xA
  else match (sourcePages c id).head?.bind pageKind with
    | some k => k.group
    | none => 0

/-- R418: safety inputs that are edge sources of the safety controller. -/
def safetyEdges : List Nat := [129, 130, 131, 132, 133, 134, 135, 136, 137, 143, 144, 145]

/-- R88, R418: an edge source. -/
def isEdge (c id : Nat) : Bool := isSoftware c id || (c == 97 && safetyEdges.contains id)

/-- R92: an entry is the service of a source of a controller claimed on a side. -/
def InService.serves (e : InService) (c id : Nat) (host : Bool) : Bool := e.ctl == c && e.src == id && e.host == host

namespace State

/-- R87: EVT_STAT of a page is not zero. -/
def pageLevel (s : State) (pg : Nat) : Bool := (s.rd pg Reg.HDR.EVT_RAW) &&& (s.rd pg Reg.HDR.EVT_EN) != 0

/-- R418, R421: safety input 128 + i in force. -/
def safetyInput (s : State) (i : Nat) : Bool :=
  match i with
  | 0 => s.fault.svcMiss.isSome
  | 10 => !s.cal.map.isEmpty && s.standInsLeft == 0
  | 11 => !s.pins.optoffN
  | 12 => s.rd pgCAL Reg.CAL.REF_STAT_RESULT == 4
  | 13 => s.therm.shutdown
  | 14 => s.rd pgPWR Reg.PWR.RAIL_STAT_FAULT != 0
  | _ => s.fault.safeEdges.contains (128 + i)

/-- R87: level of a level source. -/
def sourceLevel (s : State) (c id : Nat) : Bool :=
  if c == 97 && 128 ≤ id && id < 256 then s.safetyInput (id - 128)
  else (sourcePages c id).any s.pageLevel

/-- A source is in service. -/
def inService (s : State) (c id : Nat) : Bool := s.evt.inService.any fun e => e.ctl == c && e.src == id

/-- R90: pending bit of a source. -/
def srcPending (s : State) (c id : Nat) : Bool :=
  if isEdge c id then s.evt.edges.contains (c, id) else s.sourceLevel c id && !s.inService c id

/-- Word `i` of array `a` (0 PENDING, 1 ENABLE, 2 ROUTE, 3 INSERVICE) of a controller, as stored. -/
def ctlWord (s : State) (c a i : Nat) : Nat := (s.word (ctlBase c + 0x20 + 4 * (a * ctlWords c + i))).toNat

/-- R85: enable and route bits. -/
def srcEnabled (s : State) (c id : Nat) : Bool := bitAt (s.ctlWord c 1 (id / 32)) (id % 32)
def srcRouted (s : State) (c id : Nat) : Bool := bitAt (s.ctlWord c 2 (id / 32)) (id % 32)

/-- R85: priority of a source. -/
def srcPrio (s : State) (c id : Nat) : Nat := bits (s.word (ctlBase c + 0x20 + 16 * ctlWords c + 4 * (id / 8))).toNat (4 * (id % 8)) 4

/-- R85: THRESHOLD of the core or host side. -/
def threshold (s : State) (c : Nat) (host : Bool) : Nat := bits (s.word (ctlBase c + 0x10)).toNat (if host then 8 else 0) 4

/-- R91: claimable on a side. -/
def claimable (s : State) (c id : Nat) (host : Bool) : Bool :=
  s.srcPending c id && !s.inService c id && s.srcEnabled c id && s.srcRouted c id == host && s.threshold c host ≤ s.srcPrio c id

/-- R91: best of two candidates: higher priority, then lower ID (candidates come in ascending ID). -/
def betterSource (s : State) (c : Nat) (best : Option Nat) (id : Nat) : Option Nat :=
  match best with
  | none => some id
  | some b => if s.srcPrio c b < s.srcPrio c id then some id else some b

/-- R91: the claimable source of highest priority, ties to the lowest ID. -/
def bestSource (s : State) (c : Nat) (host : Bool) : Option Nat :=
  ((List.range (ctlSources c)).filter fun id => s.claimable c id host).foldl (s.betterSource c) none

/-- R93, R94: the serving core's external interrupt is asserted. -/
def coreInterrupt (s : State) (c : Nat) : Bool :=
  match s.bestSource c false with
  | none => false
  | some id => (s.evt.inService.filter fun e => e.ctl == c && !e.host).all fun e => e.prio < s.srcPrio c id

/-- R91: a claim on a side: the word returned and the state after. -/
def claim (s : State) (c : Nat) (host : Bool) : State × Word :=
  match s.bestSource c host with
  | none => (s, 0x80000000)
  | some id =>
    ({ s with evt := { s.evt with edges := dropAll (c, id) s.evt.edges, inService := s.evt.inService ++ [⟨c, id, host, s.srcPrio c id⟩] } },
      BitVec.ofNat 32 (id + s.srcPrio c id * 2 ^ 16))

/-- R92: set STATUS.BAD_COMPLETE and raise the EVT page's event. -/
def badComplete (s : State) (c : Nat) : State :=
  let a := ctlBase c + 0x1C
  (s.setWord a (s.word a ||| 1)).raise pgEVT 8

/-- R92: completion of a source on a side. -/
def complete (s : State) (c id : Nat) (host : Bool) : State :=
  if s.evt.inService.any (fun e => e.serves c id host) then
    { s with evt := { s.evt with inService := s.evt.inService.filter fun e => !e.serves c id host } }
  else s.badComplete c

/-- R88: a write of SWSET. -/
def swset (s : State) (c id : Nat) : State :=
  if isSoftware c id then { s with evt := { s.evt with edges := addOnce (c, id) s.evt.edges } }
  else
    let a := ctlBase c + 0x1C
    s.setWord a (s.word a ||| 2)

/-- R90: an occurrence of an edge source. -/
def edge (s : State) (c id : Nat) : State := { s with evt := { s.evt with edges := addOnce (c, id) s.evt.edges } }

/-- R85: read of a controller register other than CLAIM and HCLAIM. -/
def ctlRead (s : State) (c off : Nat) : Word :=
  let w := ctlWords c
  if off < 0x10 then (if off = 0x000 ∨ off = 0x008 then 0x80000000 else 0)
  else if off = 0x14 then BitVec.ofNat 32 (ctlSources c)
  else if off = 0x18 then 0
  else if 0x20 ≤ off ∧ off < 0x20 + 4 * w then
    BitVec.ofNat 32 ((List.range 32).foldl (fun a i => a + b2n (s.srcPending c ((off - 0x20) / 4 * 32 + i)) * 2 ^ i) 0)
  else if 0x20 + 12 * w ≤ off ∧ off < 0x20 + 16 * w then
    BitVec.ofNat 32 ((List.range 32).foldl (fun a i => a + b2n (s.inService c ((off - 0x20 - 12 * w) / 4 * 32 + i)) * 2 ^ i) 0)
  else s.word (ctlBase c + off)

/-- R85, R86: write of a controller register. -/
def ctlWrite (s : State) (c off : Nat) (v : Word) : State :=
  let w := ctlWords c
  let id := bits v.toNat 0 10
  if off = 0x004 then s.complete c id false
  else if off = 0x00C then s.complete c id true
  else if off = 0x018 then s.swset c id
  else if off = 0x010 then s.setWord (ctlBase c + off) (v &&& 0xF0F)
  else if off = 0x01C then s.setWord (ctlBase c + off) (s.word (ctlBase c + off) &&& ~~~v)
  else if (0x20 + 4 * w ≤ off ∧ off < 0x20 + 12 * w) ∨ (0x20 + 16 * w ≤ off) then s.setWord (ctlBase c + off) v
  else s

/-! ### In-band interrupts -/

/-- R102: the youngest request of the lowest priority, as an index (requests are held oldest first). -/
def ibiVictim (q : List IbiReq) : Nat × Nat :=
  let step (acc : Nat × Nat × Nat) (r : IbiReq) : Nat × Nat × Nat :=
    if r.prio ≤ acc.2.1 then (acc.1 + 1, r.prio, acc.1) else (acc.1 + 1, acc.2.1, acc.2.2)
  let r := q.foldl step (0, 16, 0)
  (r.2.2, r.2.1)

/-- R102: a request arrives at a queue; the second part says that one was discarded. -/
def ibiPush (q : List IbiReq) (r : IbiReq) : List IbiReq × Bool :=
  if q.length < 32 then (q ++ [r], false)
  else
    let v := ibiVictim q
    if v.2 < r.prio then (q.eraseIdx v.1 ++ [r], true) else (q, true)

/-- R101, R102: queue a request on each port that its group is routed to. -/
def ibiRequest (s : State) (c id : Nat) : State :=
  let g := sourceGroup c id
  let r : IbiReq := ⟨g, c, id, s.srcPrio c id, s.now⟩
  let route := s.rd pgEVT Reg.EVT.IBI_ROUTE
  let s := if s.flag pgEVT Reg.EVT.IBI_CTL_EN0 && bitAt route (2 * g) then
      let p := ibiPush s.evt.ibi0 r
      let s := { s with evt := { s.evt with ibi0 := p.1 } }
      if p.2 then (s.bump pgEVT Reg.EVT.IBI_DROP0).raise pgEVT 7 else s
    else s
  if s.flag pgEVT Reg.EVT.IBI_CTL_EN1 && bitAt route (2 * g + 1) then
    let p := ibiPush s.evt.ibi1 r
    let s := { s with evt := { s.evt with ibi1 := p.1 } }
    if p.2 then (s.bump pgEVT Reg.EVT.IBI_DROP1).raise pgEVT 7 else s
  else s

/-- R101: the sources that are enabled and pending, in ascending controller and source number. -/
def standingSources (s : State) : List (Nat × Nat) :=
  let ctls := List.range 52 ++ [64, 65, 66, 67, 96, 97]
  ctls.flatMap fun c =>
    let lo := ctlBase c + 0x20 + 4 * ctlWords c
    (s.regs.filter fun e => decide (lo ≤ e.1 ∧ e.1 < lo + 4 * ctlWords c)).flatMap fun e =>
      (((List.range 32).filter fun i => bitAt e.2.toNat i).map fun i => (c, (e.1 - lo) / 4 * 32 + i)).filter fun x => s.srcPending x.1 x.2

/-- R101: requests for the host-routed sources that have become enabled and pending since requests were last considered. -/
def ibiPass (s : State) : State :=
  let now := s.standingSources
  let t := { s with evt := { s.evt with standing := now } }
  (now.filter fun e => !s.evt.standing.contains e && s.srcRouted e.1 e.2 && decide (s.threshold e.1 true ≤ s.srcPrio e.1 e.2)).foldl
    (fun a e => a.ibiRequest e.1 e.2) t

/-! ### What follows from the state by itself -/

/-- R98: level-sensed pin events hold their EVT_RAW bit while the input is asserted. -/
def pinLevels (s : State) : State :=
  let s := if s.rd pgEVT Reg.EVT.FILT_CLR_SENSE == 0 && !s.pins.clrN then s.raise pgEVT 4 else s
  let s := if s.rd pgEVT Reg.EVT.FILT_OPTOFF_SENSE == 0 && !s.pins.optoffN then s.raise pgEVT 5 else s
  if s.rd pgEVT Reg.EVT.FILT_TICK_SENSE == 0 && s.pins.tickIn then s.raise pgEVT 6 else s

/-- R98: the pin event of a change, by its SENSE mode: 1 assertion, 2 deassertion, 3 both. -/
def pinEdge (s : State) (sense : Field) (bit : Nat) (asserted : Bool) : State :=
  let m := s.rd pgEVT sense
  if m == 3 || (m == 1 && asserted) || (m == 2 && !asserted) then s.raise pgEVT bit else s

/-- R419, R78: level of FAULT_N: low in SAFE, and in DEGRADED when FAULT_PIN.ON_DEGRADED is set. -/
def faultLevel (s : State) : Bool :=
  let ms := s.rd pgSYS Reg.SYS.MODULE_STATE_MS
  !(ms == 4 || (ms == 3 && s.flag pgSYS Reg.SYS.FAULT_PIN_ON_DEGRADED))

/-- R80: MODULE_STATE_CHANGE, CLEAR_CHANGE and RELIEF_RESTORED, by comparing the states around a command. -/
def sysChanges (before s : State) : State :=
  let changed := before.rd pgSYS Reg.SYS.MODULE_STATE_MS != s.rd pgSYS Reg.SYS.MODULE_STATE_MS
  let s' := if changed then s.raise pgSYS 6 else s
  let s' := if before.clearActive != s.clearActive then s'.raise pgSYS 7 else s'
  if before.relief == 0 && s.relief != 0 then s'.raise pgSYS 5 else s'

/-- R80: once boot has ended, MS is READY while a well is available to stand in and DEGRADED while none is. -/
def modeStep (s : State) : State :=
  let ms := s.rd pgSYS Reg.SYS.MODULE_STATE_MS
  if ms == 2 || ms == 3 then s.wr pgSYS Reg.SYS.MODULE_STATE_MS (if s.standInsLeft == 0 then 3 else 2) else s

/-- R528: a page of a kind's range has a state other than OFF, or is in a given state: read from the registers away from reset. -/
def pagesIn (s : State) (lo n : Nat) (want : Nat → Bool) : Bool :=
  s.regs.any fun e => e.1 % 0x1000 == 0x00C && decide (lo ≤ e.1 / 0x1000 ∧ e.1 / 0x1000 < lo + n) && want (bits e.2.toNat 0 3)

/-- R528: the power state whose condition holds; where none does, the one reported stays (log entry 36). -/
def powerState (s : State) : Nat :=
  let ms := s.rd pgSYS Reg.SYS.MODULE_STATE_MS
  if ms = 4 then 4
  else if ms = 0 ∨ ms = 1 then 0
  else if s.planRunning then 1
  else if s.pagesIn 0x100 832 (· == 2) then 2
  else if !s.pagesIn 0x100 832 (· != 0) && !s.pagesIn 0x50 6 (· != 0) then 3
  else s.rd pgPWR Reg.PWR.STATE_PS

/-- R528, R533: PWR.STATE follows. -/
def powerStep (s : State) : State :=
  let p := s.powerState
  if s.rd pgPWR Reg.PWR.STATE_PS = p then s else (s.wr pgPWR Reg.PWR.STATE_PS p).raise pgPWR 7

/-- Derived events and in-band interrupt requests: what follows from a command by itself (R80, R98, R101, R528). The second pass is for a
request that IBI_OVERFLOW itself makes due. -/
def derive (before s : State) : State := ibiPass (ibiPass (powerStep (pinLevels (sysChanges before (modeStep s)))))

/-- What every command ends with: what follows by itself, and the FAULT_N output, which is asserted at once and released only at a boundary
(R419, `releaseFault`). While reset is held nothing follows: no event is raised (R30, R99, R535). -/
def settle (before s : State) : State :=
  let t := if s.boot.held then s else derive before s
  { t with pins := { t.pins with faultN := t.pins.faultN && t.faultLevel } }

/-- R419, R561: at a boundary FAULT_N follows its level, once boot step 1 has completed. -/
def releaseFault (s : State) : State := { s with pins := { s.pins with faultN := s.faultLevel && s.boot.begun } }

/-- R52: a page's register at an offset is assigned. DESIGN CHOICE (log entry 46): an offset that a table lists as reserved as a whole, such as
0x030 to 0x03C of the header, counts as unassigned. -/
def assigned (k : PageKind) (off : Nat) : Bool := !(fieldsAt k off).isEmpty

/-- R52: a word is on a mapped page at an assigned offset. -/
def regMapped (addr : Nat) : Bool :=
  match pageKind (addr / 0x1000) with
  | none => false
  | some k => addr % 4 == 0 && ((ctlAt addr).isSome || assigned k (addr % 0x1000))

end State

/-- A command's meaning: the update, stamped at offset `at_` of the current tick, and what follows from it. No command touches the queue. -/
def finish (s : State) (at_ : Nat) (f : State → State) : Host.Outcome State Fault Refusal :=
  .next { State.settle s (f (s.advance at_)) with pending := s.pending }

/-- Whether reset is held (R561): no command but the release of reset acts. -/
def State.halted (s : State) : Bool := s.boot.held

/-- A command that acts only while the module runs: while reset is held nothing happens (R30, R561). -/
def live (s : State) (at_ : Nat) (f : State → State) : Host.Outcome State Fault Refusal :=
  finish s at_ fun t => if s.halted then s else f t

/-- R103, R561: while reset is held a change of an input pin does nothing but show on the pin, which is read again at the release of reset. -/
def pinLive (s : State) (at_ : Nat) (pin : PinUnit → PinUnit) (f : State → State) : Host.Outcome State Fault Refusal :=
  finish s at_ fun t => if s.halted then { s with pins := pin s.pins } else f t

/-- A command of the core: besides, a critical-temperature shutdown has stopped its clocks (R522). -/
def liveCore (s : State) (at_ : Nat) (f : State → State) : Host.Outcome State Fault Refusal :=
  live s at_ fun t => if s.therm.shutdown then s else f t

end Sys2Proof.Machine
end

