-- ==== Sys2Proof/Machine/Record.lean ====
section
/-! DEFINITION. Error records (R411, R412), comet records (R413, R414) and the comet ring with its drops; the persistent log. -/

namespace Sys2Proof.Machine

/-- R526: rail named by a record of a unit. -/
def railOf (k : Option PageKind) : Nat :=
  match k with
  | some .well => 2 | some .cistern => 4 | some .comb => 5 | _ => 0

/-- R412: sensors whose readings a unit's page selects (all but WELL pages, whose TEMP is T_w). -/
def sensorsOf (pg : Nat) : List Nat :=
  let dieSensors (d : Nat) : List Nat := (List.range 624).map fun i => 624 * d + i
  match pageRange pg with
  | some (.well, b, _) => (List.range 3).map fun i => 3 * (pg - b) + i
  | some (.cistern, b, _) => (List.range 4).map fun i => 2496 + 4 * (pg - b) + i
  | some (.comb, b, _) => (List.range 2).map fun i => 2544 + 2 * (pg - b) + i
  | some (.wdie, b, _) => dieSensors (pg - b)
  | some (.cluster, b, _) => dieSensors ((pg - b) / 13)
  | some (.pumpq, b, _) => dieSensors ((pg - b) / 1024)
  | some (.hport, b, _) => dieSensors ((pg - b) / 8)
  | _ => [2556, 2557, 2558, 2559]

namespace State

/-- R514: the mean of readings, rounded once; none when the list is empty. -/
def meanTemp (l : List Int) : Option Int :=
  if l.isEmpty then none else some (rnaDivInt (l.foldl (· + ·) 0) l.length)
where
  /-- Division rounded to nearest, ties away from zero. -/
  rnaDivInt (n : Int) (d : Nat) : Int :=
    if 0 ≤ n then (2 * n + d) / (2 * d) else -((2 * (-n) + d) / (2 * d))

/-- Readings of the sensors of a list that are not broken and have been sampled. -/
def readings (s : State) (l : List Nat) : List Int :=
  l.filterMap fun i => let x := s.sensor i; if x.seen && !x.broken then some x.t else none

/-- R514: T_w, in 0.01 °C. -/
def wellTemp (s : State) (w : Nat) : Option Int := meanTemp (s.readings [3 * w, 3 * w + 1, 3 * w + 2])

/-- R412: TEMP of a unit. -/
def unitTemp (s : State) (pg : Nat) : Nat :=
  let t := match pageKind pg with
    | some .well => s.wellTemp (pg - 0x100)
    | _ => match s.readings (sensorsOf pg) with
      | [] => none
      | x :: rest => some (rest.foldl max x)
  match t with
  | none => 0x8000
  | some v => ofSigned v 16

/-- R412: the running instance that PLAN_STEP and PROG_ID name (log entry 12): the one of the lowest program index. -/
def recordInstance (s : State) : Option Instance := (sortBy (·.prog) s.plan.instances).head?

/-- R412: the 96 bytes of an error record. -/
def recordBytes (s : State) (pg kind sev action d0 d1 pass : Nat) : List Byte :=
  let r := (pageRange pg).getD (.sys, 0, 1)
  let lw := if r.1 = .well then (s.logicalOf (pg - r.2.1)).getD 0xFFFF else 0xFFFF
  let rail := railOf (some r.1)
  let inst := s.recordInstance
  bytesOf 2 1 ++ bytesOf 2 kind ++ bytesOf 2 r.1.code ++ bytesOf 2 (pg - r.2.1) ++ bytesOf 2 lw ++ bytesOf 1 sev ++ bytesOf 1 action ++
  stampBytes s.now ++ bytesOf 8 s.hostNow ++ bytesOf 8 (if s.planRunning then s.rd64 pgBOOT Reg.BOOT.PLAN_ID_LO else 0) ++
  bytesOf 4 ((inst.map (·.record)).getD 0) ++
  bytesOf 2 (fieldOf ((inst.bind fun i => s.plan.programs[i.prog]?).getD []) 0 2) ++ bytesOf 2 pass ++
  bytesOf 2 (s.unitTemp pg) ++ bytesOf 2 (s.rd pgPWR Reg.PWR.RAIL_MV rail) ++ bytesOf 1 rail ++ bytesOf 3 0 ++
  bytesOf 8 d0 ++ bytesOf 8 d1 ++ bytesOf 4 (s.fault.seq + 1) ++ bytesOf 4 0 ++ bytesOf 8 s.boot.flash.serial ++ bytesOf 8 0

/-- R413: the GUIDs that share all but their last byte, in UEFI byte order (log entry 13). -/
def guid (last : Nat) : List Byte :=
  [0x02, 0x9F, 0x1A, 0x6C, 0x57, 0x3E, 0x8D, 0x4B, 0xA2, 0x14, 0x90, 0xD3, 0xE6, 0xF5, 0x7B] ++ bytesOf 1 last

/-- ASCII bytes of a page name. -/
def pageName : PageKind → List Nat
  | .sys => [83, 89, 83] | .tick => [84, 73, 67, 75] | .evt => [69, 86, 84]
  | .frameIn => [70, 82, 65, 77, 69, 95, 73, 78] | .frameOut => [70, 82, 65, 77, 69, 95, 79, 85, 84]
  | .hport => [72, 80, 79, 82, 84] | .cistern => [67, 73, 83, 84, 69, 82, 78] | .comb => [67, 79, 77, 66]
  | .therm => [84, 72, 69, 82, 77] | .pwr => [80, 87, 82] | .cal => [67, 65, 76] | .integ => [73, 78, 84, 69, 71]
  | .test => [84, 69, 83, 84] | .sec => [83, 69, 67] | .boot => [66, 79, 79, 84] | .wdie => [87, 68, 73, 69]
  | .cluster => [67, 76, 85, 83, 84, 69, 82] | .well => [87, 69, 76, 76] | .pumpq => [80, 85, 77, 80, 81]

/-- R413: FRU string: page name and four decimal digits of the instance, padded with zeros to 20 bytes. -/
def fruString (pg : Nat) : List Byte :=
  let r := (pageRange pg).getD (.sys, 0, 1)
  let n := pg - r.2.1
  padTo 20 ((pageName r.1 ++ [32, 48 + n / 1000 % 10, 48 + n / 100 % 10, 48 + n / 10 % 10, 48 + n % 10]).map (BitVec.ofNat 8))

/-- R413: a section descriptor of 72 bytes. -/
def sectionDesc (off len valid flags typ sev : Nat) (fru : List Byte) : List Byte :=
  bytesOf 4 off ++ bytesOf 4 len ++ bytesOf 2 0x0300 ++ bytesOf 1 valid ++ bytesOf 1 0 ++ bytesOf 4 flags ++ guid typ ++
  bytesOf 16 0 ++ bytesOf 4 sev ++ padTo 20 fru

/-- R413: a comet record from an error record and, for a permanent fence, its pattern section. -/
def cometBytes (s : State) (pg sev : Nat) (er pat : List Byte) : List Byte :=
  let two := !pat.isEmpty
  let hdr := 128 + 72 + (if two then 72 else 0)
  let total := hdr + 96 + pat.length
  [0x43, 0x50, 0x45, 0x52] ++ bytesOf 2 0x0101 ++ bytesOf 4 0xFFFFFFFF ++ bytesOf 2 (if two then 2 else 1) ++ bytesOf 4 sev ++
  bytesOf 4 0 ++ bytesOf 4 total ++ bytesOf 8 0 ++ bytesOf 16 0 ++ bytesOf 16 0 ++ guid 0x18 ++ guid 0x19 ++
  bytesOf 8 (s.boot.flash.serial % 2 ^ 32 * 2 ^ 32 + s.fault.seq + 1) ++ bytesOf 4 0 ++ bytesOf 8 0 ++ bytesOf 12 0 ++
  sectionDesc hdr 96 2 1 0x1A sev (fruString pg) ++
  (if two then sectionDesc (hdr + 96) pat.length 0 0 0x1B sev [] else []) ++ er ++ pat

/-- R411, R413: offset of the error record's timestamp in a comet record, behind its header and section descriptors. -/
def cometStamp (bs : List Byte) : Nat := 128 + 72 * fieldOf bs 10 2 + 12

/-- R414: the ring holds at most 1,024 records and 1 MiB. -/
def ringFits (ring : List Comet) (c : Comet) : Bool :=
  ring.length + 1 ≤ 1024 && (ring.map (·.bytes.length)).foldl (· + ·) 0 + c.bytes.length ≤ 2 ^ 20

/-- R414: for a fatal record, remove the oldest records of other severities until it fits; the ring and how many were removed. -/
def makeRoom (c : Comet) : Nat → List Comet → List Comet × Nat
  | 0, ring => (ring, 0)
  | fuel + 1, ring =>
    if ringFits ring c then (ring, 0)
    else match ring.findIdx? (fun x => x.severity != 1) with
      | none => (ring, 0)
      | some i => let r := makeRoom c fuel (ring.eraseIdx i); (r.1, r.2 + 1)

/-- R414: the persistent log keeps the newest 64 MiB. -/
def trimLog : List (List Byte) → List (List Byte)
  | [] => []
  | x :: rest => if ((x :: rest).map (·.length)).foldl (· + ·) 0 ≤ 2 ^ 26 then x :: rest else trimLog rest

/-- Count records dropped from the ring (R414). -/
def dropRecords (s : State) (n : Nat) : State := if n = 0 then s else (s.bump pgTEST Reg.TEST.REC_DROP n).raise pgTEST 10

/-- R411 to R414: write an error record, queue it as a comet record, and log it. -/
def record (s : State) (pg kind sev action d0 d1 : Nat) (pass : Nat := 0) (pat : List Byte := []) : State :=
  let er := s.recordBytes pg kind sev action d0 d1 pass
  let c : Comet := ⟨s.fault.seq + 1, sev, s.cometBytes pg sev er pat⟩
  let s := (s.bump pgTEST Reg.TEST.REC_TOTAL).onFlash fun f => if sev ≤ 1 then { f with log := trimLog (f.log ++ [c.bytes]) } else f
  let s := { s with fault := { s.fault with seq := s.fault.seq + 1 } }
  let room := if sev = 1 then makeRoom c s.fault.ring.length s.fault.ring else (s.fault.ring, 0)
  let s := { s with fault := { s.fault with ring := room.1 } }.dropRecords room.2
  if ringFits room.1 c then ({ s with fault := { s.fault with ring := room.1 ++ [c] } }).raise pgTEST 9 else s.dropRecords 1

/-- REC_POP (R421): remove the oldest record and show page 0. -/
def recPop (s : State) : State :=
  match s.fault.ring with
  | [] => s
  | _ :: rest => ({ s with fault := { s.fault with ring := rest } }).wr pgTEST Reg.TEST.REC_PAGE_PAGE 0

/-- R400: ask for a fence at the next boundary; of two causes the lower code is kept. -/
def askFence (s : State) (w cause : Nat) (seq : Nat := 0) : State :=
  let keep := s.fault.fences.find? fun e => e.1 == w
  match keep with
  | some e =>
    if cause < e.2.1 then
      { s with fault := { s.fault with fences := s.fault.fences.map fun x => if x.1 == w then (w, cause, seq) else x } }
    else s
  | none => { s with fault := { s.fault with fences := s.fault.fences ++ [(w, cause, seq)] } }

end State

end Sys2Proof.Machine
end

