-- ==== Sys2Proof/Machine/Memory.lean ====
section
/-! DEFINITION. Memory: the module address space (R197), the cistern map (R232 to R234), reads and writes of blocks with their seals
and ECC (R237 to R243, R385 to R390), the relief mirror (R357, R359), and mark-only writes (R389). -/

namespace Sys2Proof.Machine

/-- Where a module address leads (R197). Memory is keyed by physical unit, so that two names of one byte are one key. -/
inductive Loc where
  | mem (key : Nat)
  | frame (port off : Nat)
  | holade (port off : Nat)
  | reg (addr : Nat)
  | unmapped
  deriving DecidableEq, Repr

def poolBase : Nat := 0x100000000000
def logicalBase : Nat := 0x100080000000
def reservoirBase : Nat := 0x110000000000
def hubBase : Nat := 0x120000000000
def frameBase : Nat := 0x130000000000
def holadeBase : Nat := 0x140000000000
def registerBase : Nat := 0x1F0000000000

/-- R232: cistern that serves block `j` of window `k`. -/
def cisternOf (linearGib k o : Nat) : Nat :=
  let j := o / 4096
  if (64 - linearGib) * 2 ^ 30 ≤ o then k else (k + j + 5 * (j / 12) + 7 * (j / 144)) % 12

/-- The units that hold memory. -/
inductive MemUnit where
  | cistern (c : Nat) | pool (w : Nat) | reservoir (d : Nat) | hub
  deriving DecidableEq, Repr

/-- The unit of a physical key. -/
def unitOf (key : Nat) : MemUnit :=
  if key < 12 * 2 ^ 36 then .cistern (key / 2 ^ 36)
  else if key < reservoirBase then .pool ((key - poolBase) / 2 ^ 20)
  else if key < hubBase then .reservoir ((key - reservoirBase) / 0x4000000)
  else .hub

/-- What a reader receives (R242, R390): bytes, marks and the fields of the first block's seal; `late` says that a mark was made under R42. -/
structure ReadRes where
  bytes : List Byte := []
  withheld : Bool := false
  delayed : Bool := false
  sealFail : Bool := false
  ecc : Bool := false
  unmapped : Bool := false
  tid : Nat := 0
  blk : Nat := 0
  fmt : Nat := 0
  late : Bool := false
  deriving DecidableEq, Repr

/-- Two reads, one after the other. -/
def ReadRes.append (a b : ReadRes) : ReadRes :=
  { a with
    bytes := a.bytes ++ b.bytes, withheld := (a.withheld || b.withheld), delayed := (a.delayed || b.delayed)
    sealFail := (a.sealFail || b.sealFail), ecc := (a.ecc || b.ecc), unmapped := (a.unmapped || b.unmapped)
    late := (a.late || b.late) }

namespace State

/-- R198: a logical-to-physical map as a lookup. -/
def mapNow (s : State) : Nat → Option Nat := s.physOf

/-- R197, R232, R234: where an address leads under a logical map. Work that a stopping cistern has accepted still finds it (R236). -/
def resolve (s : State) (map : Nat → Option Nat) (a : Nat) : Loc :=
  if a < 12 * 2 ^ 36 then
    let c := cisternOf (s.rd (pgCistern 0) Reg.CISTERN.MAP_LINEAR_GIB) (a / 2 ^ 36) (a % 2 ^ 36)
    if s.isOn (pgCistern c) || (s.cist.serving && s.runs (pgCistern c)) then .mem (c * 2 ^ 36 + a % 2 ^ 36) else .unmapped
  else if poolBase ≤ a ∧ a < poolBase + 832 * 2 ^ 20 then .mem a
  else if logicalBase ≤ a ∧ a < logicalBase + 800 * 2 ^ 20 then
    match map ((a - logicalBase) / 2 ^ 20) with
    | some w => .mem (poolBase + w * 2 ^ 20 + a % 2 ^ 20)
    | none => .unmapped
  else if reservoirBase ≤ a ∧ a < reservoirBase + 4 * 0x4000000 ∧ (a - reservoirBase) % 0x4000000 < 48 * 2 ^ 20 then .mem a
  else if hubBase ≤ a ∧ a < hubBase + 32 * 2 ^ 20 then .mem a
  else if frameBase ≤ a ∧ a < frameBase + 16 * 2 ^ 32 then .frame ((a - frameBase) / 2 ^ 32) (a % 2 ^ 32)
  else if holadeBase ≤ a ∧ a < holadeBase + 32 * 2 ^ 32 then .holade ((a - holadeBase) / 2 ^ 32) (a % 2 ^ 32)
  else if registerBase ≤ a ∧ a < registerBase + 2 ^ 32 then .reg (a - registerBase)
  else .unmapped

/-- Every block of a range leads to memory. -/
def inMemory (s : State) (map : Nat → Option Nat) (a n : Nat) : Bool :=
  n == 0 || (List.range ((a + n - 1) / 4096 - a / 4096 + 1)).all fun i =>
    match s.resolve map (max a ((a / 4096 + i) * 4096)) with
    | .mem _ => true
    | _ => false

/-- One byte of memory by key. -/
def byte (s : State) (key : Nat) : Byte := sparseGet (fun _ => 0) s.mem key

/-- Bytes of memory by key. -/
def bytesAt (s : State) (key n : Nat) : List Byte := (List.range n).map fun i => s.byte (key + i)

/-- The state with bytes stored from a key. -/
def putBytes (s : State) (key : Nat) : List Byte → State
  | [] => s
  | b :: rest => State.putBytes { s with mem := sparsePut (fun _ => 0) s.mem key b } (key + 1) rest

/-- Stored seal of a block key. -/
def blockSeal (s : State) (bk : Nat) : Seal := sparseGet (fun _ => {}) s.seals bk

def setSeal (s : State) (bk : Nat) (x : Seal) : State := { s with seals := sparsePut (fun _ => {}) s.seals bk x }

/-- A plan tick that is delayed is running (R45, R388). -/
def delayedTick (s : State) : Bool := s.plan.instances.any fun i => 1 ≤ i.d

/-- R42: the plan step that issued a pass or a queue descriptor. -/
def issuedAs (s : State) (d : List Byte) : Option Issued := s.plan.steps.find? fun x => x.desc == d

/-- R42: the record of that step; work that no plan issued counts for the record that runs. -/
def stepOf (s : State) (d : List Byte) : Nat :=
  match s.issuedAs d with
  | some x => x.record
  | none => (s.recordInstance.map (·.record)).getD 0

/-- R45: a pass or descriptor runs in a delayed tick of the instance that issued it. -/
def delayedWork (s : State) (d : List Byte) : Bool := ((s.issuedAs d).map (·.delayed)).getD false

/-- R159: every result of the plan step that issued a pass or descriptor is withheld. -/
def badStep (s : State) (d : List Byte) : Bool := ((s.issuedAs d).map fun x => s.plan.badSteps.contains (x.prog, x.tick)).getD false

/-- R411: the page that names a memory in a record. -/
def unitPage : MemUnit → Nat
  | .cistern c => pgCistern c | .pool w => pgWell w | .reservoir d => pgWdie d | .hub => pgSYS

/-- R242, R390, R411: count, raise and record a seal failure found by a memory at an address. -/
def sealFailure (s : State) (u : MemUnit) (a : Nat) (sl : Seal) : State :=
  let s := match u with
    | .cistern c => (s.bump (pgCistern c) Reg.CISTERN.SEAL_FAILS).raise (pgCistern c) 6
    | _ => (s.bump pgINTEG Reg.INTEG.SEAL_FAILS).raise pgINTEG 8
  s.record (unitPage u) 11 0 1 a (sl.tid * 2 ^ 32 + sl.blk)

/-- R239, R242, R387: read within one block; `a` is the module address that is being read. -/
def readBlock (s : State) (a key n : Nat) : State × ReadRes :=
  let bk := key / 4096
  let sl := s.blockSeal bk
  let u := unitOf key
  let s := match u with
    | .cistern c => s.bump64 (pgCistern c) Reg.CISTERN.READ_BYTES_LO n
    | _ => s
  if s.cist.eccBad.contains bk then
    match u with
    | .cistern c =>
      let s := (s.bump (pgCistern c) Reg.CISTERN.UE_COUNT).raise (pgCistern c) 5
      let s := (s.wr (pgCistern c) Reg.CISTERN.UE_ADDR_LO (a / 4096 * 4096)).wr (pgCistern c) Reg.CISTERN.UE_ADDR_HI (a / 2 ^ 32)
      (s.record (pgCistern c) 10 0 1 (a / 4096 * 4096) 0,
        { bytes := List.replicate n 0, withheld := true, delayed := sl.delayed, ecc := true, tid := sl.tid, blk := sl.blk, fmt := sl.fmt })
    | _ => (s, { bytes := List.replicate n 0, withheld := true, ecc := true })
  else
    let r : ReadRes := ⟨s.bytesAt key n, sl.withheld || sl.bad, sl.delayed, sl.bad, false, false, sl.tid, sl.blk, sl.fmt, sl.late⟩
    (if sl.bad then s.sealFailure u a sl else s, r)

/-- Read of a range, block by block (fuel bounds the number of blocks). -/
def readBlocks (s : State) (map : Nat → Option Nat) : Nat → Nat → Nat → State × ReadRes
  | 0, _, _ => (s, {})
  | fuel + 1, a, n =>
    if n = 0 then (s, {})
    else
      let k := min n (4096 - a % 4096)
      match s.resolve map a with
      | .mem key =>
        let r := s.readBlock a key k
        let rest := readBlocks r.1 map fuel (a + k) (n - k)
        (rest.1, r.2.append rest.2)
      | _ => (s, { unmapped := true })

/-- Read of `n` bytes of memory from a module address. -/
def read (s : State) (map : Nat → Option Nat) (a n : Nat) : State × ReadRes := s.readBlocks map (n / 4096 + 2) a n

/-- Bytes at an address without any effect (bookkeeping of the firmware). -/
def peek (s : State) (a n : Nat) : List Byte :=
  (List.range n).map fun i =>
    match s.resolve s.mapNow (a + i) with
    | .mem key => s.byte key
    | _ => 0

/-- R251: largest magnitude, as float32 bits, of the elements of a block that a write of `n` bytes at offset `off` touches; formats 9 to 14.
DESIGN CHOICE (log entry 61): an INT16 element counts with exponent 0, as no header of its block exponent is at hand. -/
def watchMax (fmt off n : Nat) (blk : List Byte) : Nat :=
  let most (e : Nat) (v : Nat → Nat) : Nat :=
    ((List.range (ceilDiv (off + n) e - off / e)).map fun i => v (fieldOf blk (e * (off / e + i)) e)).foldl max 0
  let meets (a k : Nat) : Bool := decide (a < off + n ∧ off < a + k)
  match fmt with
  | 9 => most 2 fun w => (rnaf ⟨(toSigned w 16).natAbs, 0⟩).bits
  | 10 => most 2 fun w => (rnaf (f16.value w).1.abs).bits
  | 11 => most 2 fun w => (rnaf (bf16.value w).1.abs).bits
  | 12 => most 4 fun w => (rnaf (f32Val w).abs).bits
  | 13 => most 4 fun w => (rnaf ⟨(toSigned w 32).natAbs, 0⟩).bits
  | 14 => ((List.range 10).map fun g =>
      let b := bfxOf blk g
      if b.ovf then 0
      else (((List.range 64).filter fun i => meets (8 * g) 8 || meets (80 + (64 * g + i) * 6) 6).map fun i =>
        bits (bfxVal b i).bits 0 31).foldl max 0).foldl max 0
  | _ => 0

/-- R251: watch slots of a cistern see the write of `n` bytes at a key, whose bytes are stored. -/
def watch (s : State) (c tid fmt key n : Nat) : State :=
  s.each (List.range 8) fun s i =>
    if s.flag (pgCistern c) Reg.CISTERN.WATCH_EN i && s.rd (pgCistern c) Reg.CISTERN.WATCH_TID i == tid then
      s.wr (pgCistern c) Reg.CISTERN.WATCH_MAXABS (max (watchMax fmt (key % 4096) n (s.bytesAt (key / 4096 * 4096) 4096))
        (s.rd (pgCistern c) Reg.CISTERN.WATCH_MAXABS i)) i
    else s

/-- R237, R387, R243: the stored seal after a write of `whole` or part of a block. -/
def mergeSeal (old inc : Seal) (whole : Bool) : Seal :=
  let keep := !whole && old.gen == inc.gen
  { inc with
    withheld := inc.withheld || (old.withheld && keep), delayed := inc.delayed || (old.delayed && keep), late := inc.late || (old.late && keep)
    bad := inc.bad || (old.bad && !whole) }

/-- R276: the latest write under each TID, kept while a plan with checkpoints is loaded. -/
def noteWrite (s : State) (tid : Nat) : State :=
  if s.plan.ckpts.isEmpty then s
  else { s with plan := { s.plan with written := sparsePut (fun _ => 0) s.plan.written tid (s.tick.number + 1) } }

/-- R239, R241, R243: store bytes within one block under a seal; the flag says that a block held uncorrectable refused a part. -/
def storeBlock (s : State) (key : Nat) (bs : List Byte) (inc : Seal) : State × Bool :=
  let bk := key / 4096
  let whole := bs.length == 4096
  if s.cist.eccBad.contains bk && !whole then (s, true)
  else
    let s := { s.putBytes key bs with cist := { s.cist with eccBad := dropAll bk s.cist.eccBad } }
    let s := match unitOf key with
      | .cistern c => (s.bump64 (pgCistern c) Reg.CISTERN.WRITE_BYTES_LO bs.length).watch c inc.tid inc.fmt key bs.length
      | _ => s
    ((s.setSeal bk (mergeSeal (s.blockSeal bk) inc whole)).noteWrite inc.tid, false)

/-- R357, R359: pools a write to a pool key also lands in, as keys. -/
def mirrorKeys (s : State) (key : Nat) : List Nat :=
  match unitOf key with
  | .pool w => s.cal.standins.filterMap fun x =>
      if x.kind != 1 && x.begun && x.relief == w then some (poolBase + x.orig * 2 ^ 20 + key % 2 ^ 20)
      else if !x.begun && x.copied && x.orig == w then some (poolBase + x.relief * 2 ^ 20 + key % 2 ^ 20)
      else none
  | _ => []

/-- R359: while a stand-in lasts, the original pool takes writes only from the mirror. -/
def mirrorOnly (s : State) (key : Nat) : Bool :=
  match unitOf key with
  | .pool w => s.cal.standins.any fun x => x.kind != 1 && x.begun && x.orig == w
  | _ => false

/-- Store within one block, with the mirror. -/
def store (s : State) (key : Nat) (bs : List Byte) (inc : Seal) : State × Bool :=
  if s.mirrorOnly key then (s, false)
  else
    let r := s.storeBlock key bs inc
    ((s.mirrorKeys key).foldl (fun t k => (State.storeBlock t k bs inc).1) r.1, r.2)

/-- Write of a range; `sealOf` gives the seal for the block of an address. The flag says that a part was refused (ECC_FAIL). -/
def writeBlocks (s : State) (map : Nat → Option Nat) (sealOf : Nat → Seal) : Nat → Nat → List Byte → State × Bool
  | 0, _, _ => (s, false)
  | fuel + 1, a, bs =>
    if bs.isEmpty then (s, false)
    else
      let k := 4096 - a % 4096
      match s.resolve map a with
      | .mem key =>
        let r := s.store key (bs.take k) (sealOf a)
        let rest := State.writeBlocks r.1 map sealOf fuel (a + k) (bs.drop k)
        (rest.1, r.2 || rest.2)
      | _ => (s, false)

def write (s : State) (map : Nat → Option Nat) (a : Nat) (bs : List Byte) (sealOf : Nat → Seal) : State × Bool :=
  s.writeBlocks map sealOf (bs.length / 4096 + 2) a bs

/-- R388: a generated seal for the block of address `a`, with block index BASE + ⌊a / 4096⌋ − ⌊D / 4096⌋; its writer sets DELAYED. -/
def genSeal (s : State) (tid base d fmt : Nat) (withheld : Bool) (a : Nat) : Seal :=
  { tid := tid, blk := (((base + a / 4096 : Nat) - (d / 4096 : Nat) : Int) % 2 ^ 32).toNat, gen := s.tick.number % 256, fmt := fmt, withheld := withheld }

/-- R389: mark-only write of one block; one whose stored CRC fails goes on failing, as the write covers none of it (R237, log entry 116). -/
def markBlock (s : State) (map : Nat → Option Nat) (sealOf : Nat → Seal) (a : Nat) : State :=
  match s.resolve map a with
  | .mem key =>
    (if s.mirrorOnly key then [] else key :: s.mirrorKeys key).foldl (fun t k =>
      if t.cist.eccBad.contains (k / 4096) then t
      else t.setSeal (k / 4096) { sealOf a with withheld := true, bad := (t.blockSeal (k / 4096)).bad }) s
  | _ => s

/-- R389: mark-only writes to every block that a region touches. -/
def markRegion (s : State) (map : Nat → Option Nat) (sealOf : Nat → Seal) (a n : Nat) : State :=
  if n = 0 then s
  else s.each (List.range ((a + n - 1) / 4096 - a / 4096 + 1)) fun s i => s.markBlock map sealOf ((a / 4096 + i) * 4096)

/-- A free value of a width: an opaque function of how many have been drawn. -/
def draw (s : State) (w : Nat) : State × BitVec w := ({ s with free := s.free + 1 }, Config.freeValue w s.free)

/-- An invalid BFX48 group's EXP and elements (R190 leaves them undefined): free values. -/
def drawGroup (s : State) : State × Bfx :=
  let e := s.draw 16
  let r := (List.range 64).foldl (fun (a : State × List Int) _ => let d := a.1.draw 48; (d.1, a.2 ++ [d.2.toInt])) (e.1, [])
  (r.1, ⟨e.2.toInt, false, true, r.2⟩)

/-- R190: the sum of two groups as it is stored; an operand with OVF gives an invalid group. -/
def sumGroups (s : State) (a b : Bfx) : State × Bfx := if a.ovf || b.ovf then s.drawGroup else (s, addBfx a b)

/-- R250, R257: reads and writes of a base die's own work cross no link: the counters of link bytes stay as they were in `s`. -/
def offLinks (s t : State) : State :=
  t.each (List.range 12) fun t c =>
    (t.wr64 (pgCistern c) Reg.CISTERN.READ_BYTES_LO (s.rd64 (pgCistern c) Reg.CISTERN.READ_BYTES_LO)).wr64 (pgCistern c) Reg.CISTERN.WRITE_BYTES_LO
      (s.rd64 (pgCistern c) Reg.CISTERN.WRITE_BYTES_LO)

/-- Memory is in its canonical form. -/
def memWf (s : State) : Bool := sparseWf (fun _ => (0 : Byte)) s.mem

end State

/-- The canonical form of memory: addresses strictly rising, no listed byte equal to what an unlisted byte reads as. -/
def Memory.wf (m : List (Nat × Byte)) : Bool := sparseWf (fun _ => (0 : Byte)) m

end Sys2Proof.Machine
end

