-- ==== Sys2Proof/Machine/PassDesc.lean ====
section
/-! DEFINITION. Pass descriptors (R157), the regions a pass names (R158), the SETUP checks (R159), target sets (R215), noise and
tolerances of the checks (R371, R372), and the marking and abandonment of passes (R161, R389). -/

namespace Sys2Proof.Machine

/-! ### Fields of a plan's image header (R261) and places of its sections (R262) -/

namespace Ph
def magic (h : List Byte) : Nat := fieldOf h 0 4
def major (h : List Byte) : Nat := fieldOf h 4 2
def size (h : List Byte) : Nat := fieldOf h 8 8
def planId (h : List Byte) : Nat := fieldOf h 16 8
def reqWells (h : List Byte) : Nat := bits (fieldOf h 24 2) 0 10
def tickUs (h : List Byte) : Nat := fieldOf h 26 2
def linearGib (h : List Byte) : Nat := fieldOf h 28 1
def flag (h : List Byte) (b : Nat) : Bool := bitAt (fieldOf h 29 1) b
def signed (h : List Byte) : Bool := flag h 0
def fabric (h : List Byte) : Bool := flag h 2
def resumable (h : List Byte) : Bool := flag h 3
def crc (h : List Byte) : Nat := fieldOf h 32 4
def off (h : List Byte) (k : Nat) : Nat := fieldOf h (64 + 16 * k) 8
def len (h : List Byte) (k : Nat) : Nat := fieldOf h (72 + 16 * k) 8
end Ph

/-! ### Fields of a pass descriptor (R157) -/

namespace Pd
def id (d : List Byte) : Nat := fieldOf d 0 2
def flag (d : List Byte) (b : Nat) : Bool := bitAt (fieldOf d 2 1) b
def optical (d : List Byte) : Bool := flag d 0
def accIn (d : List Byte) : Bool := flag d 1
def spread (d : List Byte) : Bool := flag d 3
def wzp (d : List Byte) : Bool := flag d 4
def xzp (d : List Byte) : Bool := flag d 5
def nstat (d : List Byte) : Bool := flag d 6
def cstat (d : List Byte) : Bool := flag d 7
def rxGain (d : List Byte) : Nat := bits (fieldOf d 3 1) 0 3
def gainUse (d : List Byte) : Bool := bitAt (fieldOf d 3 1) 3
def layerCont (d : List Byte) : Bool := bitAt (fieldOf d 3 1) 4
def kt (d : List Byte) : Nat := bits (fieldOf d 4 2) 0 12
def nv (d : List Byte) : Nat := bits (fieldOf d 6 2) 0 11
def act (d : List Byte) : Nat := fieldOf d 8 6
def actFmt (d : List Byte) : Nat := fieldOf d 14 1
def outFmt (d : List Byte) : Nat := fieldOf d 15 1
def out (d : List Byte) : Nat := fieldOf d 16 6
def zx (d : List Byte) : Int := if xzp d then toSigned (fieldOf d 22 2) 16 else 0
def acc (d : List Byte) : Nat := fieldOf d 24 6
def vop (d : List Byte) : Nat := fieldOf d 30 1
def outSh (d : List Byte) : Int := toSigned (fieldOf d 31 1) 8
def res (d : List Byte) : Nat := fieldOf d 32 6
def outTid (d : List Byte) : Nat := fieldOf d 38 2
def param (d : List Byte) : Nat := fieldOf d 40 6
def wq (d : List Byte) : Nat := bits (fieldOf d 46 2) 0 12
def stat (d : List Byte) : Nat := fieldOf d 48 6
def sq (d : List Byte) : Nat := bits (fieldOf d 54 2) 0 12
def mcast (d : List Byte) : Nat := fieldOf d 56 1
def outBlk0 (d : List Byte) : Nat := fieldOf d 60 4

/-- R158: output block size. -/
def outB (d : List Byte) : Nat := if isActFmt (outFmt d) then 256 else 512

/-- R158: output blocks. -/
def nOut (d : List Byte) : Nat := if optical d then nv d else kt d * nv d

/-- R158: bytes of the output region, headers included. -/
def outLen (d : List Byte) : Nat := nOut d * outB d + (if isActFmt (outFmt d) then 4 * nOut d else 0)

/-- R158: bytes of the accumulator region. -/
def accLen (d : List Byte) : Nat := nv d * 516

/-- R158: bytes of the activation region. -/
def actLen (d : List Byte) : Nat := kt d * nv d * 260

/-- R158: bytes of the statistics area. -/
def statLen (d : List Byte) : Nat := if cstat d then 8 * nv d + 512 else if nstat d then 8 * nv d else 0

/-- R150, R151, R158: bytes of the parameter area. -/
def paramLen (d : List Byte) : Nat :=
  match vop d with
  | 2 => 8 | 3 => 1044 | 6 => 8 * nv d | _ => 0

/-- The residual operand is read by ADD and MUL (R150). -/
def resLen (d : List Byte) : Nat := if vop d = 4 ∨ vop d = 5 then outLen d else 0

/-- R374: the check vector applies to a pass. -/
def vecApplies (d : List Byte) : Bool := optical d && !wzp d && !xzp d
end Pd

/-- R198, R513: well die of a physical well. -/
def dieOf (w : Nat) : Nat := w / 208

/-- R125: the plane of a well. -/
def Well.plane (x : Well) (b : Bool) : Plane := if b then x.planeB else x.planeA

/-- A well with a plane replaced. -/
def Well.setPlane (x : Well) (b : Bool) (p : Plane) : Well := if b then { x with planeB := p } else { x with planeA := p }

namespace State

/-- R127, R128, R518: quarter symbols that a die's clock counts in a nanosecond: 20 at full rate; division by 2 or 4 slows it, skipping of slots
does not. -/
def symbolRate (s : State) (d : Nat) : Nat :=
  if s.flag pgTHERM Reg.THERM.THR_CTL_MODE then 20 else 20 / 2 ^ min 2 (bits (s.rd pgTHERM Reg.THERM.LEVEL) (4 * d) 4)

/-- Quarter symbols of a die's clock now. -/
def clockNow (s : State) (d : Nat) : Nat :=
  let c := sparseGet (fun _ => (0, 0)) s.therm.clock d
  c.1 + s.symbolRate d * (s.ns - c.2)

/-- R127: the symbol that a well's clock has reached. -/
def symbolNow (s : State) (w : Nat) : Nat := s.clockNow (dieOf w) / 4

/-- R128: before a die's rate changes, what it has counted is kept. -/
def rebaseClock (s : State) (d : Nat) : State :=
  { s with therm := { s.therm with clock := sparsePut (fun _ => (0, 0)) s.therm.clock d (s.clockNow d, s.ns) } }

/-- R521: a rise of a die's level takes effect at the first symbol after now that is a multiple of 16; the clock counts on to it at the old rate. -/
def riseClock (s : State) (d : Nat) : State :=
  let q := s.clockNow d
  let m := (q / 64 + 1) * 64
  { s with therm := { s.therm with clock := sparsePut (fun _ => (0, 0)) s.therm.clock d (m, s.ns + ceilDiv (m - q) (s.symbolRate d)) } }

/-- R519: pairs of symbol slots that a die skips in each 16. -/
def skipsOf (s : State) (d : Nat) : Nat :=
  if s.flag pgTHERM Reg.THERM.THR_CTL_MODE then min 7 (bits (s.rd pgTHERM Reg.THERM.LEVEL) (4 * d) 4) else 0

/-- R122, R129, R306, R328, R523: the modulators of a well are dark whatever its passes ask. -/
def wellDark (s : State) (w : Nat) : Bool :=
  let x := s.well w
  s.clearActive || x.darkLo || x.darkLight || x.darkStep || s.inSlot w

/-- The active plane of a well, when it carries light. -/
def activePlane (s : State) (w : Nat) : Option Plane :=
  let x := s.well w
  let pl := x.plane x.activeB
  if pl.st = .active ∨ pl.st = .refreshing then some pl else none

/-- R160: the active tile belongs to a pass in RUN and has not been modulated. -/
def readyTile (s : State) (w : Nat) : Option (PassRun × Plane) :=
  let x := s.well w
  match s.activePlane w with
  | none => none
  | some pl =>
    if x.tileDone || s.wellDark w then none
    else (x.passes.find? fun p => p.st = 2 ∧ p.slot = pl.pass ∧ p.tile = pl.tile).map fun p => (p, pl)

/-- R122: symbols of the tile under way that have been modulated by now, since the last account. -/
def litNow (s : State) (w : Nat) : Nat :=
  match s.readyTile w with
  | none => 0
  | some e => min (2 * Pd.nv e.1.desc) (s.symbolNow w - max e.2.sym0 (s.well w).acct)

/-- R122: dark symbol slots of a pass in RUN that are not accounted yet. -/
def darkNow (s : State) (w : Nat) : Nat :=
  if (s.well w).passes.any fun p => p.st == 2 && decide (p.tile < Pd.kt p.desc) then s.symbolNow w - (s.well w).acct - s.litNow w else 0

/-- R122: symbol slots since the last account, less `n` of a tile just modulated, are dark ones of the pass in RUN. -/
def accountDark (s : State) (w n : Nat) : State :=
  (s.bump64 (pgWell w) Reg.WELL.DARK_SYMBOLS_LO (s.symbolNow w - (s.well w).acct - n)).onWell w fun x => { x with acct := s.symbolNow w }

/-- R111: gain in force for a pass on a well. -/
def gainOf (s : State) (w : Nat) (d : List Byte) : Nat :=
  if Pd.gainUse d then Pd.rxGain d else s.rd (pgWell w) Reg.WELL.OPT_CTL_RX_GAIN

/-- R198, R215: members of a queue's target set, as physical wells under a map. -/
def targetsBy (s : State) (map : Nat → Option Nat) (q : Nat) : List Nat :=
  let pg := pgPumpq q
  let n := s.rd pg Reg.PUMPQ.TGT_CFG_COUNT
  (List.range (min n 8)).filterMap fun i =>
    let w := (s.word (regAddr pg (0x064 + 4 * (i / 2)))).toNat
    let sh := 16 * (i % 2)
    let m := bits w sh 10
    if bitAt w (sh + 14) then some m else map m

/-- R215: members of a queue's target set in this tick. -/
def targets (s : State) (q : Nat) : List Nat := s.targetsBy s.mapNow q

/-- R216: a well is a member of a multicast group through a queue. -/
def inGroup (s : State) (w q g : Nat) : Bool :=
  s.rd (pgPumpq q) Reg.PUMPQ.TGT_CFG_GROUP == g && (s.targets q).contains w

/-- R159, reasons 3 and 4: 0 when a region lies in the well's pool or, unless `own`, its die's reservoir. -/
def regionFault (s : State) (w : Nat) (own : Bool) (al a n : Nat) : Nat :=
  if a % al ≠ 0 then 3
  else match s.resolve s.mapNow a with
    | .mem key =>
      let p := poolBase + w * 2 ^ 20
      let r := reservoirBase + dieOf w * 0x4000000
      if p ≤ key ∧ key < p + 2 ^ 20 then (if key + n ≤ p + 2 ^ 20 then 0 else 4)
      else if !own ∧ r ≤ key ∧ key < r + 48 * 2 ^ 20 then (if key + n ≤ r + 48 * 2 ^ 20 then 0 else 4)
      else 3
    | _ => 3

/-- R158, R159: the regions that a pass uses: own pool only, alignment, base, length. DESIGN CHOICE (log entry 52): a base that the pass does not
use is not tested; R159 says so of ACC_BASE on a vector-only pass alone. -/
def passRegions (d : List Byte) : List (Bool × Nat × Nat × Nat) :=
  [(false, 256, Pd.act d, Pd.actLen d)] ++
  (if Pd.optical d then [(true, 512, Pd.acc d, Pd.accLen d)] else []) ++
  (if Pd.outFmt d = 13 then [] else [(false, 256, Pd.out d, Pd.outLen d)]) ++
  (if Pd.resLen d = 0 then [] else [(false, 256, Pd.res d, Pd.resLen d)]) ++
  (if Pd.statLen d = 0 then [] else [(false, 64, Pd.stat d, Pd.statLen d)]) ++
  (if Pd.paramLen d = 0 then [] else [(false, 64, Pd.param d, Pd.paramLen d)])

/-- First fault of a kind over the regions of a pass. -/
def regionsFault (s : State) (w : Nat) (d : List Byte) : Nat :=
  let fs := (passRegions d).map fun r => s.regionFault w r.1 r.2.1 r.2.2.1 r.2.2.2
  if fs.contains 3 then 3 else if fs.contains 4 then 4 else 0

/-- R144: the gain held in an exponent record of the accumulator region. -/
def expRecord (s : State) (d : List Byte) (v : Nat) : Nat := numOf (s.peek (Pd.acc d + Pd.nv d * 512 + 4 * v) 4)

/-- R151: a LUT table passes when lo < hi and every word is finite. -/
def lutOk (tab : List Byte) : Bool :=
  (List.range 261).all (fun i => f32Finite (fieldOf tab (4 * i) 4)) && (f32Val (fieldOf tab 0 4)).lt (f32Val (fieldOf tab 4 4))

/-- R159, reason 2, without the tests that read memory. -/
def badCodes (d : List Byte) : Bool :=
  decide (6 < Pd.vop d) || !isActFmt (Pd.actFmt d) || decide (Pd.outFmt d < 9 ∨ 13 < Pd.outFmt d) ||
  (Pd.gainUse d && decide (4 < Pd.rxGain d)) || (Pd.outFmt d == 13 && (Pd.vop d != 0 || !Pd.optical d)) ||
  (Pd.spread d && (Pd.wzp d || Pd.xzp d))

/-- R159: reason for which a pass is refused; 0 when it is not. Reasons are tested in the order of the table; the tests of reason 2 that
read memory are made where the regions hold. -/
def refuseReason (s : State) (w : Nat) (d : List Byte) : Nat :=
  if Pd.kt d = 0 ∨ 2048 < Pd.kt d ∨ Pd.nv d = 0 ∨ 1024 < Pd.nv d then 1
  else if badCodes d then 2
  else
    let rf := s.regionsFault w d
    if rf ≠ 0 then rf
    else if Pd.optical d && Pd.accIn d &&
        (List.range (Pd.nv d)).any (fun v => bits (s.expRecord d v) 16 3 != s.gainOf w d) then 2
    else if Pd.vop d = 3 && !lutOk (s.peek (Pd.param d) 1044) then 2
    else if Pd.mcast d ≠ 0 && !s.inGroup w (Pd.wq d) (Pd.mcast d) then 5
    else 0

/-- R388: seals of the blocks that a pass generates. -/
def passSeal (s : State) (d : List Byte) (withheld late : Bool) (a : Nat) : Seal :=
  { s.genSeal (Pd.outTid d) (Pd.outBlk0 d) (if Pd.outFmt d = 13 then Pd.acc d else Pd.out d) (Pd.outFmt d) withheld a with
    delayed := s.delayedWork d, late := late }

/-- R159: the output region of a pass is valid. -/
def outputOk (s : State) (w : Nat) (d : List Byte) : Bool :=
  (if Pd.outFmt d = 13 then s.regionFault w true 512 (Pd.acc d) (Pd.accLen d) else s.regionFault w false 256 (Pd.out d) (Pd.outLen d)) == 0

/-- R389: mark the result regions of a pass on a well, where they are valid; `late` under R42. -/
def markPass (s : State) (w : Nat) (d : List Byte) (late : Bool := false) : State :=
  let sl := s.passSeal d true late
  let mark (s : State) (own : Bool) (al a n : Nat) : State :=
    if n ≠ 0 && s.regionFault w own al a n == 0 then s.markRegion s.mapNow sl a n else s
  let s := if Pd.outFmt d = 13 then mark s true 512 (Pd.acc d) (Pd.accLen d) else mark s false 256 (Pd.out d) (Pd.outLen d)
  mark s false 64 (Pd.stat d) (Pd.statLen d)

/-- Ring slot at the tail. -/
def passTail (s : State) (w : Nat) : Nat := s.rd (pgWell w) Reg.WELL.PASSQ_TAIL_INDEX

/-- Passes in the ring, those in progress included. -/
def passDepth (s : State) (w : Nat) : Nat := (s.rd (pgWell w) Reg.WELL.PASSQ_HEAD_INDEX + 16 - s.passTail w) % 16

/-- R156: address key of a ring slot in the well's own pool. DESIGN CHOICE (log entry 51): the spec does not say what the slots of a ring that
reaches past the end of its pool are; the model rejects no base and reads on, into the next pool of the address space. -/
def passKey (s : State) (w slot : Nat) : Nat :=
  poolBase + w * 2 ^ 20 + s.rd (pgWell w) Reg.WELL.PASSQ_BASE_OFFSET * 64 + slot * 64

/-- R156: take the descriptor at TAIL off the ring; with the last pass in progress go the descriptors abandoned behind it. -/
def advanceTail (s : State) (w : Nat) : State :=
  let x := s.well w
  let skip := if x.passes.length ≤ 1 then x.stale else 0
  (s.wr (pgWell w) Reg.WELL.PASSQ_TAIL_INDEX ((s.passTail w + 1 + skip) % 16)).onWell w fun x => { x with stale := x.stale - skip }

/-- R125: a plane that holds a tile of an abandoned pass. -/
def dropPlane (slot : Nat) (p : Plane) : Plane :=
  if (p.st = .loading ∨ p.st = .ready) ∧ p.pass = slot then {} else p

/-- R381: die `d`'s capture slot is occupied. -/
def captureBusy (s : State) (d : Nat) : Bool := s.integ.captures.any fun c => c.die == d

/-- R383: a repeat of a well is pending or running. -/
def repeatDue (s : State) (w : Nat) : Bool := s.integ.captures.any fun c => c.well == w && c.state == 1

/-- R380: a failure would place a repeat now (R381, R383, R397). -/
def canRepeat (s : State) (w : Nat) : Bool := s.isOn pgINTEG && !s.repeatDue w && !s.captureBusy (dieOf w)

/-- R383, R395: a permanent fence of a well has been asked for, and is counted. -/
def fenceAsked (s : State) (w : Nat) : Bool := s.fault.fences.any fun e => e.1 == w && e.2.1 == 1

/-- R381 to R383: what a failed check leaves when its pass ends: a capture with its repeat demand, a fence, or a lost capture. -/
def commitCapture (s : State) (w : Nat) (p : PassRun) : State :=
  match p.cap with
  | none => s
  | some c =>
    if !s.isOn pgINTEG then s.wr (pgWell w) Reg.WELL.REPEAT_STAT_LAST 3
    else if s.repeatDue w then
      if s.fenceAsked w then s else ((s.askFence w 1 c.seq).bump pgINTEG Reg.INTEG.PERMANENTS).raise pgINTEG 5
    else if s.captureBusy (dieOf w) then
      ((s.bump pgINTEG Reg.INTEG.CAPTURE_LOST).raise pgINTEG 7).wr (pgWell w) Reg.WELL.REPEAT_STAT_LAST 3
    else
      let s := { s with integ := { s.integ with captures := s.integ.captures ++ [c] } }
      (s.wrBit pgINTEG Reg.INTEG.CAPTURE_BUSY (dieOf w) true).wr (pgWell w) Reg.WELL.REPEAT_STAT_ST 1

/-- R161: abandon one pass in progress. In RUN its dark symbol slots are counted up to now (R122); a tile of it that is ACTIVE is modulated no
further, so the next swap may come (R125). -/
def abandonPass (s : State) (w : Nat) (p : PassRun) (late : Bool := false) : State :=
  let s := (s.markPass w p.desc late).commitCapture w p
  let s := if p.st = 2 ∧ p.tile < Pd.kt p.desc then s.accountDark w (s.litNow w) else s
  let s := ((s.bump (pgWell w) Reg.WELL.ABORT_COUNT).raise (pgWell w) 10).advanceTail w
  s.onWell w fun x =>
    { x with
      passes := x.passes.filter fun y => y.slot != p.slot
      tileDone := x.tileDone || (x.plane x.activeB).pass == p.slot
      planeA := dropPlane p.slot x.planeA, planeB := dropPlane p.slot x.planeB }

/-- R161: abandon every pass in progress on a well. -/
def abandonRunning (s : State) (w : Nat) (late : Bool := false) : State := s.each (s.well w).passes fun s p => s.abandonPass w p late

/-- R161: abandon the descriptor of one ring slot that never entered SETUP. -/
def abandonSlot (s : State) (w slot : Nat) (late : Bool) : State :=
  ((s.markPass w (s.bytesAt (s.passKey w slot) 64) late).bump (pgWell w) Reg.WELL.ABORT_COUNT).raise (pgWell w) 10

/-- R136, R161: abandon the passes queued behind those in progress. -/
def abandonQueued (s : State) (w : Nat) (late : Bool := false) : State :=
  let x := s.well w
  let first := x.passes.length + x.stale
  let n := s.passDepth w - first
  let tail := s.passTail w
  let s := s.each (List.range n) fun s i => s.abandonSlot w ((tail + first + i) % 16) late
  if x.passes.isEmpty then s.wr (pgWell w) Reg.WELL.PASSQ_TAIL_INDEX ((tail + n) % 16)
  else s.onWell w fun x => { x with stale := x.stale + n }

/-- R42, R161: abandon every pass of a well, queued or in progress. -/
def abandonAll (s : State) (w : Nat) (late : Bool := false) : State := (s.abandonQueued w late).abandonRunning w late

/-- R126, R136: both planes to EMPTY. -/
def emptyPlanes (s : State) (w : Nat) : State :=
  s.onWell w fun x => { x with planeA := {}, planeB := {}, tileDone := true }

/-! ### Check tolerances -/

/-- R371: NOISE_g of a well. -/
def noise (s : State) (w g : Nat) : Nat :=
  match g with
  | 0 => s.rd (pgWell w) Reg.WELL.NOISE_01_G0
  | 1 => s.rd (pgWell w) Reg.WELL.NOISE_01_G1
  | 2 => s.rd (pgWell w) Reg.WELL.NOISE_23_G2
  | 3 => s.rd (pgWell w) Reg.WELL.NOISE_23_G3
  | _ => s.rd (pgWell w) Reg.WELL.NOISE_4_G4

/-- R372: τ_ms at the boundary of the current tick. -/
def tauMs (s : State) (w : Nat) : Nat := ceilDiv (s.tick.elapsed - (s.wellCal w).ns) 1000000

/-- R372: T_row from its factors. -/
def tRow (rowK noise tau : Nat) : Nat := ceilDiv (rowK * noise * 257) 8192 + ceilDiv (65536 * tau) 1000000

/-- R372: T_row of a well at a gain in the current tick. -/
def rowTol (s : State) (w g : Nat) : Nat := tRow (s.rd (pgWell w) Reg.WELL.INT_CTL_ROW_K) (s.noise w g) (s.tauMs w)

/-- R376: T_vec as a float32 word, each operation rounded once, and its clips (R148). -/
def tVec (vecK noise tau : Nat) (rho rho2 : Dy) (g : Nat) : Nat × Nat :=
  let out (r : Rounded) : Dy × Nat := (f32Val r.bits, b2n r.clip)
  let f (x : Dy) : Dy × Nat := out (rnaf x)
  let one : Dy := ⟨1, 0⟩
  let r := f (one.add rho2)
  let e := Ex.ofDy r.1
  let sq := out (sqrtRound e.num.natAbs e.den)
  let k := f ⟨(vecK : Int), -4⟩
  let kn := f (k.1.mul ⟨(noise : Int), 0⟩)
  let a := f (kn.1.mul sq.1)
  let ts := out (f32.round ⟨(tau : Int), 1000⟩)
  let c := out (f32.round ⟨66048, 1000⟩)
  let ct := f (c.1.mul ts.1)
  let om := f (one.sub rho).abs
  let b := f (ct.1.mul om.1)
  let d := out (f32.round ⟨256, fullScale g⟩)
  let ab := f (a.1.add b.1)
  let t := rnaf (ab.1.add d.1)
  (t.bits, r.2 + sq.2 + k.2 + kn.2 + a.2 + ts.2 + c.2 + ct.2 + om.2 + b.2 + d.2 + ab.2 + b2n t.clip)

end State

end Sys2Proof.Machine
end

