-- ==== Sys2Proof/Machine/Modulate.lean ====
section
/-! DEFINITION. One tile over a pass's vectors: receiver codes (R108 to R112), recombination (R140), accumulation (R142), the pilot
estimator (R130), the check row (R147, R373) and the check vector (R374, R376). Pure functions of the operands; `err` gives
each receiver's departure from the ideal field (R132) as the sender of the command measures it. -/

namespace Sys2Proof.Machine

/-- R193: window counts added, and their share taken off. -/
def QfitCounts.plus (a b : QfitCounts) : QfitCounts :=
  ⟨a.clips + b.clips, a.samples + b.samples, a.req + b.req, a.ufl + b.ufl, a.outputs + b.outputs⟩

def QfitCounts.less (a b : QfitCounts) : QfitCounts :=
  ⟨a.clips - b.clips, a.samples - b.samples, a.req - b.req, a.ufl - b.ufl, a.outputs - b.outputs⟩

/-- What a tile leaves behind, vector by vector. -/
structure TileRun where
  /-- Accumulators and exponents after the tile, by vector. -/
  accs : List (List Int × Int) := []
  /-- Blocks as modulated and recombined values, by vector. -/
  blocks : List (List Int × Int) := []
  ys : List (List Int) := []
  adcClips : Nat := 0
  reqClips : Nat := 0
  underflows : Nat := 0
  sat : Bool := false
  /-- R375: the share of the check slots in the three counts above, and how many check slots there were. -/
  slots : QfitCounts := {}
  excursions : Nat := 0
  /-- Excursions of the current check-row window, its index, and whether it has failed. -/
  win : Nat := 0
  winExc : Nat := 0
  winFail : Bool := false
  /-- Check-row failures: D and failing symbol, oldest first. -/
  chk : List (Int × Nat) := []
  pilot : PilotSums := {}
  pilotDone : List PilotSums := []
  deriving DecidableEq, Repr

/-- R110, R117: the field sum of one physical row; the pilot row's columns 64 to 127 lie in quadrature. -/
def rowDot (pilot : Bool) (i : Nat) (row slices : List Int) : Int :=
  if pilot && i == 129 then dotInt (row.take 64) (slices.take 64) else dotInt row slices

/-- R339: a trim word of a tap (KIND 2) of a receiver, from the trims of its well by trim address. -/
def tapTrim (trims : List (Nat × Nat)) (r sub elem width : Nat) : Int :=
  toSigned (sparseGet (fun _ => 0) trims (2 * 2 ^ 4 + r * 2 ^ 8 + elem * 2 ^ 16 + sub * 2 ^ 25)) width

/-- R339: a trim word of a receiver's row (KIND 3). -/
def rowTrim (trims : List (Nat × Nat)) (r elem width : Nat) : Int :=
  toSigned (sparseGet (fun _ => 0) trims (3 * 2 ^ 4 + r * 2 ^ 8 + elem * 2 ^ 16)) width

/-- R320: a slice of an input field in a span: in the bipolar law its magnitude stops at 128, in the unipolar law its sign is ignored. -/
def inCode (bipolar : Bool) (x : Int) : Int := if bipolar then clampInt (-128) 128 x else x.natAbs

/-- R320, R340: IN_SPAN 0 makes the high slice bipolar and the low slice unipolar, 1 both bipolar, 2 both unipolar. -/
def inBipolar (span : Nat) (hi : Bool) : Bool := span == 1 || (span != 2 && hi)

/-- R321: a column code in a span: sign and magnitude up to 511, or in the unipolar span the unsigned number that the ten bits spell. -/
def colCode (unipolar : Bool) (x : Int) : Int :=
  if unipolar then (if x < 0 then 512 + (x.natAbs : Int) else x) else clampInt (-511) 511 x

/-- R112, R337: codes of the 130 receivers for one symbol, converted by sub-converter `sub` of each. -/
def symbolCodes (rows : List (List Int)) (trims : List (Nat × Nat)) (sub : Nat) (pilot : Bool) (bipolar unipolar : Bool) (gain : Nat)
    (slices errs : List Int) : List Int :=
  let xs := slices.map (inCode bipolar)
  rows.zipIdx.map fun e =>
    adcCode (tapTrim trims e.2 sub 0 8) (tapTrim trims e.2 sub 1 16) (rowTrim trims e.2 0 16) (rowTrim trims e.2 1 8)
      (rawWord (rowDot pilot e.2 (e.1.map (colCode unipolar)) xs) (if bipolar then 128 else 256) gain (errs.getD e.2 0)
        (if unipolar then 1023 else 511))

/-- R118: the code delivered as the output of a tile row (or of the check row, 128). -/
def outCode (spare : Option Nat) (codes : List Int) (r : Nat) : Int := codes.getD (if spare = some r then 129 else r) 0

/-- R147: the check comparator's D of one symbol. -/
def checkD (spare : Option Nat) (codes rho q : List Int) (gain : Nat) : Int :=
  128 * outCode spare codes 128 - sumInt ((List.range 128).map (outCode spare codes)) + rnaQ (2 * dotInt rho q) (511 * fullScale gain) 0

/-- R373: one symbol's D enters its window; `sym` counts from the tile's first symbol. -/
def chkStep (tol sym : Nat) (d : Int) (t : TileRun) : TileRun :=
  let t := if t.win = sym / 1024 then t else { t with win := sym / 1024, winExc := 0, winFail := false }
  if d.natAbs ≤ tol then t
  else
    let t := { t with excursions := t.excursions + 1, winExc := t.winExc + 1 }
    if !t.winFail && (2 ≤ t.winExc || decide (2 * tol < d.natAbs)) then { t with winFail := true, chk := t.chk ++ [(d, sym)] } else t

/-- R130: one symbol enters the pilot sums; a full window of 2^win symbols is handed over. -/
def pilotStep (win : Nat) (slot : Nat) (desc : List Byte) (q : List Int) (ap : Int) (t : TileRun) : TileRun :=
  let pI := dotInt (pilotPattern.take 64) (q.take 64)
  let pQ := dotInt (pilotPattern.drop 64) (q.drop 64)
  let p := t.pilot
  let p : PilotSums :=
    { sII := p.sII + pI * pI, sQQ := p.sQQ + pQ * pQ, sIQ := p.sIQ + pI * pQ, sYI := p.sYI + ap * pI, sYQ := p.sYQ + ap * pQ
      count := p.count + 1, passes := addOnce (slot, desc) p.passes }
  if 2 ^ win ≤ p.count then { t with pilot := {}, pilotDone := t.pilotDone ++ [p] } else { t with pilot := p }

/-- R142: one tile's step for one vector: accumulators, exponent, clamps. `zd`, `w`, `zx` are 0 where the pass has no such term. -/
def accumulate (first : Bool) (acc : List Int) (ex e : Int) (ys m : List Int) (zd : List (List Int)) (w : List Int) (zx : Int)
    (gain : Nat) : (List Int × Int) × Nat :=
  let fs := fullScale gain
  let acc0 := if first then List.replicate 128 0 else acc
  let e0 := if first then e else ex
  let up := acc0.map fun a => rnaShr a (e - e0).toNat
  let acc1 := if e0 < e then up.map sat32 else acc0
  let c1 := if e0 < e then (up.filter fun a => sat32 a != a).length else 0
  let e1 := if e0 < e then e else e0
  let xs := (List.range 4).map fun j => sumInt ((m.drop (32 * j)).take 32)
  let raw := (List.range 128).map fun r =>
    let zr := zd.getD r []
    let c := rnaShr (4 * ys.getD r 0) (e1 - e).toNat
    let c := c - rnaQ (4 * dotInt zr xs) (511 * fs) (e - e1 + 2)
    let c := c - rnaQ (4 * zx * (w.getD r 0 - 32 * sumInt zr)) (511 * fs) (2 - e1)
    acc1.getD r 0 + c
  ((raw.map sat32, e1), c1 + (raw.filter fun a => sat32 a != a).length)

/-- R374: length of the group that a slot lies in, and its first slot. -/
def groupOf (g nv v : Nat) : Nat × Nat := let a := v / g * g; (a, min g (nv - a))

/-- R374: a slot is the check slot of its group. -/
def isCheckSlot (on : Bool) (g nv v : Nat) : Bool :=
  let a := groupOf g nv v
  on && decide (2 ≤ a.2) && v == a.1 + a.2 - 1

/-- R374: the block modulated in a check slot: the conversion of the exact sum of its members' blocks, with its underflows (R155). -/
def sumBlock (members : List (List Int × Int)) : ActBlock × Nat :=
  let sums := (List.range 128).map fun c => Dy.sum (members.map fun b => ⟨b.1.getD c 0, b.2⟩)
  toBlock sums ⟨0, 0⟩

/-- R376: Δ of one row for a group: check value less the members' values at the check exponent. -/
def deltaRow (r : Nat) (yc : List Int) (ec : Int) (members : List (List Int × Int)) : Dy :=
  (⟨yc.getD r 0, 0⟩ : Dy).sub (Dy.sum (members.map fun m => ⟨m.1.getD r 0, m.2 - ec⟩))

/-- R376: the verdict on one group: none when it passes or is skipped, else the worst row and its Δ; with the clips of its tolerance (R148). -/
def vecCheck (vecK noise tau gain : Nat) (yc mc : List Int) (ec : Int) (ysm : List (List Int × Int)) (mem : List (List Int × Int)) :
    Option (Nat × Dy) × Nat :=
  if mc.all (· == 0) && !(mem.all fun m => m.1.all (· == 0)) then (none, 0)
  else
    let rho := Dy.sum (ysm.map fun m => ⟨1, m.2 - ec⟩)
    let rho2 := Dy.sum (ysm.map fun m => ⟨1, 2 * (m.2 - ec)⟩)
    let tv := State.tVec vecK noise tau rho rho2 gain
    let t := f32Val tv.1
    let ds := (List.range 128).map fun r => (r, (deltaRow r yc ec ysm).abs)
    let out := ds.filter fun x => t.lt x.2
    let big := ds.filter fun x => ((⟨2, 0⟩ : Dy).mul t).lt x.2
    (if 2 ≤ out.length ∨ big.length ≠ 0 then
      out.foldl (fun b x => match b with | none => some x | some y => if y.2.lt x.2 then some x else some y) none
    else none, tv.2)

/-- Everything that fixes one tile's run. -/
structure TileCtx where
  rows : List (List Int)
  rho : List Int
  zd : List (List Int)
  sums : List Int
  spare : Option Nat
  gain : Nat
  rowOn : Bool
  tol : Nat
  win : Nat
  slot : Nat
  desc : List Byte
  /-- First tile of a fresh accumulation. -/
  first : Bool
  /-- R339: trim words of the well by trim address; R127: number of the tile's first symbol. -/
  trims : List (Nat × Nat) := []
  sym0 : Nat := 0
  /-- R519: pairs of slots skipped in each 16 symbols; 0 without skipping. -/
  skip : Nat := 0
  /-- R340: IN_SPAN and COL_SPAN of the well. -/
  inSpan : Nat := 0
  colSpan : Nat := 0
  deriving DecidableEq, Repr

/-- R519: the slots of each 16 that are not skipped, with `m` pairs skipped. -/
def litSlots (m : Nat) : List Nat :=
  (List.range 16).filter fun i => let j := i / 2; decide ((j + 1) * m / 8 ≤ j * m / 8)

/-- R127, R519: the slot in which symbol `k` of a tile is modulated whose first symbol takes the first slot from `start` on that is not skipped. -/
def slotOf (m start k : Nat) : Nat :=
  let l := litSlots m
  let n := (l.filter fun i => decide (i < start % 16)).length + k
  start / 16 * 16 + n / max 1 l.length * 16 + l.getD (n % max 1 l.length) 0

/-- R138: the two symbols of one vector: codes, pilot and check row. -/
def symbolRun (cx : TileCtx) (sym : Nat) (hi : Bool) (m errs : List Int) (t : TileRun) : TileRun × List Int :=
  let sl := m.map fun x => if hi then sliceHi x else sliceLo x
  let q := if hi then sl.map (2 * ·) else sl
  let codes := symbolCodes cx.rows cx.trims (slotOf cx.skip cx.sym0 sym % 8) cx.spare.isNone (inBipolar cx.inSpan hi) (cx.colSpan == 1) cx.gain
    sl errs
  let t := if cx.spare.isNone then pilotStep cx.win cx.slot cx.desc q (codes.getD 129 0) t else t
  let t := if cx.rowOn && cx.spare != some 128 then chkStep cx.tol sym (checkD cx.spare codes cx.rho q cx.gain) t else t
  let outs := (List.range 128).map (outCode cx.spare codes)
  ({ t with adcClips := t.adcClips + (outs.filter fun a => a == -512 || a == 511).length }, outs)

/-- One vector of a tile: `blk` is its block as modulated, `old` the accumulators found, `cnt` whether clips of the conversion count. -/
def vectorRun (cx : TileCtx) (v : Nat) (blk : ActBlock) (old : List Int × Int) (errHi errLo : List Int) (t : TileRun) : TileRun :=
  let h := symbolRun cx (2 * v) true blk.m errHi t
  let l := symbolRun cx (2 * v + 1) false blk.m errLo h.1
  let ys := h.2.zipWith (fun a b => 256 * a + 2 * b) l.2
  let zd := if Pd.wzp cx.desc then cx.zd else []
  let w := if Pd.xzp cx.desc then cx.sums else []
  let a := accumulate cx.first old.1 old.2 blk.e ys blk.m zd w (Pd.zx cx.desc) cx.gain
  let t := l.1
  { t with
    accs := t.accs ++ [a.1], blocks := t.blocks ++ [(blk.m, blk.e)], ys := t.ys ++ [ys]
    reqClips := t.reqClips + a.2, sat := (t.sat || a.2 != 0) }

end Sys2Proof.Machine
end

