-- ==== Sys2Proof/Machine/Pass.lean ====
section
/-! DEFINITION. Passes (R156 to R162): SETUP, RUN with the modulation of one tile, EPILOGUE, and the end with outputs, statistics and
seals (R146 to R154, R186, R388); the checks a pass carries (R373 to R381). -/

namespace Sys2Proof.Machine

namespace State

/-- Replace a pass in progress, found by its ring slot. -/
def putPass (s : State) (w : Nat) (p : PassRun) : State :=
  s.onWell w fun x => { x with passes := x.passes.map fun y => if y.slot = p.slot then p else y }

/-- R160: may a pass enter SETUP: a descriptor waits, the page is ON, and the passes in progress allow it (R162). -/
def mayEnter (s : State) (w : Nat) (d : List Byte) : Bool :=
  let x := s.well w
  s.isOn (pgWell w) && decide (x.passes.length + x.stale < s.passDepth w) &&
  match x.passes with
  | [] => true
  | p :: ps => Pd.layerCont d && decide (2 ≤ ((p :: ps).getLast (by simp)).st)

/-- R159: every result of the plan step of a pass is withheld: the results of its passes are marked, and work of it that is still to come is
withheld (`badStep`). -/
def withholdStep (s : State) (d : List Byte) : State :=
  match s.issuedAs d with
  | none => s
  | some x =>
    let s := { s with plan := { s.plan with badSteps := addOnce (x.prog, x.tick) s.plan.badSteps } }
    s.each (s.plan.steps.filter fun y => y.prog == x.prog && y.tick == x.tick && y.pass) fun s y =>
      match s.physOf y.at_ with
      | some w => if s.outputOk w y.desc then s.markPass w y.desc else s
      | none => s

/-- R159, R160: a refused pass: its reason, its marks, and IDLE. -/
def refusePass (s : State) (w : Nat) (d : List Byte) (reason : Nat) : State :=
  let s := (s.wr (pgWell w) Reg.WELL.REFUSE_STAT_REASON reason).wr (pgWell w) Reg.WELL.REFUSE_STAT_PASS_ID (Pd.id d)
  let s := s.raise (pgWell w) 11
  (if s.outputOk w d then s.markPass w d else s.withholdStep d).wr (pgWell w) Reg.WELL.PASSQ_TAIL_INDEX ((s.passTail w + 1) % 16)

/-- R159, R160: the descriptor at the ring's next slot enters SETUP and is checked. -/
def passSetup (s : State) (w : Nat) : State :=
  let x := s.well w
  let slot := (s.passTail w + x.passes.length + x.stale) % 16
  let d := s.bytesAt (s.passKey w slot) 64
  if !s.mayEnter w d then s
  else
    let r := s.refuseReason w d
    if r ≠ 0 then s.refusePass w d r
    else s.onWell w fun x => { x with passes := x.passes ++ [{ slot := slot, desc := d, tick := s.tick.number }] }

/-- R219: last block index of a staged tile, derived from its first with the width that its tag gives. -/
def tileLast (wbits : Nat) (t : StagedTile) : Nat := t.blk + (t.off + 2048 * wbits - 1) / 4096

/-- R219: does the tag of a scale item name a tile that arrives with these seal fields; `b` is the width of the pass's tiles (R213). -/
def tagMatches (b : Nat) (i : ScaleItem) (t : StagedTile) : Bool := i.tid == t.tid && i.first == t.blk && i.last == tileLast b t

/-- R219, R227: the block indices that differ between a tag and a tile, expected and received: the first ones, or the last ones where only
they differ. -/
def skewBlocks (b : Nat) (i : ScaleItem) (t : StagedTile) : Nat × Nat :=
  if i.first = t.blk ∧ i.last ≠ tileLast b t then (i.last, tileLast b t) else (i.first, t.blk)

/-- R220: a well drops its passes that name a halted pair of queues, and the staged bytes of both. -/
def skewWell (s : State) (wq sq w : Nat) : State :=
  let s := s.each ((s.well w).passes.filter fun p => Pd.optical p.desc && (Pd.wq p.desc == wq || Pd.sq p.desc == sq)) fun s p => s.abandonPass w p
  s.onWell w fun x => { x with staged := x.staged.filter fun t => t.queue != wq, scales := x.scales.filter fun t => t.queue != sq }

/-- R219, R220: a pairing mismatch that a well's checker finds: both queues stop and record what was expected and received, and every well that
receives the streams abandons its passes on them. -/
def pairSkew (s : State) (w wq sq : Nat) (blocks : Nat × Nat) (tidE tidG : Nat) : State :=
  let one (s : State) (q : Nat) : State :=
    let pg := pgPumpq q
    let s := ((s.wr pg Reg.PUMPQ.SKEW_EXP blocks.1).wr pg Reg.PUMPQ.SKEW_GOT blocks.2).wr pg Reg.PUMPQ.SKEW_TID_EXP tidE
    ((s.wr pg Reg.PUMPQ.SKEW_TID_GOT tidG).raise pg 6).onQueue q fun x => { x with skew := true }
  let s := one (one s wq) sq
  (s.record (pgPumpq wq) 13 0 1 blocks.1 blocks.2).each (List.dedup (w :: s.targets wq)) fun s m => s.skewWell wq sq m

/-- R219: the checker of a well finds that a tile and a scale item of a pass do not pair. -/
def mispaired (s : State) (w : Nat) (d : List Byte) (b : Nat) (i : ScaleItem) (t : StagedTile) : State :=
  s.pairSkew w (Pd.wq d) (Pd.sq d) (skewBlocks b i t) i.tid t.tid

/-- R160, R162: what of a well's staging and scale input belongs to the passes ahead of one in SETUP on the same queues: staged tiles not yet
released, and scale items not yet used. -/
def aheadOf (x : Well) (p : PassRun) : Nat × Nat :=
  let older := (x.passes.takeWhile fun y => y.slot != p.slot).filter fun y => Pd.optical y.desc
  let held (y : PassRun) : Nat := b2n ((x.planeA.st == .loading && x.planeA.pass == y.slot) || (x.planeB.st == .loading && x.planeB.pass == y.slot))
  let left (y : PassRun) : Nat := Pd.kt y.desc - y.loaded
  (((older.filter fun y => Pd.wq y.desc == Pd.wq p.desc).map fun y => left y + held y).foldl (· + ·) 0,
    ((older.filter fun y => Pd.sq y.desc == Pd.sq p.desc).map fun y => (1 + b2n (Pd.xzp y.desc)) * left y).foldl (· + ·) 0)

/-- R169, R390: blocks of a staged tile fail their seal check. -/
def stagingFail (s : State) (w : Nat) (t : StagedTile) (blocks : List Nat) : State :=
  s.each blocks fun s i =>
    ((s.bump pgINTEG Reg.INTEG.SEAL_FAILS).raise pgINTEG 8).record (pgWell w) 11 0 1 (t.blk * 4096 + t.off + 4096 * i)
      (t.tid * 2 ^ 32 + (t.blk + i) % 2 ^ 32)

/-- R169: tiles staged before their pass's scale stream gave its WBITS are held to it: those of another width fail, block by block. -/
def widthCheck (s : State) (w wq wbits : Nat) (skip : Nat) : State :=
  let ts := (((s.well w).staged.filter fun t => t.queue == wq).drop skip).filter fun t => fmtBits t.fmt != wbits && !t.withheld
  let s := s.each ts fun s t => s.stagingFail w t (List.range (tileLast (fmtBits t.fmt) t - t.blk + 1))
  s.onWell w fun x => { x with staged := x.staged.map fun t => if ts.contains t then { t with withheld := true } else t }

/-- R160, R218: a pass in SETUP is promoted: an optical one takes its row scale record and enters RUN, a vector-only one EPILOGUE. -/
def promote (s : State) (w : Nat) (p : PassRun) : State :=
  let d := p.desc
  if !Pd.optical d then s.putPass w { p with st := 3 }
  else
    let x := s.well w
    let skip := aheadOf x p
    match ((x.staged.filter fun t => t.queue == Pd.wq d).drop skip.1).head?, ((x.scales.filter fun i => i.queue == Pd.sq d).drop skip.2).head? with
    | some t, some i =>
      if i.kind ≠ 0 ∨ !tagMatches i.wbits i t then s.mispaired w d i.wbits i t
      else
        let run := x.passes.any fun y => y.st = 2 ∧ y.tile < Pd.kt y.desc
        let s := s.onWell w fun x => { x with scales := x.scales.erase i, acct := if run then x.acct else s.symbolNow w }
        (s.putPass w { p with st := 2, record := i.bytes, haveRecord := true, withheld := p.withheld || i.withheld, fmt := t.fmt, wbits := i.wbits }).widthCheck
          w (Pd.wq d) i.wbits skip.1
    | _, _ => s

/-- R141: accumulators and exponent of one vector, from the bytes of the accumulator region. -/
def accOf (bs : List Byte) (nv v : Nat) : List Int × Int :=
  let row := (bs.drop (512 * v)).take 512
  ((List.range 128).map fun r => toSigned (fieldOf row (4 * r) 4) 32, toSigned (fieldOf bs (512 * nv + 4 * v) 2) 16)

/-- R141: bytes of the accumulator region. -/
def accBytes (accs : List (List Int × Int)) (gain : Nat) : List Byte :=
  (accs.map fun a => (a.1.map fun x => bytesOf 4 (ofSigned x 32)).flatten).flatten ++
  (accs.map fun a => bytesOf 4 (ofSigned a.2 16 + gain * 2 ^ 16)).flatten

/-- R118: spared row of a well; none while sparing is off. -/
def spareRow (s : State) (w : Nat) : Option Nat :=
  if s.flag (pgWell w) Reg.WELL.SPARE_EN then some (s.rd (pgWell w) Reg.WELL.SPARE_ROW) else none

/-- R374: the block modulated for a vector, and clips and underflows of its conversion. -/
def blockFor (cx : TileCtx) (vecOn : Bool) (g nv v : Nat) (data hdrs : List Byte) (done : List (List Int × Int)) :
    ActBlock × Nat × Nat :=
  let d := cx.desc
  if isCheckSlot vecOn g nv v then
    let b := sumBlock (done.drop (groupOf g nv v).1)
    (b.1, 0, b.2)
  else
    let c := convertBlock (Pd.actFmt d) ((data.drop (256 * v)).take 256) (fieldOf hdrs (4 * v) 4) (Pd.zx d)
    if Pd.spread d then
      let h := spreadBlock c.1
      (h.1, c.2.1, c.2.2 + h.2)
    else c

/-- The counts of a tile run as a window counts them (R193). -/
def countsOf (t : TileRun) : QfitCounts := ⟨t.adcClips, 256 * t.ys.length, t.reqClips, t.underflows, 0⟩

/-- R139 to R142: every vector of a tile. -/
def tileRun (cx : TileCtx) (vecOn : Bool) (g nv : Nat) (data hdrs accs : List Byte) (errs : List (List Int)) (t0 : TileRun) : TileRun :=
  (List.range nv).foldl (fun t v =>
    let b := blockFor cx vecOn g nv v data hdrs t.blocks
    let u := vectorRun cx v b.1 (accOf accs nv v) (errs.getD (2 * v) []) (errs.getD (2 * v + 1) []) t
    let u := { u with reqClips := u.reqClips + b.2.1, underflows := u.underflows + b.2.2 }
    if isCheckSlot vecOn g nv v then { u with slots := u.slots.plus ((countsOf u).less (countsOf t)) } else u) t0

/-- R376: failing groups of a tile: check slot, row and Δ; with the clips of the tolerances (R148). -/
def vecFails (s : State) (w g nv gain : Nat) (t : TileRun) : List (Nat × Nat × Dy) × Nat :=
  let l := ((List.range nv).filter fun v => isCheckSlot true g nv v).map fun v =>
    let a := (groupOf g nv v).1
    let blk := t.blocks.getD v ([], 0)
    let mem := (t.blocks.drop a).take (v - a)
    let ysm := ((t.ys.drop a).take (v - a)).zip (mem.map (·.2))
    let r := vecCheck (s.rd (pgWell w) Reg.WELL.INT_CTL_VEC_K) (s.noise w gain) (s.tauMs w) gain (t.ys.getD v []) blk.1 blk.2 ysm mem
    (r.1.map fun x => (v, x.1, x.2), r.2)
  (l.filterMap (·.1), (l.map (·.2)).foldl (· + ·) 0)

/-- R155, R193: add to the saturation counters and, less the share of check slots (R375), to the window counts. -/
def countWell (s : State) (w adc req ufl outs samples : Nat) (slots : QfitCounts := {}) : State :=
  let pg := pgWell w
  let s := (s.bump64 pg Reg.WELL.ADC_CLIPS_LO adc).bump64 pg Reg.WELL.REQ_CLIPS_LO req
  let s := ((s.bump64 pg Reg.WELL.UNDERFLOWS_LO ufl).bump64 pg Reg.WELL.OUTPUTS_LO outs).bump64 pg Reg.WELL.ADC_SAMPLES_LO samples
  s.onWell w fun x => { x with qfit := x.qfit.plus ((⟨adc, samples, req, ufl, outs⟩ : QfitCounts).less slots) }

/-- R370: checks enabled on a well: bit 0 check row, 1 check vector, 2 residue. -/
def checksOn (s : State) (w : Nat) : Nat := bits (s.word (regAddr (pgWell w) Reg.WELL.INT_CTL_ROW_EN.off)).toNat 0 3

/-- R380, R381: a check fails on a pass: its outputs are withheld, and the capture of the first kind in order is kept for its end. -/
def failPass (s : State) (w : Nat) (p : PassRun) (c : Capture) : State × PassRun :=
  let s := if p.failed then s else s.bump (pgWell w) Reg.WELL.WITHHELD_PASSES
  let s := (s.wr pgINTEG Reg.INTEG.LAST_WELL w).wr pgINTEG Reg.INTEG.LAST_KIND c.kind
  let keep := match p.cap with
    | none => true
    | some old => decide (c.kind < old.kind)
  let s := if keep then s.wr (pgWell w) Reg.WELL.REPEAT_STAT_KIND c.kind else s
  (s, { p with failed := true, withheld := true, cap := if keep then some { c with seq := s.fault.seq, checks := s.checksOn w } else p.cap })

/-- R411: action code of a check's record. -/
def checkAction (s : State) (w : Nat) : Nat := if s.canRepeat w then 2 else 1

/-- R381, R407: `n` stored activation blocks, each with its header behind it. -/
def storedBlocks (n : Nat) (data hdrs : List Byte) : List (List Byte) :=
  (List.range n).map fun v => (data.drop (256 * v)).take 256 ++ (hdrs.drop (4 * v)).take 4

/-- R378: a residue failure at a vector and cycle: counters, event, record, capture. -/
def residueFail (s : State) (w : Nat) (p : PassRun) (codes : List (List Int)) (blocks : List (List Int × Int)) (act : List (List Byte))
    (v cycle : Nat) : State × PassRun :=
  let pg := pgWell w
  if !s.flag pg Reg.WELL.INT_CTL_RES_EN then (s, p)
  else
    let s := (s.bump pg Reg.WELL.RES_FAILS).raise pg 16
    let s := s.record pg 3 0 (s.checkAction w) cycle 0 (Pd.id p.desc)
    let a := 2 * v / 1024 * 512
    s.failPass w p ⟨dieOf w, w, 3, codes, (blocks.drop a).take 512, p.desc, p.record, s.gainOf w p.desc, 0, 2 * v, s.now, 1, 0, 0,
      (act.drop a).take 512, s.rd pg Reg.WELL.INT_CTL_VEC_LOG2⟩

/-- R340: spans of a well's input and column banks. -/
def inSpan (s : State) (w : Nat) : Nat := s.rd (pgCluster (w / 16)) Reg.CLUSTER.CONV_MODE_IN_SPAN (w % 16)

def colSpan (s : State) (w : Nat) : Nat := s.rd (pgCluster (w / 16)) Reg.CLUSTER.CONV_MODE_COL_SPAN (w % 16)

/-- R339: trim words of a well by trim address. -/
def trimsOf (s : State) (w : Nat) : List (Nat × Nat) := (s.conv.trims.filter fun e => e.1 / 2 ^ 28 == w).map fun e => (e.1 % 2 ^ 28, e.2)

/-- R160: one tile of a pass in RUN is modulated over the pass's vectors; its plane carries light. Stored accumulators are read where the tile adds to
them. -/
def runTile (s : State) (w : Nat) (p : PassRun) (pl : Plane) (errs : List (List Int)) (fault : Option (Nat × Nat)) : State :=
  let d := p.desc
  let pg := pgWell w
  let nv := Pd.nv d
  let k := p.tile
  let gain := s.gainOf w d
  let a := s.read s.mapNow (Pd.act d + k * nv * 256) (nv * 256)
  let h := a.1.read a.1.mapNow (Pd.act d + Pd.kt d * nv * 256 + k * nv * 4) (4 * nv)
  let first := k == 0 && !Pd.accIn d
  let ac : State × ReadRes := if first then (h.1, {}) else h.1.read h.1.mapNow (Pd.acc d) (Pd.accLen d)
  let s := ac.1
  let cx : TileCtx :=
    { rows := pl.rows, rho := pl.rho, zd := pl.zd, sums := pl.sums, spare := s.spareRow w, gain := gain
      rowOn := s.flag pg Reg.WELL.INT_CTL_ROW_EN, tol := s.rowTol w gain, win := s.rd pg Reg.WELL.PILOT_CTL_WIN_LOG2
      slot := p.slot, desc := d, first := first, trims := s.trimsOf w, sym0 := pl.sym0
      skip := s.skipsOf (dieOf w), inSpan := s.inSpan w, colSpan := s.colSpan w }
  let g := 2 ^ s.rd pg Reg.WELL.INT_CTL_VEC_LOG2
  let vecOn := s.flag pg Reg.WELL.INT_CTL_VEC_EN && Pd.vecApplies d
  let t := tileRun cx vecOn g nv a.2.bytes h.2.bytes ac.2.bytes errs { pilot := (s.well w).pilot }
  let bad := p.withheld || pl.withheld || a.2.withheld || h.2.withheld || ac.2.withheld
  let p := { p with withheld := bad, late := p.late || a.2.late || h.2.late || ac.2.late }
  let s := s.countWell w t.adcClips t.reqClips t.underflows 0 (256 * nv) t.slots
  let s := if t.sat then s.raise pg 14 else s
  let s := s.bump pg Reg.WELL.EXCURSIONS t.excursions
  let s := s.accountDark w (2 * nv)
  let act := storedBlocks nv a.2.bytes h.2.bytes
  let cap (kind first n : Nat) (v : Int) (sym : Nat) : Capture :=
    ⟨dieOf w, w, kind, pl.rows, (t.blocks.drop first).take n, d, p.record, gain, v, sym, s.now, 1, 0, 0, (act.drop first).take n,
      s.rd pg Reg.WELL.INT_CTL_VEC_LOG2⟩
  -- R373: check-row failures.
  let r := t.chk.foldl (fun (x : State × PassRun) f =>
    let s := ((x.1.bump pg Reg.WELL.CHK_FAILS).wr pg Reg.WELL.CHK_LAST_D (ofSigned (clampInt (-32768) 32767 f.1) 16)).raise pg 12
    let s := s.record pg 1 0 (s.checkAction w) (ofSigned f.1 32) f.2 (Pd.id d)
    s.failPass w x.2 (cap 1 (f.2 / 1024 * 512) 512 f.1 f.2)) (s, p)
  -- R376: check-vector failures.
  let vf : List (Nat × Nat × Dy) × Nat := if vecOn then r.1.vecFails w g nv gain t else ([], 0)
  let r := (r.1.countWell w 0 vf.2 0 0 0, r.2)
  let r := vf.1.foldl (fun (x : State × PassRun) f =>
    let dv := clampInt (-(2 ^ 31)) (2 ^ 31 - 1) (rnaQ f.2.2.n 1 f.2.2.e)
    let s := (x.1.bump pg Reg.WELL.VEC_FAILS).raise pg 17
    let s := s.record pg 2 0 (s.checkAction w) (ofSigned dv 32) (f.2.1 * 65536 + f.1 / g) (Pd.id d)
    let a := groupOf g nv f.1
    s.failPass w x.2 (cap 2 a.1 a.2 dv (2 * f.1))) r
  -- R378: residue.
  let r := match fault with
    | none => r
    | some f => r.1.residueFail w r.2 pl.rows t.blocks act f.1 f.2
  let s := r.1
  let p := r.2
  let s := (s.write s.mapNow (Pd.acc d) (accBytes t.accs gain) (s.passSeal d p.withheld p.late)).1
  let s := s.onWell w fun x => { x with tileDone := true, lastSym := slotOf cx.skip pl.sym0 (2 * nv - 1) + 1, pilot := t.pilot, pilotDone := x.pilotDone ++ t.pilotDone }
  s.putPass w { p with tile := k + 1, blocks := t.blocks, codes := pl.rows, act := act }

/-- R377, R378: a residue failure of a vector-only pass, whose operands are its stored blocks; the last K block's stand in for a tile's. -/
def vectorOnlyFault (s : State) (w : Nat) (p : PassRun) (f : Nat × Nat) : State :=
  let d := p.desc
  let n := Pd.nv d
  let k := (Pd.kt d - 1) * n
  let r := s.residueFail w p [] [] (storedBlocks n (s.peek (Pd.act d + 256 * k) (256 * n))
    (s.peek (Pd.act d + 256 * (Pd.kt d * n) + 4 * k) (4 * n))) f.1 f.2
  r.1.putPass w r.2

/-- R160: PASS_RUN: the active tile is modulated, or else the oldest pass in SETUP is promoted; a vector-only pass has its residue failure
here, since it enters no RUN. -/
def passRun (s : State) (w : Nat) (errs : List (List Int)) (fault : Option (Nat × Nat)) : State :=
  if !s.runs (pgWell w) then s
  else match s.readyTile w with
    | some e => (s.onWell w fun x => { x with cleared := false }).runTile w e.1 e.2 errs fault
    | none =>
      match (s.well w).passes.find? fun p => p.st = 1 with
      | some p =>
        match fault, Pd.optical p.desc with
        | some f, false => s.vectorOnlyFault w { p with st := 3 } f
        | _, _ => s.promote w p
      | none => s

/-- R160: PASS_EPILOGUE: the oldest pass whose last vector of its last tile has been accumulated. -/
def passEpilogue (s : State) (w : Nat) (fault : Option (Nat × Nat)) : State :=
  match (s.well w).passes.find? fun p => p.st = 2 ∧ p.tile = Pd.kt p.desc with
  | none => s
  | some p =>
    let r := match fault with
      | none => (s, p)
      | some f => s.residueFail w p p.codes p.blocks p.act f.1 f.2
    r.1.putPass w { r.2 with st := 3 }

/-! ### The vector unit and the epilogue -/

/-- R148: an exact value rounded to float32, with its clip. -/
def rf (x : Dy) : Nat × Nat := let r := rnaf x; (r.bits, b2n r.clip)

/-- R148, R150: an operand word of a stored format as the float32 value it converts to; a non-finite one is replaced, and that or an overflow of
the conversion counts a clip. -/
def operandVal (fmt w : Nat) (xexp : Int) : Dy × Nat :=
  match fmt with
  | 12 => let v := f32.value w; (v.1, b2n v.2)
  | _ =>
    let v := actVal fmt w xexp
    let r := rf v.1
    (f32Val r.1, b2n v.2 + r.2)

/-- R151: the table function. -/
def lutApply (tab : List Byte) (inv : Nat) (x : Nat) : Nat × Nat :=
  let g (i : Nat) : Dy := f32Val (fieldOf tab (4 * i) 4)
  let v := f32Val x
  if v.lt (g 0) then
    rf ((g 4).add ((v.sub (g 0)).mul (g 2)))
  else if !v.lt (g 1) then
    rf ((g 260).add ((v.sub (g 1)).mul (g 3)))
  else
    let a := rf (v.sub (g 0))
    let t := rf ((f32Val a.1).mul (f32Val inv))
    let tv := f32Val t.1
    let i := min (Int.toNat (if 0 ≤ tv.e then tv.n * 2 ^ tv.e.toNat else tv.n / 2 ^ (-tv.e).toNat)) 255
    let f := tv.sub ⟨(i : Int), 0⟩
    let y := rf ((g (4 + i)).add (f.mul ((g (5 + i)).sub (g (4 + i)))))
    (y.1, a.2 + t.2 + y.2)

/-- R150: the vector operation on one value; `par` holds the parameters, `pv` the pair of the vector, `res` the residual operand. -/
def vopApply (vop : Nat) (par : List Byte) (inv : Nat) (pv : Nat × Nat) (res : Dy × Nat) (x : Nat) : Nat × Nat :=
  let v := f32Val x
  match vop with
  | 1 => (if 0 < v.n then x else 0, 0)
  | 2 =>
    let p0 := f32.value (fieldOf par 0 4)
    let p1 := f32.value (fieldOf par 4 4)
    let m := v.max p0.1
    let y := if p1.1.lt m then p1.1 else m
    ((rnaf y).bits, b2n p0.2 + b2n p1.2)
  | 3 => lutApply par inv x
  | 4 => let r := rf (v.add res.1); (r.1, r.2 + res.2)
  | 5 => let r := rf (v.mul res.1); (r.1, r.2 + res.2)
  | 6 =>
    let mu := f32.value pv.1
    let rho := f32.value pv.2
    let r := rf ((v.sub mu.1).mul rho.1)
    (r.1, r.2 + b2n mu.2 + b2n rho.2)
  | _ => (x, 0)

/-- R148, R151: inv of a table, computed once per pass, with its clip. -/
def lutInv (tab : List Byte) : Nat × Nat :=
  let dv := (f32Val (fieldOf tab 4 4)).sub (f32Val (fieldOf tab 0 4))
  let r := f32.round (Ex.div ⟨256, 1⟩ (Ex.ofDy dv))
  (r.bits, b2n r.clip)

/-- R146: the dequantised values of one vector, with clips. -/
def dequant (p : PassRun) (gain : Nat) (a : List Int × Int) : List (Nat × Nat) :=
  a.1.zipIdx.map fun e =>
    let rs := rowScaleOf p.record e.2
    let s2 := s2Val rs.s2
    let x := rf ((((⟨e.1, 0⟩ : Dy).mul s2.1).mul (ue5m3 rs.srm)).mul ⟨(fullScale gain : Int), a.2 - 4⟩)
    (x.1, x.2 + b2n s2.2)

/-- One output block: float32 values after the vector operation, stored words, clips, underflows. -/
structure OutBlock where
  vals : List Nat
  words : List Nat
  clips : Nat
  underflows : Nat
  deriving DecidableEq, Repr

/-- R149: stages 2 to 4 for one block of 128 values. -/
def outBlock (d : List Byte) (par : List Byte) (inv : Nat) (pv : Nat × Nat) (res : List (Dy × Nat)) (xs : List (Nat × Nat)) : OutBlock :=
  let ys := xs.zipIdx.map fun e =>
    let y := vopApply (Pd.vop d) par inv pv (res.getD e.2 (⟨0, 0⟩, 0)) e.1.1
    (y.1, e.1.2 + y.2)
  let cs := ys.map fun y => outConvert (Pd.outFmt d) (Pd.outSh d) y.1
  { vals := ys.map (·.1), words := cs.map (·.1.bits)
    clips := (ys.map (·.2)).foldl (· + ·) 0 + (cs.filter (·.1.clip)).length, underflows := (cs.filter (·.2)).length }

/-- R158, R186: bytes of an output block and of its header. -/
def blockBytes (d : List Byte) (words : List Nat) : List Byte × List Byte :=
  if isActFmt (Pd.outFmt d) then
    ((words.map (bytesOf 2)).flatten, bytesOf 4 (blockHeader (Pd.outFmt d) words (-(Pd.outSh d))))
  else ((words.map (bytesOf 4)).flatten, [])

/-- R152: a float32 sum of exact values, rounded once. -/
def sumVals (l : List Dy) : Nat × Nat := rf (Dy.sum l)

/-- R149 to R154: the epilogue of a pass: output region bytes, statistics, counts. `zero` says which blocks are check slots (R375). -/
def epilogueBlocks (s : State) (w : Nat) (p : PassRun) (acc act hdr par res : List Byte) (vecOn : Bool) (g : Nat) : List (Bool × OutBlock) :=
  let d := p.desc
  let nv := Pd.nv d
  let n := Pd.nOut d
  let gain := s.gainOf w d
  let inv := if Pd.vop d = 3 then (lutInv par).1 else 0
  let rb := Pd.outB d
  (List.range n).map fun i =>
    let v := i % nv
    let zero := Pd.optical d && isCheckSlot vecOn g nv v
    let c := convertBlock (Pd.actFmt d) ((act.drop (256 * i)).take 256) (fieldOf hdr (4 * i) 4) (Pd.zx d)
    let xs : List (Nat × Nat) :=
      if Pd.optical d then dequant p gain (accOf acc nv v) else c.1.m.map fun m => rf ⟨m, c.1.e⟩
    let rx := if Pd.outFmt d = 9 then xexpOf (fieldOf res (n * rb + 4 * i) 4) else 0
    let rs := if Pd.resLen d = 0 then [] else
      (List.range 128).map fun c => operandVal (Pd.outFmt d) (fieldOf res (i * rb + c * (rb / 128)) (rb / 128)) rx
    let b := outBlock d par inv (fieldOf par (8 * v) 4, fieldOf par (8 * v + 4) 4) rs xs
    let b := if Pd.optical d then b else { b with clips := b.clips + c.2.1, underflows := b.underflows + c.2.2 }
    (zero, if zero then ⟨List.replicate 128 0, List.replicate 128 0, 0, 0⟩ else b)

/-- R152, R154: bytes of the statistics area, and the clips of its sums. -/
def statBytes (d : List Byte) (bs : List (Bool × OutBlock)) : List Byte × Nat :=
  let nv := Pd.nv d
  let sums := if Pd.nstat d then
      (List.range nv).map fun v =>
        let vs := (bs.zipIdx.filter fun e => e.2 % nv = v).flatMap fun e => if e.1.1 then [] else e.1.2.vals.map f32Val
        let a := sumVals vs
        let b := sumVals (vs.map fun x => x.mul x)
        (bytesOf 4 a.1 ++ bytesOf 4 b.1, a.2 + b.2)
    else []
  let chan := if Pd.cstat d then
      (List.range 128).map fun c => bytesOf 4 (bs.foldl (fun m e => if e.1 then m else f32MaxAbs m (e.2.vals.getD c 0)) 0)
    else []
  let pad := if Pd.cstat d && !Pd.nstat d then [] else (sums.map (·.1)).flatten
  (pad ++ chan.flatten, (sums.map (·.2)).foldl (· + ·) 0)

/-- R152: μ and ρ of a vector from the partial sums of its passes, in ascending N-tile order, as float32 words with the clips of the moon's
operations (R148). `free` stands for 1 ÷ sqrt(var + eps) where var + eps is not above 0, which the spec does not state (log entry 58). -/
def normPair (rms : Bool) (n eps free : Nat) (s1 s2 : List Nat) : (Nat × Nat) × Nat :=
  let add (a : Nat × Nat) (x : Nat) : Nat × Nat := let r := rf ((f32Val a.1).add (f32Val x)); (r.1, a.2 + r.2)
  let a := s1.foldl add (0, 0)
  let b := s2.foldl add (0, 0)
  let per (x : Nat) : Ex := Ex.div (Ex.ofDy (f32Val x)) (Ex.ofInt n)
  let mu := if rms then ⟨0, false⟩ else f32.round (per a.1)
  let m := Ex.ofDy (f32Val mu.bits)
  let var := f32.round ((per b.1).sub (m.mul m))
  let v := if (f32Val var.bits).n < 0 then 0 else var.bits
  let e := Ex.ofDy ((f32Val v).add (f32Val eps))
  let rho := if e.num ≤ 0 then ⟨free, false⟩ else sqrtRound e.den e.num.natAbs
  ((mu.bits, rho.bits), a.2 + b.2 + b2n mu.clip + b2n var.clip + b2n rho.clip)

/-- R152: the seal under which the moon writes parameters: the one that the block holds, withheld where a source is. -/
def keptSeal (s : State) (withheld : Bool) (a : Nat) : Seal :=
  match s.resolve s.mapNow a with
  | .mem key => let x := s.blockSeal (key / 4096); { x with withheld := x.withheld || withheld }
  | _ => {}

/-- R152: steps 2 and 3 of one normalisation: the moon reads the statistics areas of the vector's passes and writes the parameter area of the
NORM_APPLY pass; its clips count on the well. -/
def normalise (s : State) (w : Nat) (j : Config.NormJob) : State :=
  let r := j.stats.foldl (fun (a : State × List ReadRes) b => let x := a.1.read a.1.mapNow b (8 * j.nv); (x.1, a.2 ++ [x.2])) (s, [])
  let f := r.1.draw 32
  let ps := (List.range j.nv).map fun v =>
    normPair j.rms j.n j.eps f.2.toNat (r.2.map fun x => fieldOf x.bytes (8 * v) 4) (r.2.map fun x => fieldOf x.bytes (8 * v + 4) 4)
  let bad := r.2.any fun x => x.withheld
  let s := (f.1.write f.1.mapNow j.param ((ps.map fun p => bytesOf 4 p.1.1 ++ bytesOf 4 p.1.2).flatten) (f.1.keptSeal bad)).1
  s.countWell w 0 ((ps.map (·.2)).foldl (· + ·) 0) 0 0 0

/-- R160: PASS_DONE: outputs, statistics and seals are written and the oldest pass in EPILOGUE reaches IDLE. -/
def passDone (s : State) (w : Nat) : State :=
  match (s.well w).passes with
  | [] => s
  | p :: _ =>
    if p.st ≠ 3 then s
    else
      let d := p.desc
      let pg := pgWell w
      let rd (s : State) (a n : Nat) : State × ReadRes := if n = 0 then (s, {}) else s.read s.mapNow a n
      let opt := Pd.optical d
      let epi := Pd.outFmt d != 13
      let r1 := if opt then (s, ({} : ReadRes)) else rd s (Pd.act d) (Pd.kt d * Pd.nv d * 256)
      let r2 := if opt then (r1.1, ({} : ReadRes)) else rd r1.1 (Pd.act d + Pd.kt d * Pd.nv d * 256) (Pd.kt d * Pd.nv d * 4)
      let r3 := if epi then rd r2.1 (Pd.param d) (Pd.paramLen d) else (r2.1, {})
      let r4 := if epi then rd r3.1 (Pd.res d) (Pd.resLen d) else (r3.1, {})
      let r5 := if epi && opt then rd r4.1 (Pd.acc d) (Pd.accLen d) else (r4.1, {})
      let s := r5.1
      let g := 2 ^ s.rd pg Reg.WELL.INT_CTL_VEC_LOG2
      let vecOn := s.flag pg Reg.WELL.INT_CTL_VEC_EN && Pd.vecApplies d
      let bad := p.withheld || r1.2.withheld || r2.2.withheld || r3.2.withheld || r4.2.withheld || r5.2.withheld || s.badStep d
      let late := p.late || r1.2.late || r2.2.late || r3.2.late || r4.2.late || r5.2.late
      let sl := s.passSeal d bad late
      let s :=
        if epi then
          let bs := s.epilogueBlocks w p r5.2.bytes r1.2.bytes r2.2.bytes r3.2.bytes r4.2.bytes vecOn g
          let out := bs.map fun b => blockBytes d b.2.words
          let st := statBytes d bs
          let live := bs.filter fun b => !b.1
          let inv := if Pd.vop d = 3 then (lutInv r3.2.bytes).2 else 0
          let s := s.countWell w 0 ((live.map (·.2.clips)).foldl (· + ·) 0 + st.2 + inv) ((live.map (·.2.underflows)).foldl (· + ·) 0)
            (128 * live.length) 0
          let s := s.wr pg Reg.WELL.TENSOR_MAXABS
            (live.foldl (fun m b => b.2.vals.foldl f32MaxAbs m) (bits (s.rd pg Reg.WELL.TENSOR_MAXABS) 0 31))
          let s := (s.write s.mapNow (Pd.out d) ((out.map (·.1)).flatten ++ (out.map (·.2)).flatten) sl).1
          if Pd.nstat d then (s.write s.mapNow (Pd.stat d) st.1 sl).1
          else if Pd.cstat d then (s.write s.mapNow (Pd.stat d + 8 * Pd.nv d) st.1 sl).1
          else s
        else if bad then s.markPass w d late else s
      let s := if Pd.nstat d then s.each (Config.normJobs s.plan.header d) fun s j => s.normalise w j else s
      let s := s.commitCapture w p
      let s := (s.bumpWrap pg Reg.WELL.PASS_COUNT).raise pg 9
      let s := match s.logicalOf w with
        | none => s
        | some n =>
          let c := sparsePut (fun _ => 0) s.pump.passCount n (sparseGet (fun _ => 0) s.pump.passCount n + 1)
          { s with pump := { s.pump with passCount := c } }
      (s.advanceTail w).onWell w fun x =>
        let x := { x with passes := x.passes.drop 1 }
        let inWindow (e : Nat × List Byte) : Bool := x.pilot.passes.contains e || x.pilotDone.any fun q => q.passes.contains e
        { x with counted := ((if p.failed then [(p.slot, d)] else []) ++ x.counted).filter inWindow }

end State

/-- PASS_SETUP (R160). -/
def execPassSetup (at_ w : Nat) (s : State) : Host.Outcome State Fault Refusal := liveCore s at_ fun s => s.passSetup w

/-- PASS_RUN (R160): `errs` gives the receivers' departures by symbol and row; `fault` a residue mismatch at a vector and cycle. -/
def execPassRun (at_ w : Nat) (errs : List (List Int)) (fault : Option (Nat × Nat)) (s : State) : Host.Outcome State Fault Refusal :=
  liveCore s at_ fun s => s.passRun w errs fault

/-- PASS_EPILOGUE (R160). -/
def execPassEpilogue (at_ w : Nat) (fault : Option (Nat × Nat)) (s : State) : Host.Outcome State Fault Refusal :=
  liveCore s at_ fun s => s.passEpilogue w fault

/-- PASS_DONE (R160). -/
def execPassDone (at_ w : Nat) (s : State) : Host.Outcome State Fault Refusal := liveCore s at_ fun s => s.passDone w

end Sys2Proof.Machine
end

