-- ==== Sys2Proof/Machine/Well.lean ====
section
/-! DEFINITION. The light path of a well: plane loading and swapping (R114 to R126), refresh (R124), the local-oscillator lock (R129),
the pilot windows (R131, R379), and the QFIT window (R193, R194). -/

namespace Sys2Proof.Machine

namespace State

/-- R121, R122: the plane that is loaded next: the one that carries no light; plane A while neither does (log entry 10). -/
def idlePlane (s : State) (w : Nat) : Bool :=
  match s.activePlane w with
  | none => false
  | some _ => !(s.well w).activeB

/-- R114, R118: codes by physical row of a tile with its check row. -/
def physicalRows (spare : Option Nat) (rows : List (List Int)) (chk : List Int) : List (List Int) :=
  let all := rows ++ [chk]
  match spare with
  | none => all ++ [pilotPattern]
  | some r => (all.zipIdx.map fun e => if e.2 = r then List.replicate 128 0 else e.1) ++ [all.getD r []]

/-- R120, R327: what the cells of a plane hold after its rows are written one by one: each samples its column line at the end of its cycle. -/
def sampledRows (prev : List Int) : List (List Int) → List (List Int)
  | [] => []
  | r :: rest => r.zipIdx.map (fun e => columnSample (prev.getD e.2 0) e.1) :: sampledRows r rest

/-- R145: rows whose delivered sum differs from the loader's. -/
def sumMismatches (sums : List Int) (delivered : List Byte) : Nat :=
  (sums.zipIdx.filter fun e => e.1 != toSigned (fieldOf delivered (4 * e.2) 4) 32).length

/-- R120, R145, R179: a staged tile is written into a plane with its scales. -/
def writePlane (s : State) (w : Nat) (p : PassRun) (b : Bool) (t : StagedTile) (i : ScaleItem) (rs : Option ScaleItem) : State :=
  let d := p.desc
  let pg := pgWell w
  let dr := driveTile t.fmt t.bytes i.bytes p.record
  let ck := checkRow dr.1
  let sums := dr.1.map sumInt
  let mis := match rs with
    | none => 0
    | some r => sumMismatches sums r.bytes
  let s := if mis = 0 then s else (s.bump pg Reg.WELL.ROWSUM_MISMATCH mis).raise pg 13
  let zs := if Pd.wzp d then (List.range 128).map fun r =>
      let e := rowScaleOf p.record r
      zeroDrives t.fmt e.z ((List.range 4).map fun j => fieldOf i.bytes (4 * r + j) 1) e.srm
    else []
  let zd := zs.map (·.1)
  let s := s.countWell w 0 (dr.2 + (zs.map (·.2)).foldl (· + ·) 0) 0 0 0
  let pl : Plane :=
    { st := .loading, rows := sampledRows [] (physicalRows (s.spareRow w) dr.1 ck.1), rho := ck.2, sums := sums, zd := zd, pass := p.slot
      tile := p.loaded, withheld := t.withheld || i.withheld || (rs.map (·.withheld)).getD false }
  let s := s.onWell w fun x => { x.setPlane b pl with scales := (x.scales.erase i).filter fun y => some y != rs }
  s.putPass w { p with loaded := p.loaded + 1 }

/-- R120: the pass whose next tile the idle plane takes, and that tile: the page runs, the plane is EMPTY and the column DACs are free. -/
def nextLoad (s : State) (w : Nat) : Option (PassRun × StagedTile) :=
  let x := s.well w
  let b := s.idlePlane w
  let busy := (x.plane (!b)).st = .refreshing ∨ (x.plane (!b)).st = .loading
  if !s.runs (pgWell w) || s.clearActive || busy || (x.plane b).st ≠ .empty then none
  else match x.passes.find? fun p => p.st = 2 ∧ p.loaded < Pd.kt p.desc with
    | none => none
    | some p => (x.staged.find? fun t => t.queue = Pd.wq p.desc).map fun t => (p, t)

/-- R219: the scale item of a kind for the next tile of a pass: some when it is there; else whether a record that stands before it shows that it
does not come. -/
def scaleItem (x : Well) (d : List Byte) (kind : Nat) : Option ScaleItem × Option ScaleItem :=
  let all := x.scales.filter fun i => i.queue = Pd.sq d
  ((all.takeWhile fun i => i.kind ≠ 0).find? fun i => i.kind = kind, all.find? fun i => i.kind = 0)

/-- R120, R219: PLANE_LOAD: the idle plane takes the next tile of the pass whose turn it is, once its rows and scales are there and
the column DACs are free. -/
def planeLoad (s : State) (w : Nat) : State :=
  match s.nextLoad w with
  | none => s
  | some (p, t) =>
    let b := s.idlePlane w
    let d := p.desc
    match scaleItem (s.well w) d 1 with
    | (none, none) => s
    | (none, some r) => s.mispaired w d p.wbits r t
    | (some i, _) =>
      if !tagMatches p.wbits i t then s.mispaired w d p.wbits i t
      else if Pd.xzp d then
        match scaleItem (s.well w) d 2 with
        | (none, none) => s
        | (none, some r) => s.mispaired w d p.wbits r t
        | (some r, _) => if !tagMatches p.wbits r t then s.mispaired w d p.wbits r t else s.writePlane w p b t i (some r)
      else s.writePlane w p b t i none

/-- R124: a load can begin now: its tile and its scales are there. -/
def loadPossible (s : State) (w : Nat) : Bool :=
  match s.nextLoad w with
  | none => false
  | some (p, _) => (scaleItem (s.well w) p.desc 1).1.isSome && (!Pd.xzp p.desc || (scaleItem (s.well w) p.desc 2).1.isSome)

/-- R120, R125: PLANE_READY: row 129 of the LOADING plane is written; its staging slot is released. -/
def planeReady (s : State) (w : Nat) : State :=
  let x := s.well w
  let b := s.idlePlane w
  let pl := x.plane b
  if pl.st ≠ .loading then s
  else match x.passes.find? fun p => p.slot = pl.pass with
    | none => s
    | some p =>
      match x.staged.find? fun t => t.queue = Pd.wq p.desc with
      | none => s
      | some t =>
        match t.skewed with
        | some k => s.pairSkew w (Pd.wq p.desc) (Pd.sq p.desc) (k.1, k.2.1) k.2.2.1 k.2.2.2
        | none => s.onWell w fun x => { x.setPlane b { pl with st := .ready } with staged := x.staged.erase t }

/-- R122: a well may swap: the active tile's last symbol is modulated and the idle plane is READY. While a calibration sequence or a session
works on the well, its planes serve that work (R346, R404). -/
def maySwap (s : State) (w : Nat) : Bool :=
  let x := s.well w
  x.tileDone && (x.plane (s.idlePlane w)).st == .ready && !s.clearActive && s.runs (pgWell w) && !s.inSlot w

/-- R123, R216: multicast group of the pass whose tile waits in the idle plane; 0 for none, and for a well whose page has left ON. -/
def readyGroup (s : State) (w : Nat) : Nat :=
  let x := s.well w
  let pl := x.plane (s.idlePlane w)
  if pl.st ≠ .ready ∨ s.isOn (pgWell w) = false then 0
  else match x.passes.find? fun p => p.slot = pl.pass with
    | none => 0
    | some p => Pd.mcast p.desc

/-- R122, R125: the swap. A strobe in the nanosecond in which the last tile ended falls at the boundary that follows its last symbol; any other
falls at the symbol that its stamp gives (log entry 117). -/
def swap (s : State) (w : Nat) : State :=
  let b := s.idlePlane w
  let now := s.symbolNow w
  let s := s.onWell w fun x =>
    let at_ := if x.lastSym ≤ now + 5 ∧ now ≤ x.lastSym + 5 then x.lastSym else now
    let x := (x.setPlane (!b) {}).setPlane b { x.plane b with st := .active, since := at_, sym0 := at_ }
    { x with activeB := b, tileDone := false }
  s.bumpWrap (pgWell w) Reg.WELL.SWAP_COUNT

/-- R122, R123: SWAP_STROBE of a well outside any multicast group. -/
def swapStrobe (s : State) (w : Nat) : State := if s.maySwap w && s.readyGroup w == 0 then s.swap w else s

/-- R123, R216: the group that a waiting well belongs to: the targets, whose page is ON, of the WQ of the pass whose tile waits there. -/
def groupMembers (s : State) (w : Nat) : List Nat :=
  let x := s.well w
  match x.passes.find? fun p => p.slot = (x.plane (s.idlePlane w)).pass with
  | none => []
  | some p => (s.targets (Pd.wq p.desc)).filter fun m => s.isOn (pgWell m)

/-- R123: every member of a group has its last symbol modulated and its idle plane READY. -/
def groupReady (s : State) (g : Nat) (ms : List Nat) : Bool := !ms.isEmpty && ms.all fun w => s.maySwap w && s.readyGroup w == g

/-- R123, R216: GROUP_STROBE: of each group of the number that is ready, every member swaps together; groups that share the number are told apart by
their members. -/
def groupStrobe (s : State) (g : Nat) : State :=
  let gs := (((s.wells.map (·.1)).filter fun w => s.readyGroup w == g).map s.groupMembers).dedup
  if g = 0 then s else s.each (gs.filter (s.groupReady g)) fun s ms => if s.groupReady g ms then s.each ms fun s w => s.swap w else s

/-- R124, R125: REFRESH: a refresh of the active plane begins, or ends. It does not begin while a load is in progress, nor when one becomes
possible with it. -/
def refresh (s : State) (w : Nat) (ends : Bool) : State :=
  let x := s.well w
  let b := x.activeB
  let pl := x.plane b
  if ends then
    if pl.st = .refreshing then
      (s.onWell w fun x => x.setPlane b { pl with st := .active, since := s.symbolNow w }).bump (pgWell w) Reg.WELL.REFRESH_COUNT
    else s
  else if pl.st = .active ∧ s.flag (pgWell w) Reg.WELL.OPT_CTL_REFRESH_EN ∧ (x.plane (!b)).st ≠ .loading ∧
      pl.since + 40000 ≤ s.symbolNow w ∧ s.loadPossible w = false then
    s.onWell w fun x => x.setPlane b { pl with st := .refreshing }
  else s

/-- R129: the worst row as measured. -/
def loWorst (s : State) (w row err : Nat) : State :=
  (s.wr (pgWell w) Reg.WELL.LO_STAT_WORST_ROW row).wr (pgWell w) Reg.WELL.LO_STAT_WORST_ERR (min err 65535)

/-- R129: LO_UNLOCK: the error of a row, in 0.1 mrad, exceeds 0.02 rad, so that the LO is not locked; above 0.05 rad the well goes dark. -/
def loUnlock (s : State) (w row err : Nat) : State :=
  if err ≤ 200 then s
  else
    let s := (s.loWorst w row err).wr (pgWell w) Reg.WELL.LO_STAT_LO_LOCKED 0
    if err ≤ 500 ∨ (s.well w).darkLo then s else (s.raise (pgWell w) 5).onWell w fun x => { x with darkLo := true }

/-- R523: a well in thermal step resumes once ten samples were calm and its LO is locked. -/
def stepResume (s : State) (w : Nat) : State :=
  if (s.well w).darkStep && decide (10 ≤ sparseGet (fun _ => 0) s.therm.calm w) && s.flag (pgWell w) Reg.WELL.LO_STAT_LO_LOCKED then
    let s := s.onWell w fun x => { x with darkStep := false }
    ({ s with therm := { s.therm with calm := sparsePut (fun _ => 0) s.therm.calm w 0 } }).wr pgTHERM Reg.THERM.STEP_WELLS_COUNT
      (s.rd pgTHERM Reg.THERM.STEP_WELLS_COUNT - 1)
  else s

/-- R129: LO_RELOCK: every row is within 0.02 rad; `row` and `err` name the worst. A well that was moved to another source stays dark to the next
boundary (R304, R307). -/
def loRelock (s : State) (w row err : Nat) : State :=
  if 200 < err then s
  else
    let waits := (s.well w).darkLo && (!(s.well w).moved || !s.flag (pgWell w) Reg.WELL.LO_STAT_LO_LOCKED)
    let s := (s.loWorst w row err).wr (pgWell w) Reg.WELL.LO_STAT_LO_LOCKED 1
    (if waits then (s.raise (pgWell w) 6).onWell w fun x => { x with darkLo := x.moved } else s).stepResume w

/-- R131: phase and gain of a window, as float32 words, and the clips of the moon's operations (R148); none when the window is skipped. DESIGN CHOICE (log entry 54): the spec says only that the
moon solves in float32; the model rounds a and b once each, from the exact sums; then atan2 of them, its difference from φ_ref, the square root
of the exact a² + b², and its quotient by g_ref, once each. -/
def pilotSolve (p : PilotSums) (phiRef gRef : Nat) : Option (Nat × Nat × Nat) :=
  let dd := p.sII * p.sQQ - p.sIQ * p.sIQ
  if p.sII < 2 ^ 32 ∨ p.sQQ < 2 ^ 32 ∨ 4 * dd < p.sII * p.sQQ then none
  else
    let ra := f32.round ⟨p.sYI * p.sQQ - p.sYQ * p.sIQ, dd.toNat⟩
    let rb := f32.round ⟨p.sYQ * p.sII - p.sYI * p.sIQ, dd.toNat⟩
    let a := f32Val ra.bits
    let b := f32Val rb.bits
    let ang := f32.round (atan2Ex (Ex.ofDy b) (Ex.ofDy a))
    let phase := rnaf ((f32Val ang.bits).sub (f32Val phiRef))
    let m := Ex.ofDy ((a.mul a).add (b.mul b))
    let mag := sqrtRound m.num.natAbs m.den
    let gain := f32.round (Ex.div (Ex.ofDy (f32Val mag.bits)) (Ex.ofDy (f32Val gRef)))
    some (phase.bits, gain.bits, b2n ra.clip + b2n rb.clip + b2n ang.clip + b2n phase.clip + b2n mag.clip + b2n gain.clip)

/-- R131: a reading exceeds a threshold: |phase| in mrad, |gain − 1| in units of 0.01 %. -/
def pilotExceeds (phase gain phaseThr gainThr : Nat) : Bool :=
  let ph := (f32Val phase).abs
  let dg := ((f32Val gain).sub ⟨1, 0⟩).abs
  (⟨(phaseThr : Int), 0⟩ : Dy).lt (ph.mul ⟨1000, 0⟩) || (⟨(gainThr : Int), 0⟩ : Dy).lt (dg.mul ⟨10000, 0⟩)

/-- R131: the LO phase targets move by −PILOT_PHASE, at most 5 mrad. -/
def trackMove (trim phase : Nat) : Nat :=
  let lim := f32Val (f32.round ⟨5, 1000⟩).bits
  let p := f32Val phase
  let mv := if lim.lt p then lim else if p.lt lim.neg then lim.neg else p
  (rnaf ((f32Val trim).sub mv)).bits

/-- R379, R380: a pass with a symbol in a failing window is withheld: in progress it fails, completed it is marked. -/
def pilotWithhold (s : State) (w : Nat) (e : Nat × List Byte) : State :=
  match (s.well w).passes.find? fun p => p.slot = e.1 ∧ p.desc = e.2 with
  | some p =>
    let s := if p.failed then s else s.bump (pgWell w) Reg.WELL.WITHHELD_PASSES
    s.putPass w { p with failed := true, withheld := true }
  | none =>
    let s := if (s.well w).counted.contains e then s
      else (s.bump (pgWell w) Reg.WELL.WITHHELD_PASSES).onWell w fun x => { x with counted := e :: x.counted }
    s.markPass w e.2

/-- R348, R379, R411: fence a well as drifting; `seq` is that of the record that led to it. -/
def driftFence (s : State) (w seq : Nat) : State := ((s.askFence w 3 seq).bump pgCAL Reg.CAL.DRIFT_FENCES).raise pgCAL 8

/-- R131, R379: a window raises PILOT_DRIFT. -/
def pilotDrift (s : State) (w : Nat) (p : PilotSums) (phase gain : Nat) : State :=
  let pg := pgWell w
  let s := (s.raise pg 4).bump pg Reg.WELL.PILOT_FAILS
  let en := s.flag pg Reg.WELL.INT_CTL_PILOT_EN
  let s := if en then
      let s := s.each p.passes fun s e => s.pilotWithhold w e
      ((s.wr pgINTEG Reg.INTEG.LAST_WELL w).wr pgINTEG Reg.INTEG.LAST_KIND 4).record pg 4 0 1 phase gain
    else s.record pg 4 0 0 phase gain
  if en && (s.wellCal w).pilotArmed then (s.driftFence w s.fault.seq).onWellCal w fun c => { c with pilotArmed := false, pilotWatch := false }
  else s.onWellCal w fun c => { c with dueNow := true, pilotWatch := en || c.pilotWatch, pilotArmed := false }

/-- R131: PILOT_WINDOW_END: the oldest completed window is solved, or skipped. -/
def pilotWindowEnd (s : State) (w : Nat) : State :=
  let x := s.well w
  let pg := pgWell w
  match x.pilotDone with
  | [] => s
  | p :: rest =>
    let s := s.onWell w fun x => { x with pilotDone := rest }
    match pilotSolve p x.phiRef x.gRef with
    | none => s.bump pg Reg.WELL.PILOT_SKIP
    | some r =>
      let s := ((s.wr pg Reg.WELL.PILOT_PHASE r.1).wr pg Reg.WELL.PILOT_GAIN r.2.1).countWell w 0 r.2.2 0 0 0
      let s := if s.flag pg Reg.WELL.OPT_CTL_PILOT_TRACK then s.onWell w fun x => { x with loTrim := trackMove x.loTrim r.1 } else s
      if pilotExceeds r.1 r.2.1 (s.rd pg Reg.WELL.PILOT_CTL_PHASE_THR) (s.rd pg Reg.WELL.PILOT_CTL_GAIN_THR) then s.pilotDrift w p r.1 r.2.1
      else s.onWellCal w fun c => { c with pilotArmed := false }

/-- R193: a tick numbered `b` after `a` belongs to another window of a well. -/
def qfitCloses (s : State) (w a b : Nat) : Bool :=
  let n := max 1 (s.rd (pgWell w) Reg.WELL.QFIT_CTL_WIN_TICKS)
  a / n != b / n

/-- R193, R194: the window that closes at boundary `b` is evaluated, once: the page is ON, EN is 1, and the window has been counted whole. -/
def qfitEvaluate (s : State) (w b : Nat) : State :=
  let x := s.well w
  let pg := pgWell w
  if !s.isOn pg || !s.flag pg Reg.WELL.QFIT_CTL_EN || x.qfitWait || x.qfitDone = b then s
  else
    let m := s.rd pg Reg.WELL.QFIT_CTL_MIN_LOG2
    let q := x.qfit
    let ev (den : Nat) : Bool := qfitEvaluated den m
    let exc (num den thr : Nat) : Bool := ev den && qfitExceeds num den thr
    let a := exc q.clips q.samples (s.rd pg Reg.WELL.QFIT_ADC_PPM)
    let r := exc q.req q.outputs (s.rd pg Reg.WELL.QFIT_REQ_PPM)
    let u := exc q.ufl q.outputs (s.rd pg Reg.WELL.QFIT_UFL_PPM)
    let fr (num den : Nat) : Nat := if ev den then qfitFrac num den else 0
    let s := ((s.wr pg Reg.WELL.QFIT_FRAC_ADC (fr q.clips q.samples)).wr pg Reg.WELL.QFIT_FRAC_REQ (fr q.req q.outputs)).wr pg
      Reg.WELL.QFIT_FRAC_UFL (fr q.ufl q.outputs)
    let s := if a || r || u then
        let s := ((s.wr pg Reg.WELL.QFIT_STAT_ADC (b2n a)).wr pg Reg.WELL.QFIT_STAT_REQ (b2n r)).wr pg Reg.WELL.QFIT_STAT_UFL (b2n u)
        ((s.raise pg 15).bump pg Reg.WELL.QFIT_COUNT).wr64 pg Reg.WELL.QFIT_TICK_LO b
      else s
    s.onWell w fun x => { x with qfitDone := b }

/-- R193: QFIT_WINDOW, in the last tick of a window: the fractions of the window that the next boundary closes are evaluated. -/
def qfitWindow (s : State) (w : Nat) : State := if s.qfitCloses w s.tick.number s.nextTickNo then s.qfitEvaluate w s.nextTickNo else s

/-- R193, R194: at the boundary after tick `old`, before its commits: a window that closes is evaluated, where QFIT_WINDOW has not done so, and its
counts start anew. -/
def qfitBoundary (s : State) (old : Nat) : State :=
  let n := s.tick.number
  s.each (s.wells.map (·.1)) fun s w =>
    let s := if s.qfitCloses w old n then (s.qfitEvaluate w n).onWell w fun x => { x with qfit := {} } else s
    if n % max 1 (s.rd (pgWell w) Reg.WELL.QFIT_CTL_WIN_TICKS) = 0 then s.onWell w fun x => { x with qfit := {}, qfitWait := false } else s

end State

/-- PLANE_LOAD (R120). -/
def execPlaneLoad (at_ w : Nat) (s : State) : Host.Outcome State Fault Refusal := liveCore s at_ fun s => s.planeLoad w

/-- PLANE_READY (R120). -/
def execPlaneReady (at_ w : Nat) (s : State) : Host.Outcome State Fault Refusal := liveCore s at_ fun s => s.planeReady w

/-- SWAP_STROBE (R122). -/
def execSwapStrobe (at_ w : Nat) (s : State) : Host.Outcome State Fault Refusal := liveCore s at_ fun s => s.swapStrobe w

/-- GROUP_STROBE (R123). -/
def execGroupStrobe (at_ g : Nat) (s : State) : Host.Outcome State Fault Refusal := liveCore s at_ fun s => s.groupStrobe g

/-- REFRESH (R124): its beginning, or its end. -/
def execRefresh (at_ w : Nat) (ends : Bool) (s : State) : Host.Outcome State Fault Refusal := liveCore s at_ fun s => s.refresh w ends

/-- LO_UNLOCK (R129): the worst row and its error in 0.1 mrad. -/
def execLoUnlock (at_ w row err : Nat) (s : State) : Host.Outcome State Fault Refusal := liveCore s at_ fun s => s.loUnlock w row err

/-- LO_RELOCK (R129): the worst row and its error in 0.1 mrad. -/
def execLoRelock (at_ w row err : Nat) (s : State) : Host.Outcome State Fault Refusal := liveCore s at_ fun s => s.loRelock w row err

/-- PILOT_WINDOW_END (R131). -/
def execPilotWindowEnd (at_ w : Nat) (s : State) : Host.Outcome State Fault Refusal := liveCore s at_ fun s => s.pilotWindowEnd w

/-- QFIT_WINDOW (R193). -/
def execQfitWindow (at_ w : Nat) (s : State) : Host.Outcome State Fault Refusal := liveCore s at_ fun s => s.qfitWindow w

end Sys2Proof.Machine
end

