-- ==== Sys2Proof/Machine/FrameOut.lean ====
section
/-! DEFINITION. Transmit frame ports (R485 to R489, R493, R494): assembly of frames in the transmit buffer, status frames, and sending
from tick boundaries. -/

namespace Sys2Proof.Machine

/-- R487: the 32 bytes of a result or status descriptor. -/
def replyDesc (prog code cls vectors inPort inVc tag seqId : Nat) (stamp : Stamp) : List Byte :=
  bytesOf 2 prog ++ bytesOf 1 code ++ bytesOf 1 cls ++ bytesOf 2 vectors ++ bytesOf 1 inPort ++ bytesOf 1 inVc ++ bytesOf 4 tag ++
  bytesOf 8 seqId ++ State.stampBytes stamp

/-- R487: a descriptor with another code. -/
def withCode (desc : List Byte) (code : Nat) : List Byte := desc.take 2 ++ bytesOf 1 code ++ desc.drop 3

/-- First byte from `x` on that no part covers. -/
def covered (parts : List (Nat × List Byte)) : Nat → Nat → Nat
  | 0, x => x
  | fuel + 1, x =>
    match parts.find? fun p => decide (p.1 ≤ x ∧ x < p.1 + p.2.length) with
    | none => x
    | some p => covered parts fuel (p.1 + p.2.length)

/-- R486: every payload byte has been written. -/
def Assembly.full (a : Assembly) : Bool := decide (a.length ≤ covered a.parts (a.parts.length + 1) 0)

/-- The payload of a frame: later writes lie over earlier ones. -/
def Assembly.payload (a : Assembly) : List Byte :=
  a.parts.foldl (fun buf p => (buf.take p.1 ++ p.2 ++ buf.drop (p.1 + p.2.length)).take a.length) (List.replicate a.length 0)

/-- R486: a preamble that opens a frame: KIND 1 or 2, LENGTH a multiple of 256 up to 1 MiB (0 for KIND 2), reserved bytes zero. -/
def preambleOk (bs : List Byte) : Bool :=
  let len := fieldOf bs 48 4
  let kind := fieldOf bs 52 1
  (kind == 1 && len % 256 == 0 && decide (len ≤ 2 ^ 20) || kind == 2 && len == 0) && fieldOf bs 53 11 == 0

/-- Outcome of an access to a frame window: done, BAD_ADDR, BAD_DESC. -/
inductive WinResult where
  | ok | badAddr | badDesc
  deriving DecidableEq, Repr

namespace State

/-- R488: the frame as it is sent: a result with a withheld payload goes as a status frame. -/
def sendForm (a : Assembly) (tick : Nat) : OutFrame × Bool :=
  if a.kind = 1 ∧ (a.withheld ∨ a.overrun) then
    (⟨a.vc, 2, withCode a.desc (if a.overrun then 2 else 3), List.replicate 16 0, [], tick, 0⟩, true)
  else (⟨a.vc, a.kind, a.desc, a.thdr, if a.kind = 1 then a.payload else [], tick, 0⟩, false)

/-- R493: count a substitution. -/
def substituted (s : State) (q : Nat) : State := (s.bump (pgFrameOut q) Reg.FRAME_OUT.SUBSTITUTED).raise (pgFrameOut q) 4

/-- A complete frame joins those that wait to be sent. -/
def readyFrame (s : State) (q : Nat) (a : Assembly) (tick : Nat) : State :=
  let f := sendForm a tick
  let s := s.onTxPort q fun t => { t with ready := t.ready ++ [f.1] }
  if f.2 then s.substituted q else s

/-- R489: class of a frame, from its descriptor. -/
def frameClass (f : OutFrame) : Nat := fieldOf f.desc 3 1

/-- R489: the next frame to leave: of those complete before this tick's boundary, class 0 first, then in order of completion. -/
def nextFrame (s : State) (q : Nat) : Option OutFrame :=
  let can := (s.txPort q).ready.filter fun f => decide (f.tick < s.tick.number)
  match can.find? fun f => frameClass f == 0 with
  | some f => some f
  | none => can.head?

/-- R488: next frame number of a channel. -/
def nextNumber (s : State) (q vc : Nat) : Nat := sparseGet (fun _ => 1) (s.txPort q).numbers vc

/-- R489: when the port is idle, the next frame begins to be sent. -/
def sendNext (s : State) (q : Nat) : State :=
  if (s.txPort q).sending.isSome || !s.runs (pgFrameOut q) then s
  else match s.nextFrame q with
    | none => s
    | some f =>
      let n := s.nextNumber q f.vc
      s.onTxPort q fun t =>
        { t with
          ready := t.ready.erase f, sending := some { f with number := n }
          numbers := sparsePut (fun _ => 1) t.numbers f.vc (if n = 65535 then 1 else n + 1) }

/-- R489, R493: TX_FRAME_END: the frame's Frame End has left; the next one goes out. -/
def txFrameEnd (s : State) (q : Nat) : State :=
  match (s.txPort q).sending with
  | none => s
  | some f =>
    let s := (s.onTxPort q fun t => { t with sending := none }).bumpWrap (pgFrameOut q) Reg.FRAME_OUT.TX_FRAMES
    (if f.kind = 2 then s.bump (pgFrameOut q) Reg.FRAME_OUT.STATUS_FRAMES else s).sendNext q

/-- R489: at a boundary, a frame still under assembly goes as a status frame with CODE 2. -/
def cutAssembly (s : State) (q : Nat) (tick : Nat) : State :=
  let open_ := (s.txPort q).assembling
  (s.onTxPort q fun t => { t with assembling := [] }).each open_ fun s a => s.readyFrame q { a with overrun := true } tick

/-- R489: FRAME_SEND at the boundary that begins the current tick; frames that were still under assembly have been cut as the tick before it
closed. -/
def frameSend (s : State) : State := s.each (s.frames.tx.map (·.1)) fun s q => s.sendNext q

/-- R493: transmit buffer in use, in bytes. -/
def txBytes (s : State) (q : Nat) : Nat :=
  let t := s.txPort q
  ((t.assembling.map (·.length)) ++ (t.ready.map fun f => f.payload.length) ++ [(t.sending.map fun f => f.payload.length).getD 0]).foldl
    (· + ·) 0

/-- R486, R489: a complete write of the preamble of channel `v`. -/
def preamble (s : State) (q v : Nat) (bs : List Byte) : State × WinResult :=
  if !s.isOn (pgFrameOut q) then (s, .badAddr)
  else if bs.length ≠ 64 ∨ !preambleOk bs then (s, .badDesc)
  else
    let s := if (s.txPort q).assembling.any fun a => a.vc == v then
        ((s.bump (pgFrameOut q) Reg.FRAME_OUT.TX_ABANDON).raise (pgFrameOut q) 5).onTxPort q fun t =>
          { t with assembling := t.assembling.filter fun a => a.vc != v }
      else s
    let a : Assembly := { vc := v, kind := fieldOf bs 52 1, desc := bs.take 32, thdr := (bs.drop 32).take 16, length := fieldOf bs 48 4 }
    (if a.full then s.readyFrame q a s.tick.number else s.onTxPort q fun t => { t with assembling := t.assembling ++ [a] }, .ok)

/-- R485, R486: payload written to channel `v`'s frame under assembly. With no frame open, or beyond its LENGTH, the offset means
nothing: BAD_ADDR (log entry 20). -/
def txPayload (s : State) (q v off : Nat) (bs : List Byte) (withheld overrun : Bool) : State × WinResult :=
  if !s.isOn (pgFrameOut q) then (s, .badAddr)
  else match (s.txPort q).assembling.find? fun a => a.vc == v with
    | none => (s, .badAddr)
    | some a =>
      if a.length < off + bs.length then (s, .badAddr)
      else
        let a' : Assembly :=
          { a with parts := a.parts ++ [(off, bs)], withheld := a.withheld || withheld, overrun := a.overrun || overrun }
        let s := s.onTxPort q fun t => { t with assembling := t.assembling.filter fun x => x.vc != v }
        (if a'.full then s.readyFrame q a' s.tick.number
          else s.onTxPort q fun t => { t with assembling := t.assembling ++ [a'] }, .ok)

/-- R485: a write to the window of transmit port `q` at an offset. DESIGN CHOICE (log entry 20): a write of only a part of the preamble's 64 bytes is
done and opens nothing. -/
def txWindowWrite (s : State) (q off : Nat) (bs : List Byte) (withheld overrun : Bool) : State × WinResult :=
  let v := off / 2 ^ 28
  let o := off % 2 ^ 28
  if o = 0xFFFFFC0 ∧ bs.length = 64 then s.preamble q v bs
  else if 0xFFFFFC0 ≤ o ∧ o + bs.length ≤ 0x10000000 ∧ s.isOn (pgFrameOut q) = true then (s, .ok)
  else if o + bs.length ≤ 0x100000 then s.txPayload q v o bs withheld overrun
  else (s, .badAddr)

/-- R487, R489: a status frame that the service sends. A port that is not ON takes none (log entry 20). -/
def statusFrame (s : State) (q v : Nat) (desc : List Byte) : State :=
  if !s.isOn (pgFrameOut q) then s
  else s.onTxPort q fun t => { t with ready := t.ready ++ [⟨v, 2, desc, List.replicate 16 0, [], s.tick.number, 0⟩] }

end State

/-- PREAMBLE_WRITE (R486): the 64 bytes written for channel `v` of transmit port `q`. -/
def execPreambleWrite (at_ q v : Nat) (bytes : List Byte) (s : State) : Host.Outcome State Fault Refusal :=
  liveCore s at_ fun s => (s.preamble q v bytes).1

/-- TX_FRAME_END (R489). -/
def execTxFrameEnd (at_ q : Nat) (s : State) : Host.Outcome State Fault Refusal := liveCore s at_ fun s => s.txFrameEnd q

end Sys2Proof.Machine
end

