-- ==== Sys2Proof/Machine/PumpDesc.lean ====
section
/-! DEFINITION. Pump descriptors (R199, R200): their fields, the checks made when one is fetched (R199 to R202), waits (R206), the
transfers one consists of (R196), and the receive buffers that grant credits (R575). -/

namespace Sys2Proof.Machine

/-! ### Fields of a descriptor (R199, R200) -/

namespace Qd
def op (d : List Byte) : Nat := fieldOf d 0 1
def flag (d : List Byte) (b : Nat) : Bool := bitAt (fieldOf d 1 1) b
def noMerge (d : List Byte) : Bool := flag d 0
def irq (d : List Byte) : Bool := flag d 1
def arrive (d : List Byte) : Bool := flag d 2
def untimed (d : List Byte) : Bool := flag d 3
def cls (d : List Byte) : Nat := bits (fieldOf d 1 1) 4 2
def gen (d : List Byte) : Nat := fieldOf d 2 1
def bar (d : List Byte) : Nat := bits (fieldOf d 3 1) 0 6
def len (d : List Byte) : Nat := fieldOf d 4 4
def src (d : List Byte) : Nat := fieldOf d 8 6
def dst (d : List Byte) : Nat := fieldOf d 14 6
def tid (d : List Byte) : Nat := fieldOf d 20 2
def blk0 (d : List Byte) : Nat := fieldOf d 24 4
def ntiles (d : List Byte) : Nat := fieldOf d 28 2
def transpose (d : List Byte) : Bool := bitAt (fieldOf d 30 1) 0
def tileStep (d : List Byte) : Int := toSigned (fieldOf d 32 4) 32
def rpitch (d : List Byte) : Nat := fieldOf d 36 4
def wbits (d : List Byte) : Nat := fieldOf d 30 1
def hasRecord (d : List Byte) : Bool := bitAt (fieldOf d 31 1) 0
def hasRowsum (d : List Byte) : Bool := bitAt (fieldOf d 31 1) 1
def dtid (d : List Byte) : Nat := fieldOf d 32 2
def doff (d : List Byte) : Nat := fieldOf d 34 6
def scaleStep (d : List Byte) : Int := toSigned (fieldOf d 40 4) 32
def idx (d : List Byte) : Nat := fieldOf d 28 6
def esize (d : List Byte) : Nat := fieldOf d 34 2
def nitem (d : List Byte) : Nat := fieldOf d 36 4
def sfmt (d : List Byte) : Nat := fieldOf d 28 1
def auto (d : List Byte) : Bool := bitAt (fieldOf d 29 1) 0
def headroom (d : List Byte) : Nat := fieldOf d 30 1
def xfix (d : List Byte) : Int := toSigned (fieldOf d 32 2) 16
def nelem (d : List Byte) : Nat := fieldOf d 36 4
def wkind (d : List Byte) : Nat := bits (fieldOf d 48 1) 0 2
def wref (d : List Byte) : Nat := bits (fieldOf d 50 2) 0 12
def wval (d : List Byte) : Nat := fieldOf d 52 4
def tick (d : List Byte) : Nat := fieldOf d 56 4

/-- Bytes of OPX, relative to byte 28, that the opcode leaves reserved: offset and length (R199, R200). -/
def opxReserved (d : List Byte) : List (Nat × Nat) :=
  match op d with
  | 2 => [(31, 1), (40, 8)]
  | 4 => [(44, 4)]
  | 5 => [(40, 8)]
  | 6 => [(40, 8)]
  | 7 => [(29, 19)]
  | 8 => [(31, 1), (34, 2), (40, 8)]
  | _ => [(28, 20)]

/-- R199: every reserved field is zero. -/
def reservedZero (d : List Byte) : Bool :=
  ((opxReserved d).all fun r => fieldOf d r.1 r.2 == 0) && bits (fieldOf d 0 1) 4 4 == 0 && bits (fieldOf d 1 1) 6 2 == 0 &&
  bits (fieldOf d 3 1) 6 2 == 0 && fieldOf d 22 2 == 0 && bits (fieldOf d 48 1) 2 6 == 0 && fieldOf d 49 1 == 0 &&
  bits (fieldOf d 50 2) 12 4 == 0 && (op d != 2 || bits (fieldOf d 30 1) 1 7 == 0) && (op d != 4 || bits (fieldOf d 31 1) 2 6 == 0) &&
  (op d != 8 || bits (fieldOf d 29 1) 1 7 == 0) && (wkind d != 3 || bits (wval d) 8 24 == 0)

/-- R199: the wait names something. -/
def waitOk (d : List Byte) : Bool :=
  match wkind d with
  | 2 => decide (wref d ≤ 799)
  | 3 => decide (wref d ≤ 63)
  | _ => true

/-- R201: LEN of a STATS is a whole number of elements. -/
def statLenOk (d : List Byte) : Bool :=
  let unit := match sfmt d with | 9 => 256 | 10 => 2 | 11 => 2 | 12 => 4 | 13 => 4 | _ => 4096
  len d != 0 && len d % unit == 0

/-- R199, R200: BAD_DESC does not apply, the target set aside. -/
def valuesOk (d : List Byte) : Bool :=
  match op d with
  | 1 => true
  | 2 => ntiles d != 0
  | 3 => true
  | 4 => ntiles d != 0 && [3, 4, 6, 8].contains (wbits d)
  | 5 => esize d % 4 == 0 && decide (4 ≤ esize d ∧ esize d ≤ 4096) && len d == nitem d * esize d
  | 6 => esize d % 4 == 0 && decide (4 ≤ esize d ∧ esize d ≤ 4096) && len d == nitem d * esize d
  | 7 => decide (9 ≤ sfmt d ∧ sfmt d ≤ 14) && statLenOk d
  | 8 => (decide (9 ≤ sfmt d ∧ sfmt d ≤ 12) || sfmt d == 14) && decide (headroom d ≤ 16)
  | _ => false

/-- Blocks of BFX48 that the elements of a REDUCE enter. -/
def reduceBlocks (d : List Byte) : Nat := ceilDiv (nelem d) 640

/-- Bytes of source that a descriptor reads (tiles and scales aside). -/
def srcBytes (d : List Byte) : Nat :=
  match op d with
  | 7 => if sfmt d = 9 then len d + len d / 64 else len d
  | 8 =>
    match sfmt d with
    | 9 => ceilDiv (nelem d) 128 * 260
    | 12 => nelem d * 4
    | 14 => ceilDiv (nelem d) 640 * 4096
    | _ => nelem d * 2
  | _ => len d

/-- Bytes that a descriptor delivers to one destination, tiles by the width of the data apart. -/
def dstBytes (d : List Byte) : Nat :=
  match op d with
  | 7 => 64
  | 8 => reduceBlocks d * 4096
  | 4 => b2n (hasRecord d) * 1024 + ntiles d * 512 * (1 + b2n (hasRowsum d))
  | 2 => 0
  | _ => len d

/-- R200: items of a TILE or SCALES stream. -/
def items (d : List Byte) : Nat :=
  match op d with
  | 2 => ntiles d
  | 4 => b2n (hasRecord d) + ntiles d * (1 + b2n (hasRowsum d))
  | _ => 0

/-- R196: transfers of at most 4,096 B that a COPY, MULTICAST, STATS or REDUCE makes. -/
def transfers (d : List Byte) : Nat := ceilDiv (dstBytes d) 4096

/-- R196, R202: items of an index list that one transfer of at most 4,096 B carries. -/
def itemsEach (d : List Byte) : Nat := max 1 (4096 / max 1 (esize d))
end Qd

/-- Offsets and lengths of the parts of `n` bytes from address `a` that lie within one 4 KiB block each. -/
def cuts (a n : Nat) : Nat → Nat → List (Nat × Nat)
  | 0, _ => []
  | fuel + 1, off => if n ≤ off then [] else let k := min (n - off) (4096 - (a + off) % 4096); (off, k) :: cuts a n fuel (off + k)

/-- The parts of a range by 4 KiB block. -/
def blockParts (a n : Nat) : List (Nat × Nat) := cuts a n (n / 4096 + 2) 0

/-- R575: receive buffers by number, and their credits: pools, reservoirs, cisterns per link port, hub SRAM, transmit ports, Holade ports,
register space. -/
def bufferOf (die : Nat) (l : Loc) : Option (Nat × Nat) :=
  match l with
  | .mem key =>
    match unitOf key with
    | .pool w => some (w, 64)
    | .reservoir d => some (1000 + d, 512)
    | .cistern c => some (1100 + 12 * die + c, 1024)
    | .hub => some (1200, 512)
  | .frame p _ => some (1300 + p, 2048)
  | .holade p _ => some (1400 + p, 2048)
  | .reg _ => some (1500, 8)
  | .unmapped => none

/-- R223: engine states. -/
inductive Qst where
  | idle | fetch | wait | issue | flush | halted | discards
  deriving DecidableEq, Repr

/-- R227: QST as Q_STAT shows it. -/
def Qst.code : Qst → Nat
  | .idle => 0 | .fetch => 1 | .wait => 2 | .issue => 3 | .flush => 4 | .halted => 5 | .discards => 6

namespace State

def qst (s : State) (q : Nat) : Nat := s.rd (pgPumpq q) Reg.PUMPQ.Q_STAT_QST

def setQst (s : State) (q : Nat) (x : Qst) : State := s.wr (pgPumpq q) Reg.PUMPQ.Q_STAT_QST x.code

/-- R11, R314: a source's light carries data. -/
def sourceCarries (s : State) (i : Nat) : Bool :=
  let x := s.source i
  x.cs == 3 || x.cs == 4 || x.cs == 5 || (x.cs == 1 && x.heldClear)

/-- R11, R303: the memory links of a region have light: a line of its source, or one moved to the incoming source of a handover. -/
def linkLit (s : State) (r : Nat) : Bool :=
  match s.light.handovers.find? fun h => h.region == r with
  | none => s.sourceCarries (s.light.feed.getD r 7)
  | some h => (decide (h.nextLine < 16) && s.sourceCarries h.outgoing) || (decide (1 + b2n h.lineOut.isSome ≤ h.nextLine) && s.sourceCarries h.incoming)

/-- R196: well die of a queue. -/
def queueDie (q : Nat) : Nat := q / 1024

/-- R198: the map that a transfer's addresses resolve through: a timed one issues in its own tick, so it is the map in force. -/
def qmap (s : State) : Nat → Option Nat := s.mapNow

/-- R198: the map of tick `n`, of the current one or one past. -/
def mapAt (s : State) (n : Int) : Nat → Option Nat :=
  match (s.cal.past.filter fun e => decide (n ≤ (e.1 : Int))).getLast? with
  | some e => fun k => (e.2[k]?).filter fun w => decide (w < 832)
  | none => s.mapNow

/-- R204: signed distance of a descriptor's tick from the current one. -/
def tickDelta (s : State) (d : List Byte) : Int := toSigned (Qd.tick d + 2 ^ 32 - s.tick.number % 2 ^ 32) 32

/-- R204: the descriptor is late. -/
def late (s : State) (d : List Byte) : Bool := !Qd.untimed d && decide (s.tickDelta d < 0)

/-- R207: generation of a barrier. -/
def barGen (s : State) (b : Nat) : Nat := s.rd (pgWdie (b / 16)) Reg.WDIE.BAR_STAT_GEN (b % 16)

/-- R206: passes completed under a logical number. -/
def passCountOf (s : State) (n : Nat) : Nat := sparseGet (fun _ => 0) s.pump.passCount n

/-- R206: a wait condition is true. -/
def waitMet (s : State) (kind ref val : Nat) : Bool :=
  match kind with
  | 1 => decide (0 ≤ toSigned (s.rd (pgPumpq ref) Reg.PUMPQ.DONE_COUNT + 2 ^ 32 - val % 2 ^ 32) 32)
  | 2 => decide (0 ≤ toSigned (s.passCountOf ref + 2 ^ 32 - val % 2 ^ 32) 32)
  | 3 => decide (0 ≤ toSigned (s.barGen ref + 256 - val % 256) 8)
  | _ => true

/-- R204, R206: a descriptor may issue now. -/
def mayIssue (s : State) (d : List Byte) : Bool :=
  (Qd.untimed d || s.tickDelta d == 0) && s.waitMet (Qd.wkind d) (Qd.wref d) (Qd.wval d)

/-- An address lies in register space. -/
def isRegAddr (a : Nat) : Bool := decide (registerBase ≤ a ∧ a < registerBase + 2 ^ 32)

/-- R200: TILE and SCALES take their source from a cistern or a die reservoir. -/
def streamSource (s : State) (a : Nat) : Bool :=
  match s.resolve s.mapNow a with
  | .mem key => match unitOf key with
    | .cistern _ => true
    | .reservoir _ => true
    | _ => false
  | _ => false

/-- A source in a die reservoir. -/
def inReservoir (s : State) (a : Nat) : Bool :=
  match s.resolve s.mapNow a with
  | .mem key => match unitOf key with
    | .reservoir _ => true
    | _ => false
  | _ => false

/-- A window of a port or of registers starts an address. -/
def portOrReg (s : State) (a : Nat) : Bool :=
  match s.resolve s.mapNow a with
  | .frame _ _ => true
  | .holade _ _ => true
  | .reg _ => true
  | _ => false

/-- R199 to R202: what a fetched descriptor fails with: 5 BAD_DESC, 6 BAD_ADDR, 0 nothing. -/
def fetchFault (s : State) (q : Nat) (d : List Byte) : Nat :=
  let o := Qd.op d
  if !Qd.reservedZero d || !Qd.waitOk d || Qd.cls d == 3 || !Qd.valuesOk d then 5
  else if (o == 2 || o == 3 || o == 4) && s.rd (pgPumpq q) Reg.PUMPQ.TGT_CFG_COUNT == 0 then 5
  else if Qd.src d % 4 ≠ 0 ∨ Qd.dst d % 4 ≠ 0 ∨ (o ≠ 2 ∧ o ≠ 4 ∧ o ≠ 8 ∧ Qd.len d % 4 ≠ 0) then 6
  else if (o = 5 ∨ o = 6) ∧ Qd.idx d % 8 ≠ 0 then 6
  else if (o = 2 ∨ o = 4) ∧ !s.streamSource (Qd.src d) then 6
  else if o = 2 ∧ Qd.transpose d ∧ s.inReservoir (Qd.src d) then 6
  else if o ≠ 1 ∧ (isRegAddr (Qd.src d) || ([5, 6, 7, 8].contains o && isRegAddr (Qd.dst d))) then 6
  else if [3, 5, 6, 7, 8].contains o && s.portOrReg (Qd.src d) then 6
  else if [5, 6, 7].contains o && s.portOrReg (Qd.dst d) then 6
  else 0

end State

end Sys2Proof.Machine
end

