-- ==== Sys2Proof/Machine/FrameIn.lean ====
section
/-! DEFINITION. Receive frame ports (R472 to R484, R492, R494): slots and windows, tensor, raw and load frames, receive errors, and the
arrival of requests at the service (R283, R287, R288). -/

namespace Sys2Proof.Machine

/-- R481: pixels of a line by data type. RAW16 sends its high byte first, as CSI-2 does for the leading bytes of every RAW type
(PRESUMED, log entry 21). -/
def rawPixels (dt : Nat) (bs : List Byte) : List Nat :=
  let n := bs.length
  match dt with
  | 0x2A => bs.map (·.toNat)
  | 0x2B => (List.range (n / 5 * 4)).map fun i =>
      fieldOf bs (i / 4 * 5 + i % 4) 1 * 4 + bits (fieldOf bs (i / 4 * 5 + 4) 1) (2 * (i % 4)) 2
  | 0x2C => (List.range (n / 3 * 2)).map fun i =>
      fieldOf bs (i / 2 * 3 + i % 2) 1 * 16 + bits (fieldOf bs (i / 2 * 3 + 2) 1) (4 * (i % 2)) 4
  | _ => (List.range (n / 2)).map fun i => fieldOf bs (2 * i) 1 * 256 + fieldOf bs (2 * i + 1) 1

/-- R481: stored element of a pixel. -/
def rawElement (dt p : Nat) : Nat := if dt = 0x2E then ofSigned ((p : Int) - 32768) 16 else p

/-- R481: the bytes of one stored line of ⌈WIDTH ÷ 128⌉ blocks. -/
def rawLineBytes (dt width : Nat) (bs : List Byte) : List Byte :=
  padTo (ceilDiv width 128 * 256) (((rawPixels dt bs).take width).flatMap fun p => bytesOf 2 (rawElement dt p))

/-- R480: header words of stored blocks. -/
def headersOf (fmt : Nat) (xexp : Int) (bs : List Byte) : List Nat :=
  (List.range (bs.length / 256)).map fun k =>
    blockHeader fmt ((List.range 128).map fun i => fieldOf bs (256 * k + 2 * i) 2) xexp

/-- R473: payload bytes that fit a slot with their headers, in whole blocks. -/
def slotPayload (slot4k : Nat) : Nat := slot4k * 4096 / 260 * 256

/-- R479: a tensor header within its ranges. -/
def tensorHeaderOk (h : List Byte) : Bool :=
  let f := fieldOf h 0 1
  let x := toSigned (fieldOf h 2 2) 16
  isActFmt f && (if f = 9 then decide (-256 ≤ x ∧ x ≤ 255) else x == 0)

/-- R478: fields of a request descriptor. -/
def requestOf (f : RxFrame) : Request :=
  let d := f.desc
  { id := 0, port := f.port, vc := f.vc, slot := f.slot, prog := fieldOf d 0 2, vectors := fieldOf d 6 2
    cls := bits (fieldOf d 2 1) 0 2, frameEnd := f.ended.getD {}, desc := d }

/-- R478: SEQ_ID. -/
def Request.seqId (r : Request) : Nat := fieldOf r.desc 12 8

/-- R287, R478: the request ends its sequence: by its SEQ_END, or as a one-request sequence of SEQ_ID 0. -/
def Request.seqEnd (r : Request) : Bool := bitAt (fieldOf r.desc 2 1) 2 || r.seqId == 0

/-- R487: the reply to a request with a code. -/
def Request.reply (r : Request) (code : Nat) : List Byte :=
  replyDesc r.prog code r.cls r.vectors r.port r.vc (fieldOf r.desc 8 4) r.seqId r.frameEnd

/-- Transmit port and channel that a request names. -/
def Request.outPort (r : Request) : Nat := bits (fieldOf r.desc 3 1) 0 3
def Request.outVc (r : Request) : Nat := bits (fieldOf r.desc 4 1) 0 4

/-! ### Fields of a program entry (R266) -/

namespace Prog
def id (p : List Byte) : Nat := fieldOf p 0 2
def flag (p : List Byte) (b : Nat) : Bool := bitAt (fieldOf p 2 1) b
def request (p : List Byte) : Bool := flag p 0
def cyclic (p : List Byte) : Bool := flag p 1
def stateful (p : List Byte) : Bool := flag p 2
def autostart (p : List Byte) : Bool := flag p 3
def nTicks (p : List Byte) : Nat := fieldOf p 4 4
def firstRec (p : List Byte) : Nat := fieldOf p 8 8
def batchMax (p : List Byte) : Nat := fieldOf p 16 2
def inTid (p : List Byte) : Nat := fieldOf p 18 2
def outTid (p : List Byte) : Nat := fieldOf p 20 2
def idxTid (p : List Byte) : Nat := fieldOf p 22 2
def slots (p : List Byte) : Nat := fieldOf p 24 2
def inBlks (p : List Byte) : Nat := fieldOf p 26 2
def outBlks (p : List Byte) : Nat := fieldOf p 28 2
def ingQ (p : List Byte) : Nat := bits (fieldOf p 30 2) 0 12
def emitQ (p : List Byte) : Nat := bits (fieldOf p 32 2) 0 12
def emitBar (p : List Byte) : Nat := bits (fieldOf p 34 1) 0 6
def emitGen (p : List Byte) : Nat := fieldOf p 35 1
def ingBar (p : List Byte) : Nat := bits (fieldOf p 36 1) 0 6
end Prog

namespace State

/-- Configuration of a channel. -/
def vcEn (s : State) (p v : Nat) : Bool := s.flag (pgFrameIn p) Reg.FRAME_IN.VC_CFG_EN v
def vcKind (s : State) (p v : Nat) : Nat := s.rd (pgFrameIn p) Reg.FRAME_IN.VC_CFG_KIND v

/-- The open frame of a channel. -/
def rxOpen (s : State) (p v : Nat) : Option RxFrame :=
  s.frames.rx.find? fun f => f.port == p && f.vc == v && f.ended.isNone

/-- Replace the open frame of a channel. -/
def putOpen (s : State) (f : RxFrame) : State :=
  { s with frames := { s.frames with rx := s.frames.rx.map fun g => if g.port == f.port && g.vc == f.vc && g.ended.isNone then f else g } }

/-- A frame's slot is held (R475): a dropped frame and a load frame hold none. -/
def holdsSlot (f : RxFrame) : Bool := !f.dropped && f.kind != 2

/-- R492: HELD bits of a channel. -/
def heldMask (s : State) (p v : Nat) : Nat :=
  ((s.frames.rx.filter fun f => f.port == p && f.vc == v && holdsSlot f).map fun f => 2 ^ f.slot).foldl (· ||| ·) 0

/-- R484: an error that is a frame error. -/
def frameError (s : State) (p v err : Nat) : State :=
  let s := (s.bump (pgFrameIn p) Reg.FRAME_IN.ERRORS).raise (pgFrameIn p) 4
  match s.rxOpen p v with
  | none => s
  | some f => s.putOpen { f with err := if f.err = 0 then err else f.err }

/-- R484: what every packet is first put through; `act` handles it on an enabled channel. -/
def packet (s : State) (p v : Nat) (c : PacketCheck) (act : State → State) : State :=
  if !s.runs (pgFrameIn p) then s
  else
    let s := if c.corrected then s.bump (pgFrameIn p) Reg.FRAME_IN.HDR_CORR else s
    if c.badHeader then s.frameError p v 1
    else if !s.vcEn p v then s.bump (pgFrameIn p) Reg.FRAME_IN.ORPHANS
    else act s

/-- R484: a long packet inside a frame; a payload CRC mismatch is an error and the packet is stored. Outside any frame it is an orphan. -/
def longPacket (s : State) (p v : Nat) (c : PacketCheck) (act : State → RxFrame → State) : State :=
  s.packet p v c fun s =>
    match s.rxOpen p v with
    | none => s.bump (pgFrameIn p) Reg.FRAME_IN.ORPHANS
    | some f =>
      let s := if c.badCrc && !f.dropped then s.frameError p v 2 else s
      match s.rxOpen p v with
      | none => s
      | some f => act s f

/-- R478: the frame takes a packet of stage `k`; out of order it is error 4. -/
def inOrder (s : State) (f : RxFrame) (k : Nat) (fits : Bool) : State :=
  let ok := fits && (f.stage + 1 == k || (k == 3 && f.stage == 3))
  let s := if ok then s else s.frameError f.port f.vc 4
  match s.rxOpen f.port f.vc with
  | none => s
  | some g => s.putOpen { g with stage := max g.stage k }

/-- An update of a channel's open frame. -/
def onOpen (s : State) (p v : Nat) (f : RxFrame → RxFrame) : State :=
  match s.rxOpen p v with
  | none => s
  | some g => s.putOpen (f g)

/-! ### Service side -/

/-- R288: refuse a request. -/
def refuseRequest (s : State) (r : Request) (code : Nat) : State :=
  ((s.statusFrame r.outPort r.outVc (r.reply code)).bump pgBOOT Reg.BOOT.REQ_REFUSED).raise pgBOOT 19

/-- The program that a request names: index and entry. -/
def requestProgram (s : State) (id : Nat) : Option (Nat × List Byte) :=
  let i := s.plan.programs.findIdx fun p => Prog.id p == id && Prog.request p
  (s.plan.programs[i]?).map fun p => (i, p)

/-- R287: lowest free sequence slot of a program. -/
def freeSeqSlot (s : State) (prog slots : Nat) : Option Nat :=
  ((List.range slots).drop 1).find? fun k => !s.plan.seqs.any fun x => x.prog == prog && x.slot == k

/-- R287: the sequence slot of a request, given if need be; SEQ_ID 0 is always a new sequence. -/
def seqSlotFor (s : State) (prog slots : Nat) (r : Request) : State × Option Nat :=
  let known := if r.seqId = 0 then none else s.plan.seqs.find? fun x => x.prog == prog && x.seq == r.seqId
  match known with
  | some x =>
    ({ s with plan := { s.plan with seqs := s.plan.seqs.map fun y => if y == x then { y with last := s.tick.number } else y } }, some x.slot)
  | none =>
    match s.freeSeqSlot prog slots with
    | none => (s, none)
    | some k => ({ s with plan := { s.plan with seqs := s.plan.seqs ++ [⟨prog, k, r.seqId, s.tick.number⟩] } }, some k)

/-- R283: a request waits. -/
def enqueueRequest (s : State) (r : Request) : State :=
  { s with plan := { s.plan with waiting := s.plan.waiting ++ [{ r with id := s.plan.nextReq }], nextReq := s.plan.nextReq + 1 } }

/-- R283, R288: a request arrives with its frame complete; the flag says that it waits. -/
def requestArrives (s : State) (r : Request) (bytes : Nat) : State × Bool :=
  if !s.planRunning then (s.refuseRequest r 8, false)
  else match s.requestProgram r.prog with
    | none => (s.refuseRequest r 5, false)
    | some (i, p) =>
      if bytes ≠ r.vectors * Prog.inBlks p * 256 ∨ Prog.batchMax p < r.vectors then (s.refuseRequest r 6, false)
      else if Prog.stateful p then
        match s.seqSlotFor i (Prog.slots p) r with
        | (s, none) => (s.refuseRequest r 7, false)
        | (s, some k) => (s.enqueueRequest { r with seqSlot := k }, true)
      else (s.enqueueRequest r, true)

/-! ### Windows (R473, R476) -/

/-- A frame is complete at the boundary of tick `n` (R477). -/
def completeAt (f : RxFrame) (n : Nat) : Bool :=
  match f.ended with
  | none => false
  | some e => decide (e.tick < n)

/-- R476: the frame that the alias names at tick `n`. -/
def aliasFrame (s : State) (p v n : Nat) : Option RxFrame :=
  let age := s.rd (pgFrameIn p) Reg.FRAME_IN.VC_CFG_AGE v
  let can := s.frames.rx.filter fun f =>
    f.port == p && f.vc == v && holdsSlot f && completeAt f n && decide (n ≤ f.start.tick + age)
  can.foldl (fun best f =>
    match best with
    | none => some f
    | some b =>
      let x := f.ended.getD {}
      let y := b.ended.getD {}
      if y.tick < x.tick ∨ (y.tick = x.tick ∧ y.off < x.off) then some f else best) none

/-- R474: the 128 bytes of a frame record. -/
def frameRecord (f : RxFrame) : List Byte :=
  padTo 32 f.desc ++ padTo 16 f.thdr ++ stampBytes f.start ++ stampBytes (f.ended.getD {}) ++ bytesOf 4 f.payload.length ++
  bytesOf 2 f.number ++ bytesOf 1 f.err ++ bytesOf 49 0

/-- R473: bytes of a slot's window; none past what is stored. -/
def slotBytes (f : RxFrame) (o n : Nat) : Option (List Byte) :=
  let hdrs := f.headers.flatMap (bytesOf 4)
  if o + n ≤ f.payload.length then some ((f.payload.drop o).take n)
  else if 0x800000 ≤ o ∧ o + n ≤ 0x800000 + hdrs.length then some ((hdrs.drop (o - 0x800000)).take n)
  else if 0xC00000 ≤ o ∧ o + n ≤ 0xC00080 then some (((frameRecord f).drop (o - 0xC00000)).take n)
  else none

/-- R473, R476, R484: read of a receive window for a descriptor of the current tick. -/
def rxWindowRead (s : State) (p off n : Nat) : State × ReadRes :=
  let v := off / 2 ^ 28
  let slot := off / 2 ^ 24 % 16
  let o := off % 2 ^ 24
  let bad : ReadRes := { unmapped := true }
  if 8 ≤ p ∨ !s.runs (pgFrameIn p) ∨ !s.vcEn p v ∨ s.vcKind p v = 2 then (s, bad)
  else
    let give (s : State) (f : RxFrame) : State × ReadRes :=
      match slotBytes f o n with
      | none => (s, bad)
      | some bs => (s, { bytes := bs, withheld := f.err != 0, fmt := if o < 0x800000 then fieldOf f.thdr 0 1 else 0 })
    if slot = 15 then
      match s.aliasFrame p v s.tick.number with
      | none => ((s.bump (pgFrameIn p) Reg.FRAME_IN.LAST_MISS).raise (pgFrameIn p) 6, { bytes := List.replicate n 0, withheld := true })
      | some f => give s f
    else
      match s.frames.rx.find? fun f => f.port == p && f.vc == v && f.slot == slot && holdsSlot f && completeAt f s.tick.number with
      | none => (s, bad)
      | some f => give s f

/-! ### Slots (R475) -/

/-- A descriptor whose transfers are under way reads a slot. -/
def readsSlot (s : State) (f : RxFrame) (d : List Byte) : Bool :=
  Qd.op d == 1 &&
  match s.resolve s.mapNow (Qd.src d) with
  | .frame p o =>
    p == f.port && o / 2 ^ 28 == f.vc &&
    (o / 2 ^ 24 % 16 == f.slot ||
      (o / 2 ^ 24 % 16 == 15 && (s.aliasFrame p f.vc s.tick.number).map (·.slot) == some f.slot))
  | _ => false

/-- A transfer from a frame's slot is in flight. -/
def slotInFlight (s : State) (f : RxFrame) : Bool :=
  s.pump.queues.any fun e => !e.2.inflight.isEmpty &&
    match e.2.exec with
    | none => false
    | some x => s.readsSlot f x.desc

/-- Free a frame's slot, at once or when its transfers end. -/
def releaseFrame (s : State) (f : RxFrame) : State :=
  if s.slotInFlight f then
    { s with frames := { s.frames with rx := s.frames.rx.map fun g => if g == f then { g with release := true } else g } }
  else { s with frames := { s.frames with rx := s.frames.rx.erase f } }

/-- R475: RELEASE of a slot of a tensor channel by number; a frame that still arrives keeps it, and a raw frame's slot is freed at a boundary. -/
def releaseSlot (s : State) (p v slot : Nat) : State :=
  match s.frames.rx.find? fun f => f.port == p && f.vc == v && f.slot == slot && f.kind == 0 && holdsSlot f && f.ended.isSome with
  | none => s
  | some f => s.releaseFrame f

/-- R475: releases that waited for transfers take effect. -/
def flushReleases (s : State) : State :=
  s.each (s.frames.rx.filter (·.release)) fun s f => if s.slotInFlight f then s else { s with frames := { s.frames with rx := s.frames.rx.erase f } }

/-- R475: at a boundary, raw slots that the alias can no longer name. -/
def freeRawSlots (s : State) : State :=
  s.each (s.frames.rx.filter fun f => f.kind == 1 && completeAt f s.tick.number) fun s f =>
    if s.aliasFrame f.port f.vc s.tick.number = some f then s
    else if (f.start.tick + s.rd (pgFrameIn f.port) Reg.FRAME_IN.VC_CFG_AGE f.vc < s.tick.number) ||
        (s.aliasFrame f.port f.vc s.tick.number).isSome then s.releaseFrame f
    else s

/-! ### Load frames (R482, R483) -/

/-- R483: the region that a load may write. -/
def loadRegionOk (s : State) (dest len : Nat) : Bool :=
  dest % 4096 == 0 && len % 256 == 0 && decide (256 ≤ len ∧ len ≤ 2 ^ 30) &&
  (if dest + len ≤ 12 * 2 ^ 36 then s.inMemory s.mapNow dest len
   else
     let d := (dest - reservoirBase) / 0x4000000
     (decide (reservoirBase ≤ dest ∧ d < 4 ∧ dest + len ≤ reservoirBase + d * 0x4000000 + 48 * 2 ^ 20)) ||
     (decide (hubBase + 0x400000 ≤ dest ∧ dest + len ≤ hubBase + 32 * 2 ^ 20)))

/-- R482: reserved fields of a load header are zero and FMT is a format code. -/
def loadHeaderOk (h : List Byte) : Bool :=
  decide (fieldOf h 12 1 ≤ 15) && bits (fieldOf h 13 1) 3 5 == 0 && bits (fieldOf h 14 1) 4 4 == 0 && fieldOf h 15 1 == 0 &&
  fieldOf h 24 8 == 0

/-- R483: seals of a load's blocks. -/
def loadSeal (s : State) (f : RxFrame) (a : Nat) : Seal :=
  { tid := fieldOf f.desc 6 2, blk := (fieldOf f.desc 8 4 + (a - fieldOf f.desc 0 6) / 4096) % 2 ^ 32, gen := s.tick.number % 256
    fmt := fieldOf f.desc 12 1, withheld := f.err != 0 }

/-- R483: write the staged part of a load that is due: whole 4 KiB parts, or all that is left at the end. -/
def loadWrite (s : State) (p v : Nat) (final : Bool) : State :=
  match s.rxOpen p v with
  | none => s
  | some f =>
    let n := if final then f.payload.length else f.payload.length / 4096 * 4096
    if f.refused ∨ n = 0 then s.putOpen { f with payload := if f.refused then [] else f.payload }
    else
      let r := s.write s.mapNow (fieldOf f.desc 0 6 + f.taken) (f.payload.take n) (s.loadSeal f)
      r.1.putOpen { f with payload := f.payload.drop n, taken := f.taken + n, refused := f.refused || r.2 }

/-- R483: the end of a load frame: its status. -/
def loadEnd (s : State) (p v : Nat) : State :=
  let s := s.loadWrite p v true
  match s.rxOpen p v with
  | none => s
  | some f =>
    if f.desc.isEmpty then s
    else
      let ok := f.err == 0 && !f.refused && f.taken == fieldOf f.desc 16 4
      let s := if ok then s else s.raise (pgFrameIn p) 8
      s.statusFrame (bits (fieldOf f.desc 13 1) 0 3) (bits (fieldOf f.desc 14 1) 0 4)
        (replyDesc 0 (if ok then 11 else 12) 1 0 p v (fieldOf f.desc 20 4) 0 s.now)

/-! ### Frames -/

/-- R475, R484: the next slot in rotation that is free. -/
def nextSlot (s : State) (p v : Nat) : Option Nat :=
  let n := s.rd (pgFrameIn p) Reg.FRAME_IN.VC_CFG_SLOTS v
  let first := s.rd (pgFrameIn p) Reg.FRAME_IN.VC_STAT_NEXT v
  let held := s.heldMask p v
  ((List.range n).map fun i => (first + i) % n).find? fun k => !bitAt held k

/-- R478, R484: a closing tensor frame that is not whole is error 4: BLOCKS is held to the payload received, stored or not. -/
def tensorWhole (f : RxFrame) : Bool := f.stage == 3 && fieldOf f.thdr 4 4 * 256 == f.taken

/-- R477, R483, R484: the open frame of a channel ends now. -/
def closeFrame (s : State) (p v : Nat) : State :=
  match s.rxOpen p v with
  | none => s
  | some f =>
    let e := { f with ended := some s.now }
    if f.dropped then
      let r := requestOf e
      let s := { s with frames := { s.frames with rx := s.frames.rx.erase f } }
      if f.descOk then s.statusFrame r.outPort r.outVc (r.reply 10) else s
    else
      let s := s.bumpWrap (pgFrameIn p) Reg.FRAME_IN.FRAMES
      if f.kind = 2 then
        let s := s.loadEnd p v
        { s with frames := { s.frames with rx := s.frames.rx.filter fun g => !(g.port == p && g.vc == v && g.ended.isNone) } }
      else if f.kind = 1 then
        s.putOpen { e with thdr := bytesOf 4 9 ++ bytesOf 4 (f.payload.length / 256) ++ bytesOf 8 0 }
      else if f.err ≠ 0 then
        let r := requestOf e
        let s := { s with frames := { s.frames with rx := s.frames.rx.erase f } }
        if f.descOk then s.statusFrame r.outPort r.outVc (r.reply 9) else s
      else
        let r := s.requestArrives (requestOf e) f.payload.length
        if r.2 then r.1.putOpen e else { r.1 with frames := { r.1.frames with rx := r.1.frames.rx.erase f } }

/-- R475, R484, R494: FRAME_START on a channel. -/
def frameStart (s : State) (p v num : Nat) : State :=
  if !s.isOn (pgFrameIn p) then s
  else
    let s := match s.rxOpen p v with
      | none => s
      | some _ => (s.frameError p v 5).closeFrame p v
    let kind := s.vcKind p v
    let f : RxFrame := { port := p, vc := v, slot := 0, kind := kind, start := s.now, number := num }
    let add (s : State) (f : RxFrame) : State := { s with frames := { s.frames with rx := s.frames.rx ++ [f] } }
    if kind = 2 then add s f
    else match s.nextSlot p v with
      | none => add ((s.bump (pgFrameIn p) Reg.FRAME_IN.DROPS).raise (pgFrameIn p) 5) { f with dropped := true }
      | some k => add (s.wr (pgFrameIn p) Reg.FRAME_IN.VC_STAT_NEXT
          ((k + 1) % max 1 (s.rd (pgFrameIn p) Reg.FRAME_IN.VC_CFG_SLOTS v)) v) { f with slot := k }

/-- R477, R484: FRAME_END on a channel. -/
def frameEnd (s : State) (p v num : Nat) : State :=
  match s.rxOpen p v with
  | none => s.bump (pgFrameIn p) Reg.FRAME_IN.ORPHANS
  | some f =>
    let s := if !f.dropped && num != 0 && f.number != 0 && num != f.number then s.frameError p v 7 else s
    let whole := f.dropped || (f.kind == 0 && tensorWhole f) || f.kind == 1 || (f.kind == 2 && f.stage == 2)
    (if whole then s else s.frameError p v 4).closeFrame p v

/-- R477: FRAME_TIMEOUT: a frame with no Frame End by the boundary that ends tick f + MAX_TICKS − 1. -/
def frameTimeout (s : State) (p v : Nat) : State :=
  match s.rxOpen p v with
  | none => s
  | some f =>
    if f.start.tick + s.rd (pgFrameIn p) Reg.FRAME_IN.MAX_TICKS_TICKS ≤ s.tick.number then
      (if f.dropped then s else s.frameError p v 6).closeFrame p v
    else s

/-- R478: a request descriptor packet. -/
def requestDescriptor (s : State) (p v : Nat) (bs : List Byte) (c : PacketCheck) : State :=
  s.longPacket p v c fun s f =>
    if f.dropped then s.onOpen p v fun f => if f.stage = 0 then { f with desc := bs, descOk := !c.badCrc && bs.length == 32, stage := 1 } else f
    else if f.kind ≠ 0 then s.frameError p v 3
    else
      let s := s.inOrder f 1 (bs.length == 32 && bits (fieldOf bs 2 1) 0 2 != 3)
      s.onOpen p v fun g => if f.stage = 0 then { g with desc := bs, descOk := !c.badCrc && bs.length == 32 } else g

/-- R479: a tensor header packet. -/
def tensorHeader (s : State) (p v : Nat) (bs : List Byte) (c : PacketCheck) : State :=
  s.longPacket p v c fun s f =>
    if f.dropped then s
    else if f.kind ≠ 0 then s.frameError p v 3
    else
      let s := s.inOrder f 2 (bs.length == 16 && tensorHeaderOk bs)
      s.onOpen p v fun g => if f.stage ≤ 1 then { g with thdr := bs } else g

/-- Store payload in a slot, cut at what fits (error 8). -/
def storePayload (s : State) (p v cap fmt : Nat) (xexp : Int) (bs : List Byte) : State :=
  match s.rxOpen p v with
  | none => s
  | some f =>
    let room := cap - f.payload.length
    let s := if room < bs.length then s.frameError p v 8 else s
    let put := bs.take room
    s.onOpen p v fun g => { g with payload := g.payload ++ put, headers := g.headers ++ headersOf fmt xexp put, taken := g.taken + bs.length }

/-- R480, R482: a payload packet. -/
def payloadPacket (s : State) (p v : Nat) (bs : List Byte) (c : PacketCheck) : State :=
  s.longPacket p v c fun s f =>
    let fits := bs.length % 256 == 0 && decide (0 < bs.length ∧ bs.length ≤ 65280)
    if f.dropped then s
    else if f.kind = 1 then s.frameError p v 3
    else if f.kind = 0 then
      let s := s.inOrder f 3 fits
      let fmt := if isActFmt (fieldOf f.thdr 0 1) then fieldOf f.thdr 0 1 else 9
      s.storePayload p v (slotPayload (s.rd (pgFrameIn p) Reg.FRAME_IN.VC_CFG_SLOT_4K v)) fmt (toSigned (fieldOf f.thdr 2 2) 16)
        (bs.take (bs.length / 256 * 256))
    else
      let s := if f.stage = 0 ∨ !fits then s.frameError p v 4 else s
      if f.stage = 0 then s
      else
        let room := fieldOf f.desc 16 4 - f.taken - f.payload.length
        let s := if !f.refused && decide (room < bs.length) then s.frameError p v 8 else s
        (s.onOpen p v fun g => { g with stage := 2, payload := g.payload ++ bs.take room }).loadWrite p v false

/-- R481: a RAW line of data type `dt`. -/
def rawLine (s : State) (p v dt : Nat) (bs : List Byte) (c : PacketCheck) : State :=
  s.longPacket p v c fun s f =>
    if f.dropped then s
    else if f.kind ≠ 1 ∨ (f.lines ≠ 0 ∧ f.rawType ≠ dt) ∨ !([0x2A, 0x2B, 0x2C, 0x2E].contains dt) then s.frameError p v 3
    else
      let w := s.rd (pgFrameIn p) Reg.FRAME_IN.VC_WIDTH_WIDTH v
      let s := if (rawPixels dt bs).length = w then s else s.frameError p v 8
      let s := s.onOpen p v fun g => { g with rawType := dt, lines := g.lines + 1, stage := 3 }
      s.storePayload p v (slotPayload (s.rd (pgFrameIn p) Reg.FRAME_IN.VC_CFG_SLOT_4K v)) 9 0 (rawLineBytes dt w bs)

/-- R482, R483: a load header packet. -/
def loadHeader (s : State) (p v : Nat) (bs : List Byte) (c : PacketCheck) : State :=
  s.longPacket p v c fun s f =>
    if f.dropped then s
    else if f.kind ≠ 2 then s.frameError p v 3
    else if f.stage ≠ 0 ∨ bs.length ≠ 32 then s.frameError p v 4
    else
      let ok := loadHeaderOk bs && s.loadRegionOk (fieldOf bs 0 6) (fieldOf bs 16 4)
      s.onOpen p v fun g => { g with desc := bs, descOk := !c.badCrc, stage := 1, refused := !ok }

/-- R492: PHY_LOCK with the rate measured, in 10 Msym/s or 10 Mb/s. -/
def phyLock (s : State) (p rate : Nat) : State :=
  (s.wr (pgFrameIn p) Reg.FRAME_IN.PHY_STAT_LOCK 1).wr (pgFrameIn p) Reg.FRAME_IN.PHY_STAT_RATE rate

/-- R492: PHY_UNLOCK. -/
def phyUnlock (s : State) (p : Nat) : State :=
  let s := if s.flag (pgFrameIn p) Reg.FRAME_IN.PHY_STAT_LOCK && s.frames.rx.any (fun f => f.port == p && f.ended.isNone) then
      s.raise (pgFrameIn p) 7
    else s
  s.wr (pgFrameIn p) Reg.FRAME_IN.PHY_STAT_LOCK 0

end State

/-- FRAME_START (R475): port, channel, frame number. -/
def execFrameStart (at_ p v num : Nat) (c : PacketCheck) (s : State) : Host.Outcome State Fault Refusal :=
  liveCore s at_ fun s => s.packet p v c fun s => s.frameStart p v num

/-- REQUEST_DESCRIPTOR (R478). -/
def execRequestDescriptor (at_ p v : Nat) (bytes : List Byte) (c : PacketCheck) (s : State) : Host.Outcome State Fault Refusal :=
  liveCore s at_ fun s => s.requestDescriptor p v bytes c

/-- TENSOR_HEADER (R479). -/
def execTensorHeader (at_ p v : Nat) (bytes : List Byte) (c : PacketCheck) (s : State) : Host.Outcome State Fault Refusal :=
  liveCore s at_ fun s => s.tensorHeader p v bytes c

/-- PAYLOAD_PACKET (R480). -/
def execPayloadPacket (at_ p v : Nat) (bytes : List Byte) (c : PacketCheck) (s : State) : Host.Outcome State Fault Refusal :=
  liveCore s at_ fun s => s.payloadPacket p v bytes c

/-- RAW_LINE (R481): its data type and packed bytes. -/
def execRawLine (at_ p v dt : Nat) (bytes : List Byte) (c : PacketCheck) (s : State) : Host.Outcome State Fault Refusal :=
  liveCore s at_ fun s => s.rawLine p v dt bytes c

/-- LOAD_HEADER (R482). -/
def execLoadHeader (at_ p v : Nat) (bytes : List Byte) (c : PacketCheck) (s : State) : Host.Outcome State Fault Refusal :=
  liveCore s at_ fun s => s.loadHeader p v bytes c

/-- FRAME_END (R477). -/
def execFrameEnd (at_ p v num : Nat) (c : PacketCheck) (s : State) : Host.Outcome State Fault Refusal :=
  liveCore s at_ fun s => s.packet p v c fun s => s.frameEnd p v num

/-- FRAME_TIMEOUT (R477). -/
def execFrameTimeout (at_ p v : Nat) (s : State) : Host.Outcome State Fault Refusal := liveCore s at_ fun s => s.frameTimeout p v

/-- PHY_UNLOCK (R492). -/
def execPhyUnlock (at_ p : Nat) (s : State) : Host.Outcome State Fault Refusal := liveCore s at_ fun s => s.phyUnlock p

/-- PHY_LOCK (R492): the rate measured. -/
def execPhyLock (at_ p rate : Nat) (s : State) : Host.Outcome State Fault Refusal := liveCore s at_ fun s => s.phyLock p rate

end Sys2Proof.Machine
end

