-- ==== Sys2Proof/Machine/Fabric.lean ====
section
/-! DEFINITION. Holade ports: sending under credits (R436 to R440, R50), what is received (R433 to R438), lanes and the stripe set (R429
to R432), routing of a message (R459), and the messages that read and write memory (R441 to R443), with STOP, FENCE and RESUME (R450,
R451). -/

namespace Sys2Proof

/-- R434, R435: units of a message frame: header, payload, trailer. -/
def Msg.units (m : Msg) : Nat := 2 + (m.payload.length + 63) / 64

/-- A data message, of class 0 to 2. -/
def Msg.isData (m : Msg) : Bool := decide (m.cls ≤ 2)

end Sys2Proof

namespace Sys2Proof.Machine

/-- The seal of a message's payload (R435, R387). -/
def msgSeal (m : Msg) : Seal :=
  { tid := m.tid, blk := m.blk, gen := m.gen, fmt := m.fmt, withheld := m.withheld, delayed := m.delayed }

/-- R439: reserved minimums of the far end's receive buffer for classes 0 to 2; no message carries them, so the reset values stand
(log entry 23). -/
def rxMins : List Nat := [4096, 1024, 256]

/-- R439: a class may send `n` more units. -/
def creditOk (used : List Nat) (cls n : Nat) : Bool :=
  if cls = 3 then decide (used.getD 3 0 + n ≤ 64)
  else
    let take (c : Nat) : Nat := max (rxMins.getD c 0) (used.getD c 0 + if c = cls then n else 0)
    decide (take 0 + take 1 + take 2 ≤ 16320)

/-- R427: the lane that unit `i` of a stripe epoch goes to: the (i mod n)-th of the n lanes of the stripe set, in ascending lane number; none without
a lane. -/
def unitLane (mask i : Nat) : Option Nat :=
  let l := (List.range 16).filter (bitAt mask)
  l[i % max 1 l.length]?

/-- R426: the codeword of a lane that carries unit `i`: ten units a codeword, numbered modulo 256 alike on every lane. DESIGN CHOICE (log entry 63):
codeword 0 is the first of a stripe epoch. -/
def unitCodeword (mask i : Nat) : Nat := i / max 1 ((List.range 16).filter (bitAt mask)).length / 10 % 256

/-- R426: the 20-bit lane header of the codeword that carries unit `i`. -/
def laneHeader (mask stripe i : Nat) : Nat := (unitLane mask i).getD 0 + 16 * unitCodeword mask i + 4096 * (stripe % 16)

/-- R427: the lanes that a frame of `n` units from unit `first` on travels over. -/
def frameLanes (mask first n : Nat) : List Nat := ((List.range n).filterMap fun k => unitLane mask (first + k)).dedup

/-- Sequence numbers are of 12 bits (R433): how far `a` lies ahead of `b`. -/
def seqAhead (a b : Nat) : Nat := (a + 4096 - b % 4096) % 4096

/-- R437: frames of a replay buffer that stay after an acknowledgement of everything before `next`. -/
def unacked (next : Nat) (l : List TxFrame) : List TxFrame := l.filter fun f => decide (seqAhead f.seq next < 2048)

namespace State

/-- Own rank; 0xFFFF none. -/
def ownRank (s : State) : Nat := s.rd (pgHport 0) Reg.HPORT.FAB_STAT_RANK

/-- R456: identity of a rank. -/
def rankId (s : State) (r : Nat) : Option Nat := (s.fabric.members.find? fun e => e.1 == r).map (·.2)

def linkState (s : State) (p : Nat) : Nat := s.rd (pgHport p) Reg.HPORT.LINK_STAT_LS

/-- R453, R455: what a link carries: everything when UP, only MEMBER announcements when ISOLATED or HELD. -/
def carries (s : State) (p : Nat) (m : Msg) : Bool :=
  s.runs (pgHport p) && (s.linkState p == 2 || ((s.linkState p == 3 || s.linkState p == 4) && m.op == 9 && m.subop == 1))

/-- R466, R467: count messages lost on a port. -/
def linkLoss (s : State) (p n : Nat) : State :=
  if n = 0 then s else (s.bump (pgHport p) Reg.HPORT.LINK_LOSS n).raise (pgHport p) 10

/-- R434, R458: count a discarded message. -/
def stale (s : State) (p : Nat) : State := s.bump (pgHport p) Reg.HPORT.STALE_EPOCH

/-! ### Sending -/

/-- R24, R50: nanoseconds over which the current tick's class-0 traffic is judged: the tick's length; an acquiring tick, whose end is not known
before it comes, counts from its period's end on as long as it has lasted. -/
def carriedNs (s : State) : Nat := if s.tick.acquiring then max s.tick.len s.tick.off else s.tick.len

/-- R50: class-0 units that a port may send in the tick: a quarter of its post-FEC capacity. -/
def c0Limit (s : State) (p : Nat) : Nat :=
  s.rd (pgHport p) Reg.HPORT.LINK_STAT_LANES * 128 * 514 * s.carriedNs / (544 * 512 * 4)

/-- R50: a new tick begins to count class-0 units. -/
def freshUnits (s : State) : State :=
  { s with fabric := { s.fabric with ports := s.fabric.ports.map fun (e : Nat × Port) => (e.1, { e.2 with c0Units := 0 }) } }

/-- R50: excess class-0 traffic goes as class 1. -/
def limitClass0 (s : State) (p : Nat) (m : Msg) : State × Msg :=
  if m.cls ≠ 0 then (s, m)
  else if (s.port p).c0Units + m.units ≤ s.c0Limit p then (s.onPort p fun x => { x with c0Units := x.c0Units + m.units }, m)
  else ((s.bump (pgHport p) Reg.HPORT.C0_EXCESS).raise (pgHport p) 9, { m with cls := 1 })

/-- R440, R452: the message that a port sends next: control before classes 0, 1, 2, in order within a class, among those that credits
and the link allow; control yields when it has filled 32 of 64 frames while data waits. -/
def chooseMsg (s : State) (p : Nat) : Option Msg :=
  let x := s.port p
  let can := x.waiting.filter fun m => s.carries p m && creditOk x.used m.cls m.units
  let data := [0, 1, 2].findSome? fun c => can.find? fun m => m.cls == c
  let ctl := can.find? fun m => m.cls == 3
  match ctl, data with
  | some c, some d => if 32 ≤ (x.recent.filter id).length then some d else some c
  | some c, none => some c
  | none, d => d

/-- R427, R436 to R438: a message enters the lanes: it takes a sequence number, its units and its credits; data and control are kept for replay. -/
def transmit (s : State) (p : Nat) (m : Msg) : State :=
  (s.bump64 (pgHport p) Reg.HPORT.TX_FRAMES_LO 1).onPort p fun x =>
    let u := x.units
    let x := { x with waiting := x.waiting.erase m, units := u + m.units, used := updAt x.used m.cls (· + m.units), recent := (decide (m.cls = 3) :: x.recent).take 63 }
    if m.cls = 3 then { x with txC := (x.txC + 1) % 4096, replayC := x.replayC ++ [⟨x.txC, 1, m, u⟩] }
    else if m.cls = 0 then { x with tx0 := (x.tx0 + 1) % 4096 }
    else { x with txD := (x.txD + 1) % 4096, replayD := x.replayD ++ [⟨x.txD, 1, m, u⟩] }

/-- Send what waits on a port, as far as credits and the link allow. -/
def flushPort (s : State) (p : Nat) : State :=
  go s (s.port p).waiting.length
where
  go (s : State) : Nat → State
    | 0 => s
    | fuel + 1 =>
      match s.chooseMsg p with
      | none => s
      | some m => go (s.transmit p m) fuel

/-- A port accepts a message. -/
def accept (s : State) (p : Nat) (m : Msg) : State :=
  let a := s.limitClass0 p m
  (a.1.onPort p fun x => { x with waiting := x.waiting ++ [a.2] }).flushPort p

/-- R459: the port by which a message to a rank leaves. -/
def routePort (s : State) (rank addr : Nat) : Option Nat :=
  match s.fabric.routes.find? fun e => e.1 == rank with
  | none => none
  | some (_, _, ports) =>
    let up := ports.filter fun p => s.linkState p == 2
    if up.isEmpty then none else up[(addr / 4096) % up.length]?

/-- R459, R460: send a message to a rank; without a route it is lost. -/
def routeMsg (s : State) (from_ : Nat) (m : Msg) : State :=
  match s.routePort m.dst m.addr with
  | some p => s.accept p m
  | none => s.linkLoss from_ 1

/-- R451: a STOP of module `r` holds class `c`. -/
def stopHolds (s : State) (r c : Nat) : Bool := s.fabric.stops.any fun e => e.1 == r && bitAt e.2 c

/-- A message that this module originates for a rank: held while a STOP of that rank masks its class. -/
def originate (s : State) (m : Msg) : State :=
  if m.isData && s.stopHolds m.dst m.cls then { s with fabric := { s.fabric with held := s.fabric.held ++ [m] } } else s.routeMsg 0 m

/-- A message header with this module's rank, epoch and stamp. -/
def newMsg (s : State) (op subop cls dst : Nat) : Msg :=
  { op := op, subop := subop, cls := cls, src := s.ownRank, dst := dst, epoch := s.rd (pgHport 0) Reg.HPORT.EPOCH, stamp := s.now }

/-! ### Links and lanes -/

def laneSt (s : State) (p k : Nat) : Nat := s.rd (pgHport p) Reg.HPORT.LANE_ST k

def setLane (s : State) (p k v : Nat) : State := s.wr (pgHport p) Reg.HPORT.LANE_ST v k

/-- Lanes that LANE_ADMIN allows. -/
def allowedLanes (s : State) (p : Nat) : List Nat :=
  (List.range 16).filter fun k => bitAt (s.rd (pgHport p) Reg.HPORT.LANE_ADMIN_MASK) k

/-- R426, R466: a new stripe set. -/
def setStripe (s : State) (p mask : Nat) : State :=
  let old := s.rd (pgHport p) Reg.HPORT.LANE_UP
  if old = mask then s
  else
    let s := ((s.wr (pgHport p) Reg.HPORT.LANE_UP mask).wr (pgHport p) Reg.HPORT.LINK_STAT_LANES (((List.range 16).filter (bitAt mask)).length)).onPort
      p fun x => { x with stripe := (x.stripe + 1) % 16, units := 0 }
    let s := if (List.range 16).any (fun k => bitAt old k && !bitAt mask k) then s.raise (pgHport p) 6 else s
    if (List.range 16).any (fun k => !bitAt old k && bitAt mask k) then s.raise (pgHport p) 7 else s

/-- R429, R437: the link goes DOWN: its replay frames are lost, its allowed lanes retrain, and its sequences and credits start
anew when it comes up (log entry 23). -/
def linkDown (s : State) (p : Nat) : State :=
  let x := s.port p
  let was := s.linkState p
  let s := s.linkLoss p (x.replayD.length + x.replayC.length)
  let s := (s.setStripe p 0).each ((s.allowedLanes p).filter fun k => s.laneSt p k != 4) fun s k => s.setLane p k 1
  let s := (s.wr (pgHport p) Reg.HPORT.LINK_STAT_LS 0).onPort p fun x =>
    { x with
      replayD := [], replayC := [], rxD := 0, rxC := 0, rx0 := 0, txD := 0, txC := 0, tx0 := 0, nakD := false, nakC := false
      used := [0, 0, 0, 0], trained := [], drops := [], lost := [], heard := none, delayReq := none }
  if was = 0 ∨ was = 1 then s else s.raise (pgHport p) 5

/-- R429: with its stripe set changed, the link is UP with at least two lanes, else DOWN. -/
def linkCheck (s : State) (p : Nat) : State :=
  let n := s.rd (pgHport p) Reg.HPORT.LINK_STAT_LANES
  let ls := s.linkState p
  if 2 ≤ n ∧ ls ≤ 1 then ((s.wr (pgHport p) Reg.HPORT.LINK_STAT_LS 2).raise (pgHport p) 4).flushPort p
  else if n < 2 ∧ 2 ≤ ls then s.linkDown p
  else s

/-- R430: STRIPE_CHANGE at a boundary: every drop applies, then trained lanes enter. -/
def stripeChange (s : State) (p : Nat) : State :=
  if !s.runs (pgHport p) then s
  else
    let x := s.port p
    let up := s.rd (pgHport p) Reg.HPORT.LANE_UP
    let out := (x.drops ++ x.lost ++ (List.range 16).filter fun k => bitAt up k && !bitAt (s.rd (pgHport p) Reg.HPORT.LANE_ADMIN_MASK) k)
    let enter := x.trained.filter fun k => (s.allowedLanes p).contains k && !out.contains k && s.laneSt p k != 4
    let mask := ((List.range 16).filter fun k => (bitAt up k && !out.contains k) || enter.contains k).foldl (fun a k => a + 2 ^ k) 0
    let s := s.each (out.filter (bitAt up)) fun s k =>
      s.setLane p k (if x.lost.contains k then 1 else if bitAt (s.rd (pgHport p) Reg.HPORT.LANE_ADMIN_MASK) k then 3 else 0)
    let s := s.each enter fun s k => s.setLane p k 2
    let s := s.onPort p fun x => { x with trained := [], drops := [], lost := [] }
    (s.setStripe p mask).linkCheck p

/-- R431: a lane's degradation in the tick just ended. -/
def laneDegrade (s : State) (p k : Nat) : State :=
  let pg := pgHport p
  let corr := sparseGet (fun _ => 0) (s.port p).corr k
  let syms := max 1 (s.tick.periodUs * 1000 * 128 / 10)
  let ppm := corr * 1000000 / syms
  let bad := bitAt (s.rd pg Reg.HPORT.LANE_UP) k &&
    ((s.port p).uncorr.contains k || decide (s.rd pg Reg.HPORT.LANE_CFG_DEG_PPM * syms < corr * 1000000))
  let run := if bad then min 255 (s.rd pg Reg.HPORT.LANE_DEG_RUN k + 1) else 0
  let s := ((s.wr pg Reg.HPORT.LANE_DEGRADED (b2n bad) k).wr pg Reg.HPORT.LANE_DEG_RUN run k).wr pg Reg.HPORT.LANE_CORR_PPM (min 65535 ppm) k
  if bad && decide (s.rd pg Reg.HPORT.LANE_CFG_DEG_TICKS ≤ run) then
    (s.wr pg Reg.HPORT.LANE_DEG_RUN 0 k).onPort p fun x => { x with drops := addOnce k x.drops }
  else s

/-- R431, R50: a port's boundary actions before the stripe set changes. -/
def portBoundary (s : State) (p : Nat) : State :=
  let s := if s.runs (pgHport p) then s.each (List.range 16) fun s k => s.laneDegrade p k else s
  s.onPort p fun x => { x with uncorr := [], corr := [] }

/-- R315, R468: a port's page is ON: its allowed lanes train. -/
def trainPort (s : State) (p : Nat) : State :=
  (s.each (s.allowedLanes p) fun s k => s.setLane p k 1).wr (pgHport p) Reg.HPORT.LINK_STAT_LS 1

/-- R429: LANE_TRAINED. -/
def laneTrained (s : State) (p k : Nat) : State :=
  if !s.isOn (pgHport p) || (s.laneSt p k != 1 && s.laneSt p k != 3) ||
      (sparseGet (fun _ => ({} : CalRec)) s.cal.lanes (16 * p + k)).out then s
  else s.onPort p fun x => { x with trained := addOnce k x.trained, fails := sparsePut (fun _ => 0) x.fails k 0 }

/-- R429: LANE_TRAINING_FAIL: three in a row leave the lane FAILED. -/
def laneTrainingFail (s : State) (p k : Nat) : State :=
  if !s.isOn (pgHport p) || s.laneSt p k != 1 then s
  else
    let n := sparseGet (fun _ => 0) (s.port p).fails k + 1
    let s := s.onPort p fun x => { x with fails := sparsePut (fun _ => 0) x.fails k n, trained := dropAll k x.trained }
    if 3 ≤ n then s.setLane p k 4 else s

/-- R432: LANE_LOCK_LOSS: the lane leaves the stripe set at the next boundary. -/
def laneLockLoss (s : State) (p k : Nat) : State :=
  if bitAt (s.rd (pgHport p) Reg.HPORT.LANE_UP) k then s.onPort p fun x => { x with lost := addOnce k x.lost, trained := dropAll k x.trained }
  else s

/-! ### Receiving -/

/-- R427, R437: frames sent again from a unit on, and the unit after them. -/
def sendAgain (u : Nat) (l : List TxFrame) : List TxFrame × Nat :=
  l.foldl (fun (a : List TxFrame × Nat) f => (a.1 ++ [{ f with sends := f.sends + 1, first := a.2 }], a.2 + f.msg.units)) ([], u)

/-- R437: resend the frames of a space; a frame already sent eight times takes the link DOWN. -/
def resend (s : State) (p space : Nat) : State :=
  let x := s.port p
  let l := if space = 1 then x.replayC else x.replayD
  if l.isEmpty then s
  else if l.any fun f => 8 ≤ f.sends then s.linkDown p
  else
    let again := sendAgain x.units l
    ((s.bump (pgHport p) Reg.HPORT.RETRIES l.length).bump64 (pgHport p) Reg.HPORT.TX_FRAMES_LO l.length).onPort p fun x =>
      let x := { x with units := again.2 }
      if space = 1 then { x with replayC := again.1 } else { x with replayD := again.1 }

/-- R433, R437: an acknowledgement names the last frame taken, a NAK the next one expected (log entry 23). -/
def applyAck (s : State) (p space : Nat) (a : Option (Nat × Bool)) : State :=
  match a with
  | none => s
  | some (n, nak) =>
    let next := if nak then n else (n + 1) % 4096
    let s := s.onPort p fun x =>
      if space = 1 then { x with replayC := unacked next x.replayC } else { x with replayD := unacked next x.replayD }
    if nak then s.resend p space else s

/-- R433: acknowledgements and credits of a link header. -/
def applyHdr (s : State) (p : Nat) (h : LinkHdr) : State :=
  let s := ((s.bump64 (pgHport p) Reg.HPORT.RX_FRAMES_LO 1).applyAck p 0 h.ackD).applyAck p 1 h.ackC
  (s.onPort p fun x => { x with used := (List.range 4).map fun c => x.used.getD c 0 - h.credit.getD c 0 }).flushPort p

/-- R436, R438: a frame that failed its CRC. -/
def crcFail (s : State) (p space : Nat) : State :=
  let s := s.bump (pgHport p) Reg.HPORT.CRC_FAILS
  match space with
  | 0 => s.onPort p fun x => { x with nakD := true }
  | 1 => s.onPort p fun x => { x with nakC := true }
  | _ => (s.bump (pgHport p) Reg.HPORT.C0_LOST).onPort p fun x => { x with rx0 := (x.rx0 + 1) % 4096 }

/-- R436, R438: the frame's place in its sequence space: taken or discarded. -/
def inSequence (s : State) (p : Nat) (h : LinkHdr) : State × Bool :=
  let x := s.port p
  match h.space with
  | 0 =>
    if h.seq = x.rxD then (s.onPort p fun x => { x with rxD := (x.rxD + 1) % 4096, nakD := false }, true)
    else (if seqAhead h.seq x.rxD < 2048 then s.onPort p fun x => { x with nakD := true } else s, false)
  | 1 =>
    if h.seq = x.rxC then (s.onPort p fun x => { x with rxC := (x.rxC + 1) % 4096, nakC := false }, true)
    else (if seqAhead h.seq x.rxC < 2048 then s.onPort p fun x => { x with nakC := true } else s, false)
  | _ => ((s.bump (pgHport p) Reg.HPORT.C0_LOST (seqAhead h.seq x.rx0)).onPort p fun x => { x with rx0 := (h.seq + 1) % 4096 }, true)

/-- R458: the message's epoch is accepted. -/
def epochOk (s : State) (m : Msg) : Bool :=
  m.epoch == s.rd (pgHport 0) Reg.HPORT.EPOCH ||
  (m.epoch == s.fabric.prevEpoch && decide (m.stamp.tick < s.rd64 (pgHport 0) Reg.HPORT.EPOCH_TICK_LO + 4))

/-- R433 to R438, R453: a message frame on a port: taken in sequence, or discarded; `act` handles a message whose operation is `op`. -/
def receive (s : State) (p : Nat) (h : LinkHdr) (m : Msg) (op : Nat) (act : State → State) : State :=
  if !s.runs (pgHport p) ∨ s.linkState p < 2 ∨ m.op ≠ op then s
  else if !h.crcOk then s.crcFail p h.space
  else
    let r := (s.applyHdr p h).inSequence p h
    if !r.2 then r.1
    else if r.1.linkState p ≠ 2 && !(m.op == 9 && m.subop == 1) then r.1
    else act r.1

/-- R434, R458, R459: a message that is not for this module goes on, one hop less to live. -/
def forward (s : State) (p : Nat) (m : Msg) : State :=
  if m.ttl ≤ 1 then s.stale p else s.routeMsg p { m with ttl := m.ttl - 1 }

/-- R451, R458: a data or control message: stale ones, those of fenced modules, and those for other modules do not reach `act`. -/
def delivered (s : State) (p : Nat) (m : Msg) (act : State → State) : State :=
  if m.dst ≠ 0xFFFF ∧ m.dst ≠ s.ownRank then s.forward p m
  else if !s.epochOk m then s.stale p
  else if m.isData && s.fabric.fences.contains m.src then s
  else act s

/-- LINK_FRAME (R433): a link frame, with the symbols that FEC corrected and the codewords it could not, by lane. -/
def linkFrame (s : State) (p : Nat) (h : LinkHdr) (fec : List (Nat × Nat × Nat)) : State :=
  if !s.runs (pgHport p) ∨ s.linkState p < 2 then s
  else
    let s := s.each fec fun s e =>
      ((s.bump64 (pgHport p) Reg.HPORT.FEC_CORR_LO e.2.1).bump (pgHport p) Reg.HPORT.FEC_UNCORR e.2.2).onPort p fun x =>
        { x with
          corr := sparsePut (fun _ => 0) x.corr e.1 (sparseGet (fun _ => 0) x.corr e.1 + e.2.1)
          uncorr := if e.2.2 = 0 then x.uncorr else addOnce e.1 x.uncorr }
    if h.crcOk then s.applyHdr p h else s.bump (pgHport p) Reg.HPORT.CRC_FAILS

/-! ### Memory messages -/

/-- R443: an address that a peer may not touch. -/
def peerForbidden (a n : Nat) : Bool :=
  decide (registerBase ≤ a + n ∧ a < registerBase + 2 ^ 32) || decide (hubBase ≤ a + n ∧ a < hubBase + 0x400000)

/-- R443: HOLADE_WRITE. -/
def holadeWrite (s : State) (m : Msg) : State :=
  if peerForbidden m.addr m.payload.length then s else (s.write s.mapNow m.addr m.payload fun _ => msgSeal m).1

/-- The answer to a message goes back to its sender: to the far end of the port, or to its rank. -/
def reply (s : State) (p : Nat) (m : Msg) (r : Msg) : State :=
  if m.dst = 0xFFFF then s.accept p { r with dst := 0xFFFF } else s.originate { r with dst := m.src }

/-- R442, R443: READ_REQ. -/
def readReq (s : State) (p : Nat) (m : Msg) : State :=
  let n := min m.operand 4096
  let ok := !peerForbidden m.addr n && s.inMemory s.mapNow m.addr n
  let r := if ok then s.read s.mapNow m.addr n else (s, { bytes := List.replicate n 0, withheld := true })
  let base := r.1.newMsg 3 0 m.cls m.src
  r.1.reply p m
    { base with
      addr := m.addr, tag := m.tag, payload := r.2.bytes, tid := r.2.tid, blk := r.2.blk, fmt := r.2.fmt, withheld := r.2.withheld
      delayed := r.2.delayed, last := true, gen := if ok then s.tick.number % 256 else 0 }

/-- R388, R442: READ_RESP: its data is written; the read completes with the last response. -/
def readResp (s : State) (m : Msg) : State :=
  match s.fabric.reads.find? fun r => r.tag == m.tag with
  | none => s
  | some r =>
    let s := { s with fabric := { s.fabric with reads := s.fabric.reads.erase r } }
    let a := Qd.dst r.desc + r.off
    let bad := m.withheld || s.badStep r.desc
    let sl (x : Nat) : Seal :=
      { s.genSeal (Qd.tid r.desc) (Qd.blk0 r.desc) (Qd.dst r.desc) m.fmt bad x with delayed := s.delayedWork r.desc }
    let inMem := s.inMemory s.mapNow a r.len
    let w := if inMem then s.write s.mapNow a (m.payload.take r.len) sl else (s, false)
    w.1.onQueue r.queue fun q =>
      { q with exec := q.exec.map fun e =>
          { e with
            got := if inMem then e.got else e.got ++ [(m.tag, a, m.payload.take r.len, m.withheld, m.fmt)]
            code := if w.2 then 8 else if m.withheld && e.code == 1 then 2 else e.code } }

/-! ### Control messages -/

/-- R450: the message is newer than the last control message applied from its sender. -/
def newerControl (s : State) (m : Msg) : Bool := decide (sparseGet (fun _ => 0) s.fabric.seen m.src < m.operand % 2 ^ 32)

/-- R466: STOPPED as the STOPs in force give it. -/
def showStops (s : State) : State :=
  let live := s.fabric.stops.filter fun e => e.2 != 0
  (s.wr (pgHport 0) Reg.HPORT.STOPPED_COUNT live.length).wr (pgHport 0) Reg.HPORT.STOPPED_MASK ((live.map (·.2)).foldl (· ||| ·) 0)

/-- R450, R451: a control message is applied: STOP, FENCE or RESUME with its class mask. -/
def applyControl (s : State) (m : Msg) : State :=
  if !s.newerControl m then s
  else
    let old := sparseGet (fun _ => 0) s.fabric.stops m.src
    let mask := bits m.operand 32 3
    let new := match m.subop with
      | 1 => old ||| mask
      | 2 => 7
      | _ => old - (old &&& mask)
    let s := { s with fabric := { s.fabric with
      seen := sparsePut (fun _ => 0) s.fabric.seen m.src (m.operand % 2 ^ 32), stops := sparsePut (fun _ => 0) s.fabric.stops m.src new } }
    let s := (s.bump (pgHport 0) Reg.HPORT.CTRL_RX).raise (pgHport 0) (match m.subop with | 1 => 15 | 2 => 17 | _ => 16)
    let go := s.fabric.held.filter fun x => !s.stopHolds x.dst x.cls
    let s := { s with fabric := { s.fabric with held := s.fabric.held.filter fun x => s.stopHolds x.dst x.cls } }
    (s.each go fun s x => s.routeMsg 0 x).showStops

/-- R450, R451: a write of CTRL_SEND. -/
def ctrlSend (s : State) (subop mask rank : Nat) : State :=
  let n := s.fabric.cseq + 1
  let s := { s with fabric := { s.fabric with cseq := n } }
  let s := s.originate { s.newMsg 10 subop 3 rank with operand := n % 2 ^ 32 + mask * 2 ^ 32 }
  if subop = 2 then
    let s := { s with fabric := { s.fabric with
      fences := addOnce rank s.fabric.fences, exclude := addOnce rank s.fabric.exclude } }
    s.wr (pgHport 0) Reg.HPORT.FENCED_PEERS s.fabric.fences.length
  else s

/-- R468: HPORT_DRAIN_TIMEOUT: what is still unacknowledged after 1 ms is discarded. -/
def hportDrainTimeout (s : State) (p : Nat) : State :=
  if s.st (pgHport p) ≠ 3 then s
  else
    let x := s.port p
    (s.linkLoss p (x.replayD.length + x.replayC.length + x.waiting.length)).onPort p fun x => { x with replayD := [], replayC := [], waiting := [] }

end State

/-- LINK_FRAME (R433). -/
def execLinkFrame (at_ p : Nat) (h : LinkHdr) (fec : List (Nat × Nat × Nat)) (s : State) : Host.Outcome State Fault Refusal :=
  liveCore s at_ fun s => s.linkFrame p h fec

/-- REPLAY_TIMEOUT (R437): 0 the data space, 1 the control space. -/
def execReplayTimeout (at_ p space : Nat) (s : State) : Host.Outcome State Fault Refusal := liveCore s at_ fun s => s.resend p space

/-- LANE_TRAINED (R429). -/
def execLaneTrained (at_ p k : Nat) (s : State) : Host.Outcome State Fault Refusal := liveCore s at_ fun s => s.laneTrained p k

/-- LANE_LOCK_LOSS (R432). -/
def execLaneLockLoss (at_ p k : Nat) (s : State) : Host.Outcome State Fault Refusal := liveCore s at_ fun s => s.laneLockLoss p k

/-- LANE_TRAINING_FAIL (R429). -/
def execLaneTrainingFail (at_ p k : Nat) (s : State) : Host.Outcome State Fault Refusal := liveCore s at_ fun s => s.laneTrainingFail p k

/-- HOLADE_WRITE (R443). -/
def execHoladeWrite (at_ p : Nat) (h : LinkHdr) (m : Msg) (s : State) : Host.Outcome State Fault Refusal :=
  liveCore s at_ fun s => s.receive p h m 1 fun s => s.delivered p m fun s => s.holadeWrite m

/-- READ_REQ (R443). -/
def execReadReq (at_ p : Nat) (h : LinkHdr) (m : Msg) (s : State) : Host.Outcome State Fault Refusal :=
  liveCore s at_ fun s => s.receive p h m 2 fun s => s.delivered p m fun s => s.readReq p m

/-- READ_RESP (R442). -/
def execReadResp (at_ p : Nat) (h : LinkHdr) (m : Msg) (s : State) : Host.Outcome State Fault Refusal :=
  liveCore s at_ fun s => s.receive p h m 3 fun s => s.delivered p m fun s => s.readResp m

/-- STOP_RX (R451). -/
def execStopRx (at_ p : Nat) (h : LinkHdr) (m : Msg) (s : State) : Host.Outcome State Fault Refusal :=
  liveCore s at_ fun s => s.receive p h m 10 fun s => s.delivered p m fun s => if m.subop = 1 then s.applyControl m else s

/-- FENCE_RX (R451). -/
def execFenceRx (at_ p : Nat) (h : LinkHdr) (m : Msg) (s : State) : Host.Outcome State Fault Refusal :=
  liveCore s at_ fun s => s.receive p h m 10 fun s => s.delivered p m fun s => if m.subop = 2 then s.applyControl m else s

/-- RESUME_RX (R451). -/
def execResumeRx (at_ p : Nat) (h : LinkHdr) (m : Msg) (s : State) : Host.Outcome State Fault Refusal :=
  liveCore s at_ fun s => s.receive p h m 10 fun s => s.delivered p m fun s => if m.subop = 3 then s.applyControl m else s

/-- HPORT_DRAIN_TIMEOUT (R468). -/
def execHportDrainTimeout (at_ p : Nat) (s : State) : Host.Outcome State Fault Refusal := liveCore s at_ fun s => s.hportDrainTimeout p

end Sys2Proof.Machine
end

