-- ==== Sys2Proof/Machine/Collective.lean ====
section
/-! DEFINITION. Collectives (R268, R281, R446 to R449): contributions, the reduction at boundary T + 1, results and broadcasts, and their
digests (R391 to R393). -/

namespace Sys2Proof.Machine

/-! ### Fields of a tensor entry (R264) and of a collective entry (R268) -/

namespace Tn
def tid (t : List Byte) : Nat := fieldOf t 0 2
def fmt (t : List Byte) : Nat := fieldOf t 2 1
def init (t : List Byte) : Bool := bitAt (fieldOf t 3 1) 0
def state (t : List Byte) : Bool := bitAt (fieldOf t 3 1) 1
def base (t : List Byte) : Nat := fieldOf t 4 6
def bytes (t : List Byte) : Nat := fieldOf t 12 8
def initOff (t : List Byte) : Nat := fieldOf t 20 8
def gen (t : List Byte) : Nat := fieldOf t 28 1
end Tn

namespace Ce
def id (c : List Byte) : Nat := fieldOf c 0 2
def op (c : List Byte) : Nat := fieldOf c 2 1
def src (c : List Byte) : Nat := fieldOf c 4 2
def dst (c : List Byte) : Nat := fieldOf c 6 2
def nelem (c : List Byte) : Nat := fieldOf c 8 4
def h (c : List Byte) : Nat := fieldOf c 12 1
def group (c : List Byte) : Nat := fieldOf c 14 2
/-- R447: blocks of the DST tensor. -/
def blocks (c : List Byte) : Nat := ceilDiv (nelem c) 640
end Ce

/-- R391: the modulus of digests. -/
def digestP : Nat := 2 ^ 61 - 1

/-- Power modulo the digest prime, by squaring over the exponent's bits. -/
def powMod (b : Nat) : Nat → Nat → Nat
  | 0, _ => 1
  | fuel + 1, e =>
    if e = 0 then 1
    else
      let h := powMod b fuel (e / 2)
      let q := h * h % digestP
      if e % 2 = 1 then q * b % digestP else q

/-- R391: the seed of a collective of tick `t`. -/
def digestSeed (planId collId t : Nat) : Nat :=
  2 + ((planId ^^^ (collId * 2 ^ 48) ^^^ (t * 0x9E3779B97F4A7C15 % 2 ^ 64)) % 2 ^ 64) % (2 ^ 61 - 4)

/-- R392: digest of one BFX48 block, the `b`-th of its tensor. -/
def digestBlock (seed b : Nat) (bs : List Byte) : Nat :=
  ((List.range 10).map fun g =>
    let x := bfxOf bs g
    if x.zr then 0
    else
      let sc := 2 ^ ((x.exp + 32768).toNat % 61)
      ((List.range 64).map fun i =>
        let n := ((x.n.getD i 0) % (digestP : Int)).toNat
        powMod seed 64 (640 * b + 64 * g + i + 1) * n % digestP * sc % digestP).foldl (· + ·) 0).foldl (· + ·) 0 % digestP

/-- R44, R168: data of a reduction is withheld where its seal says so, and where its format is not BFX48. -/
def collMarked (m : Msg) : Bool := m.withheld || m.fmt != 14

/-- R190: a block has a group with OVF. -/
def blockOvf (bs : List Byte) : Bool := (List.range 10).any fun g => (bfxOf bs g).ovf

namespace State

/-- A tensor of the loaded plan. -/
def tensor (s : State) (tid : Nat) : Option (List Byte) := s.plan.tensors.find? fun t => Tn.tid t == tid

/-- R42, step 4: TICK_OVERRUN, with what its payload names. -/
def overrun (s : State) (pg tick step pass : Nat) : State :=
  let s := { s with
    tick := { s.tick with overruns := s.tick.overruns ++ [(pg, tick, step, pass)] }, plan := { s.plan with overran := true } }
  (s.bump pgTICK Reg.TICK.OVERRUN_COUNT).raise pgTICK 4

/-- Entry of a running collective. -/
def collEntry (s : State) (c : Coll) : List Byte := s.plan.colls.getD c.cidx []

/-- R391: seed of a running collective. -/
def collSeed (s : State) (c : Coll) : Nat := digestSeed (s.rd64 pgBOOT Reg.BOOT.PLAN_ID_LO) (Ce.id (s.collEntry c)) c.tick

def putColl (s : State) (c : Coll) : State :=
  { s with plan := { s.plan with collsRunning := s.plan.collsRunning.map fun x => if x.cidx == c.cidx && x.tick == c.tick then c else x } }

/-- R446: fabric ranks of a group's members. -/
def groupRanks (s : State) (g : Nat) : List (Option Nat) :=
  match s.fabric.groups.find? fun e => e.1 == g with
  | none => []
  | some e => e.2.map fun id => (s.fabric.members.find? fun m => m.2 == id).map (·.1)

/-- R446: read the group table of hub SRAM: groups 1 to 255 that it names. -/
def readGroups (s : State) : State :=
  let base := s.rdAddr (pgHport 0) Reg.HPORT.GROUP_BASE_LO_ADDR
  if base < hubBase + 0x400000 ∨ hubBase + 32 * 2 ^ 20 < base + 2 ^ 20 then { s with fabric := { s.fabric with groups := [] } }
  else
    let read (g : Nat) : Option (Nat × List Nat) :=
      let n := numOf (s.bytesAt (base + g * 4096) 2)
      if n = 0 ∨ 256 < n then none else some (g, (List.range n).map fun i => numOf (s.bytesAt (base + g * 4096 + 8 + 8 * i) 8))
    { s with fabric := { s.fabric with groups := ((List.range 256).drop 1).filterMap read } }

/-- R281: COLLECTIVE_ISSUE: the collective of entry `cidx`, named by record `step`, runs from the current tick; its messages travel with the transfers that
name its DST_TID (R442, log entry 24). -/
def collIssue (s : State) (cidx step : Nat) (delayed : Bool) : State :=
  let e := s.plan.colls.getD cidx []
  let ranks := s.groupRanks (Ce.group e)
  let own := ranks.findIdx (· == some s.ownRank)
  let c : Coll :=
    { cidx := cidx, tick := s.tick.number, epoch := s.rd (pgHport 0) Reg.HPORT.EPOCH, ranks := ranks, own := own
      step := step, delayed := delayed }
  if own < ranks.length then { s with plan := { s.plan with collsRunning := s.plan.collsRunning ++ [c] } } else s

/-- R447, step 1: reducer of a block. -/
def reducer (c : Coll) (b : Nat) : Nat := b % max 1 c.ranks.length

/-- A message of a collective. -/
def collMsg (s : State) (c : Coll) (op subop cls to_ : Nat) : Msg :=
  let e := s.collEntry c
  { s.newMsg op subop cls ((c.ranks.getD to_ none).getD 0xFFFF) with
    epoch := c.epoch, tag := Ce.dst e, collId := Ce.id e, nelem := Ce.nelem e }

/-- Send a collective message to a group rank; an absent member gets none. -/
def collSend (s : State) (c : Coll) (to_ : Nat) (m : Msg) : State :=
  match c.ranks.getD to_ none with
  | none => s
  | some r => s.originate { m with dst := r }

/-- R447, step 2: contribute block `b`: kept or sent to its reducer, with the digest after the last block of a reducer. -/
def contribute (s : State) (c : Coll) (b cls : Nat) (bs : List Byte) (withheld : Bool) : State :=
  let r := reducer c b
  let dg := (sparseGet (fun _ => 0) c.ownDigest r + digestBlock (s.collSeed c) b bs) % digestP
  let c := { c with cls := cls, sent := addOnce b c.sent, ownDigest := sparsePut (fun _ => 0) c.ownDigest r dg }
  let e := s.collEntry c
  let mine := (List.range (Ce.blocks e)).filter fun x => reducer c x == r
  let last := mine.all c.sent.contains
  if r = c.own then s.putColl { c with parts := c.parts ++ [(c.own, b, bs, withheld)], digests := if last then c.digests ++ [(c.own, dg)] else c.digests }
  else
    let s := s.putColl c
    let s := s.collSend c r
      { s.collMsg c 4 0 cls r with
        addr := 4096 * b, payload := bs, tid := Ce.dst e, blk := b, gen := s.tick.number % 256, fmt := 14, withheld := withheld
        delayed := c.delayed, last := last }
    if last then s.collSend c r { s.collMsg c 6 0 cls r with operand := dg } else s

/-- R189, R442: a REDUCE into a Holade window contributes its elements, from byte offset `o` of the tensor. -/
def contributeAll (s : State) (c : Coll) (o cls : Nat) (blocks : List (List Byte)) (withheld : Bool) : State :=
  s.each blocks.zipIdx fun s e =>
    match s.plan.collsRunning.find? fun x => x.cidx == c.cidx && x.tick == c.tick with
    | none => s
    | some c => s.contribute c (o / 4096 + e.2) cls e.1 withheld

/-- R449: a BCAST transfer of group rank 0: each block to each other member in ascending group rank. -/
def broadcast (s : State) (c : Coll) (o cls : Nat) (bs : List Byte) (sl : Nat → Seal) : State :=
  let e := s.collEntry c
  if c.own ≠ 0 then s
  else s.each (List.range (ceilDiv bs.length 4096)) fun s i =>
    s.each ((List.range c.ranks.length).drop 1) fun s k =>
      let x := sl (4096 * i)
      s.collSend c k
        { s.collMsg c 7 0 cls k with
          addr := o + 4096 * i, payload := (bs.drop (4096 * i)).take 4096, tid := Ce.dst e, blk := o / 4096 + i, gen := s.tick.number % 256
          fmt := x.fmt, withheld := x.withheld, delayed := x.delayed || c.delayed, last := i + 1 == ceilDiv bs.length 4096 }

/-- R448: mark blocks of the DST tensor WITHHELD; `late` under R42. -/
def markDst (s : State) (e : List Byte) (bs : List Nat) (late : Bool := true) : State :=
  match s.tensor (Ce.dst e) with
  | none => s
  | some t =>
    let sl (a : Nat) : Seal := { s.genSeal (Ce.dst e) 0 (Tn.base t) 14 true a with late := late }
    s.each bs fun s b => s.markBlock s.mapNow sl (Tn.base t + 4096 * b)

/-- R447: write one block of the DST tensor. -/
def writeDst (s : State) (e : List Byte) (b : Nat) (bs : List Byte) (sl : Seal) : State :=
  match s.tensor (Ce.dst e) with
  | none => s
  | some t => (s.write s.mapNow (Tn.base t + 4096 * b) bs fun _ => sl).1

/-- R393: a digest failure: counted, raised and recorded against the port on which it showed. -/
def digestFail (s : State) (p check collId : Nat) : State :=
  ((s.bump pgINTEG Reg.INTEG.DIGEST_FAILS).raise pgINTEG 9).record (pgHport p) 12 0 1 check collId

/-- R190: exact sum of one block over the contributions, in ascending group rank. -/
def sumBlocks (s : State) (l : List (List Byte)) : State × List Byte :=
  let gs : State × List Bfx := (List.range 10).foldl (fun a g =>
    let r : State × Option Bfx := l.foldl (fun acc bs =>
      match acc.2 with
      | none => (acc.1, some (bfxOf bs g))
      | some x =>
        let sum := acc.1.sumGroups x (bfxOf bs g)
        (sum.1, some sum.2)) (a.1, none)
    (r.1, a.2 ++ [r.2.getD ⟨eMin, true, false, List.replicate 64 0⟩])) (s, [])
  (gs.1, bfxBlock gs.2)

/-- R447, step 1: the blocks of this module's shard. -/
def shardBlocks (s : State) (c : Coll) : List Nat := (List.range (Ce.blocks (s.collEntry c))).filter fun b => reducer c b == c.own

/-- R447, R448: every contribution to this module's shard, with its digest, has arrived. -/
def shardComplete (s : State) (c : Coll) : Bool :=
  (List.range c.ranks.length).all fun g =>
    (c.digests.any fun d => d.1 == g) && (s.shardBlocks c).all fun b => c.parts.any fun p => p.1 == g && p.2.1 == b

/-- R36, R448: at boundary T + 1 a contribution that is missing makes the reduction an overrun of tick T. -/
def shardDeadline (s : State) (c : Coll) : State :=
  if (s.shardBlocks c).isEmpty || s.shardComplete c then s
  else (s.overrun (pgHport 0) c.tick c.step 0).markDst (s.collEntry c) (s.shardBlocks c)

/-- R447, steps 3 and 4: the reducer's work from boundary T + 1, when nothing is missing. A contribution that does not match its digest is
recorded under check 3, corruption on the way to the reducer (log entry 118). -/
def reduceShard (s : State) (c : Coll) : State :=
  let e := s.collEntry c
  let n := c.ranks.length
  let mine := s.shardBlocks c
  if mine.isEmpty || !s.shardComplete c then s
  else
    let part (g b : Nat) : List Byte × Bool := ((c.parts.find? fun p => p.1 == g && p.2.1 == b).map (·.2.2)).getD ([], false)
    let bad := (List.range n).filter fun g =>
      (mine.map fun b => digestBlock (s.collSeed c) b (part g b).1).foldl (· + ·) 0 % digestP !=
        ((c.digests.find? fun d => d.1 == g).map (·.2)).getD 0
    let s := s.each bad fun s _ => s.digestFail 0 3 (Ce.id e)
    let sums : State × List (Nat × List Byte × Bool) := mine.foldl (fun a b =>
      let r := a.1.sumBlocks ((List.range n).map fun g => (part g b).1)
      let w := ((List.range n).any fun g => (part g b).2) || blockOvf r.2 || !bad.isEmpty
      (r.1, a.2 ++ [(b, r.2, w)])) (s, [])
    let s := sums.1.each sums.2 fun s x =>
      let sl : Seal := { tid := Ce.dst e, blk := x.1, gen := s.tick.number % 256, fmt := 14, withheld := x.2.2, delayed := c.delayed }
      let s := s.writeDst e x.1 x.2.1 sl
      s.each (dropAll c.own (List.range n)) fun s k =>
        let base := s.collMsg c 5 0 c.cls k
        s.collSend c k
          { base with
            addr := 4096 * x.1, payload := x.2.1, tid := sl.tid, blk := sl.blk, gen := sl.gen, fmt := 14, withheld := x.2.2
            delayed := sl.delayed }
    let dg := (sums.2.map fun x => digestBlock (s.collSeed c) x.1 x.2.1).foldl (· + ·) 0 % digestP
    let listed := (List.range n).map fun g => ((c.digests.find? fun d => d.1 == g).map (·.2)).getD 0
    s.each (dropAll c.own (List.range n)) fun s k =>
      s.collSend c k { s.collMsg c 6 1 c.cls k with payload := (dg :: listed).flatMap (bytesOf 8) }

/-- R448, R449: at boundary T + 1 a broadcast's missing blocks are an overrun of tick T and are marked. -/
def bcastDeadline (s : State) (c : Coll) : State :=
  let e := s.collEntry c
  if c.own = 0 then s
  else
    let n := match s.tensor (Ce.dst e) with
      | none => 0
      | some t => ceilDiv (Tn.bytes t) 4096
    let missing := (List.range n).filter fun b => !c.results.any fun r => r.1 == b
    if missing.isEmpty then s
    else (s.overrun (pgHport 0) c.tick c.step 0).markDst e missing

/-- R448: at boundary T + 2 a shard whose results or list are missing is an overrun of tick T + 1 and is marked. -/
def resultDeadline (s : State) (c : Coll) : State :=
  let e := s.collEntry c
  s.each (dropAll c.own (List.range (min c.ranks.length (Ce.blocks e)))) fun s r =>
    let blocks := (List.range (Ce.blocks e)).filter fun b => reducer c b == r
    if c.listed.contains r && blocks.all (fun b => c.results.any fun x => x.1 == b) then s
    else (s.overrun (pgHport 0) (c.tick + 1) c.step 0).markDst e blocks

/-- R34 action 2, R36, R448: what collectives still wait for as the current tick closes is an overrun. -/
def collClose (s : State) : State :=
  let n := s.tick.number
  s.each s.plan.collsRunning fun s c =>
    let op := Ce.op (s.collEntry c)
    if c.tick = n then (if op = 1 then s.shardDeadline c else s.bcastDeadline c)
    else if c.tick + 1 = n ∧ op = 1 then s.resultDeadline c
    else s

/-- R447 to R449: in the tick that has begun, the shards of the tick before it are reduced, and collectives that have ended leave. -/
def collBoundary (s : State) : State :=
  let n := s.tick.number
  let s := s.each s.plan.collsRunning fun s c => if c.tick + 1 = n ∧ Ce.op (s.collEntry c) = 1 then s.reduceShard c else s
  let live := s.plan.collsRunning.filter fun c => decide (n < c.tick + (if Ce.op (s.collEntry c) = 1 then 2 else 1))
  { s with plan := { s.plan with collsRunning := live } }

/-! ### Received messages -/

/-- R36: a late message is discarded and counted. -/
def lateMsg (s : State) (p : Nat) : State := (s.bump (pgHport p) Reg.HPORT.LATE_MSGS).raise (pgHport p) 8

/-- R36, R442, R448: the collective that a message belongs to, with the group rank of its sender. `ahead` is how many ticks after T it is
stamped. -/
def collFor (s : State) (p : Nat) (m : Msg) (op ahead : Nat) (act : State → Coll → Nat → State) : State :=
  if m.stamp.tick < s.tick.number then s.lateMsg p
  else if s.tick.number < m.stamp.tick then { s with fabric := { s.fabric with early := s.fabric.early ++ [(p, m)] } }
  else match s.plan.collsRunning.find? fun c =>
      let e := s.collEntry c
      Ce.dst e == m.tag && Ce.op e == op && c.tick + ahead == m.stamp.tick && Ce.id e == m.collId && Ce.nelem e == m.nelem &&
        c.ranks.contains (some m.src) with
    | none => s.stale p
    | some c => act s c (c.ranks.findIdx (· == some m.src))

/-- R447: REDUCE_ADD: a contribution block for this module's shard. -/
def reduceAdd (s : State) (p : Nat) (m : Msg) : State :=
  s.collFor p m 1 0 fun s c g =>
    let b := m.addr / 4096
    if reducer c b ≠ c.own ∨ Ce.blocks (s.collEntry c) ≤ b then s.stale p
    else s.putColl { c with cls := m.cls, parts := (c.parts.filter fun x => !(x.1 == g && x.2.1 == b)) ++ [(g, b, padTo 4096 m.payload, collMarked m)] }

/-- R393, R447: DIGEST of SUBOP 0: a member's digest of its contribution. -/
def digestContribution (s : State) (p : Nat) (m : Msg) : State :=
  s.collFor p m 1 0 fun s c g => s.putColl { c with digests := (c.digests.filter fun x => x.1 != g) ++ [(g, m.operand % 2 ^ 64)] }

/-- R393: the three checks of a shard's result, once its digest list and every block of it are there. -/
def checkShard (s : State) (c : Coll) (g : Nat) : State :=
  match c.lists.find? fun x => x.1 == g with
  | none => s
  | some l =>
    let e := s.collEntry c
    let blocks := (List.range (Ce.blocks e)).filter fun b => reducer c b == g
    let got := blocks.filterMap fun b => c.results.find? fun x => x.1 == b
    if got.length < blocks.length then s
    else
      let s := s.putColl { c with lists := c.lists.filter fun x => x.1 != g }
      if got.any (fun x => blockOvf x.2.1) then s
      else
        let dg := (got.map fun x => digestBlock (s.collSeed c) x.1 x.2.1).foldl (· + ·) 0 % digestP
        let claimed := fieldOf l.2.2 0 8
        let listed := (List.range c.ranks.length).map fun k => fieldOf l.2.2 (8 + 8 * k) 8
        let fail := if dg ≠ claimed then 1
          else if listed.foldl (· + ·) 0 % digestP ≠ claimed % digestP then 2
          else if listed.getD c.own 0 ≠ sparseGet (fun _ => 0) c.ownDigest g then 3
          else 0
        if fail = 0 then s else (s.digestFail l.2.1 fail (Ce.id e)).markDst e blocks false

/-- R447: RESULT: a block of a reduced shard is written. -/
def collResult (s : State) (p : Nat) (m : Msg) : State :=
  s.collFor p m 1 1 fun s c g =>
    let b := m.addr / 4096
    if reducer c b ≠ g ∨ Ce.blocks (s.collEntry c) ≤ b then s.stale p
    else
      let c := { c with results := (c.results.filter fun x => x.1 != b) ++ [(b, padTo 4096 m.payload, collMarked m)] }
      ((s.putColl c).writeDst (s.collEntry c) b (padTo 4096 m.payload) { msgSeal m with withheld := collMarked m }).checkShard c g

/-- R393: DIGEST of SUBOP 1: a reducer's digest and the list of those it was sent. -/
def digestResult (s : State) (p : Nat) (m : Msg) : State :=
  s.collFor p m 1 1 fun s c g =>
    let c := { c with listed := addOnce g c.listed, lists := (c.lists.filter fun x => x.1 != g) ++ [(g, p, m.payload)] }
    (s.putColl c).checkShard c g

/-- R449: BCAST: a block of the tensor is written. -/
def bcast (s : State) (p : Nat) (m : Msg) : State :=
  s.collFor p m 2 0 fun s c g =>
    if g ≠ 0 then s.stale p
    else
      let b := m.addr / 4096
      let s := s.putColl { c with results := (c.results.filter fun x => x.1 != b) ++ [(b, m.payload, m.withheld)] }
      s.writeDst (s.collEntry c) b m.payload (msgSeal m)

/-- The collective messages by operation. -/
def collMessage (s : State) (p : Nat) (m : Msg) : State :=
  match m.op with
  | 4 => s.reduceAdd p m
  | 5 => s.collResult p m
  | 6 => if m.subop = 0 then s.digestContribution p m else s.digestResult p m
  | 7 => s.bcast p m
  | _ => s

/-- R35: messages that arrived before their tick began here. -/
def takeEarly (s : State) : State :=
  let due := s.fabric.early
  ({ s with fabric := { s.fabric with early := [] } }).each due fun s e => s.collMessage e.1 e.2

end State

/-- REDUCE_ADD (R447). -/
def execReduceAdd (at_ p : Nat) (h : LinkHdr) (m : Msg) (s : State) : Host.Outcome State Fault Refusal :=
  liveCore s at_ fun s => s.receive p h m 4 fun s => s.delivered p m fun s => s.reduceAdd p m

/-- RESULT (R447). -/
def execResult (at_ p : Nat) (h : LinkHdr) (m : Msg) (s : State) : Host.Outcome State Fault Refusal :=
  liveCore s at_ fun s => s.receive p h m 5 fun s => s.delivered p m fun s => s.collResult p m

/-- DIGEST_CONTRIBUTION (R393). -/
def execDigestContribution (at_ p : Nat) (h : LinkHdr) (m : Msg) (s : State) : Host.Outcome State Fault Refusal :=
  liveCore s at_ fun s => s.receive p h m 6 fun s => s.delivered p m fun s => if m.subop = 0 then s.digestContribution p m else s

/-- DIGEST_RESULT (R393). -/
def execDigestResult (at_ p : Nat) (h : LinkHdr) (m : Msg) (s : State) : Host.Outcome State Fault Refusal :=
  liveCore s at_ fun s => s.receive p h m 6 fun s => s.delivered p m fun s => if m.subop = 1 then s.digestResult p m else s

/-- BCAST (R449). -/
def execBcast (at_ p : Nat) (h : LinkHdr) (m : Msg) (s : State) : Host.Outcome State Fault Refusal :=
  liveCore s at_ fun s => s.receive p h m 7 fun s => s.delivered p m fun s => if State.peerForbidden m.addr 1 then s else s.bcast p m

end Sys2Proof.Machine
end

