-- ==== Sys2Proof/Machine/Member.lean ====
section
/-! DEFINITION. Fabric membership (R453 to R458), routes (R459, R460), the grandmaster (R455), epochs (R457) and tick
synchronisation (R461 to R463, R38). -/

namespace Sys2Proof.Machine

/-- R455, R459: order of (first, identity) pairs. -/
def pairLt (a b : Nat × Nat) : Bool := decide (a.1 < b.1 ∨ (a.1 = b.1 ∧ a.2 < b.2))

/-- The least of a list of pairs. -/
def leastPair : List (Nat × Nat) → Option (Nat × Nat)
  | [] => none
  | x :: rest =>
    match leastPair rest with
    | none => some x
    | some y => if pairLt y x then some y else some x

namespace State

/-- R446: this module's identity. -/
def ownId (s : State) : Nat := s.boot.flash.serial

def fabEn (s : State) : Bool := s.flag (pgHport 0) Reg.HPORT.FAB_CTL_EN

/-- Links up for anything but isolation: UP or HELD, with their neighbours as last announced. -/
def neighbours (s : State) : List (Nat × Heard) :=
  (List.range 32).filterMap fun p =>
    if s.linkState p == 2 || s.linkState p == 4 then (s.port p).heard.map fun h => (p, h) else none

/-- R455: candidates: itself, and those announced within GM_TIMEOUT ticks. -/
def candidates (s : State) : List (Nat × Nat) :=
  let prio := s.rd (pgHport 0) Reg.HPORT.FAB_CTL_PRIORITY
  let self := if s.tick.src = 2 ∧ s.fabEn ∧ prio < 255 then [(prio, s.ownId)] else []
  let t := s.rd (pgHport 0) Reg.HPORT.EPOCH_CFG_GM_TIMEOUT
  self ++ (s.neighbours.filter fun e => decide (s.tick.number ≤ e.2.tick + t)).map fun e => (e.2.ann.gmPrio, e.2.ann.gmId)

/-- R28, R274: the plan is RUNNING in the current tick: a STOP stamped in an earlier tick has made it STOPPING at the boundary that begins it. -/
def planStays (s : State) : Bool := s.planRunning && s.plan.stopAt.all fun n => decide (s.tick.number ≤ n)

/-- R28, R455: a neighbour's grandmaster may be adopted: no plan is RUNNING, or its tick number and boundary agree within 10 ns and its period
is the plan's. -/
def adoptable (s : State) (a : Announce) : Bool :=
  !s.planStays || (a.gmTick == s.tick.number && decide (a.gmOffset.natAbs ≤ 10) && a.gmPeriod == s.tick.periodUs)

/-- R455: a link enters HELD, or leaves it. -/
def holdLink (s : State) (p : Nat) (held : Bool) : State :=
  let ls := s.linkState p
  let h := s.rd (pgHport 0) Reg.HPORT.HELD_LINKS
  let s := s.wr (pgHport 0) Reg.HPORT.HELD_LINKS (setBits h p 1 (b2n held))
  if held ∧ ls = 2 then (s.wr (pgHport p) Reg.HPORT.LINK_STAT_LS 4).raise (pgHport 0) 14
  else if !held ∧ ls = 4 then (s.wr (pgHport p) Reg.HPORT.LINK_STAT_LS 2).flushPort p
  else s

/-- R455: the grandmaster in force, shown and announced. -/
def setGm (s : State) (g : Option Nat) : State :=
  if s.fabric.gm = g then s
  else
    let s := { s with fabric := { s.fabric with gm := g } }
    let s := (s.wr (pgHport 0) Reg.HPORT.GM_ID_LO (g.getD 0)).wr (pgHport 0) Reg.HPORT.GM_ID_HI (g.getD 0 / 2 ^ 32)
    s.raise (pgHport 0) 13

/-- R456: the first member of a fabric is its grandmaster, of rank 0 (log entry 25). -/
def foundFabric (s : State) : State :=
  if s.fabric.gm = some s.ownId ∧ s.fabric.members.isEmpty then
    ({ s with fabric := { s.fabric with members := [(0, s.ownId)] } }.wr (pgHport 0) Reg.HPORT.FAB_STAT_RANK 0).wr (pgHport 0)
      Reg.HPORT.MEMBERS_COUNT 1
  else s

/-- R454, R461: hops to the grandmaster, by the neighbours that follow it. -/
def levelNow (s : State) : Nat :=
  if s.fabric.gm = some s.ownId then 0
  else
    let l := (s.neighbours.filter fun e => some e.2.ann.gmId == s.fabric.gm).map fun e => (e.2.ann.level + 1, e.2.ann.id)
    ((leastPair l).map (·.1)).getD 0

/-- R459: the link of a neighbour is up from here. -/
def linkIsUp (s : State) (a : Announce) : Bool := pairLt (a.level, a.id) (s.fabric.level, s.ownId)

/-- R461: port toward the parent. -/
def parentPort (s : State) : Option Nat :=
  let l := s.neighbours.filter fun e => some e.2.ann.gmId == s.fabric.gm && s.linkIsUp e.2.ann
  match leastPair (l.map fun e => (e.2.ann.level, e.2.ann.id)) with
  | none => none
  | some b => (l.find? fun e => (e.2.ann.level, e.2.ann.id) == b).map (·.1)

/-- R466: FS as the state gives it (log entry 25). -/
def fabState (s : State) : Nat :=
  if !s.fabEn then 0
  else if s.neighbours.isEmpty then 1
  else if s.fabric.gm = some s.ownId then 4
  else if s.ownRank = 0xFFFF then 2
  else 3

/-- R24, R27, R38: holdover begins. -/
def holdover (s : State) : State :=
  if s.flag pgTICK Reg.TICK.STATUS_HOLDOVER then s
  else ((s.wr pgTICK Reg.TICK.STATUS_HOLDOVER 1).wr pgTICK Reg.TICK.STATUS_LOCKED 0 |>.wr pgTICK Reg.TICK.STATUS_ACTIVE_SRC 0).raise pgTICK 5

/-- R455: the (PRIORITY, identity) pair of the grandmaster in force, as it is announced. -/
def gmPair (s : State) : Option (Nat × Nat) := leastPair (s.candidates.filter fun c => some c.2 == s.fabric.gm)

/-- R28: a neighbour's grandmaster that would be adopted but for its period, which is not that of the RUNNING plan. -/
def refusesPeriod (s : State) (a : Announce) : Bool :=
  s.tick.src == 2 && s.planStays && some a.gmId != s.fabric.gm && a.gmPeriod != Ph.tickUs s.plan.header &&
    (s.gmPair.all fun p => pairLt (a.gmPrio, a.gmId) p)

/-- R28, R455: the links toward a grandmaster that may not be adopted, or whose period the plan does not follow, are HELD. -/
def holdsLink (s : State) (a : Announce) : Bool :=
  (some a.gmId != s.fabric.gm && s.fabric.gm.isSome && !s.adoptable a) || (s.tick.planHold && a.gmPeriod != s.tick.periodUs) ||
    (s.tick.planHold && some a.gmId == s.fabric.gm && s.fabric.gm != some s.ownId)

/-- R28, R455: the election: links toward a grandmaster that may not be adopted are HELD, and a RUNNING plan that refuses its period holds
over. -/
def elect (s : State) : State :=
  let s := if !s.tick.planHold && s.neighbours.any fun e => s.refusesPeriod e.2.ann then
      ({ s with tick := { s.tick with planHold := true } }).holdover else s
  let s := s.each s.neighbours fun s e => s.holdLink e.1 (s.holdsLink e.2.ann)
  let best := leastPair (if s.fabric.gm.isSome ∧ !s.neighbours.isEmpty then
      s.candidates.filter fun c => c.2 == s.ownId || s.neighbours.any fun e => e.2.ann.gmId == c.2 && s.linkState e.1 == 2
    else s.candidates)
  let s := (s.setGm (best.map (·.2))).foundFabric
  let lv := s.levelNow
  let s := { s with fabric := { s.fabric with level := lv } }
  (s.wr pgTICK Reg.TICK.HOPS_COUNT (if s.tick.src = 2 then min 255 lv else 0)).wr (pgHport 0) Reg.HPORT.FAB_STAT_FS s.fabState

/-- R459: the route sets that the neighbours' announcements give: per rank, the shortest legal length and its ports. -/
def computeRoutes (s : State) : List (Nat × Nat × List Nat) :=
  let steps := s.neighbours.flatMap fun e =>
    let up := s.linkIsUp e.2.ann
    (((e.2.ann.rank, 0, true) :: e.2.ann.routes).filter fun r => up || r.2.2).map fun r => (r.1, r.2.1 + 1, e.1)
  let ranks := (steps.map (·.1)).dedup.filter fun r => r != 0xFFFF && r != s.ownRank
  ranks.map fun r =>
    let mine := steps.filter fun x => x.1 == r
    let d := mine.foldl (fun a x => min a x.2.1) 1000
    (r, d, ((mine.filter fun x => x.2.1 == d).map (·.2.2)).dedup)

/-- R454, R466: the neighbour on a port, as it announces itself. -/
def showPeer (s : State) (p : Nat) (a : Announce) : State :=
  let pg := pgHport p
  let s := s.onPort p fun x => { x with heard := some ⟨a, s.tick.number⟩ }
  let s := s.wr pg Reg.HPORT.PEER_ID_LO a.id
  let s := s.wr pg Reg.HPORT.PEER_ID_HI (a.id / 2 ^ 32)
  (s.wr pg Reg.HPORT.PEER_PORT a.port).wr pg Reg.HPORT.PEER_RANK a.rank

/-- R453: the far end belongs to another fabric, or to none. -/
def isolates (s : State) (a : Announce) : Bool :=
  a.fabric != s.rd64 (pgHport 0) Reg.HPORT.FABRIC_ID_LO || !a.enabled || !s.fabEn

/-- R455, R459: a neighbour of the same fabric is heard: candidates, levels and routes follow. -/
def memberHeard (s : State) : State :=
  let s := s.elect
  let routes := s.computeRoutes
  { s with fabric := { s.fabric with nextRoutes := routes } }

/-- R451: exclusions that a neighbour asks the grandmaster for. -/
def takeExclusions (s : State) (l : List Nat) : State :=
  if s.fabric.gm == some s.ownId then
    { s with fabric := { s.fabric with wantLeave := l.foldl (fun acc r => addOnce r acc) s.fabric.wantLeave } }
  else s

/-- R458: a newer epoch is announced that this module has no notice of: it asks for the table again. -/
def missedEpoch (s : State) (epoch : Nat) : State :=
  if decide (s.rd (pgHport 0) Reg.HPORT.EPOCH < epoch) && s.fabric.epochs.isEmpty && s.ownRank != 0xFFFF then
    { s with fabric := { s.fabric with joinSent := false } }
  else s

/-- MEMBER_ANNOUNCE (R453 to R455, R459). -/
def memberAnnounce (s : State) (p : Nat) (a : Announce) : State :=
  let s := s.showPeer p a
  if s.isolates a then s.wr (pgHport p) Reg.HPORT.LINK_STAT_LS 3
  else
    let s := if s.linkState p == 3 then (s.wr (pgHport p) Reg.HPORT.LINK_STAT_LS 2).flushPort p else s
    (s.memberHeard.takeExclusions a.exclude).missedEpoch a.epoch

/-- MEMBER_TIMEOUT (R454, R460): the link is DOWN for membership and routing. -/
def memberTimeout (s : State) (p : Nat) : State :=
  match (s.port p).heard with
  | none => s
  | some h =>
    if h.tick + s.rd (pgHport 0) Reg.HPORT.EPOCH_CFG_MEMBER_TIMEOUT ≤ s.tick.number then
      let s := s.onPort p fun x => { x with heard := none }
      let cut (l : List (Nat × Nat × List Nat)) := l.map fun r => (r.1, r.2.1, dropAll p r.2.2)
      { s with fabric := { s.fabric with routes := cut s.fabric.routes, report := true } }
    else s

/-- GM_TIMEOUT (R455, R463): the grandmaster is not announced any more. -/
def gmTimeout (s : State) : State :=
  let t := s.rd (pgHport 0) Reg.HPORT.EPOCH_CFG_GM_TIMEOUT
  if s.fabric.gm.isNone ∨ s.fabric.gm = some s.ownId ∨
      s.neighbours.any (fun e => some e.2.ann.gmId == s.fabric.gm && decide (s.tick.number < e.2.tick + t)) then s
  else
    let s := s.each s.neighbours fun s e => s.onPort e.1 fun x =>
      if some e.2.ann.gmId == s.fabric.gm then { x with heard := x.heard.map fun h => { h with ann := { h.ann with gmPrio := 255, gmId := 2 ^ 64 } } }
      else x
    let s := s.elect
    if s.fabric.gm = some (2 ^ 64) then s.setGm none else s

/-- R456: MEMBER table messages of the members, 512 ranks each. -/
def tableMsgs (s : State) : List Msg :=
  let top := (s.fabric.members.map (·.1 + 1)).foldl max 0
  (List.range (ceilDiv top 512)).map fun i =>
    let n := min 512 (top - 512 * i)
    let m := s.newMsg 9 3 2 0xFFFF
    { m with addr := 4096 * i, payload := (List.range n).flatMap fun k => bytesOf 8 ((s.rankId (512 * i + k)).getD 0), last := 512 * i + n == top }

/-- MEMBER_JOIN (R456): the grandmaster notes it; another module passes it toward its parent. The sender gets the table. -/
def memberJoin (s : State) (p : Nat) (m : Msg) : State :=
  let s := s.each s.tableMsgs fun s t => s.accept p t
  if s.fabric.gm = some s.ownId then { s with fabric := { s.fabric with wantJoin := addOnce m.operand s.fabric.wantJoin } }
  else match s.parentPort with
    | some q => if m.ttl ≤ 1 then s.stale p else s.accept q { m with ttl := m.ttl - 1 }
    | none => s

/-- MEMBER_TABLE (R456): identities by rank, from rank ADDR ÷ 8. -/
def memberTable (s : State) (m : Msg) : State :=
  let first := m.addr / 8
  let got := (List.range (m.payload.length / 8)).map fun i => (first + i, fieldOf m.payload (8 * i) 8)
  let kept := s.fabric.members.filter fun e => e.1 < first || first + got.length ≤ e.1
  { s with fabric := { s.fabric with members := sortBy (·.1) (kept ++ got.filter fun e => e.2 != 0) } }

/-- MEMBER_LEAVE (R456). -/
def memberLeave (s : State) (m : Msg) : State :=
  if s.fabric.gm = some s.ownId then { s with fabric := { s.fabric with wantLeave := addOnce m.src s.fabric.wantLeave } } else s

/-- R456: FAB_CMD.LEAVE. -/
def fabLeave (s : State) : State :=
  if s.ownRank = 0xFFFF then s
  else if s.fabric.gm = some s.ownId then { s with fabric := { s.fabric with wantLeave := addOnce s.ownRank s.fabric.wantLeave } }
  else
    let g := ((s.fabric.members.find? fun e => some e.2 == s.fabric.gm).map (·.1)).getD 0xFFFF
    s.originate (s.newMsg 9 4 3 g)

/-- R457: an epoch is known here, and goes on over every other link. -/
def scheduleEpoch (s : State) (from_ : Option Nat) (e : Epoch) : State :=
  if e.number ≤ s.rd (pgHport 0) Reg.HPORT.EPOCH ∨ s.fabric.epochs.any (fun x => x.number == e.number) then s
  else
    let s := { s with fabric := { s.fabric with epochs := s.fabric.epochs ++ [e] }, tick := { s.tick with
      epochPeriod := if s.tick.src = 2 then some (e.tick, e.period) else s.tick.epochPeriod } }
    s.each ((List.range 32).filter fun p => s.linkState p == 2 && some p != from_) fun s p =>
      let m := s.newMsg 9 5 3 0xFFFF
      s.accept p { m with operand := e.number }

/-- MEMBER_EPOCH (R457). -/
def memberEpoch (s : State) (p number tick period : Nat) (joins : List (Nat × Nat)) (leaves : List Nat) : State :=
  s.scheduleEpoch (some p) ⟨number, tick, period, joins.take 1024, leaves.take 1024⟩

/-- R456: the lowest ranks free for a list of joiners: not in use and not freed in the last two epochs. -/
def assignRanks (s : State) (e : Nat) : List Nat → Nat → Nat → List (Nat × Nat)
  | [], _, _ => []
  | _, 0, _ => []
  | id :: rest, fuel + 1, r =>
    if s.fabric.members.any (fun m => m.1 == r) || s.fabric.freed.any (fun f => f.1 == r && decide (e ≤ f.2 + 2)) then
      s.assignRanks e (id :: rest) fuel (r + 1)
    else (r, id) :: s.assignRanks e rest fuel (r + 1)

/-- R457: the grandmaster announces an epoch when changes wait, at most one per LEAD ticks. -/
def announceEpoch (s : State) : State :=
  let f := s.fabric
  let lead := s.rd (pgHport 0) Reg.HPORT.EPOCH_CFG_LEAD
  let period := s.rd pgTICK Reg.TICK.PERIOD_US
  let due := !f.wantJoin.isEmpty || !f.wantLeave.isEmpty || f.report || period != s.tick.periodUs
  if f.gm = some s.ownId ∧ due ∧ f.epochs.isEmpty ∧ (f.lastEpochTick + lead ≤ s.tick.number ∨ f.lastEpochTick = 0) then
    let e := s.rd (pgHport 0) Reg.HPORT.EPOCH + 1
    let ids := (f.wantJoin.filter fun id => !f.members.any fun m => m.2 == id).take 1024
    let joins := s.assignRanks e ids 65535 0
    let s := { s with fabric := { f with wantJoin := [], wantLeave := [], report := false, lastEpochTick := s.tick.number } }
    s.scheduleEpoch none ⟨e, s.tick.number + lead, period, joins, f.wantLeave.take 1024⟩
  else s

/-- R457: EPOCH_CHANGE at its boundary: ranks, groups and routes change. -/
def applyEpoch (s : State) (e : Epoch) : State :=
  let f := s.fabric
  let members := sortBy (·.1) ((f.members.filter fun m => !e.leaves.contains m.1) ++ e.joins)
  let rank := ((members.find? fun m => m.2 == s.ownId).map (·.1)).getD 0xFFFF
  let back (r : Nat) : Bool := e.joins.any fun j => j.1 == r
  let s := { s with fabric := { f with
    members := members, prevEpoch := s.rd (pgHport 0) Reg.HPORT.EPOCH, epochs := f.epochs.filter fun x => x.number != e.number
    freed := f.freed ++ e.leaves.map fun r => (r, e.number), routes := f.nextRoutes, fences := f.fences.filter fun r => !back r
    exclude := f.exclude.filter fun r => !e.leaves.contains r, stops := f.stops.filter fun x => !e.leaves.contains x.1 } }
  let pg := pgHport 0
  let s := ((s.wr pg Reg.HPORT.EPOCH e.number).wr64 pg Reg.HPORT.EPOCH_TICK_LO e.tick).wr pg Reg.HPORT.MEMBERS_COUNT members.length
  let s := (s.wr pg Reg.HPORT.FAB_STAT_RANK rank).wr pg Reg.HPORT.FENCED_PEERS s.fabric.fences.length
  (s.readGroups.showStops).raise pg 12

/-- R446, R457: epochs and group reloads that take effect at the boundary that begins the current tick. -/
def epochBoundary (s : State) : State :=
  let s := s.each (s.fabric.epochs.filter fun e => decide (e.tick ≤ s.tick.number)) fun s e => s.applyEpoch e
  if s.fabric.reload then { s.readGroups with fabric := { s.readGroups.fabric with reload := false } } else s

/-- R453: a module whose EN is 0 leaves the fabric's state. -/
def dropFabric (s : State) : State :=
  let s := { s with fabric := { s.fabric with members := [], routes := [], nextRoutes := [], epochs := [], groups := [], joinSent := false } }
  let s := (s.setGm none).wr (pgHport 0) Reg.HPORT.FAB_STAT_RANK 0xFFFF
  let s := (s.wr (pgHport 0) Reg.HPORT.MEMBERS_COUNT 0).wr (pgHport 0) Reg.HPORT.FAB_STAT_FS 0
  s.each ((List.range 32).filter fun p => s.linkState p == 2 || s.linkState p == 4) fun s p =>
    (s.holdLink p false).wr (pgHport p) Reg.HPORT.LINK_STAT_LS 3

/-- R27, R453, R455: the grandmaster at a boundary: elected, or none with FAB_CTL.EN 0. -/
def standing (s : State) : State :=
  if s.fabEn then s.elect else if s.fabric.members.isEmpty && s.fabric.gm.isNone then s else s.dropFabric

/-- R454 to R456, R461: what a module sends at every boundary. -/
def memberBoundary (s : State) : State :=
  let links := (List.range 32).filter fun p => decide (2 ≤ s.linkState p)
  let s := s.standing
  let s := s.each links fun s p => let m := s.newMsg 9 1 3 0xFFFF; s.accept p { m with operand := s.ownId }
  if !s.fabEn then s
  else
    let children := s.neighbours.filter fun e => !s.linkIsUp e.2.ann && s.linkState e.1 == 2
    let s := if s.tick.src = 2 then s.each children fun s e => s.accept e.1 (s.newMsg 8 1 3 0xFFFF) else s
    let s := match links.find? fun p => s.linkState p == 2 with
      | some p =>
        if (s.fabState = 2 ∨ s.fabState = 3) ∧ !s.fabric.joinSent then
          let m := s.newMsg 9 2 3 0xFFFF
          { s with fabric := { s.fabric with joinSent := true } }.accept p { m with operand := s.ownId }
        else s
      | none => s
    s.announceEpoch

/-! ### Tick synchronisation -/

/-- R37, R38, R81: announcements arrive again; the source is locked while the offset lies within the bound. -/
def syncLock (s : State) (offset : Int) : State :=
  let s := (s.wr pgTICK Reg.TICK.STATUS_HOLDOVER 0).wr pgTICK Reg.TICK.STATUS_ACTIVE_SRC 2
  if offset.natAbs ≤ 2 * s.rd pgTICK Reg.TICK.HOPS_COUNT then
    if s.flag pgTICK Reg.TICK.STATUS_LOCKED then s else (s.wr pgTICK Reg.TICK.STATUS_LOCKED 1).raise pgTICK 6
  else s.wr pgTICK Reg.TICK.STATUS_LOCKED 0

/-- R38: an offset from the grandmaster's boundaries, taken to the nearest of them. -/
def nearest (off period : Int) : Int := let r := off % period; if period < 2 * r then r - period else r

/-- R38, R462: TICK_SYNC_ANNOUNCE from the parent: the offset of the current boundary, and with it the grandmaster's phase, from which the
next tick's length is corrected. `arrival` is the arrival instant since the boundary, in 1/16 ns. -/
def tickSync (s : State) (p arrival : Nat) (m : Msg) : State :=
  let s := s.onPort p fun x => { x with syncTick := s.tick.number }
  if s.parentPort ≠ some p ∨ s.tick.planHold then s
  else
    let raw : Int := (arrival : Int) - (m.operand : Int) - (s.port p).delay
    let off := rnaDiv raw 16
    let s := { s with tick := { s.tick with gmPhase := some (s.tick.elapsed + off) } }
    if s.tick.src ≠ 2 then s
    else
      let near := nearest off (s.tick.periodUs * 1000)
      let s := s.wr pgTICK Reg.TICK.SYNC_OFFSET_NS (ofSigned near 32)
      let next := if s.planRunning ∨ m.stamp.tick = s.tick.number then none else some (m.stamp.tick + 1)
      ({ s with tick := { s.tick with syncNumber := next } }).syncLock near

/-- R462: DELAY_MEASURE on a link, every 64 ticks. -/
def delayMeasure (s : State) (p : Nat) : State :=
  if s.tick.number % 64 ≠ 0 ∨ s.linkState p ≠ 2 then s
  else (s.onPort p fun x => { x with delayReq := some (16 * s.ns) }).accept p (s.newMsg 8 2 3 0xFFFF)

/-- R462: DELAY_REQ is answered; the residence time, in 1/16 ns, goes with it. -/
def delayReq (s : State) (p residence : Nat) : State :=
  let m := s.newMsg 8 3 3 0xFFFF
  s.accept p { m with operand := residence }

/-- R462: DELAY_RESP: half the round trip less the residence. -/
def delayResp (s : State) (p : Nat) (m : Msg) : State :=
  match (s.port p).delayReq with
  | none => s
  | some t => s.onPort p fun x => { x with delayReq := none, delay := ((16 * s.ns : Nat) - (t : Int) - (m.operand : Int)) / 2 }

/-- R463: TICK_SYNC_LOSS: no announcement from the parent at two consecutive boundaries. -/
def tickSyncLoss (s : State) : State :=
  if s.tick.src ≠ 2 ∨ s.fabric.gm = some s.ownId then s
  else match s.parentPort with
    | none => s.holdover
    | some p => if (s.port p).syncTick + 2 ≤ s.tick.number then s.holdover else s

end State

/-- A MEMBER message reaches this module: control messages are not tied to an epoch. -/
def execMemberAnnounce (at_ p : Nat) (h : LinkHdr) (m : Msg) (a : Announce) (s : State) : Host.Outcome State Fault Refusal :=
  liveCore s at_ fun s => s.receive p h m 9 fun s => if m.subop = 1 then s.memberAnnounce p a else s

/-- MEMBER_JOIN (R456): the identity of the joiner is in OPERAND. -/
def execMemberJoin (at_ p : Nat) (h : LinkHdr) (m : Msg) (s : State) : Host.Outcome State Fault Refusal :=
  liveCore s at_ fun s => s.receive p h m 9 fun s => if m.subop = 2 then s.memberJoin p m else s

/-- MEMBER_TABLE (R456). -/
def execMemberTable (at_ p : Nat) (h : LinkHdr) (m : Msg) (s : State) : Host.Outcome State Fault Refusal :=
  liveCore s at_ fun s => s.receive p h m 9 fun s => if m.subop = 3 then s.memberTable m else s

/-- MEMBER_LEAVE (R456). -/
def execMemberLeave (at_ p : Nat) (h : LinkHdr) (m : Msg) (s : State) : Host.Outcome State Fault Refusal :=
  liveCore s at_ fun s => s.receive p h m 9 fun s =>
    if m.subop ≠ 4 then s else if m.dst ≠ 0xFFFF ∧ m.dst ≠ s.ownRank then s.forward p m else s.memberLeave m

/-- MEMBER_EPOCH (R457): epoch number, tick E, period in µs, joins (rank, identity) and leaves. -/
def execMemberEpoch (at_ p : Nat) (h : LinkHdr) (m : Msg) (number tick period : Nat) (joins : List (Nat × Nat)) (leaves : List Nat)
    (s : State) : Host.Outcome State Fault Refusal :=
  liveCore s at_ fun s => s.receive p h m 9 fun s => if m.subop = 5 then s.memberEpoch p number tick period joins leaves else s

/-- MEMBER_TIMEOUT (R454). -/
def execMemberTimeout (at_ p : Nat) (s : State) : Host.Outcome State Fault Refusal := liveCore s at_ fun s => s.memberTimeout p

/-- GM_TIMEOUT (R455). -/
def execGmTimeout (at_ : Nat) (s : State) : Host.Outcome State Fault Refusal := liveCore s at_ fun s => s.gmTimeout

/-- TICK_SYNC_ANNOUNCE (R462): arrival since the boundary, in 1/16 ns. -/
def execTickSyncAnnounce (at_ p : Nat) (h : LinkHdr) (m : Msg) (arrival : Nat) (s : State) : Host.Outcome State Fault Refusal :=
  liveCore s at_ fun s => s.receive p h m 8 fun s => if m.subop = 1 then s.tickSync p arrival m else s

/-- DELAY_MEASURE (R462). -/
def execDelayMeasure (at_ p : Nat) (s : State) : Host.Outcome State Fault Refusal := liveCore s at_ fun s => s.delayMeasure p

/-- DELAY_REQ (R462): with the residence time of the answer, in 1/16 ns. -/
def execDelayReq (at_ p : Nat) (h : LinkHdr) (m : Msg) (residence : Nat) (s : State) : Host.Outcome State Fault Refusal :=
  liveCore s at_ fun s => s.receive p h m 8 fun s => if m.subop = 2 then s.delayReq p residence else s

/-- DELAY_RESP (R462). -/
def execDelayResp (at_ p : Nat) (h : LinkHdr) (m : Msg) (s : State) : Host.Outcome State Fault Refusal :=
  liveCore s at_ fun s => s.receive p h m 8 fun s => if m.subop = 3 then s.delayResp p m else s

/-- TICK_SYNC_LOSS (R463). -/
def execTickSyncLoss (at_ : Nat) (s : State) : Host.Outcome State Fault Refusal := liveCore s at_ fun s => s.tickSyncLoss

end Sys2Proof.Machine
end

