-- ==== Sys2Proof/Machine/Pump.lean ====
section
/-! DEFINITION. The queues' engines (R199 to R224, R574, R575): fetching and merging, waits, transfers under credits and arbitration,
completion, barriers, halting, discarding and overruns. The movement of data is in Xfer.lean. -/

namespace Sys2Proof.Machine

/-- R575: credits of the receive buffer of a number. -/
def bufferCredits (b : Nat) : Nat :=
  if b < 1000 then 64 else if b < 1100 then 512 else if b < 1200 then 1024 else if b < 1300 then 512 else if b < 1500 then 2048 else 8

/-- R209: two COPY descriptors of one queue may merge, the first having grown to `len` bytes. -/
def mayMerge (first : List Byte) (len : Nat) (d : List Byte) : Bool :=
  Qd.op d == 1 && !Qd.noMerge d && !Qd.irq d && !Qd.arrive d && Qd.wkind d == 0 && Qd.tick d == Qd.tick first &&
  Qd.cls d == Qd.cls first && Qd.untimed d == Qd.untimed first && Qd.src d == Qd.src first + len && Qd.dst d == Qd.dst first + len &&
  decide (len + Qd.len d ≤ 4096) && Qd.dst first / 4096 == (Qd.dst first + max 1 (len + Qd.len d) - 1) / 4096

/-- R209: the first descriptor of a merge. -/
def mergesFrom (d : List Byte) : Bool := Qd.op d == 1 && !Qd.noMerge d && !Qd.irq d && !Qd.arrive d

/-- Bytes that an execution moves as one: with its merged descriptors. -/
def Exec.len (e : Exec) : Nat := Qd.len e.desc + (e.merged.map fun m => Qd.len m.2).foldl (· + ·) 0

/-- R196, R208: an execution has transfers left to issue; a failed one has none. -/
def Exec.more (e : Exec) : Bool :=
  decide (e.code < 3) &&
  match Qd.op e.desc with
  | 2 => decide (e.items < Qd.ntiles e.desc)
  | 4 => decide (e.items < Qd.items e.desc)
  | 5 => decide (e.items < Qd.nitem e.desc)
  | 6 => decide (e.items < Qd.nitem e.desc)
  | _ => decide (e.issued < (if e.merged.isEmpty then Qd.transfers e.desc else b2n (e.len != 0)))

namespace State

/-! ### Rings -/

def ringSize (s : State) (q : Nat) : Nat := 2 ^ s.rd (pgPumpq q) Reg.PUMPQ.RING_CFG_LOG2

/-- Address of a ring slot. -/
def slotAddr (s : State) (q slot : Nat) : Nat := s.rdAddr (pgPumpq q) Reg.PUMPQ.RING_BASE_LO_ADDR + 64 * slot

def head (s : State) (q : Nat) : Nat := s.rd (pgPumpq q) Reg.PUMPQ.HEAD_INDEX
def tail (s : State) (q : Nat) : Nat := s.rd (pgPumpq q) Reg.PUMPQ.TAIL_INDEX

/-- R260: a pump access to the firmware area is refused, but for the reads that its table allows. -/
def hubAllows (s : State) (q a n : Nat) (reads : Bool) : Bool :=
  let low := decide (a < hubBase + 0x400000) && decide (hubBase < a + n)
  !low || (reads && (decide (hubBase ≤ a ∧ a + n ≤ hubBase + 0x2000) ||
    (decide (hubBase + 0x10000 ≤ a ∧ a + n ≤ hubBase + 0x50000) && s.plan.programs.any fun p => Prog.request p && Prog.ingQ p == q)))

/-- R11: a ring slot lies behind a memory link whose region has no light; it is read once the link has light again. -/
def slotDark (s : State) (q slot : Nat) : Bool := decide (s.slotAddr q slot < 12 * 2 ^ 36) && !s.linkLit (queueDie q)

/-- R260, R574: read a ring slot: the descriptor, or the code it fails with. -/
def readSlot (s : State) (q slot : Nat) : State × Nat × List Byte :=
  let r := s.read s.qmap (s.slotAddr q slot) 64
  if !s.hubAllows q (s.slotAddr q slot) 64 true then (s, 6, []) else (r.1, if r.2.unmapped then 6 else if r.2.ecc then 8 else if r.2.sealFail then 7 else 0, r.2.bytes)

/-- R208: STATUS written into the descriptor in memory; the block keeps its seal's fields (log entry 26). None is written into the firmware area
(R260, R574) or over a dark memory link (R11, log entry 75). -/
def putStatus (s : State) (q slot code gen : Nat) : State :=
  if !s.hubAllows q (s.slotAddr q slot + 60) 4 false || s.slotDark q slot then s
  else match s.resolve s.qmap (s.slotAddr q slot + 60) with
  | .mem key =>
    (s.store key (bytesOf 4 (code + gen * 256 + s.tick.number % 65536 * 65536)) { s.blockSeal (key / 4096) with bad := false }).1
  | _ => s

/-- R208, R574: the last failing descriptor. -/
def lastErr (s : State) (q code slot gen : Nat) : State :=
  let pg := pgPumpq q
  (((s.wr pg Reg.PUMPQ.LAST_ERR_CODE code).wr pg Reg.PUMPQ.LAST_ERR_SLOT slot).wr pg Reg.PUMPQ.LAST_ERR_GEN gen).raise pg 5

/-! ### Barriers (R207) -/

/-- R207: a barrier is released when its count has reached its target. -/
def barCheck (s : State) (b : Nat) : State :=
  let pg := pgWdie (b / 16)
  let i := b % 16
  let t := s.rd pg Reg.WDIE.BAR_CFG_TARGET i
  if t ≠ 0 ∧ t ≤ s.rd pg Reg.WDIE.BAR_STAT_COUNT i then
    (s.bumpWrap pg Reg.WDIE.BAR_STAT_GEN 1 i).wr pg Reg.WDIE.BAR_STAT_COUNT 0 i
  else s

/-- R207: an arrival at a barrier. -/
def arriveAt (s : State) (b : Nat) : State := (s.bump (pgWdie (b / 16)) Reg.WDIE.BAR_STAT_COUNT 1 (b % 16)).barCheck b

/-- R207: BAR_CFG_WRITE. -/
def barTarget (s : State) (d i target : Nat) : State := (s.wr (pgWdie d) Reg.WDIE.BAR_CFG_TARGET target i).barCheck (16 * d + i)

/-! ### Completion (R208) -/

/-- R201, R250: bytes 26 to 37 of a STATS record are the timestamp of its completion, which crosses no link of its own. -/
def stampStats (s : State) (d : List Byte) : State :=
  match s.resolve s.mapNow (Qd.dst d + 26) with
  | .mem key =>
    let t := s.offLinks (s.store key (stampBytes s.now) (s.blockSeal (key / 4096))).1
    { t with pump := { t.pump with stamped := addOnce (key, s.tick.off) t.pump.stamped } }
  | _ => s

/-- R201, R208: a descriptor completes: a STATS record takes its timestamp, then STATUS, DONE_COUNT, ARRIVE, DESC_DONE, in this order. -/
def completeDesc (s : State) (q slot : Nat) (d : List Byte) (code : Nat) : State :=
  let pg := pgPumpq q
  let s := if Qd.op d = 7 ∧ (code = 1 ∨ code = 2) then s.stampStats d else s
  let s := (s.putStatus q slot code (Qd.gen d)).bumpWrap pg Reg.PUMPQ.DONE_COUNT
  let s := if Qd.arrive d then s.arriveAt (Qd.bar d) else s
  let s := if Qd.irq d then s.raise pg 4 else s
  let s := if 4 ≤ code ∧ code ≤ 8 then s.lastErr q code slot (Qd.gen d) else s
  if code = 3 then (s.bump pg Reg.PUMPQ.OVERRUN_DISCARDS).raise pg 8 else s

/-- R388: seals that a descriptor generates. -/
def descSeal (s : State) (d : List Byte) (fmt : Nat) (withheld : Bool) (a : Nat) : Seal :=
  { s.genSeal (Qd.tid d) (Qd.blk0 d) (Qd.dst d) (match Qd.op d with | 8 => 14 | 7 => 0 | _ => fmt) (withheld || s.badStep d) a with
    delayed := s.delayedWork d }

/-- R388: format of the seal that a source address lies under. -/
def sourceFmt (s : State) (a : Nat) : Nat :=
  match s.resolve s.qmap a with
  | .mem key => (s.blockSeal (key / 4096)).fmt
  | _ => 0

/-- R205: mark the destination region of a descriptor that completes OVERRUN, under the map of its tick; of a SCATTER, the blocks of items from
`first` on. What no pump may write (R260) it does not mark. -/
def markDest (s : State) (q : Nat) (d : List Byte) (first : Nat := 0) : State :=
  let sl (a : Nat) : Seal := { s.descSeal d (s.sourceFmt (Qd.src d)) true a with late := true }
  let map := if Qd.untimed d then s.mapNow else s.mapAt ((s.tick.number : Int) + s.tickDelta d)
  let mark (s : State) (a n : Nat) : State := if s.hubAllows q a n false then s.markRegion map sl a n else s
  match Qd.op d with
  | 1 => mark s (Qd.dst d) (Qd.len d)
  | 5 => mark s (Qd.dst d) (Qd.len d)
  | 3 => s.each (s.targetsBy map q) fun s w => s.markRegion map sl (poolBase + w * 2 ^ 20 + Qd.dst d % 2 ^ 20) (Qd.len d)
  | 7 => mark s (Qd.dst d) 64
  | 8 => mark s (Qd.dst d) (Qd.reduceBlocks d * 4096)
  | 6 =>
    s.each ((List.range (Qd.nitem d)).drop first) fun s i =>
      match s.resolve map (Qd.idx d + 4 * i) with
      | .mem key =>
        if s.cist.eccBad.contains (key / 4096) || (s.blockSeal (key / 4096)).bad then s
        else mark s (Qd.dst d + numOf (s.bytesAt key 4) * Qd.esize d) (Qd.esize d)
      | _ => s
  | _ => s

/-! ### Fetching -/

/-- R209: descriptors behind the one just fetched that merge with it. -/
def gatherMerges (s : State) (q : Nat) (first : List Byte) : Nat → Nat → Nat → List (Nat × List Byte)
  | 0, _, _ => []
  | fuel + 1, slot, len =>
    if slot = s.head q ∨ s.slotDark q slot = true then []
    else
      let d := s.peek (s.slotAddr q slot) 64
      if mayMerge first len d && (s.readSlot q slot).2.1 == 0 && s.fetchFault q d == 0 then
        (slot, d) :: s.gatherMerges q first fuel ((slot + 1) % s.ringSize q) (len + Qd.len d)
      else []

/-- A range of memory that a queue may read or write. -/
def memOk (s : State) (q a n : Nat) (reads : Bool) : Bool := s.inMemory s.mapNow a n && s.hubAllows q a n reads

/-- R202: every word of a range of register space is assigned. -/
def regsOk (x n : Nat) : Bool := (List.range (n / 4)).all fun i => State.regMapped (x + 4 * i)

/-- R202: a COPY may read `n` bytes at an address. -/
def copySourceOk (s : State) (q a n : Nat) : Bool :=
  match s.resolve s.mapNow a with
  | .mem _ => s.memOk q a n true
  | .frame p o => decide (p < 8) && decide (o + n ≤ 2 ^ 32)
  | .holade _ o => decide (o + n ≤ 2 ^ 32)
  | .reg x => State.regsOk x n
  | .unmapped => false

/-- R202: a COPY may write `n` bytes at an address. -/
def copyDestOk (s : State) (q a n : Nat) : Bool :=
  match s.resolve s.mapNow a with
  | .mem _ => s.memOk q a n false
  | .frame p o => decide (8 ≤ p) && decide (o + n ≤ 2 ^ 32)
  | .holade _ o => decide (o + n ≤ 2 ^ 32)
  | .reg x => State.regsOk x n
  | .unmapped => false

/-- R197: a range lies in one of the module's windows. -/
def inWindow (a n : Nat) : Bool :=
  let within (base size : Nat) : Bool := decide (base ≤ a ∧ a + n ≤ base + size)
  within 0 (12 * 2 ^ 36) || within poolBase (832 * 2 ^ 20) || within logicalBase (800 * 2 ^ 20) ||
  (decide (reservoirBase ≤ a ∧ a < reservoirBase + 4 * 0x4000000) && within (a - (a - reservoirBase) % 0x4000000) (48 * 2 ^ 20)) ||
  within hubBase (32 * 2 ^ 20) || within frameBase (16 * 2 ^ 32) || within holadeBase (32 * 2 ^ 32) || within registerBase (2 ^ 32)

/-- R202: the ranges of a descriptor that are known when it is fetched, the items of an index list apart: source and destination. -/
def rangesOf (d : List Byte) : List (Nat × Nat) :=
  match Qd.op d with
  | 1 => [(Qd.src d, Qd.len d), (Qd.dst d, Qd.len d)]
  | 3 => [(Qd.src d, Qd.len d)]
  | 7 => [(Qd.src d, Qd.srcBytes d), (Qd.dst d, 64)]
  | 8 => [(Qd.src d, Qd.srcBytes d)]
  | _ => []

/-- R202, R223: a descriptor's addresses at FETCH. One that issues at once is judged by the map in force, one of a later tick or with a wait that
is not met only by the windows, since the map of its tick decides about the rest (R198, log entry 113). -/
def placesOk (s : State) (q : Nat) (d : List Byte) : Bool :=
  if !s.mayIssue d then (rangesOf d).all fun r => State.inWindow r.1 r.2
  else match Qd.op d with
    | 1 => s.copySourceOk q (Qd.src d) (Qd.len d) && s.copyDestOk q (Qd.dst d) (Qd.len d)
    | 3 => s.memOk q (Qd.src d) (Qd.len d) true
    | 7 => s.memOk q (Qd.src d) (Qd.srcBytes d) true && s.memOk q (Qd.dst d) 64 false
    | 8 => s.memOk q (Qd.src d) (Qd.srcBytes d) true
    | _ => true

/-- The engine's descriptor, or none. -/
def exec? (s : State) (q : Nat) : Option Exec := (s.queue q).exec

/-- R575: the requests of a queue end, and the credits that they were granted return. -/
def dropAsked (s : State) (q : Nat) : State :=
  let taken := (s.pump.asked.filter fun a => a.queue == q && a.granted).foldl (fun l a =>
    sparsePut (fun _ => 0) l a.buffer (sparseGet (fun _ => 0) l a.buffer - a.credits)) s.pump.taken
  { s with pump := { s.pump with taken := taken, asked := s.pump.asked.filter fun a => a.queue != q } }

/-- An engine whose descriptor ends waits for no answer of a READ_REQ any more, and for no credits. -/
def setExec (s : State) (q : Nat) (e : Option Exec) : State :=
  let reads := if e.isNone then s.fabric.reads.filter fun r => r.queue != q else s.fabric.reads
  let t := if e.isNone then s.dropAsked q else s
  { t with fabric := { t.fabric with reads := reads } }.onQueue q fun x => { x with exec := e }

/-- R204 to R206, R223: a descriptor that has been read: it fails, is late, waits, or issues. The flag says that the engine is free
again. -/
def beginDesc (s : State) (q slot : Nat) (d : List Byte) (merged : List (Nat × List Byte)) : State × Bool :=
  let f := s.fetchFault q d
  if f ≠ 0 then (s.completeDesc q slot d f, true)
  else if s.late d = false ∧ merged.isEmpty ∧ s.placesOk q d = false then (s.completeDesc q slot d 6, true)
  else if s.late d then (s.each ((slot, d) :: merged) fun s e => (s.markDest q e.2).completeDesc q e.1 e.2 3, true)
  else
    let s := if merged.isEmpty then s else s.bump (pgPumpq q) Reg.PUMPQ.MERGED (merged.length + 1)
    let e : Exec := { slot := slot, desc := d, merged := merged }
    if s.mayIssue d then
      if !e.more then (s.each ((slot, d) :: merged) fun s x => s.completeDesc q x.1 x.2 1, true)
      else ((s.setExec q (some e)).setQst q .issue, false)
    else ((s.setExec q (some e)).setQst q .wait, false)

/-- R223, R221: a free engine takes the shadowed descriptor, else the next of the ring. The flag says that it is free again. -/
def takeNext (s : State) (q : Nat) : State × Bool :=
  match (s.queue q).shadow with
  | some (slot, d) =>
    ((s.onQueue q fun x => { x with shadow := none }).wr (pgPumpq q) Reg.PUMPQ.REARM_STAT_SHADOW_FULL 0).beginDesc q slot d []
  | none =>
    if s.head q = s.tail q then (s.setQst q .idle, false)
    else if s.slotDark q (s.tail q) then (s.setQst q .fetch, false)
    else
      let slot := s.tail q
      let r := s.readSlot q slot
      let s := r.1
      if r.2.1 ≠ 0 then ((s.lastErr q r.2.1 slot 0).setQst q .halted, false)
      else
        let d := r.2.2
        let ms := if mergesFrom d then s.gatherMerges q d (s.ringSize q) ((slot + 1) % s.ringSize q) (Qd.len d) else []
        (s.wr (pgPumpq q) Reg.PUMPQ.TAIL_INDEX ((slot + 1 + ms.length) % s.ringSize q)).beginDesc q slot d ms

/-- The engine fetches until a descriptor occupies it or nothing is queued. -/
def fetch (s : State) (q : Nat) : State :=
  if s.isOn (pgPumpq q) && (s.exec? q).isNone && s.qst q != 5 && !(s.queue q).skew then go s q (s.ringSize q + 2) else s
where
  go (s : State) (q : Nat) : Nat → State
    | 0 => s
    | fuel + 1 => let r := s.takeNext q; if r.2 then go r.1 q fuel else r.1

/-! ### Credits -/

def heldCredits (s : State) (q : Nat) : Nat := s.rd (pgPumpq q) Reg.PUMPQ.Q_STAT_CREDITS

/-- Queues of a pump. -/
def pumpQueues (p : Nat) : List Nat := (List.range 256).map fun i => 256 * p + i

/-- R212: a page's minimum is reserved. -/
def reserves (s : State) (q : Nat) : Bool := s.flag (pgPumpq q) Reg.HDR.CTL_EN || (1 ≤ s.st (pgPumpq q) && s.st (pgPumpq q) ≤ 3)

/-- R212, R229: sum of reserved minimums of a pump. -/
def minSum (s : State) (p : Nat) : Nat :=
  ((pumpQueues p).map fun q => if s.reserves q then s.rd (pgPumpq q) Reg.PUMPQ.CREDIT_MIN else 0).foldl (· + ·) 0

/-- R229: fetch credits that no queue of a pump holds. -/
def freeCredits (s : State) (p : Nat) : Nat := 2048 - ((pumpQueues p).map s.heldCredits).foldl (· + ·) 0

/-- R210: shared fetch credits that no queue holds. -/
def sharedLeft (s : State) (p : Nat) : Nat :=
  2048 - s.minSum p - ((pumpQueues p).map fun q => s.heldCredits q - s.rd (pgPumpq q) Reg.PUMPQ.CREDIT_MIN).foldl (· + ·) 0

/-- R210: the fetch credits for `n` more may be held. -/
def fetchCredits (s : State) (q n : Nat) : Bool :=
  let held := s.heldCredits q
  let mn := s.rd (pgPumpq q) Reg.PUMPQ.CREDIT_MIN
  let extra := max (held + n) mn - max held mn
  decide (held + n ≤ s.rd (pgPumpq q) Reg.PUMPQ.CREDIT_MAX) && (extra == 0 || decide (extra ≤ s.sharedLeft (q / 256)))

/-- R210, R211: credits of an acknowledged transfer return. -/
def returnCredits (s : State) (q : Nat) (t : Transfer) : State :=
  let cr := t.fetch
  let taken := t.dests.foldl (fun l b => sparsePut (fun _ => 0) l b.1 (sparseGet (fun _ => 0) l b.1 - b.2)) s.pump.taken
  let s := { s with pump := { s.pump with taken := taken } }
  let pg := pgPumpq q
  (s.wr pg Reg.PUMPQ.Q_STAT_INFLIGHT (s.rd pg Reg.PUMPQ.Q_STAT_INFLIGHT - 1)).wr pg Reg.PUMPQ.Q_STAT_CREDITS (s.heldCredits q - cr)

/-- R442: a transfer waits for an answer to one of its READ_REQ messages. -/
def unanswered (s : State) (t : Transfer) : Bool := t.tags.any fun g => s.fabric.reads.any fun r => r.tag == g

/-- R203, R208: the oldest transfer in flight is acknowledged, once its reads are answered. -/
def acknowledge (s : State) (q : Nat) : State :=
  match (s.queue q).inflight with
  | [] => s
  | t :: rest =>
    if s.unanswered t then s
    else
      let s := ((s.returnCredits q t).bump64 (pgPumpq q) Reg.PUMPQ.BYTES_LO (t.bytes * t.copies)).onQueue q fun x =>
        { x with inflight := rest, exec := x.exec.map fun e => { e with acked := e.acked + 1 } }
      s.flushReleases

/-- R206, R208: every transfer of the executing descriptor, which waits no more, is issued and acknowledged. -/
def delivered? (s : State) (q : Nat) : Bool :=
  match s.exec? q with
  | none => false
  | some e => s.qst q != 2 && !e.more && decide (e.issued ≤ e.acked)

/-- R208, R209: the executing descriptor and those merged behind it complete, each with its own code, unless all end with one. -/
def endExec (s : State) (q : Nat) (all : Option Nat) : State :=
  match s.exec? q with
  | none => s
  | some e =>
    (s.each ((e.slot, e.desc) :: e.merged).zipIdx fun s x =>
      s.completeDesc q x.1.1 x.1.2 (all.getD (e.codes.getD x.2 e.code))).setExec q none

/-- R220, R223: DISCARDS: every remaining descriptor is written DISCARDED and the drain is complete; the descriptor of a skew keeps its status. -/
def discardAll (s : State) (q : Nat) : State :=
  let s := (s.setQst q .discards).endExec q (if (s.queue q).skew then some 4 else if s.delivered? q then none else some 9)
  let s := match (s.queue q).shadow with
    | none => s
    | some (slot, d) =>
      ((s.completeDesc q slot d 9).onQueue q fun x => { x with shadow := none }).wr (pgPumpq q) Reg.PUMPQ.REARM_STAT_SHADOW_FULL 0
  let n := (s.head q + s.ringSize q - s.tail q) % s.ringSize q
  let first := s.tail q
  let s := s.each (List.range n) fun s i =>
    let slot := (first + i) % s.ringSize q
    match s.resolve s.qmap (s.slotAddr q slot) with
    | .mem key => if s.slotDark q slot || !s.hubAllows q (s.slotAddr q slot) 64 false then s else s.completeDesc q slot (s.bytesAt key 64) 9
    | _ => s
  let s := (s.wr (pgPumpq q) Reg.PUMPQ.TAIL_INDEX (s.head q)).setQst q .idle
  { s with txn := { s.txn with drainDone := addOnce (pgPumpq q) s.txn.drainDone } }.onQueue q fun x => { x with skew := false }

/-- R223: a stopping queue whose block in flight is finished discards the rest. -/
def drainQueue (s : State) (q : Nat) : State :=
  if s.st (pgPumpq q) == 3 && (s.queue q).inflight.isEmpty && !s.txn.drainDone.contains (pgPumpq q) then s.discardAll q else s

/-- R208, R223: the executing descriptor completes with those merged behind it; the engine goes on. -/
def completeExec (s : State) (q : Nat) : State := if (s.exec? q).isNone then s else ((s.endExec q none).flushReleases).fetch q

/-- DESC_ISSUE (R204, R206, R223): a waiting descriptor whose tick and wait are met issues. -/
def descIssue (s : State) (q : Nat) : State :=
  match s.exec? q with
  | none => s.fetch q
  | some e =>
    if s.qst q == 2 && s.isOn (pgPumpq q) && s.mayIssue e.desc then
      if e.more then s.setQst q .issue else s.completeExec q
    else s

/-- R220: QUEUE_HALTED for one queue. -/
def haltQueue (s : State) (q : Nat) : State :=
  if (s.queue q).skew && (s.queue q).inflight.isEmpty then
    let s := s.endExec q (some 4)
    (s.onQueue q fun x => { x with skew := false }).setQst q .halted
  else s

/-- QUEUE_HALTED (R220): both queues of the pair, as far as their transfers are acknowledged. -/
def queueHalted (s : State) (q : Nat) : State := (s.haltQueue q).haltQueue (s.rd (pgPumpq q) Reg.PUMPQ.PAIR_QUEUE)

/-- R221: a rejected re-arm. -/
def rejectRearm (s : State) (q : Nat) : State := (s.bump (pgPumpq q) Reg.PUMPQ.REARM_STAT_REJECTS).raise (pgPumpq q) 7

/-- REARM (R221, R222); one of a slot behind a dark memory link is rejected (R11, log entry 75). -/
def rearm (s : State) (q slot gen : Nat) : State :=
  if s.ringSize q ≤ slot || s.qst q == 5 || s.qst q == 6 || !s.isOn (pgPumpq q) || s.slotDark q slot then s.rejectRearm q
  else
    let r := s.readSlot q slot
    let s := r.1
    if r.2.1 ≠ 0 then (s.lastErr q r.2.1 slot 0).setQst q .halted
    else if Qd.gen r.2.2 ≠ gen then s.rejectRearm q
    else if (s.exec? q).isNone ∧ s.head q = s.tail q ∧ (s.queue q).skew = false then
      let b := s.beginDesc q slot r.2.2 []
      if b.2 then b.1.fetch q else b.1
    else if (s.queue q).shadow.isSome then s.rejectRearm q
    else ((s.onQueue q fun x => { x with shadow := some (slot, r.2.2) }).wr (pgPumpq q) Reg.PUMPQ.REARM_STAT_SHADOW_FULL 1).fetch q

/-! ### Boundaries -/

/-- A descriptor belongs to the tick that ends, or to an earlier one (R204, R205). -/
def expired (s : State) (d : List Byte) : Bool := !Qd.untimed d && decide (s.tickDelta d ≤ 0)

/-- R42, R205: the transfers in flight are finished; those whose answers have not come end with their credits. -/
def finishFlight (s : State) (q : Nat) : State :=
  let s := s.each (List.range (s.queue q).inflight.length) fun s _ => s.acknowledge q
  let s := (s.queue q).inflight.foldl (fun s t => s.returnCredits q t) s
  s.onQueue q fun x => { x with inflight := [] }

/-- R205: at the end of its tick an executing descriptor whose transfers are all finished is complete; any other is discarded, but for one with a
skew, which halts (R220). -/
def expireExec (s : State) (q : Nat) : State :=
  let s := s.finishFlight q
  match s.exec? q with
  | none => s
  | some e =>
    if (s.queue q).skew then s.haltQueue q
    else if s.delivered? q then (s.endExec q none).setQst q .idle
    else
      let s := s.each ((e.slot, e.desc) :: e.merged) fun s x => s.markDest q x.2 e.items
      ((s.endExec q (some 3)).setQst q .idle).overrun (pgPumpq q) s.tick.number (s.stepOf e.desc) 0

/-- R205: a descriptor that has not begun when its tick ends completes OVERRUN. -/
def expireDesc (s : State) (q slot : Nat) (d : List Byte) : State :=
  ((s.markDest q d).completeDesc q slot d 3).overrun (pgPumpq q) s.tick.number (s.stepOf d) 0

/-- R205: the shadowed descriptor at the end of its tick. -/
def expireShadow (s : State) (q : Nat) : State :=
  match (s.queue q).shadow with
  | none => s
  | some (slot, d) =>
    if s.expired d then
      ((s.onQueue q fun x => { x with shadow := none }).wr (pgPumpq q) Reg.PUMPQ.REARM_STAT_SHADOW_FULL 0).expireDesc q slot d
    else s

/-- R205: at the end of its tick an executing descriptor is discarded, and with it the shadowed one and those of the tick behind it. -/
def expireQueue (s : State) (q : Nat) : State :=
  let pg := pgPumpq q
  let s := match s.exec? q with
    | some e => if s.expired e.desc then s.expireExec q else s
    | none => s
  if s.qst q == 5 || !s.runs pg then s else go (s.expireShadow q) q pg (s.ringSize q)
where
  go (s : State) (q pg : Nat) : Nat → State
    | 0 => s
    | fuel + 1 =>
      if s.head q = s.tail q ∨ s.slotDark q (s.tail q) = true then s
      else
        let slot := s.tail q
        let r := s.readSlot q slot
        if r.2.1 ≠ 0 ∨ !s.expired r.2.2 ∨ s.fetchFault q r.2.2 ≠ 0 then s
        else
          go ((r.1.wr pg Reg.PUMPQ.TAIL_INDEX ((slot + 1) % s.ringSize q)).expireDesc q slot r.2.2) q pg fuel

/-- Queues whose pages are not in their reset contents. -/
def usedQueues (s : State) : List Nat :=
  ((s.regs.filter fun e => decide (0x1000 ≤ e.1 / 0x1000 ∧ e.1 / 0x1000 < 0x2000)).map fun e => e.1 / 0x1000 - 0x1000).dedup

/-- R205: the queues' check at the end of a tick. -/
def expireQueues (s : State) : State := s.each s.usedQueues fun s q => s.expireQueue q

/-- At the start of a tick: stopping queues discard, the others fetch or find their tick begun. -/
def startQueues (s : State) : State :=
  s.each s.usedQueues fun s q => if s.st (pgPumpq q) == 3 then s.drainQueue q else if s.isOn (pgPumpq q) then s.descIssue q else s

end State

/-- DESC_ISSUE (R206). -/
def execDescIssue (at_ q : Nat) (s : State) : Host.Outcome State Fault Refusal := liveCore s at_ fun s => (s.descIssue q).drainQueue q

/-- QUEUE_HALTED (R220). -/
def execQueueHalted (at_ q : Nat) (s : State) : Host.Outcome State Fault Refusal := liveCore s at_ fun s => (s.queueHalted q).drainQueue q

end Sys2Proof.Machine
end

