-- ==== Sys2Proof/Machine/Safe.lean ====
section
/-! DEFINITION. Overruns of wells (R42), entry into SAFE (R416, R418), and the watchdog and lockstep of cores (R417). -/

namespace Sys2Proof.Machine

namespace State

/-- Wells that hold anything away from reset: passes, planes or page registers. -/
def usedWells (s : State) : List Nat :=
  let pages : List Nat :=
    (s.regs.filter fun e => decide (0x100 ≤ e.1 / 0x1000 ∧ e.1 / 0x1000 < 0x440)).map fun e => e.1 / 0x1000 - 0x100
  List.dedup (s.wells.map (fun e => e.1) ++ pages)

/-- R42: every pass of a well that is not complete is an overrun of the tick. -/
def overrunWell (s : State) (w : Nat) : State :=
  let n := s.passDepth w
  if n = 0 then s
  else
    let tail := s.passTail w
    let skip := (s.well w).stale
    let late := (List.range n).filterMap fun i =>
      let first := (s.well w).passes.length
      if first ≤ i ∧ i < first + skip then none else some (s.bytesAt (s.passKey w ((tail + i) % 16)) 64)
    (s.each late fun s d => s.overrun (pgWell w) s.tick.number (s.stepOf d) (Pd.id d)).abandonAll w true

/-- R274: the running plan stops without a STOP command. -/
def stopPlan (s : State) : State :=
  if s.planRunning && s.plan.stopAt.isNone then { s with plan := { s.plan with stopAt := some s.tick.number, stopOff := s.tick.off, stopForced := true } } else s

/-- R416: entry into SAFE withholds every result of work that is not finished: what the plan steps of this tick and of the next still write is
withheld (`badStep`; log entry 93). -/
def withholdUnfinished (s : State) : State :=
  { s with plan := { s.plan with
    badSteps := (s.plan.steps.filter fun y => decide (s.tick.number ≤ y.tick)).foldl (fun l y => addOnce (y.prog, y.tick) l) s.plan.badSteps } }

/-- R416, R418: a safety input whose reaction is SAFE. `hard` says that only a reset leaves SAFE. -/
def safety (s : State) (input : Nat) (hard : Bool) : State :=
  let s := s.record pgSYS 15 1 5 input 0
  let s := { s with fault := { s.fault with safeHard := s.fault.safeHard || hard }, light := { s.light with returning := 0 } }
  if s.rd pgSYS Reg.SYS.MODULE_STATE_MS == 4 then s
  else
    let s := ((s.wr pgSYS Reg.SYS.MODULE_STATE_MS 4).raise pgTEST 11).stopPlan
    s.withholdUnfinished.each s.usedWells fun s w => s.abandonAll w

/-- R418: an edge input whose reaction is SAFE. -/
def safetyEdge (s : State) (input : Nat) : State :=
  let s := (s.edge 97 input).safety input true
  { s with fault := { s.fault with safeEdges := addOnce input s.fault.safeEdges } }

/-- R417: a lockstep mismatch or missed watchdog of a die's planet pair: its tick's work is withheld as an overrun, and a second event
within 1,000 ticks enters SAFE. -/
def dieEvent (s : State) (d input : Nat) : State :=
  let s := s.edge 97 input
  let s := s.each (s.usedWells.filter fun w => dieOf w == d) fun s w => s.overrunWell w
  let s := s.each (s.usedQueues.filter fun q => queueDie q == d) fun s q => s.expireQueue q
  let again := s.fault.dieEvents.any fun e => e.1 == d && decide (s.tick.number < e.2 + 1000)
  let s := { s with fault := { s.fault with dieEvents := s.fault.dieEvents.filter (fun e => e.1 != d) ++ [(d, s.tick.number)] } }
  if again then s.safetyEdge 145 else s

/-- R417, R418: WATCHDOG_MISS of the planet pair of die 0 to 3, or of the service planets (4). -/
def watchdogMiss (s : State) (core : Nat) : State :=
  if core < 4 then s.dieEvent core (133 + core)
  else if core = 4 && s.fault.svcMiss.isNone then
    { s with fault := { s.fault with svcMiss := some s.ns } }.safety 128 true
  else s

end State

/-- WATCHDOG_MISS (R417): core 0 to 3 is the planet pair of a die, 4 the service planets. -/
def execWatchdogMiss (at_ core : Nat) (s : State) : Host.Outcome State Fault Refusal := liveCore s at_ fun s => s.watchdogMiss core

/-- LOCKSTEP_MISMATCH (R417) of the planet pair of a die. -/
def execLockstepMismatch (at_ die : Nat) (s : State) : Host.Outcome State Fault Refusal :=
  liveCore s at_ fun s => if die < 4 then s.dieEvent die (129 + die) else s

end Sys2Proof.Machine
end

