-- ==== Sys2Proof/Machine/Heater.lean ====
section
/-! DEFINITION. Heater drives (R309 to R312, R322), sine generators (R332, R334), monitor read-back (R335, R336) and the trim words
(R337 to R339). -/

namespace Sys2Proof.Machine

/-- rna(sqrt(num / den)). -/
def rnaSqrt (num den : Nat) : Nat := (isqrt (4 * num / max 1 den) + 1) / 2

/-- Float32 of an exact quotient. -/
def rnafEx (x : Ex) : Nat := (f32.round x).bits

def exOf (w : Nat) : Ex := Ex.ofDy (f32Val w)

/-- R309: phase target from the temperature in 0.01 °C, the set points and the trim. -/
def phaseTarget (tab : Nat → Nat) (trim : Nat) (t : Int) : Nat :=
  let tc := exOf (rnafEx ⟨clampInt 2000 10000 t, 100⟩)
  let j := min ((tc.sub (Ex.ofInt 20)).num / ((tc.den : Int) * 20)).toNat 3
  let f := exOf (rnafEx ((tc.sub (Ex.ofInt (20 + 20 * j))).div (Ex.ofInt 20)))
  let a := exOf (tab j)
  let b := exOf (tab (j + 1))
  rnafEx ((exOf (rnafEx (a.add (f.mul (b.sub a))))).add (exOf trim))

/-- R310: heater powers from the targets: four rounds over the crosstalk matrix. -/
def heaterPowers (w : Nat) (phi : List Nat) : List Nat :=
  let diag (i : Nat) : Ex := exOf (Config.crosstalkDiag w i)
  let p0 := phi.zipIdx.map fun e => rnafEx ((exOf e.1).div (diag e.2))
  let round (p : List Nat) : List Nat :=
    phi.zipIdx.map fun e =>
      let s := (Config.crosstalk w e.2).foldl (fun a c => a.add ((exOf c.2).mul (exOf (p.getD c.1 0)))) (Ex.ofInt 0)
      rnafEx (((exOf e.1).sub s).div (diag e.2))
  round (round (round (round p0)))

/-- R310: the code of a power, and whether it clamps (R312). -/
def heaterCode (p : Nat) (pmax : Ex) : Nat × Bool :=
  let q := (exOf p).div pmax
  if q.num < 0 then (0, true) else (min 4095 (rnaSqrt (4095 * 4095 * q.num.natAbs) q.den), decide ((q.den : Int) < q.num))

/-- R311: a stored crosstalk matrix breaks the bound: the magnitudes off the diagonal of a row sum to more than a quarter of the diagonal. -/
def crosstalkBad (w : Nat) : Bool :=
  (List.range 800).any fun i =>
    let sum := (Config.crosstalk w i).foldl (fun a c => a.add (let x := exOf c.2; if x.num < 0 then (Ex.ofInt 0).sub x else x)) (Ex.ofInt 0)
    let q := sum.sub ((exOf (Config.crosstalkDiag w i)).div (Ex.ofInt 4))
    decide (0 < q.num)

/-- R323: injection current of a comb source at a bias code, in mA. -/
def biasCurrent (i code : Nat) : Ex := ((exOf (Config.biasFull i)).mul (Ex.ofInt code)).div (Ex.ofInt 16383)

/-- R334: amplitude of an LO heater, in 1/64 code. -/
def loAmplitude (diag : Nat) (pmax : Ex) (code : Nat) : Nat :=
  let d := ((exOf diag).mul pmax).mul (Ex.ofInt (2 * (max code 1 : Nat)))
  let q := (⟨64 * 2 * 4095 * 4095, 1000⟩ : Ex).div d
  min 4095 (q.rna 0).toNat

/-- R107: the LO phase heaters follow the 520 of rows and combiners, in the order of the table of R107 (log entry 30). -/
def loHeater (r : Nat) : Nat := 520 + r

/-- sin(2π i / 1024) in fixed point, i below 256. -/
def sinQuarter (i : Nat) : Int :=
  let one : Int := 2 ^ atanBits
  let x := 2 * piFix * i / 1024
  let x2 := x * x / one
  ((List.range 32).foldl (fun (a : Int × Int) (k : Nat) => (a.1 + a.2, -(a.2 * x2 / one) / ((2 * (k : Int) + 2) * (2 * (k : Int) + 3)))) (0, x)).1

/-- R332: S[i]. -/
def sineTable (i : Nat) : Int :=
  let one : Int := 2 ^ atanBits
  let q := i % 1024 / 256
  let r := i % 256
  let v := if q % 2 = 0 then sinQuarter r else if r = 0 then one else sinQuarter (256 - r)
  let n := rnaQ (2047 * v) (2 ^ atanBits) 0
  if q < 2 then n else -n

/-- R332: generator term of a channel with tone multiple `k` and amplitude `a`, for an accumulator. -/
def genTerm (k acc a : Nat) : Int := rnaQ (sineTable (k * acc % 2 ^ 32 / 2 ^ 22) * a) (2047 * 64) 0

/-- R339: width of a trim word by its address (TRIM_ADDR without WELL); none outside the table. -/
def trimWidth (a : Nat) : Option Nat :=
  let kind := bits a 4 4
  let ch := bits a 8 8
  let elem := bits a 16 9
  let sub := bits a 25 3
  match kind with
  | 0 => if ch < 128 ∧ sub = 0 ∧ elem = 0 then some 8 else none
  | 1 => if ch < 128 ∧ sub = 0 ∧ elem < 383 then some 6 else none
  | 2 =>
    if ch < 130 then
      if elem = 0 then some 8 else if elem = 1 then some 16 else if elem = 2 then some 8 else if elem < 18 then some 6 else none
    else none
  | 3 => if ch < 130 ∧ sub = 0 then (if elem = 0 then some 16 else if elem = 1 then some 8 else none) else none
  | _ => none

namespace State

/-- R309: trim of a heater: that of the last recalibration, and for an LO heater the correction of its loop and the moves of pilot tracking. -/
def heaterTrim (s : State) (w i : Nat) : Nat :=
  let t := sparseGet (fun _ => 0) (sparseGet (fun _ => []) s.conv.heatTrim w) i
  if 520 ≤ i ∧ i < 650 then
    let lo := (sparseGet (fun _ => []) s.conv.loLoop w).getD (i - 520) 0
    (rnaf (((f32Val t).add (f32Val lo)).add (f32Val (s.well w).loTrim))).bits
  else t

/-- R129, R309: the LO loops of a well's 130 rows settle on a correction for a strobe. The spec gives the loops' dither and demodulation, not how
the correction follows from them: it is a free value for each row (log entry 56). -/
def loopCorrect (s : State) (w : Nat) : State :=
  let l := (List.range 130).map fun r => (Config.freeValue 32 (s.free + r)).toNat
  { s with free := s.free + 130, conv := { s.conv with loLoop := sparsePut (fun _ => []) s.conv.loLoop w l } }

/-- R340: heater span of a well. -/
def htrSpan (s : State) (w : Nat) : Nat := s.rd (pgCluster (w / 16)) Reg.CLUSTER.CONV_MODE_HTR_SPAN (w % 16)

/-- R345: deviation of a reference ratio in force as a correction, in ppm. -/
def refDev (s : State) (f : Field) : Int :=
  if s.rd pgCAL Reg.CAL.REF_STAT_RESULT == 2 then toSigned (s.rd pgCAL f) 32 else 0

/-- R322, R345: the span current of a well's heaters in mA: 5 or 10, divided by 1 + δ of the heater span's reference ratio. -/
def heaterIfs (s : State) (w : Nat) : Ex :=
  (Ex.ofInt (if s.htrSpan w = 0 then 5 else 10)).div (⟨1000000 + s.refDev Reg.CAL.REF_DEV_HSPAN, 1000000⟩ : Ex)

/-- R310, R322: P_max of a heater in mW: I_fs² × R. -/
def heaterPmax (s : State) (w i : Nat) : Ex :=
  let a := s.heaterIfs w
  ((a.mul a).mul (exOf (Config.heaterOhms w i))).div (Ex.ofInt 1000)

/-- R309, R310, R325, R326: the codes of one temperature sample go to the holding registers, and one strobe loads them all, unless a clear is
in force; a clamp makes the recalibration due (R312). -/
def strobeHeaters (s : State) (w : Nat) (t : Int) : State :=
  let s := s.loopCorrect w
  let phi := (List.range 800).map fun i => phaseTarget (fun j => Config.setPoint w j i) (s.heaterTrim w i) t
  let cs := (heaterPowers w phi).zipIdx.map fun e => heaterCode e.1 (s.heaterPmax w e.2)
  let s := if cs.any (·.2) then s.onWellCal w fun c => { c with dueNow := true } else s
  let codes := cs.map (·.1)
  let s := { s with conv := { s.conv with hold := sparsePut (fun _ => []) s.conv.hold w codes } }
  if s.clearActive then s
  else
    let amps := (List.range 130).map fun r =>
      loAmplitude (Config.crosstalkDiag w (loHeater r)) (s.heaterPmax w (loHeater r)) (codes.getD (loHeater r) 0)
    { s with conv := { s.conv with
        heat := sparsePut (fun _ => []) s.conv.heat w codes
        heatWas := s.conv.heatWas.filter (fun e => e.1 != w) ++ [(w, s.ns, sparseGet (fun _ => []) s.conv.heat w)]
        loAmp := sparsePut (fun _ => []) s.conv.loAmp w amps } }

/-! ### Generators (R332) -/

/-- Generator banks: heaters of die d at d, inputs at 4 + d, columns at 8 + d, comb bias at 12: FTW, and updates in `n` ns. -/
def genStep (s : State) (key : Nat) : Nat :=
  if key < 4 then s.rd (pgWdie key) Reg.WDIE.GEN_HTR_FTW
  else if key < 8 then s.rd (pgWdie (key - 4)) Reg.WDIE.GEN_IN_FTW
  else if key < 12 then s.rd (pgWdie (key - 8)) Reg.WDIE.GEN_COL_FTW
  else s.rd pgSYS Reg.SYS.BIAS_FTW

/-- Updates of a bank in the first `n` ns since reset. -/
def genUpdates (key n : Nat) : Nat := if key < 4 ∨ key = 12 then n / 1000 else if key < 8 then n * 5 else n * 5 / 4

/-- R341, R342: the term of a generator at accumulator `acc`; a step of 0 is off. -/
def genTermOf (s : State) (key k acc a : Nat) : Int := if s.genStep key = 0 then 0 else genTerm k acc a

/-- R327, R332: a deglitched channel that carries `level` of its bank's accumulator, now: for the hold time after an update of the bank that is a
major carry, the level of the update before. -/
def genLevel (s : State) (key carry hold acc : Nat) (level : Nat → Int) : Int :=
  let old := level ((acc + (2 ^ 32 - s.genStep key % 2 ^ 32)) % 2 ^ 32)
  deglitch (majorCarry carry old (level acc)) hold (s.ns % 1000) old (level acc)

/-- The accumulator of a bank now. -/
def genAcc (s : State) (key : Nat) : Nat :=
  (sparseGet (fun _ => 0) s.conv.acc key + s.genStep key * (genUpdates key s.ns - genUpdates key s.tick.elapsed)) % 2 ^ 32

/-- The accumulators at the end of a tick, before commits change their steps. -/
def genClose (s : State) : State :=
  let acc := (List.range 13).foldl (fun l k => sparsePut (fun _ => 0) l k (s.genAcc k)) s.conv.acc
  { s with conv := { s.conv with acc := acc } }

/-! ### Monitor read-back (R335, R336) -/

/-- R325: the latest strobe of a heater channel: the nanoseconds since it, and the code before it; the parking code stands before the first. -/
def heaterBefore (s : State) (w ch : Nat) : Nat × Int :=
  let park : Int := s.rd (pgWdie (dieOf w)) Reg.WDIE.HTR_PARK_CODE
  match s.conv.heatWas.find? fun e => e.1 == w with
  | some e => (s.ns - e.2.1, match e.2.2[ch]? with
    | some c => (c : Int)
    | none => park)
  | none => (s.ns, park)

/-- R325, R328: the code in the output register of a heater channel: the parking code under a clear and until the next strobe. -/
def heaterCodeOut (s : State) (w ch : Nat) : Int :=
  match (if s.clearActive then [] else sparseGet (fun _ => []) s.conv.heat w)[ch]? with
  | some c => c
  | none => s.rd (pgWdie (dieOf w)) Reg.WDIE.HTR_PARK_CODE

/-- R327, R332: the level of a heater channel for an accumulator of its die's generator, whose term only an LO heater in service has. -/
def heaterLevel (s : State) (w ch : Nat) (base : Int) (acc : Nat) : Int :=
  if 520 ≤ ch ∧ ch < 650 ∧ !s.clearActive ∧ !(sparseGet (fun _ => []) s.conv.heat w).isEmpty then
    let a := (sparseGet (fun _ => []) s.conv.loAmp w).getD (ch - 520) 0
    clampInt 0 4095 (base + genTerm (s.rd (pgWdie (dieOf w)) Reg.WDIE.GEN_HTR_K_KOFF + (ch - 520)) acc a)
  else base

/-- R327, R335: a heater read now falls within a deglitch hold, or within 100 ns of a strobe that changed the channel. -/
def heaterMoving (s : State) (w ch : Nat) : Bool :=
  let b := s.heaterBefore w ch
  let code := s.heaterCodeOut w ch
  let key := dieOf w
  (b.2 != code && decide (b.1 < 100)) ||
    s.genLevel key 6 50 (s.genAcc key) (s.heaterLevel w ch code) != s.heaterLevel w ch code (s.genAcc key)

/-- R325, R327, R332: the output of a heater channel now: its code, or for 50 ns after a major carry the one before it, with its generator's term. -/
def heaterOut (s : State) (w ch : Nat) : Int :=
  let b := s.heaterBefore w ch
  let code := s.heaterCodeOut w ch
  let base := deglitch (majorCarry 6 b.2 code) 50 b.1 b.2 code
  s.genLevel (dieOf w) 6 50 (s.genAcc (dieOf w)) (s.heaterLevel w ch base)

/-- R320, R331: the clear code of a well's input (0) or column (1) bank, a number in sign-magnitude unless the span is unsigned, which ignores an
input's sign. -/
def clearCode (s : State) (bank w : Nat) : Int :=
  let d := dieOf w
  let c := w / 16
  if bank = 0 then
    let v := s.rd (pgWdie d) Reg.WDIE.IN_CLR_CODE
    if s.rd (pgCluster c) Reg.CLUSTER.CONV_MODE_IN_SPAN (w % 16) = 2 then v % 256 else if v < 256 then v else -(v - 256 : Int)
  else
    let v := s.rd (pgWdie d) Reg.WDIE.COL_CLR_CODE
    if s.rd (pgCluster c) Reg.CLUSTER.CONV_MODE_COL_SPAN (w % 16) = 1 then v else if v < 512 then v else -(v - 512 : Int)

/-- R328, R329, R332: the output of an input (0) or column (1) channel that holds `value`: the clear code while clear codes are in force and until
the bank's next strobe; else its bank's generator acts on wells out of service. -/
def dataOut (s : State) (bank w ch : Nat) (value : Int) : Int :=
  if s.clearActive || (s.well w).cleared then s.clearCode bank w
  else if (s.logicalOf w).isSome then value
  else
    let d := dieOf w
    let amp := if bank = 0 then s.rd (pgWdie d) Reg.WDIE.GEN_IN_CTL_AMP else s.rd (pgWdie d) Reg.WDIE.GEN_COL_CTL_AMP
    let on := if bank = 0 then s.rd (pgWdie d) Reg.WDIE.GEN_IN_CTL_CH else s.rd (pgWdie d) Reg.WDIE.GEN_COL_CTL_CH
    let mode := if bank = 0 then s.rd (pgCluster (w / 16)) Reg.CLUSTER.CONV_MODE_IN_SPAN (w % 16)
      else s.rd (pgCluster (w / 16)) Reg.CLUSTER.CONV_MODE_COL_SPAN (w % 16)
    let low := bank = 0 ∧ (mode = 2 ∨ (mode = 0 ∧ 128 < value))
    let hi : Int := if low then 255 else if bank = 0 then 128 else if mode = 1 then 1023 else 511
    let lo : Int := if low ∨ (bank = 1 ∧ mode = 1) then 0 else -hi
    let key := 4 * (bank + 1) + d
    if on = 0xFF ∨ on = ch then clampInt lo hi (value + s.genTermOf key 1 (s.genAcc key) amp) else value

/-- R335: a read passes: |m − m_exp| is within the window. -/
def monPasses (s : State) (bank inst win : Nat) (out m : Int) : Bool :=
  let d := s.refDev Reg.CAL.REF_DEV_MON
  let g : Ex := (⟨Config.monGain bank inst * out, 65536⟩ : Ex).div ⟨1000000 + d, 1000000⟩
  let e := ((Ex.ofInt (Config.monOffset bank inst)).add g).rna 0
  decide ((m - e).natAbs ≤ win)

/-- R336: a monitor read of channel `ch` of bank 0 to 2 of a well. A run of 16 is one whose failure has been answered. -/
def monitorWell (s : State) (bank w ch : Nat) (value m : Int) : State :=
  if bank = 2 ∧ s.heaterMoving w ch = true then s else
  let pg := pgWdie (dieOf w)
  let out := if bank = 2 then s.heaterOut w ch else s.dataOut bank w ch value
  let key := (w * 4 + bank) * 1024 + ch
  if s.monPasses bank w (s.rd pg Reg.WDIE.MON_CTL_WIN) out m then
    { s with conv := { s.conv with monRuns := sparsePut (fun _ => 0) s.conv.monRuns key 0 } }
  else
    let was := sparseGet (fun _ => 0) s.conv.monRuns key
    let fails := was != 16 && decide (s.rd pg Reg.WDIE.MON_CTL_FAIL_N ≤ was + 1)
    let s := s.bump pg Reg.WDIE.MON_MISS
    let s := { s with conv := { s.conv with monRuns := sparsePut (fun _ => 0) s.conv.monRuns key (if fails then 16 else min 16 (was + 1)) } }
    if fails then
      let s := ((s.wr pg Reg.WDIE.MON_LAST_WELL (w % 208)).wr pg Reg.WDIE.MON_LAST_BANK bank).wr pg Reg.WDIE.MON_LAST_CH ch
      ((s.bump pg Reg.WDIE.MON_FAILS).raise pg 4).askFence w 5
    else s

/-! ### Trim words (R339) -/

/-- TRIM_ADDR of a cluster: the well it names, and the address without it. -/
def trimSel (s : State) (c : Nat) : Nat × Nat :=
  let a := (s.word (regAddr (pgCluster c) Reg.CLUSTER.TRIM_ADDR_WELL.off)).toNat
  (16 * c + a % 16, a / 16 * 16)

/-- Key of a trim word. -/
def trimKey (w a : Nat) : Nat := w * 2 ^ 28 + a

/-- The state with a trim word stored. -/
def putTrim (s : State) (w a width v : Nat) : State :=
  { s with conv := { s.conv with trims := sparsePut (fun _ => 0) s.conv.trims (trimKey w a) (v % 2 ^ width) } }

/-- R339: read of TRIM_DATA: the selected trim, sign-extended; an address outside the table sets BAD_ADDR. -/
def trimRead (s : State) (c : Nat) : State × Nat :=
  let r := s.trimSel c
  match trimWidth r.2 with
  | none => (s.wr (pgCluster c) Reg.CLUSTER.TRIM_STAT_BAD_ADDR 1, 0)
  | some n => (s, ofSigned (toSigned (sparseGet (fun _ => 0) s.conv.trims (trimKey r.1 r.2)) n) 16)

/-- TRIM_DATA_WRITE (R339). -/
def trimWrite (s : State) (c v : Nat) : State :=
  let r := s.trimSel c
  match trimWidth r.2 with
  | none => s.wr (pgCluster c) Reg.CLUSTER.TRIM_STAT_BAD_ADDR 1
  | some n => if (s.logicalOf r.1).isSome then s.wr (pgCluster c) Reg.CLUSTER.TRIM_STAT_BUSY 1 else s.putTrim r.1 r.2 n v

end State

end Sys2Proof.Machine
end

