-- ==== Sys2Proof/Machine/Light.lean ====
section
/-! DEFINITION. Comb sources (R291 to R307): sampling, the bias loop, margins and triggers, spares, planned and forced handovers; light at
the wells (R306, R308); OPTOFF_N (R313); what a clear does to sources (R314, R329); the shutters of the Holade ports (R315). -/

namespace Sys2Proof.Machine

/-- R294: CS codes that carry light. -/
def litCs (cs : Nat) : Bool := 1 ≤ cs && cs ≤ 5

/-- R306: sensitivity, in 0.01 dBm. -/
def sensitivity : Int := -1200

def allSources : List Nat := [0, 1, 2, 3, 4, 5]

def allRegions : List Nat := [0, 1, 2, 3]

/-- R325, R327: a source's bias DAC takes a code at an instant; the code before it is kept for the deglitcher. -/
def Source.toBias (x : Source) (ns code : Nat) : Source := if code = x.bias then x else { x with bias := code, biasWas := x.bias, biasAt := ns }

namespace State

/-- R293, R302: the source that a well takes its line from: that of its region, or the one it has been moved to. -/
def sourceOf (s : State) (w : Nat) : Nat :=
  match s.light.wellSrc.find? fun e => e.1 == w with
  | some e => e.2
  | none => s.light.feed.getD (dieOf w) 7

/-- R294: enter a state; the margin history is that of the current state (R297). -/
def setCs (s : State) (i cs : Nat) : State := s.onSource i fun x => if x.cs = cs then x else { x with cs := cs, margins := [] }

/-- Clear code of a source (R314, R331). -/
def biasClr (s : State) (i : Nat) : Nat := s.rd pgSYS Reg.SYS.BIAS_CLR_CODE i

/-- R298: the bias of a source has reached a share of its maximum. -/
def biasAt (s : State) (i pct : Nat) : Bool := decide (pct * Config.biasMax i ≤ 100 * (s.source i).bias)

/-- R317, R325: a source's bias DAC takes a code; BIAS_HIGH when that reaches the BIAS_PCT trigger. -/
def driveBias (s : State) (i code : Nat) : State :=
  let pct := s.rd (pgComb i) Reg.COMB.TRIG_BIAS_PCT
  let was := s.biasAt i pct
  let s := s.onSource i fun x => x.toBias s.ns code
  if !was && s.biasAt i pct then s.raise (pgComb i) 11 else s

/-- A source without light (R294), driven to a bias code. -/
def darken (s : State) (i cs bias : Nat) : State :=
  ((s.setCs i cs).driveBias i bias).onSource i fun x =>
    { x with taps := [], heldClear := false, warmBoot := false, back := false, relit := false, cmdPrewarm := false, cmdHandover := false }

/-- R294: a source enters WARMING for a region, at boot style or to be a spare. -/
def warm (s : State) (i r : Nat) (boot : Bool) : State :=
  ((s.setCs i 1).onSource i fun x => { x with region := r, warmAt := s.ns, warmBoot := boot, offAt := 0, heldClear := false, back := false, relit := false }).raise (pgComb i) 4

/-- The other source of a handover in progress (R316). -/
def partnerOf (s : State) (i : Nat) : Nat :=
  match s.light.handovers.find? fun h => h.outgoing == i || h.incoming == i with
  | some h => if h.outgoing == i then h.incoming else h.outgoing
  | none => 7

/-- R316: REGION of a source: the region fed or committed, else the one the record names for it. -/
def regionOf (s : State) (i : Nat) : Nat :=
  let r := (s.source i).region
  if r = 7 then (let k := s.boot.flash.feed.findIdx (· == i); if k < 4 then k else 7) else r

/-- R330: fencing for darkness and forced handovers for LOW_LIGHT are suspended under a clear and until the sources that it re-lights are in
service; under OPTOFF_N as well (log entry 31). -/
def lightSuspended (s : State) : Bool :=
  s.clearActive || !s.pins.optoffN || allSources.any fun i => (s.source i).cs == 1 && (s.source i).relit

/-! ### Spares (R300) -/

/-- A source in STANDBY that may serve a region. -/
def standbyFor (s : State) (r : Nat) : Option Nat :=
  allSources.find? fun i => (s.source i).cs == 2 && ((s.source i).region == r || (s.source i).region == 7)

/-- A source warming as the region's spare. -/
def warmingFor (s : State) (r : Nat) : Bool := allSources.any fun i => (s.source i).cs == 1 && (s.source i).region == r && !(s.source i).warmBoot

/-- R294, R300: a source in DARK that may be prewarmed: no region's record names it. -/
def darkSpare (s : State) : Option Nat := allSources.find? fun i => (s.source i).cs == 0 && !s.light.feed.contains i

/-- R313, R328: no source may be lit. -/
def mayLight (s : State) : Bool := s.pins.optoffN && !s.clearActive && !s.therm.shutdown

/-- R298, R300: prewarm a spare for a region, unless one is committed; NO_SPARE once per region. -/
def prewarm (s : State) (r : Nat) : State :=
  if s.warmingFor r || !s.mayLight then s
  else match s.standbyFor r with
    | some i => s.onSource i fun x => { x with region := r }
    | none => match s.darkSpare with
      | some i => s.warm i r false
      | none =>
        if s.light.noSpare.contains r then s
        else ({ s with light := { s.light with noSpare := s.light.noSpare ++ [r] } }).raise (pgComb (s.light.feed.getD r 0)) 9

/-! ### Handovers -/

/-- R316: HANDOVER of both sources shows a handover's progress. -/
def showHandover (s : State) (h : Handover) : State :=
  s.each [h.outgoing, h.incoming] fun s i =>
    let pg := pgComb i
    ((s.wr pg Reg.COMB.HANDOVER_WELLS_MOVED h.moved.length).wr pg Reg.COMB.HANDOVER_LINES_MOVED
      (h.nextLine - b2n h.lineOut.isSome)).wr pg Reg.COMB.HANDOVER_FORCED (b2n h.forced)

def putHandover (s : State) (h : Handover) : State :=
  ({ s with light := { s.light with handovers := s.light.handovers.map fun (x : Handover) => if x.region == h.region then h else x } }).showHandover h

def handoverOf (s : State) (r : Nat) : Option Handover := s.light.handovers.find? fun h => h.region == r

/-- Wells of a region. -/
def regionWells (r : Nat) : List Nat := (List.range 208).map fun i => 208 * r + i

/-- R302, R304, R307: the LO phases of a well on new light are to lock again; it is dark until the first boundary after they have. DESIGN CHOICE
(log entry 62): the gain trim of a forced handover, which has no row, is over by then. -/
def relockMoved (s : State) (w : Nat) : State :=
  (s.wr (pgWell w) Reg.WELL.LO_STAT_LO_LOCKED 0).onWell w fun x => { x with darkLo := true, moved := true, darkTicks := 0 }

/-- R308: a forced handover starts for the wells of a region that are dark for light. -/
def saveWells (s : State) (r : Nat) : State :=
  s.each ((s.wells.filter fun e => dieOf e.1 == r && e.2.darkLight).map (·.1)) fun s w => s.onWell w fun x => { x with saved := true }

/-- R302: a well's line tap moves to the incoming source. -/
def moveWell (s : State) (h : Handover) (w : Nat) : State :=
  let s := { s with light := { s.light with wellSrc := (s.light.wellSrc.filter fun (e : Nat × Nat) => e.1 != w) ++ [(w, h.incoming)] } }
  s.onWellCal w fun c => { c with handDue := none }

/-- R304, R307: a well moved outside a slot re-locks and is recalibrated at once; it computes again once it has re-locked. -/
def moveDark (s : State) (h : Handover) (w : Nat) : State :=
  ((((s.abandonAll w true).moveWell h w).relockMoved w)).onWellCal w fun c => { c with dueNow := true }

/-- Wells that a handover's demand can serve: others move at its first boundary (log entry 32). -/
def calibratable (s : State) (w : Nat) : Bool := s.goodWell w && s.isOn (pgWell w)

/-- R301: order of the demands: logical wells by number, then relief wells and those at or beyond REQ_WELLS by Well ID. -/
def demandOrder (s : State) (ws : List Nat) : List Nat :=
  let req := s.rd pgBOOT Reg.BOOT.WELLS_REQ
  let logical (w : Nat) : Option Nat := (s.logicalOf w).filter fun n => decide (n < req)
  sortBy (fun w => (logical w).getD 0) (ws.filter fun w => (logical w).isSome) ++ ws.filter fun w => (logical w).isNone

/-- Ticks of a span of microseconds, rounded up. -/
def ticksOf (s : State) (us : Nat) : Nat := ceilDiv us (max 1 s.tick.periodUs)

/-- R303: the ports of a region lose a line at this boundary. -/
def dropLine (s : State) (r k : Nat) : State :=
  s.each ((List.range 8).map fun i => 8 * r + i) fun s p =>
    if bitAt (s.rd (pgHport p) Reg.HPORT.LANE_UP) k then s.onPort p fun x => { x with drops := addOnce k x.drops } else s

/-- R303: a line is restored: no lane of its number in the region is out or training. -/
def lineRestored (s : State) (r k : Nat) : Bool :=
  ((List.range 8).map fun i => 8 * r + i).all fun p =>
    !s.isOn (pgHport p) || (s.port p).trained.contains k || (s.laneSt p k != 1 && s.laneSt p k != 3)

/-- R305: the last well and line have moved. -/
def endHandover (s : State) (h : Handover) : State :=
  let failed := (s.source h.outgoing).cs == 7
  let s := if failed then s else s.darken h.outgoing 6 (s.biasClr h.outgoing)
  let s := s.onSource h.outgoing fun x => { x with region := 7 }
  let s := if litCs (s.source h.incoming).cs && (s.source h.incoming).cs != 1 then s.setCs h.incoming 3 else s
  let s := s.onSource h.incoming fun x => { x with region := h.region }
  let feed := s.light.feed.set h.region h.incoming
  let s := { s with light := { s.light with
    feed := feed
    handovers := s.light.handovers.filter fun (x : Handover) => x.region != h.region
    noSpare := dropAll h.region s.light.noSpare
    wellSrc := s.light.wellSrc.filter fun (e : Nat × Nat) => dieOf e.1 != h.region } }
  let s := s.onFlash fun f =>
    { f with feed := f.feed.set h.region h.incoming, retired := if failed then f.retired else addOnce h.outgoing f.retired }
  let s := (s.each (regionWells h.region) fun s w => s.onWellCal w fun c => { c with handDue := none })
  ((s.bump (pgComb h.outgoing) Reg.COMB.HANDOVER_COUNT).raise (pgComb h.outgoing) 7).raise (pgComb h.incoming) 7

/-- R304, R307: every well and line not yet moved moves at once, and the handover ends. -/
def finishHandover (s : State) (h : Handover) : State :=
  let s := s.each ((regionWells h.region).filter fun w => !h.moved.contains w) fun s w => s.moveDark h w
  let s := s.each ((List.range 16).filter fun k => h.nextLine ≤ k) fun s k => s.dropLine h.region k
  (s.putHandover { h with moved := regionWells h.region, nextLine := 16, lineOut := none }).endHandover h

/-- R303: the next line moves once the line before it is restored. -/
def stepLine (s : State) (h : Handover) : State × Handover :=
  let back := match h.lineOut with
    | some k => s.lineRestored h.region k
    | none => true
  if !back then (s, h)
  else if 16 ≤ h.nextLine then (s, { h with lineOut := none })
  else (s.dropLine h.region h.nextLine, { h with lineOut := some h.nextLine, nextLine := h.nextLine + 1 })

/-- R301 to R305: a planned handover at a boundary. -/
def stepHandover (s : State) (h : Handover) : State :=
  if !s.planRunning then s.finishHandover h
  else
    let idle := (regionWells h.region).filter fun w => !h.moved.contains w && !s.calibratable w
    let r := (s.each idle fun s w => s.moveWell h w).stepLine { h with moved := h.moved ++ idle }
    let s := r.1.putHandover r.2
    if 208 ≤ r.2.moved.length && 16 ≤ r.2.nextLine && r.2.lineOut.isNone then s.endHandover r.2 else s

/-- R301, R304, R307: a handover of a region to a spare begins. -/
def startHandover (s : State) (r inc : Nat) (forced : Bool) : State :=
  let out := s.light.feed.getD r 7
  let h : Handover := { region := r, outgoing := out, incoming := inc, start := s.tick.number, forced := forced }
  let s := if (s.source out).cs = 7 then s else s.setCs out 5
  let s := (s.setCs inc 4).onSource inc fun x => { x with region := r }
  let s := { s with light := { s.light with handovers := s.light.handovers ++ [h], handWait := dropAll r s.light.handWait } }
  let s := ((s.raise (pgComb out) 6).raise (pgComb inc) 6).showHandover h
  if forced then s
  else if !s.planRunning then s.finishHandover h
  else
    let slot := s.ticksOf 180
    let l := s.demandOrder ((regionWells r).filter s.calibratable)
    (s.each l.zipIdx fun s e => s.onWellCal e.1 fun c => { c with handDue := some (s.tick.number + e.2 * slot) }).stepHandover h

/-- R307: a forced handover of a region to a source in STANDBY, or of what a planned handover has not moved. -/
def forceHandover (s : State) (r inc : Nat) : State :=
  let s := if (s.handoverOf r).isSome then s else s.startHandover r inc true
  match s.handoverOf r with
  | none => s
  | some h =>
    let h := { h with forced := true }
    (((s.raise (pgComb h.outgoing) 8).raise (pgComb h.incoming) 8).saveWells r).finishHandover h

/-- R299, R307: the incoming source of a handover has failed: all wells and lines of the region go to another spare at once. -/
def replaceIncoming (s : State) (h : Handover) (i : Nat) : State :=
  let s := s.onSource h.incoming fun x => { x with region := 7 }
  let s := (s.setCs i 4).onSource i fun x => { x with region := h.region }
  let s := (s.putHandover { h with incoming := i, moved := [], nextLine := 0, lineOut := none }).raise (pgComb i) 6
  s.forceHandover h.region i

/-- R307: at a boundary, a region whose source, outgoing or incoming, has failed, or a well of which raised LOW_LIGHT: with a spare in STANDBY
the forced handover starts, with one WARMING it waits; without any it is asked for as long as a well lacks light. -/
def forcePass (s : State) (r : Nat) : State :=
  let s0 := { s with light := { s.light with forceNext := dropAll r s.light.forceNext } }
  let wells := s.wells.any fun e => dieOf e.1 == r && e.2.darkLight
  let wells := wells || (s.standbyFor r).isSome || s.warmingFor r
  let src := s.light.feed.getD r 7
  let lost := (s.handoverOf r).any fun h => (s.source h.incoming).cs == 7
  if (s.source src).cs != 7 && !lost && !(wells && !s.lightSuspended) then s0
  else match s.handoverOf r with
    | some h =>
      if !lost then s0.forceHandover r h.incoming
      else match s.standbyFor r with
        | some i => if s.mayLight then s0.replaceIncoming h i else s
        | none => s.prewarm r
    | none => match s.standbyFor r with
      | some i => if s.mayLight then s0.forceHandover r i else s
      | none => s.prewarm r

/-- R298: a planned handover starts, or waits for its spare. -/
def wantHandover (s : State) (r : Nat) : State :=
  if (s.handoverOf r).isSome then s
  else match s.standbyFor r with
    | some i => s.startHandover r i false
    | none => { s.prewarm r with light := { (s.prewarm r).light with handWait := addOnce r s.light.handWait } }

/-! ### Margins and triggers -/

/-- R297: wells that count for a source's margin: lowest LO power, well and receiver. -/
def worstOf (s : State) (i : Nat) : Option (Int × Nat × Nat) :=
  let l := s.wells.filter fun e =>
    !e.2.rxp.isEmpty && s.sourceOf e.1 == i && s.st (pgWell e.1) != 4 && !(s.cal.standins.any fun x => x.begun && x.orig == e.1)
  let low (e : Nat × Well) : Int × Nat × Nat :=
    e.2.rxp.zipIdx.foldl (fun a p => if p.1 < a.1 then (p.1, e.1, p.2) else a) (e.2.rxp.headD 0, e.1, 0)
  l.foldl (fun a e => match a with
    | none => some (low e)
    | some b => if (low e).1 < b.1 then some (low e) else a) none

/-- R297: Δ⁻ over W ticks of history. -/
def deltaMinus (l : List Int) (w : Nat) : Int :=
  match l[0]?, l[w]? with
  | some m, some old => min (m - old) 0
  | _, _ => 0

/-- R297: the projection over H ticks falls below G. -/
def projectsBelow (l : List Int) (w h : Nat) (g : Int) : Bool :=
  match l with
  | [] => false
  | m :: _ => decide ((w : Int) * m + h * deltaMinus l w < w * g)

/-- R297: the margin of a source at a boundary; the history holds as many as the greatest WIN_TICKS needs. -/
def marginStep (s : State) (i : Nat) : State :=
  let pg := pgComb i
  let cs := (s.source i).cs
  let none? := (s.wr pg Reg.COMB.MARGIN_M 0x7FFF).wr pg Reg.COMB.MARGIN_PROJECTED 0x7FFF
  if cs != 3 && cs != 5 then none?
  else match s.worstOf i with
    | none => none?.onSource i fun x => { x with margins := [] }
    | some b =>
      let m := b.1 - sensitivity
      let win := s.rd pg Reg.COMB.PROJ_WIN_TICKS
      let s := s.onSource i fun x => { x with margins := (m :: x.margins).take 65536 }
      let proj := m + (s.rd pg Reg.COMB.PROJ_HORIZON_TICKS * deltaMinus (s.source i).margins win) / (max 1 win : Nat)
      let sat (x : Int) : Nat := ofSigned (clampInt (-32768) 32767 x) 16
      (((s.wr pg Reg.COMB.MARGIN_M (sat m)).wr pg Reg.COMB.MARGIN_PROJECTED (sat proj)).wr pg Reg.COMB.WORST_WELL b.2.1).wr pg
        Reg.COMB.WORST_ROW b.2.2

/-- R298: the triggers of a source in service. -/
def triggers (s : State) (i : Nat) : State :=
  let x := s.source i
  let pg := pgComb i
  let s := s.onSource i fun x => { x with cmdPrewarm := false, cmdHandover := false }
  if x.cs != 3 then s
  else
    let w := s.rd pg Reg.COMB.PROJ_WIN_TICKS
    let g : Int := s.rd pg Reg.COMB.TRIG_MARGIN
    let hw := s.rd pg Reg.COMB.PREWARM_HORIZON_MS * 1000 / max 1 s.tick.periodUs
    let pre := x.cmdPrewarm || projectsBelow x.margins w hw g || s.biasAt i (s.rd pg Reg.COMB.TRIG_PRE_PCT)
    let hand := x.cmdHandover || projectsBelow x.margins w (s.rd pg Reg.COMB.PROJ_HORIZON_TICKS) g ||
      s.biasAt i (s.rd pg Reg.COMB.TRIG_BIAS_PCT)
    let s := if pre then s.prewarm x.region else s
    if hand then s.wantHandover x.region else s

/-- R296: the bias loop of a source at a boundary. -/
def biasLoop (s : State) (i : Nat) : State :=
  let x := s.source i
  let pg := pgComb i
  if !litCs x.cs || x.heldClear || !s.flag pg Reg.COMB.LOOP_EN || !s.mayLight then s
  else match x.taps with
    | [] => s
    | t :: rest =>
      let low := rest.foldl min t
      let target := toSigned (s.rd pg Reg.COMB.LOOP_TARGET) 16
      let step := s.rd pg Reg.COMB.LOOP_STEP
      let code := if low < target - 10 then x.bias + step else if target + 30 < low then x.bias - step else x.bias
      s.driveBias i (min (Config.biasMax i) code)

/-- R315: shutters that reopen at a boundary. -/
def reopenShutters (s : State) : State :=
  let l := s.light.reopen
  let s := { s with light := { s.light with reopen := [] } }
  s.each l fun s p =>
    if s.isOn (pgHport p) && s.pins.optoffN && bitAt s.light.closed p then
      ({ s with light := { s.light with closed := clearBit s.light.closed p, probing := dropAll p s.light.probing } }).raise (pgComb 0) 13
    else s

/-- R308: ticks that wells have been dark for light. -/
def countDark (s : State) : State :=
  s.each ((s.wells.filter fun e => e.2.darkLight).map (·.1)) fun s w => s.onWell w fun x => { x with darkTicks := x.darkTicks + 1 }

/-- R295 to R307: the light sources at a boundary. -/
def lightBoundary (s : State) : State :=
  let s := s.each ((s.wells.filter fun e => e.2.moved).map (·.1)) fun s w =>
    if s.flag (pgWell w) Reg.WELL.LO_STAT_LO_LOCKED then s.onWell w fun x => { x with darkLo := false, moved := false } else s
  let s := s.each allSources fun s i => if (s.source i).heldClear && s.clearActive then s.driveBias i (s.biasClr i) else s.biasLoop i
  let s := s.each allSources fun s i => s.marginStep i
  let s := s.each s.light.handovers fun s h => s.stepHandover h
  let s := s.each s.light.forceNext fun s r => s.forcePass r
  let s := s.each allSources fun s i => s.triggers i
  let s := s.each s.light.handWait fun s r => match s.standbyFor r with
    | some i => s.startHandover r i false
    | none => s
  s.countDark.reopenShutters

/-! ### Samples -/

/-- R299: a source fails. -/
def sourceFail (s : State) (i line : Nat) (drop : Int) : State :=
  let r := (s.source i).region
  let feeds := s.light.feed.contains i || (s.light.handovers ++ s.light.interrupted).any fun h => h.incoming == i
  let s := (s.darken i 7 (s.biasClr i)).raise (pgComb i) 10
  let s := (s.onFlash fun f => { f with failed := addOnce i f.failed }).record (pgComb i) 14 0 0 line (ofSigned drop 64)
  let s := s.edge 97 143
  if feeds && r < 4 then { s with light := { s.light with forceNext := addOnce r s.light.forceNext } }
  else s.onSource i fun x => { x with region := 7 }

/-- R295, R299, R365: tap powers of a source, as the monitors read them, with the corrections in force. -/
def sampleTaps (s : State) (e : Nat × List Int) : State :=
  let x := s.source e.1
  let corr := (sparseGet (fun _ => ({} : CalRec)) s.cal.combs e.1).corr
  let new := (e.2.take 16).zipIdx.map fun p => p.1 + corr.getD p.2 0
  if !litCs x.cs then s
  else match (x.taps.zip new).zipIdx.find? fun p => decide (600 < p.1.1 - p.1.2) with
    | some p => s.sourceFail e.1 p.2 (p.1.1 - p.1.2)
    | none =>
      let off := new.any fun t => decide (20 < (t - toSigned (s.rd (pgComb e.1) Reg.COMB.LOOP_TARGET) 16).natAbs)
      s.onSource e.1 fun x => { x with taps := new, offAt := if off then s.ns else x.offAt }

/-- R306: LO powers of a well's receivers: LOW_LIGHT at every fall below sensitivity. -/
def sampleWell (s : State) (e : Nat × List Int) : State :=
  let w := e.1
  let low := e.2.any fun p => decide (p < sensitivity)
  let s := s.onWell w fun x => { x with rxp := e.2.take 130 }
  if low then
    let was := (s.well w).darkLight && (s.well w).lightRun == 0
    let fresh := !(s.well w).darkLight
    let s := (s.onWell w fun x => { x with darkLight := true, lightRun := 0 }).onFt w fun f => { f with okSince := if f.cause = 6 then none else f.okSince, asked := false }
    if was then s
    else
      let s := if s.runs (pgWell w) then s.raise (pgWell w) 8 else s
      let s := if fresh then s.onWell w fun x => { x with darkTicks := 0, saved := false } else s
      if s.lightSuspended then s else { s with light := { s.light with forceNext := addOnce (dieOf w) s.light.forceNext } }
  else
    let n := (s.well w).lightRun + 1
    let s := s.onWell w fun x =>
      { x with lightRun := if x.darkLight ∧ n < 100 then n else 0, darkLight := (x.darkLight && decide (n < 100)), darkTicks := if n < 100 then x.darkTicks else 0 }
    s.onFt w fun f => { f with okSince := if f.cause = 6 ∧ f.okSince.isNone then some s.ns else f.okSince }

/-- LIGHT_SAMPLE (R295). -/
def lightSample (s : State) (taps rx : List (Nat × List Int)) : State :=
  let s := s.each (taps.filter fun e => decide (e.1 < 6)) fun s e => s.sampleTaps e
  s.each (rx.filter fun e => decide (e.1 < 832)) fun s e => s.sampleWell e

/-- SPARE_READY (R294): every line within 0.2 dB of TARGET and stable for 100 ms: no sample in them was further off, nor did they begin before WARMING. -/
def spareReady (s : State) (i : Nat) : State :=
  let x := s.source i
  let target := toSigned (s.rd (pgComb i) Reg.COMB.LOOP_TARGET) 16
  let ok := !x.taps.isEmpty && x.taps.all fun t => decide (target - 20 ≤ t ∧ t ≤ target + 20)
  if x.cs != 1 || x.heldClear || !ok || decide (s.ns < max x.warmAt x.offAt + 100000000) then s
  else if x.warmBoot then (s.setCs i 3).onSource i fun x => { x with warmBoot := false, relit := false }
  else (s.setCs i 2).raise (pgComb i) 5

/-- WARMING_TIMEOUT (R294): not locked 3 s after entry. -/
def warmingTimeout (s : State) (i : Nat) : State :=
  let x := s.source i
  if x.cs != 1 || x.heldClear || decide (s.ns < x.warmAt + 3000000000) then s
  else
    let s := (s.darken i 7 (s.biasClr i)).onFlash fun f => { f with failed := addOnce i f.failed }
    if x.warmBoot && x.region < 4 then { s with light := { s.light with forceNext := addOnce x.region s.light.forceNext } }
    else s.onSource i fun x => { x with region := 7 }

/-- DARK_FENCE (R308, R330). -/
def darkFence (s : State) (w : Nat) : State :=
  let x := s.well w
  if x.darkLight && decide (10 ≤ x.darkTicks) && !x.saved && !s.lightSuspended && s.st (pgWell w) != 4 then s.askFence w 6 else s

/-- R298: COMB.CMD of a source. -/
def combCmd (s : State) (i : Nat) (hand pre : Bool) : State :=
  if (s.source i).cs != 3 then s
  else s.onSource i fun x => { x with cmdHandover := x.cmdHandover || hand, cmdPrewarm := x.cmdPrewarm || pre }

/-! ### Clear and OPTOFF_N -/

/-- R314: clear codes are forced on a source. -/
def clearSource (s : State) (i : Nat) : State :=
  let x := s.source i
  let code := s.biasClr i
  if !litCs x.cs then s
  else if code = 0 then (s.darken i 0 0).onSource i fun x => { x with back := true }
  else ((s.setCs i 1).driveBias i code).onSource i fun x => { x with heldClear := true }

/-- R313, R314: handovers in progress wait for the end of what darkened their sources. -/
def interruptHandovers (s : State) : State :=
  { s with light := { s.light with interrupted := s.light.interrupted ++ s.light.handovers, handovers := [] } }

def clearSources (s : State) : State := s.interruptHandovers.each allSources fun s i => s.clearSource i

/-- R313, R314: interrupted handovers complete as with no plan running. -/
def resumeHandovers (s : State) : State :=
  let l := s.light.interrupted
  let s := { s with light := { s.light with interrupted := [], handovers := s.light.handovers ++ l } }
  s.each l fun s h => s.finishHandover h

/-- R293, R294, R313, R329: a source of a region lights when its page is starting or on, and when it was lit before OPTOFF_N or a clear. -/
def relight (s : State) (i : Nat) : State :=
  let x := s.source i
  let r := s.light.feed.findIdx (· == i)
  let st := s.st (pgComb i)
  if !s.mayLight then s
  else if x.cs = 1 ∧ x.heldClear then s.onSource i fun x => { x with heldClear := false, warmAt := s.ns, offAt := 0, warmBoot := decide (r < 4) }
  else if x.cs = 0 ∧ (x.back ∨ st = 1 ∨ st = 2) then (if r < 4 then s.warm i r true else s.onSource i fun x => { x with region := 7 })
  else s

/-- R313, R329, R330: at the end of a clear or of OPTOFF_N the sources resume. -/
def relightSources (s : State) : State :=
  s.resumeHandovers.each allSources fun s i =>
    (s.relight i).onSource i fun x => { x with back := false, relit := x.relit || (x.cs == 1 && x.warmBoot) }

/-- OPTOFF_ASSERT (R313). -/
def optoffAssert (s : State) : State :=
  if !s.pins.optoffN then s
  else
    let s := ({ s with pins := { s.pins with optoffN := false } }).pinEdge Reg.EVT.FILT_OPTOFF_SENSE 5 true
    let s := s.interruptHandovers.each allSources fun s i =>
      if litCs (s.source i).cs then (s.darken i 0 0).onSource i fun x => { x with back := true } else s
    let s := { s with light := { s.light with closed := 0xFFFFFFFF, reopen := [], probing := [], returning := 0 } }
    (s.raise (pgComb 0) 14).safety 139 false

/-- R313, R542 step 7: every good well is to be checked as at boot: it locks its LO phases again and runs a recalibration. -/
def recheckWells (s : State) : State :=
  s.each ((List.range 832).filter fun w => s.goodWell w && s.isOn (pgWell w)) fun s w =>
    (s.relockMoved w).onWellCal w fun c => { c with dueNow := true }

/-- R313: every region's source carries light again, or cannot. -/
def sourcesBack (s : State) : Bool :=
  s.light.interrupted.isEmpty && s.light.handovers.isEmpty && s.light.forceNext.isEmpty &&
    s.light.feed.all fun i => 6 ≤ i || ((s.source i).cs != 0 && (s.source i).cs != 1)

/-- R313: the check of a well has ended. -/
def wellRechecked (s : State) (w : Nat) : Bool :=
  !s.goodWell w || !s.isOn (pgWell w) || (!(s.wellCal w).dueNow && !s.inSlot w && s.flag (pgWell w) Reg.WELL.LO_STAT_LO_LOCKED)

/-- R313: at a boundary, the return from OPTOFF_N goes on: the wells are checked once the sources are back, and then the module is READY. -/
def optoffReturn (s : State) : State :=
  if s.light.returning = 1 ∧ s.sourcesBack = true then { s.recheckWells with light := { s.recheckWells.light with returning := 2 } }
  else if s.light.returning = 2 ∧ s.sourcesBack = true ∧ ((List.range 832).all s.wellRechecked) = true then
    ({ s with light := { s.light with returning := 0 } }).wr pgSYS Reg.SYS.MODULE_STATE_MS 2
  else s

/-- OPTOFF_RELEASE (R313): boot goes on where it was; after boot, the module returns to READY once its sources and wells are back. Another cause of
SAFE keeps it there (R416). -/
def optoffRelease (s : State) : State :=
  if s.pins.optoffN then s
  else
    let s := ({ s with pins := { s.pins with optoffN := true } }).pinEdge Reg.EVT.FILT_OPTOFF_SENSE 5 false
    let s := (if s.clearActive then s else s.relightSources).raise (pgComb 0) 14
    if s.fault.safeHard || s.rd pgSYS Reg.SYS.MODULE_STATE_MS != 4 then s
    else if s.boot.ended then { s with light := { s.light with returning := 1 } }
    else s.recheckWells.wr pgSYS Reg.SYS.MODULE_STATE_MS 1

/-! ### Pages (R318) -/

/-- R294, R318: a COMB page starts. -/
def combStart (s : State) (i : Nat) : State := (s.onSource i fun x => { x with monSwept := false }).relight i

/-- R318: a COMB page stops: a handover of its source is forced to its end, then the source goes dark. -/
def combStop (s : State) (i : Nat) : State :=
  let s := match s.light.handovers.find? fun h => h.outgoing == i || h.incoming == i with
    | none => s
    | some h => s.forceHandover h.region h.incoming
  if litCs (s.source i).cs then s.darken i 0 (s.biasClr i) else s

/-- R318: what completes the start of a COMB page. -/
def combStarted (s : State) (i : Nat) : Bool :=
  (s.source i).monSwept && (!s.light.feed.contains i || (s.source i).cs == 3)

/-! ### Shutters (R315) -/

def aprClose (s : State) (p : Nat) : State :=
  if bitAt s.light.closed p || 32 ≤ p then s
  else (({ s with light := { s.light with closed := setBit s.light.closed p } }).bump (pgComb 0) Reg.COMB.APR_COUNT).raise (pgComb 0) 12

/-- A probe opens the shutter at reduced power for 2 ms, or ends. -/
def aprProbe (s : State) (p : Nat) (ends : Bool) : State :=
  if ends then { s with light := { s.light with probing := dropAll p s.light.probing } }
  else if bitAt s.light.closed p && s.isOn (pgHport p) && s.pins.optoffN && p < 32 then
    { s with light := { s.light with probing := addOnce p s.light.probing } }
  else s

def aprOpen (s : State) (p : Nat) : State :=
  if bitAt s.light.closed p && s.isOn (pgHport p) && s.pins.optoffN && p < 32 then
    { s with light := { s.light with reopen := addOnce p s.light.reopen } }
  else s

/-- R315: the fibre of a port whose page leaves ON is dark. -/
def shutPort (s : State) (p : Nat) : State :=
  { s with light := { s.light with closed := setBit s.light.closed p, reopen := dropAll p s.light.reopen, probing := dropAll p s.light.probing } }

end State

/-- LIGHT_SAMPLE (R295): tap powers of sources and LO powers of wells, in 0.01 dBm. -/
def execLightSample (at_ : Nat) (taps rx : List (Nat × List Int)) (s : State) : Host.Outcome State Fault Refusal :=
  liveCore s at_ fun s => s.lightSample taps rx

/-- SPARE_READY (R294). -/
def execSpareReady (at_ src : Nat) (s : State) : Host.Outcome State Fault Refusal := liveCore s at_ fun s => if src < 6 then s.spareReady src else s

/-- WARMING_TIMEOUT (R294). -/
def execWarmingTimeout (at_ src : Nat) (s : State) : Host.Outcome State Fault Refusal :=
  liveCore s at_ fun s => if src < 6 then s.warmingTimeout src else s

/-- DARK_FENCE (R308). -/
def execDarkFence (at_ w : Nat) (s : State) : Host.Outcome State Fault Refusal := liveCore s at_ fun s => s.darkFence w

/-- OPTOFF_ASSERT (R313): the filtered pin. -/
def execOptoffAssert (at_ : Nat) (s : State) : Host.Outcome State Fault Refusal := pinLive s at_ (fun p => { p with optoffN := false }) fun s => s.optoffAssert

/-- OPTOFF_RELEASE (R313): the filtered pin. -/
def execOptoffRelease (at_ : Nat) (s : State) : Host.Outcome State Fault Refusal := pinLive s at_ (fun p => { p with optoffN := true }) fun s => s.optoffRelease

/-- APR_CLOSE (R315). -/
def execAprClose (at_ p : Nat) (s : State) : Host.Outcome State Fault Refusal := liveCore s at_ fun s => s.aprClose p

/-- APR_PROBE (R315): the 2 ms probe of a closed shutter begins, or ends. -/
def execAprProbe (at_ p : Nat) (ends : Bool) (s : State) : Host.Outcome State Fault Refusal := liveCore s at_ fun s => s.aprProbe p ends

/-- APR_OPEN (R315). -/
def execAprOpen (at_ p : Nat) (s : State) : Host.Outcome State Fault Refusal := liveCore s at_ fun s => s.aprOpen p

end Sys2Proof.Machine
end

