-- ==== Sys2Proof/Machine/Convert.lean ====
section
/-! DEFINITION. Clear codes: what forces them, what they do to wells and sources, and how they end (R79, R126, R314, R328 to R330); monitor
reads of every bank (R335, R336). -/

namespace Sys2Proof.Machine

namespace State

/-- R126: clear codes are forced on the wells. -/
def clearWell (s : State) (w : Nat) : State :=
  let s := if s.isOn (pgWell w) then s.raise (pgWell w) 7 else s
  ((s.emptyPlanes w).abandonRunning w).onWell w fun x => { x with cleared := true }

/-- R126, R314, R325, R327: the converter banks go to their clear codes; the codes of the heaters before stay for the deglitcher. -/
def forceClear (s : State) : State :=
  let s := s.each s.usedWells fun s w => s.clearWell w
  ({ s with conv := { s.conv with heat := [], heatWas := s.conv.heat.map fun (e : Nat × List Nat) => (e.1, s.ns, e.2) } }).clearSources

/-- R328: a cause of clear codes begins; the banks are forced when none was in force. -/
def beginClear (before s : State) : State := if before.clearActive then s else s.forceClear

/-- CLR_N_ASSERT (R328). -/
def clrAssert (s : State) : State :=
  if !s.pins.clrN then s
  else
    let t := { s with pins := { s.pins with clrN := false }, conv := { s.conv with clrPin := true } }
    (beginClear s t).pinEdge Reg.EVT.FILT_CLR_SENSE 4 true

/-- CLR_N_DEASSERT (R329): the cause ends at the next boundary. -/
def clrDeassert (s : State) : State :=
  if s.pins.clrN then s
  else ({ s with pins := { s.pins with clrN := true } }).pinEdge Reg.EVT.FILT_CLR_SENSE 4 false

/-- R78: CLEAR.CLR. -/
def sysClear (s : State) : State := beginClear s { s with conv := { s.conv with clrSoft := true, release := false } }

/-- R79: CLEAR.RELEASE. -/
def sysRelease (s : State) : State := if s.conv.clrSoft then { s with conv := { s.conv with release := true } } else s

/-- R329: the causes that end at a boundary: `pending` says that a commit was pending at it, `applied` that one applied. -/
def endClear (s : State) (pending applied : Bool) : State :=
  let was := s.clearActive
  let c := s.conv
  let soft := c.release && (applied || !pending)
  let s := { s with conv := { c with
    clrPin := c.clrPin && !s.pins.clrN
    clrSoft := c.clrSoft && !soft
    release := c.release && !soft
    clrPower := c.clrPower && !applied } }
  if was && !s.clearActive then s.relightSources else s

/-- R328: the code in the output register of a bias channel: its clear code while clear codes are in force. -/
def biasCode (s : State) (i : Nat) : Int := if s.clearActive then s.biasClr i else (s.source i).bias

/-- R332: the level of a bias channel for an accumulator of its generator, which acts on sources in WARMING or STANDBY. -/
def biasLevel (s : State) (i : Nat) (code : Int) (acc : Nat) : Int :=
  if ((s.source i).cs = 1 ∨ (s.source i).cs = 2) ∧ !s.clearActive then
    clampInt 0 16383 (code + s.genTermOf 12 1 acc (s.rd pgSYS Reg.SYS.BIAS_GEN_AMP))
  else code

/-- R327, R332: output of a comb bias channel: its code, or for 200 ns after a major carry the one before it, with its generator's term. -/
def biasOut (s : State) (i : Nat) : Int :=
  let x := s.source i
  let now := s.biasCode i
  let code := deglitch (majorCarry 8 x.biasWas now) 200 (s.ns - x.biasAt) x.biasWas now
  s.genLevel 12 8 200 (s.genAcc 12) (s.biasLevel i code)

/-- R327, R335: a bias read now falls within a deglitch hold, or within 100 ns of a strobe that changed the channel. -/
def biasMoving (s : State) (i : Nat) : Bool :=
  let x := s.source i
  let now := s.biasCode i
  (x.biasWas != now && decide (s.ns - x.biasAt < (if majorCarry 8 x.biasWas now then 200 else 100))) ||
    s.genLevel 12 8 200 (s.genAcc 12) (s.biasLevel i now) != s.biasLevel i now (s.genAcc 12)

/-- R336, R318: a monitor read of a comb bias channel. -/
def monitorComb (s : State) (i : Nat) (m : Int) : State :=
  if s.biasMoving i then s
  else if s.monPasses 3 i (s.rd pgSYS Reg.SYS.BIAS_MON_WIN) (s.biasOut i) m then s.onSource i fun x => { x with monRun := 0, monSwept := true }
  else
    let n := min 15 ((s.source i).monRun + 1)
    let s := s.onSource i fun x => { x with monRun := n, monSwept := false }
    if decide (s.rd pgSYS Reg.SYS.BIAS_MON_FAIL_N ≤ n) && litCs (s.source i).cs then s.sourceFail i 0 0 else s

/-- R319: channels of a bank. -/
def bankChannels : Nat → Nat
  | 2 => 800
  | 3 => 1
  | _ => 128

/-- MONITOR_READ (R335): bank 0 input, 1 column, 2 heater, 3 comb bias; `value` is the code that an input or column channel holds. -/
def monitorRead (s : State) (bank inst ch : Nat) (value m : Int) : State :=
  if bankChannels bank ≤ ch then s
  else if bank = 3 then (if inst < 6 then s.monitorComb inst m else s)
  else if bank < 3 ∧ inst < 832 then s.monitorWell bank inst ch value m
  else s

end State

/-- CLR_N_ASSERT (R328): the filtered pin. -/
def execClrNAssert (at_ : Nat) (s : State) : Host.Outcome State Fault Refusal := pinLive s at_ (fun p => { p with clrN := false }) fun s => s.clrAssert

/-- CLR_N_DEASSERT (R329): the filtered pin. -/
def execClrNDeassert (at_ : Nat) (s : State) : Host.Outcome State Fault Refusal := pinLive s at_ (fun p => { p with clrN := true }) fun s => s.clrDeassert

/-- MONITOR_READ (R335). -/
def execMonitorRead (at_ bank inst channel : Nat) (value m : Int) (s : State) : Host.Outcome State Fault Refusal :=
  liveCore s at_ fun s => s.monitorRead bank inst channel value m

end Sys2Proof.Machine
end

