-- ==== Sys2Proof/Machine/Relief.lean ====
section
/-! DEFINITION. Relief: the logical-to-physical map and everything that moves it at a boundary (R15 to R18, R351 to R362, R382, R399 to
R403): demands and their precedence, stand-ins with preparation, copy and mirror, fences and replacements, calibration ticks. -/

namespace Sys2Proof.Machine

/-- R18, R346, R404, R406: ticks of a slot by kind (2 recalibration, 3 field test, 4 repeat, 5 recalibration of a handover, 6 return). -/
def slotUs : Nat → Nat
  | 2 => 180
  | 3 => 2000
  | 5 => 180
  | 6 => 2180
  | _ => 1

/-- R358, R394: registers that a stand-in takes over. -/
def standInWords : List Nat := [0x040, 0x044, 0x104, 0x108, 0x10C, 0x148, 0x200, 0x204, 0x208, 0x20C, 0x240]

/-- No well carries the number. -/
def noWell : Nat := 1023

namespace State

def slotTicks (s : State) (kind : Nat) : Nat := s.ticksOf (slotUs kind)

/-- R275: a logical number that the running plan needs. -/
def needed (s : State) (n : Nat) : Bool := s.planRunning && decide (n < s.rd pgBOOT Reg.BOOT.WELLS_REQ)

/-- Change the well that a logical number is mapped to. -/
def setMap (s : State) (n w : Nat) : State := { s with cal := { s.cal with map := s.cal.map.set n w } }

/-! ### Due ticks -/

/-- R351, R354: intervals in ticks. -/
def calTicks (s : State) (f : Field) : Nat := s.rd pgCAL f * 1000 / max 1 s.tick.periodUs

/-- R403: intervals in ticks. -/
def ftTicks (s : State) (f : Field) : Nat := s.rd pgTEST f * 1000000 / max 1 s.tick.periodUs

/-- R351: due tick of a well's recalibration. -/
def calDue (s : State) (w : Nat) : Nat :=
  let c := s.wellCal w
  let d := c.tick + s.calTicks Reg.CAL.INTERVAL_MS
  if c.dueNow && c.dueTick != 0 then min d c.dueTick else d

/-- R354: past its due tick by more than the grace period. -/
def calLate (s : State) (w : Nat) : Bool := decide (s.calDue w + s.calTicks Reg.CAL.OVERDUE_MS < s.tick.number)

/-- R351: eligible, so that its recalibration is a demand. -/
def calDemand (s : State) (w : Nat) : Bool :=
  let c := s.wellCal w
  c.dueNow || (c.eligible && decide (c.tick + s.calTicks Reg.CAL.INTERVAL_MS ≤ s.tick.number + s.calTicks Reg.CAL.EARLY_MS))

/-- R16, R403: due tick of a well's field test; one that TEST_NOW or an interruption asks for is due from that boundary on. -/
def ftDue (s : State) (w : Nat) : Nat :=
  let f := s.ftRec w
  let d := f.tick + s.ftTicks Reg.TEST.FT_INTERVAL_S
  if f.dueNow && f.dueTick != 0 then min d f.dueTick else d

def ftDemand (s : State) (w : Nat) : Bool :=
  let f := s.ftRec w
  f.dueNow || (f.eligible && decide (f.tick + s.ftTicks Reg.TEST.FT_INTERVAL_S ≤ s.tick.number + s.ftTicks Reg.TEST.FT_EARLY_S))

/-! ### The calibration engines (R352, R403) -/

/-- A well takes part in a slot. -/
def busyWell (s : State) (w : Nat) : Bool := s.inSlot w || s.cal.standins.any fun x => x.orig == w || x.relief == w

/-- R352: the engine of a die is free in this tick. -/
def engineFree (s : State) (d : Nat) : Bool :=
  !(s.cal.seqs.any fun q => dieOf q.well == d) && !(s.fault.sessions.any fun x => dieOf x.well == d)

/-- No stand-in of a die waits for its engine. -/
def noneWaiting (s : State) (d : Nat) : Bool := !(s.cal.standins.any fun x => !x.begun && x.kind != 1 && dieOf x.orig == d)

/-- The engine of a die is free from the next tick on, unless a retry keeps it. -/
def freeNext (s : State) (d : Nat) : Bool :=
  let next := s.tick.number + 1
  s.noneWaiting d && (s.cal.seqs.all fun q => dieOf q.well != d || decide (q.tick + s.slotTicks 2 ≤ next)) &&
  s.fault.sessions.all fun x => dieOf x.well != d || decide (x.tick + s.slotTicks (if x.kind = 3 then 4 else 3) ≤ next)

/-- R346: the calibration tile stands in both planes. -/
def loadCalTile (s : State) (w : Nat) : State := s.onWell w fun x => { x with planeA := { st := .ready }, planeB := { st := .ready } }

/-- Start the work of a slot on a well, its modulators dark (R346, R404, R406). -/
def startWork (s : State) (w kind : Nat) (standin : Bool) : State :=
  let s := s.emptyPlanes w
  let s := if kind = 5 then
      match s.light.handovers.find? fun h => h.region == dieOf w with
      | some h => ((s.moveWell h w).relockMoved w).putHandover { h with moved := addOnce w h.moved }
      | none => s.onWellCal w fun c => { c with handDue := none }
    else s
  match kind with
  | 3 =>
    let s := s.onFt w fun f => { f with dueNow := false, dueTick := 0, eligible := false }
    { s with fault := { s.fault with sessions := s.fault.sessions ++ [{ well := w, kind := 1, start := s.ns, tick := s.tick.number, package := s.boot.flash.fleet }] } }
  | 4 =>
    let s := s.wr (pgWell w) Reg.WELL.REPEAT_STAT_ST 2
    { s with fault := { s.fault with sessions := s.fault.sessions ++ [{ well := w, kind := 3, start := s.ns, tick := s.tick.number }] } }
  | 6 =>
    let s := s.onFt w fun f => { f with returnDemand := false }
    { s with fault := { s.fault with sessions := s.fault.sessions ++ [{ well := w, kind := 2, start := s.ns, tick := s.tick.number, package := s.boot.flash.fleet }] } }
  | _ =>
    let s := (s.loadCalTile w).onWellCal w fun c => { c with dueNow := false, dueTick := 0, eligible := false }
    { s with cal := { s.cal with seqs := s.cal.seqs ++ [{ well := w, start := s.ns, tick := s.tick.number, standin := standin }] } }

/-- The work on a well is dropped, and with it the calibration tile in its planes. -/
def dropWork (s : State) (w : Nat) : State :=
  let s := if s.cal.seqs.any fun q => q.well == w then s.emptyPlanes w else s
  { s with
    cal := { s.cal with seqs := s.cal.seqs.filter fun q => q.well != w }
    fault := { s.fault with sessions := s.fault.sessions.filter fun x => x.well != w } }

/-! ### Recalibration results -/

/-- R339, R349: a trim word as stored. -/
def putTrimWord (s : State) (w : Nat) (e : Nat × Int) : State :=
  match trimWidth e.1 with
  | none => s
  | some n => s.putTrim w e.1 n (ofSigned e.2 n)

/-- R349, R366, R371: the staged trims of a sequence are applied; this boundary is the well's calibration time. -/
def applyTrims (s : State) (q : CalSeq) : State :=
  let w := q.well
  let pg := pgWell w
  let s := q.trims.foldl (fun s e => s.putTrimWord w e) s
  let heat := q.heat.foldl (fun l e => sparsePut (fun _ => 0) l e.1 e.2) (sparseGet (fun _ => []) s.conv.heatTrim w)
  let s := { s with conv := { s.conv with heatTrim := sparsePut (fun _ => []) s.conv.heatTrim w heat } }
  let s := (s.wr pg Reg.WELL.PILOT_PHASE 0).wr pg Reg.WELL.PILOT_GAIN 0x3F800000
  let n (i : Nat) : Nat := q.noise.getD i 0
  let s := ((((s.wr pg Reg.WELL.NOISE_01_G0 (n 0)).wr pg Reg.WELL.NOISE_01_G1 (n 1)).wr pg Reg.WELL.NOISE_23_G2 (n 2)).wr pg
    Reg.WELL.NOISE_23_G3 (n 3)).wr pg Reg.WELL.NOISE_4_G4 (n 4)
  let s := s.onWell w fun x => { x with phiRef := q.phi, gRef := q.g, loTrim := 0 }
  let s := s.onWellCal w fun c =>
    { c with
      tick := s.tick.number, ns := s.tick.elapsed, count := satAdd 32 c.count 1, host := s.hostAtTick, retries := q.retries, overdue := false
      pilotArmed := c.pilotWatch, pilotWatch := false }
  s.bump pgCAL Reg.CAL.WELL_CALS

/-- R401: a return test and its recalibration have passed: the page goes to OFF. -/
def returnWell (s : State) (w : Nat) : State :=
  let f := s.ftRec w
  let n := f.returns + 1
  let s := s.onFt w fun f => { f with cause := 0, returns := min 255 n, returnDemand := false, weakReturn := false, suspect := false, okSince := none }
  (s.raise pgTEST 6).record (pgWell w) 7 3 4 f.cause n

/-- A sequence that has ended at a boundary (R349, R401). -/
def finishSeq (s : State) (q : CalSeq) : State :=
  let s := s.emptyPlanes q.well
  if q.result = 1 then (let s := s.applyTrims q; if q.forReturn then s.returnWell q.well else s) else s

/-- R346, R348: nanoseconds that a sequence lasts, retries included. -/
def seqNs (retries : Nat) : Nat := 180000 + 90000 * retries

/-- R346, R524: a sequence has completed, or was interrupted. -/
def seqOver (s : State) (q : CalSeq) : Bool := q.result == 3 || (q.result != 0 && decide (q.start + seqNs q.retries ≤ s.ns))

/-- R404, R406, R524: a session has run its steps, a repeat has its outcome, or either was interrupted. -/
def sessionOver (s : State) (x : Session) : Bool := x.done && (x.cut || x.kind == 3 || decide (x.start + 2000000 ≤ s.ns))

/-- The work on a well has ended. -/
def workDone (s : State) (w : Nat) : Bool :=
  (s.cal.seqs.any fun q => q.well == w && s.seqOver q) || s.fault.sessions.any fun x => x.well == w && s.sessionOver x

/-- What ended work leaves, and its removal. -/
def finishWork (s : State) (w : Nat) : State :=
  let l := s.cal.seqs.filter fun q => q.well == w
  (l.foldl (fun s q => s.finishSeq q) (s.dropWork w)).emptyPlanes w

/-! ### Stand-ins -/

/-- R358: the fields that a stand-in takes over. -/
def copyFields (s : State) (a b : Nat) : State :=
  s.each standInWords fun s o => s.setWord (regAddr (pgWell b) o) (s.word (regAddr (pgWell a) o))

/-- R357, R362: the pool of one well is copied to another, a block that fails its seal check with WITHHELD set. -/
def copyPool (s : State) (a b : Nat) : State :=
  let lo (w : Nat) : Nat := poolBase + w * 2 ^ 20
  let inMem (w : Nat) (k : Nat) : Bool := decide (lo w ≤ k ∧ k < lo w + 2 ^ 20)
  let inSeal (w : Nat) (k : Nat) : Bool := inMem w (k * 4096)
  let mem := (s.mem.filter fun e => inMem a e.1).foldl (fun l e => sparsePut (fun _ => (0 : Byte)) l (e.1 - lo a + lo b) e.2)
    (s.mem.filter fun e => !inMem b e.1)
  let bad := s.seals.filter fun e => inSeal a e.1 && e.2.bad
  let seals := (s.seals.filter fun e => inSeal a e.1).foldl
    (fun l e => sparsePut (fun _ => ({} : Seal)) l (e.1 - lo a / 4096 + lo b / 4096) { e.2 with withheld := e.2.withheld || e.2.bad, bad := false })
    (s.seals.filter fun e => !inSeal b e.1)
  let s := { s with mem := mem, seals := seals }
  s.each bad fun s e => s.sealFailure (.pool a) (e.1 * 4096) e.2

/-- POOL_COPY_DONE (R357) for the stand-in that prepares to relieve a well. -/
def poolCopied (s : State) (x : StandIn) : State :=
  if x.begun || x.copied then s
  else
    let s := s.copyPool x.orig x.relief
    { s with cal := { s.cal with standins := s.cal.standins.map fun y => if y == x then { y with copied := true } else y } }

/-- R356: a relief well for a demand of `orig` that ends at tick `last`, 0 for a replacement: same die first, then the lowest Well ID. -/
def pickRelief (s : State) (orig last : Nat) (ownOk : Bool) : Option Nat :=
  let ok (w : Nat) : Bool :=
    w != orig && s.goodWell w && s.isOn (pgWell w) && !s.busyWell w &&
    (match s.logicalOf w with
      | none => true
      | some n => ownOk && s.planRunning && !s.needed n) &&
    (last == 0 || decide (last < s.calDue w))
  let d := dieOf orig
  let same := (List.range 208).map fun i => 208 * d + i
  (same.find? ok).orElse fun _ => (List.range 832).find? ok

/-- R357, R362: the preparation tick of a stand-in opens. -/
def prepare (s : State) (n orig relief kind : Nat) : State :=
  let own := (s.logicalOf relief)
  { s with cal := { s.cal with
    standins := s.cal.standins ++ [{ logical := n, orig := orig, relief := relief, prep := s.tick.number, kind := kind, own := own }] } }

/-- R358, R362: the relief well carries the number. -/
def beginStandIn (s : State) (x : StandIn) : State :=
  let s := if x.copied then s else s.copyPool x.orig x.relief
  let s := match x.own with
    | none => s
    | some n => s.setMap n (if x.kind = 1 then x.orig else noWell)
  let s := (s.setMap x.logical x.relief).copyFields x.orig x.relief
  let rest := s.cal.standins.filter fun y => y != x
  if x.kind = 1 then { s with cal := { s.cal with standins := rest } }
  else
    let s := { s with cal := { s.cal with standins := rest ++ [{ x with begun := true, copied := true, began := s.tick.number }] } }
    let s := if x.kind = 2 ∨ x.kind = 5 then s.bump pgCAL Reg.CAL.STANDIN_COUNT else s
    s.startWork x.orig x.kind true

/-- R358: stand-ins whose preparation tick has ended begin, as their engines are free. -/
def beginStandIns (s : State) : State :=
  s.each (s.cal.standins.filter fun x => !x.begun) fun s x =>
    if x.prep < s.tick.number ∧ (x.kind = 1 ∨ s.engineFree (dieOf x.orig)) then s.beginStandIn x else s

/-- The number returns to the original well (R360, R361, R17). -/
def mapBack (s : State) (x : StandIn) : State :=
  let s := (s.setMap x.logical x.orig).copyFields x.relief x.orig
  match x.own with
  | none => s
  | some n => s.setMap n x.relief

def dropStandIn (s : State) (x : StandIn) : State := { s with cal := { s.cal with standins := s.cal.standins.filter fun y => y != x } }

/-- R397: a repeat that does not run is dropped: its capture slot is free and its failure unclassified. -/
def dropRepeat (s : State) (c : Capture) : State :=
  let s := { s with
    integ := { s.integ with captures := s.integ.captures.filter fun y => y != c }
    cal := { s.cal with standins := s.cal.standins.filter fun x => !(x.orig == c.well && x.kind == 4) } }
  ((s.wrBit pgINTEG Reg.INTEG.CAPTURE_BUSY c.die false).wr (pgWell c.well) Reg.WELL.REPEAT_STAT_ST 0).wr (pgWell c.well) Reg.WELL.REPEAT_STAT_LAST 3

/-- R382, R397: the repeat of a well that was cut waits again, or is dropped while the INTEG page is not ON. -/
def requeueRepeat (s : State) (w : Nat) : State :=
  if s.isOn pgINTEG then s.wr (pgWell w) Reg.WELL.REPEAT_STAT_ST 1
  else s.each (s.integ.captures.filter fun c => c.well == w && c.state == 1) fun s c => s.dropRepeat c

/-- R17, R361, R397, R423: a slot is interrupted; its work is due again at once. -/
def interrupt (s : State) (x : StandIn) : State :=
  let s := s.dropStandIn x
  let s := if x.begun then (s.mapBack x).dropWork x.orig else s
  match x.kind with
  | 3 => s.onFt x.orig fun f => { f with dueNow := true, dueTick := s.tick.number, last := if x.begun then 6 else f.last }
  | 4 => if x.begun then s.requeueRepeat x.orig else s
  | 1 => s
  | _ => s.onWellCal x.orig fun c => { c with dueNow := true, dueTick := s.tick.number }

/-- R360: stand-ins whose work has ended, and wells whose work ran without one. -/
def endSlots (s : State) : State :=
  let s := s.each (s.cal.standins.filter fun x => x.begun) fun s x =>
    if s.workDone x.orig then ((s.dropStandIn x).mapBack x).finishWork x.orig else s
  let ws := (s.cal.seqs.map (·.well) ++ s.fault.sessions.map (·.well)).filter fun w => !(s.cal.standins.any fun x => x.orig == w)
  s.each ws fun s w => if s.workDone w then s.finishWork w else s

/-! ### Fences (R400) -/

/-- R399: the cause may be returned from. -/
def returnable (s : State) (w : Nat) : Bool :=
  let f := s.ftRec w
  !f.barred && match f.cause with
  | 1 => f.suspect
  | 3 => true
  | 4 => f.weakReturn
  | 6 => true
  | 7 => true
  | _ => false

/-- R401: a return demand, when the well may still return. -/
def demandReturn (s : State) (w : Nat) : State :=
  if s.returnable w && decide ((s.ftRec w).returns < s.rd pgTEST Reg.TEST.FT_CTL_RET_MAX) && s.st (pgWell w) == 4 then
    s.onFt w fun f => { f with returnDemand := true }
  else s

/-- R399, R401: wells fenced for lack of light, every receiver of which has read enough for 1 ms, receive their return demand. -/
def lightReturns (s : State) : State :=
  let back (f : FtRec) : Bool := f.cause == 6 && !f.asked && match f.okSince with
    | some t => decide (t + 1000000 ≤ s.ns)
    | none => false
  s.each (s.fault.ft.filter fun e => back e.2) fun s e => (s.demandReturn e.1).onFt e.1 fun f => { f with asked := true }

/-- R361, R362: what a fence does to the slots its well takes part in. -/
def fenceSlots (s : State) (w : Nat) : State :=
  s.each s.cal.standins fun s x =>
    if x.orig == w then
      if x.begun then
        -- R361: the stand-in becomes the replacement.
        let s := (s.dropStandIn x).dropWork w
        match x.own with
        | none => s
        | some n => s.setMap n w
      else { s with cal := { s.cal with standins := s.cal.standins.map fun y => if y == x then { y with kind := 1 } else y } }
    else if x.relief == w then
      let s := s.interrupt x
      if x.kind = 1 then s else s.onWellCal x.orig fun c => { c with dueNow := true, dueTick := s.tick.number }
    else s

/-- R407: a pattern in the layout that captures share. -/
def patternBytes (c : Capture) : List Byte :=
  bytesOf 4 0 ++ bytesOf 1 c.kind ++ bytesOf 1 c.gain ++ bytesOf 2 c.act.length ++ bytesOf 2 c.symbol ++ bytesOf 2 0 ++
  bytesOf 4 (ofSigned c.d 32) ++ stampBytes c.stamp ++ bytesOf 2 c.well ++ bytesOf 34 0 ++ padTo 64 c.desc ++ padTo 1024 c.record ++
  (List.range 130).flatMap (fun r => (List.range 128).flatMap fun k => bytesOf 2 (ofSigned ((c.codes.getD r []).getD k 0) 16)) ++
  c.act.flatMap (fun b => padTo 256 (b.take 256)) ++ c.act.flatMap fun b => padTo 4 (b.drop 256)

/-- R409: a permanent capture moves to its die's local list, and the die's slot is freed. -/
def localise (s : State) (c : Capture) : State :=
  let p := patternBytes c
  let mine := s.fault.local_.filter fun e => e.1 == c.die
  let others := s.fault.local_.filter fun e => e.1 != c.die
  let s := { s with
    fault := { s.fault with local_ := others ++ (mine.drop (mine.length + 1 - 8)) ++ [(c.die, p)] }
    integ := { s.integ with captures := s.integ.captures.filter fun y => y != c } }
  s.wrBit pgINTEG Reg.INTEG.CAPTURE_BUSY c.die false

/-- R350: the firmware writes SPARE of a well fenced with one weak row, outside any group: a commit at the next boundary. -/
def spareWeak (s : State) (w : Nat) : State :=
  match (s.ftRec w).weakReturn, (s.wellCal w).weakRow with
  | true, some r => { s with txn := { s.txn with lone := s.txn.lone ++ [⟨s.now, regAddr (pgWell w) 0x048, BitVec.ofNat 32 (1 + r * 2 ^ 8)⟩] } }
  | _, _ => s

/-- R350: a return of a well fenced with a weak row waits until the row is spared. -/
def spareInForce (s : State) (w : Nat) : Bool :=
  !(s.ftRec w).weakReturn || (s.flag (pgWell w) Reg.WELL.SPARE_EN && (s.wellCal w).weakRow == some (s.rd (pgWell w) Reg.WELL.SPARE_ROW))

/-- R136, R400, R402, R411: a well is fenced at a boundary. R413: the record of a permanent fence carries the well's capture,
which the next session of its die on another well checks (R410); it is localised once its repeat has failed (R383). -/
def fenceWell (s : State) (w cause seq : Nat) : State :=
  let pg := pgWell w
  if s.st pg = 0 ∨ 4 ≤ s.st pg then s
  else
    let lost := s.standInsLeft
    let capt := s.integ.captures.find? fun c => c.well == w
    let s := (((s.abandonAll w).emptyPlanes w).fenceSlots w).dropWork w
    let s := ((s.setSt pg 4).wr pg Reg.HDR.CTL_EN 0).wr pg Reg.HDR.STATE_PENDING_EN 0
    let s := s.onFt w fun f =>
      { f with cause := cause, fenceTick := s.tick.number, eligible := false, dueNow := false, returnDemand := false, okSince := none, asked := false }
    let s := s.onWellCal w fun c => { c with dueNow := false, dueTick := 0, handDue := none, eligible := false, overdue := false }
    let s := (s.onFlash fun f => { f with fenceLog := f.fenceLog ++ [(w, if s.returnable w then cause else cause + 16)] }).raise pgTEST 5
    let s := (s.edge 97 137).record pg 6 0 3 cause seq 0 (match cause, capt with | 1, some c => patternBytes c | _, _ => [])
    let s := match cause, capt with
      | 1, some c =>
        let s := { s with fault := { s.fault with xcheck := s.fault.xcheck ++ [(w, patternBytes c)] } }
        if c.state = 2 then s.localise c else s
      | _, _ => s
    let s := if cause = 4 then (s.demandReturn w).spareWeak w else if cause = 3 then s.demandReturn w else s
    if s.planRunning && lost != 0 && s.standInsLeft == 0 then s.raise pgSYS 4 else s

/-- R400: the fences asked for take effect. -/
def fencePass (s : State) : State :=
  let l := sortBy (fun e => e.1) s.fault.fences
  ({ s with fault := { s.fault with fences := [] } }).each l fun s e => s.fenceWell e.1 e.2.1 e.2.2

/-! ### Demands (R16) -/

/-- R16, R301, R362: replacements of fenced wells: order of service, kind, logical number, well. -/
def replacements (s : State) : List (Nat × Nat × Nat × Nat) :=
  (s.cal.map.zipIdx.filter fun e => e.1 < 832 && s.st (pgWell e.1) == 4 && !(s.cal.standins.any fun x => x.kind == 1 && x.logical == e.2)).map
    fun e => ((s.ftRec e.1).fenceTick * 2 ^ 20 + e.2, 1, e.2, e.1)

/-- R16: ties go to the lower logical number; wells without one come after, by Well ID. -/
def tieKey (s : State) (w : Nat) : Nat := (s.logicalOf w).getD (1024 + w)

/-- R16, R401: demands for a slot, in order: recalibrations and handover moves, then field tests and repeats, then returns. -/
def slotDemands (s : State) (relLost : Bool) : List (Nat × Nat × Nat) :=
  let calOn := s.isOn pgCAL && s.flag pgCAL Reg.CAL.ENABLES_WELL
  let testOn := s.isOn pgTEST
  let ftOn := testOn && s.flag pgTEST Reg.TEST.FT_CTL_EN && !relLost
  let key (rank due w : Nat) : Nat := rank * 2 ^ 100 + due * 2 ^ 20 + s.tieKey w
  let ok (w : Nat) : Bool := s.goodWell w && !s.busyWell w && s.isOn (pgWell w) && !(s.well w).moved
  let cals := (s.cal.wells.filter fun e => ok e.1).flatMap fun e =>
    (if calOn && s.calDemand e.1 then [(key 1 (s.calDue e.1) e.1, 2, e.1)] else []) ++
    match e.2.handDue with
    | some t => if calOn then [(key 1 t e.1, 5, e.1)] else []
    | none => []
  let fts := (s.fault.ft.filter fun e => ftOn && ok e.1 && s.ftDemand e.1).map fun e => (key 2 (s.ftDue e.1) e.1, 3, e.1)
  let reps := (s.integ.captures.filter fun c => s.isOn pgINTEG && c.state == 1 && !s.busyWell c.well).map fun c => (key 2 c.stamp.tick c.well, 4, c.well)
  let rets := (s.fault.ft.filter fun e => testOn && e.2.returnDemand && !s.busyWell e.1 && s.st (pgWell e.1) == 4 && s.spareInForce e.1).map
    fun e => (key 3 e.2.fenceTick e.1, 6, e.1)
  sortBy (·.1) (cals ++ fts ++ reps ++ rets)

/-- R16, R353, R356: one demand is served now if it can be: with a stand-in where the plan needs its number, else at once. -/
def serveOne (s : State) (relLost : Bool) (d : Nat × Nat × Nat) : State :=
  let kind := d.2.1
  let w := d.2.2
  let die := dieOf w
  if s.busyWell w then s
  else match (s.logicalOf w).filter s.needed with
    | some n =>
      if relLost || !s.freeNext die || kind = 6 then s
      else match s.pickRelief w (s.tick.number + 1 + s.slotTicks kind) true with
        | none => s
        | some r => s.prepare n w r kind
    | none => if s.engineFree die && s.noneWaiting die then s.startWork w kind false else s

/-- R17: tick in which a stand-in's slot began; one that still prepares begins later than any that has begun. -/
def slotBegan (s : State) (x : StandIn) : Nat := if x.begun then x.began else s.tick.number + 1

/-- R17: the stand-in for a calibration or a test whose slot began latest. DESIGN CHOICE (log entry 53): of those whose slots began at the same
boundary, the last in the list of stand-ins. -/
def latestSlot (s : State) : Option StandIn :=
  (s.cal.standins.filter fun x => x.kind != 1).foldl (fun a x => match a with
    | none => some x
    | some b => if s.slotBegan b ≤ s.slotBegan x then some x else a) none

/-- R16: a relief well that is busy with its own recalibration or test, for a replacement of `w`, which goes before them. -/
def ownBusy (s : State) (w : Nat) (ownOk : Bool) : Option Nat :=
  let ok (r : Nat) : Bool :=
    r != w && s.goodWell r && s.isOn (pgWell r) && s.inSlot r && !(s.cal.standins.any fun x => x.orig == r || x.relief == r) &&
    match s.logicalOf r with
    | none => true
    | some n => ownOk && s.planRunning && !s.needed n
  let same := (List.range 208).map fun i => 208 * dieOf w + i
  (same.find? ok).orElse fun _ => (List.range 832).find? ok

/-- R16: the work of a relief well on itself ends and is due again at once. -/
def endOwn (s : State) (r : Nat) : State :=
  let t := (s.dropWork r).emptyPlanes r
  let t := if s.cal.seqs.any fun q => q.well == r then t.onWellCal r fun c => { c with dueNow := true, dueTick := s.tick.number } else t
  match s.fault.sessions.find? fun x => x.well == r with
  | some x =>
    if x.kind = 3 then t.requeueRepeat r
    else t.onFt r fun f => { f with dueNow := true, dueTick := s.tick.number, last := 6 }
  | none => t

/-- R16, R17, R274, R362: a fenced well is replaced by a free relief well, by one busy with itself, or by one whose slot is ended; else the plan
stops. -/
def replaceOne (s : State) (e : Nat × Nat × Nat × Nat) : State :=
  let n := e.2.2.1
  let w := e.2.2.2
  match s.pickRelief w 0 (s.needed n) with
  | some r => s.prepare n w r 1
  | none => match s.ownBusy w (s.needed n), s.latestSlot with
    | some r, _ => (s.endOwn r).prepare n w r 1
    | none, some x =>
      if s.needed n || !s.planRunning then
        let s := s.interrupt x
        s.prepare n w x.relief 1
      else s
    | none, none => if s.needed n then s.stopPlan else s

/-! ### Calibration ticks (R18, R354) -/

/-- R18, R301, R354, R382: the well of a die that a calibration round serves, and how: a repeat, else the overdue first, then recalibrations and
moves of a handover by due tick. -/
def roundPick (s : State) (relLost : Bool) (d : Nat) : Option (Nat × Nat) :=
  let ok (w : Nat) : Bool := dieOf w == d && s.isOn (pgWell w) && !s.busyWell w && ((s.logicalOf w).filter s.needed).isSome
  let rep := s.integ.captures.find? fun c => relLost && s.isOn pgINTEG && c.state == 1 && ok c.well
  match rep with
  | some c => some (c.well, 4)
  | none =>
    let key (late : Bool) (due w : Nat) : Nat := (if late then 0 else 2 ^ 100) + due * 2 ^ 20 + s.tieKey w
    let l := (s.cal.wells.filter fun e => ok e.1).flatMap fun e =>
      (if e.2.overdue || (relLost && s.calDemand e.1) then [(key e.2.overdue (s.calDue e.1) e.1, e.1, 2)] else []) ++
      match e.2.handDue with
      | some t => if relLost then [(key false t e.1, e.1, 5)] else []
      | none => []
    ((sortBy (·.1) l).head?).map (·.2)

/-- R18, R354: the wells that a calibration round would serve, one of each die whose engine is free. -/
def roundPicks (s : State) (relLost : Bool) (free : Nat → Bool) : List (Nat × Nat) :=
  let overdue := s.cal.wells.any fun e => e.2.overdue && ((s.logicalOf e.1).filter s.needed).isSome
  if !s.planRunning || !s.isOn pgCAL || !s.flag pgCAL Reg.CAL.ENABLES_WELL || !(relLost || overdue) then []
  else ([0, 1, 2, 3].filter free).filterMap fun d => s.roundPick relLost d

/-- R18, R354: a calibration round starts, where one is still needed. -/
def roundStart (s : State) (relLost : Bool) : State :=
  let l := s.roundPicks relLost fun d => s.engineFree d && s.noneWaiting d
  if l.isEmpty then s
  else ({ s with cal := { s.cal with calTick := s.slotTicks 2 } }).each l fun s e => s.startWork e.1 e.2 false

/-- R18, R45: this tick is a calibration tick: the last one ends, lasts while a sequence of its round runs, or the round starts that the boundary
before it decided on. -/
def calTickPass (s : State) (relLost : Bool) : State :=
  let running := s.cal.seqs.any fun q => !q.standin && !s.seqOver q && ((s.logicalOf q.well).filter s.needed).isSome
  let left := s.cal.calTick - 1
  let left := if left = 0 ∧ s.cal.calTick ≠ 0 ∧ running ∧ s.planRunning then 1 else left
  let s := { s with cal := { s.cal with calTick := left } }
  let s := if left = 0 ∧ s.cal.calNext = true then s.roundStart relLost else s
  if s.cal.calTick = 0 then s else s.bump pgTICK Reg.TICK.CAL_TICK_COUNT

/-- R18, R278: whether the next tick begins a calibration round is decided one tick ahead, so that the firmware knows which records to write (log
entry 40). -/
def calAhead (s : State) (relLost : Bool) : State :=
  { s with cal := { s.cal with calNext := decide (s.cal.calTick ≤ 1) && !(s.roundPicks relLost s.freeNext).isEmpty } }

/-- R16, R355: what was asked for at once since the last boundary is due from this one on; a well that a commit has made no longer overdue is not. -/
def stampDue (s : State) : State :=
  let s := s.each (s.cal.wells.filter fun e => e.2.overdue && !s.calLate e.1) fun s e => s.onWellCal e.1 fun c => { c with overdue := false }
  let s := s.each (s.cal.wells.filter fun e => e.2.dueNow && e.2.dueTick == 0) fun s e => s.onWellCal e.1 fun c => { c with dueTick := s.tick.number }
  s.each (s.fault.ft.filter fun e => e.2.dueNow && e.2.dueTick == 0) fun s e => s.onFt e.1 fun f => { f with dueTick := s.tick.number }

/-- Relief at a boundary, after its commits and page states: slots end and begin, calibration ticks, demands (R15 to R18, R356 to R362). The
fences of the boundary are already in force. -/
def reliefBoundary (s : State) : State :=
  let s := s.lightReturns.stampDue.endSlots.beginStandIns
  let relLost := s.planRunning && s.standInsLeft == 0
  let s := s.calTickPass relLost
  let s := s.each (sortBy (·.1) s.replacements) fun s e => s.replaceOne e
  let s := s.each (s.slotDemands relLost) fun s d => s.serveOne relLost d
  s.calAhead (s.planRunning && s.standInsLeft == 0)

/-! ### Rows -/

/-- CAL_ELIGIBLE (R351). -/
def calEligible (s : State) (w : Nat) : State :=
  if w < 832 ∧ (s.wellCal w).tick + s.calTicks Reg.CAL.INTERVAL_MS ≤ s.tick.number + s.calTicks Reg.CAL.EARLY_MS then
    s.onWellCal w fun c => { c with eligible := true }
  else s

/-- CAL_OVERDUE (R354). -/
def calOverdue (s : State) (w : Nat) : State :=
  if (s.logicalOf w).isSome && !(s.wellCal w).overdue && s.calLate w then
    ((s.onWellCal w fun c => { c with overdue := true }).bump pgCAL Reg.CAL.OVERDUE_COUNT).raise pgCAL 10
  else s

/-- R351: CAL.CMD.WELL_NOW. -/
def wellNow (s : State) (w : Nat) : State := if w < 832 then s.onWellCal w fun c => { c with dueNow := true } else s

/-- FT_ELIGIBLE (R403). -/
def ftEligible (s : State) (w : Nat) : State :=
  if w < 832 ∧ (s.ftRec w).tick + s.ftTicks Reg.TEST.FT_INTERVAL_S ≤ s.tick.number + s.ftTicks Reg.TEST.FT_EARLY_S then
    s.onFt w fun f => { f with eligible := true }
  else s

/-- R421: TEST.CMD.TEST_NOW. -/
def testNow (s : State) (w : Nat) : State := if w < 832 then s.onFt w fun f => { f with dueNow := true } else s

/-- R421: TEST.CMD.RETURN_NOW. -/
def returnNow (s : State) (w : Nat) : State := if w < 832 then s.demandReturn w else s

end State

/-- CAL_ELIGIBLE (R351). -/
def execCalEligible (at_ w : Nat) (s : State) : Host.Outcome State Fault Refusal := liveCore s at_ fun s => s.calEligible w

/-- CAL_OVERDUE (R354). -/
def execCalOverdue (at_ w : Nat) (s : State) : Host.Outcome State Fault Refusal := liveCore s at_ fun s => s.calOverdue w

/-- POOL_COPY_DONE (R357): the relief copier has copied the pool of a logical well's physical well. -/
def execPoolCopyDone (at_ orig : Nat) (s : State) : Host.Outcome State Fault Refusal :=
  liveCore s at_ fun s => match s.cal.standins.find? fun x => x.orig == orig && !x.begun && !x.copied with
    | some x => s.poolCopied x
    | none => s

/-- FT_ELIGIBLE (R403). -/
def execFtEligible (at_ w : Nat) (s : State) : Host.Outcome State Fault Refusal := liveCore s at_ fun s => s.ftEligible w

end Sys2Proof.Machine
end

