-- ==== Sys2Proof/Machine/Calib.lean ====
section
/-! DEFINITION. Calibration: measurement passes and their verdicts (R346 to R350, R371), the reference check (R344, R345), lanes (R363,
R364) and comb lines (R365). -/

namespace Sys2Proof.Machine

/-- R346: nanoseconds from the start of a sequence to the end of its measurement pass `k`, from 1. -/
def passEndNs (k : Nat) : Nat := if k ≤ 1 then 90000 else 170000 + 90000 * (k - 2)

/-- R348: two passes agree: gains within 0.5 % of their mean, phases within 0.02 rad. -/
def passesAgree (g1 g2 p1 p2 : List Int) : Bool :=
  g1.length == g2.length && p1.length == p2.length &&
  (g1.zip g2).all (fun e => decide (400 * (e.1 - e.2).natAbs ≤ (e.1 + e.2).natAbs)) &&
  (p1.zip p2).all fun e => decide ((e.1 - e.2).natAbs ≤ 20000)

/-- R371: NOISE_g from σ_n, σ_ε and σ_γ in 10⁻⁹. -/
def noiseOf (sn se sg g : Nat) : Nat :=
  let fs := fullScale g
  let a := sn * sn + 128 * se * se + sg * sg * fs * fs
  let q := 512 / fs
  min 65535 (rnaSqrt (65536 * (12 * a * q * q + 10 ^ 18)) (12 * 10 ^ 18))

namespace State

/-- R350: 70 % of the factory gain of a row at the well's temperature, times 10 · 2,000, against five times the sum of the agreed pair. -/
def weakGain (s : State) (w plane row : Nat) (sum : Int) : Bool :=
  let t := clampInt 2000 10000 ((s.wellTemp w).getD 6000)
  let j := min ((t - 2000) / 2000).toNat 3
  let f := t - 2000 - 2000 * j
  let a := Config.factoryGain w plane row j
  let b := Config.factoryGain w plane row (j + 1)
  decide (5 * sum * 2000 < 7 * (a * 2000 + f * (b - a)))

/-- R350: weak rows of an agreed pair: gain, or an RG trim beyond ±16,384; a spared physical row is left out. -/
def weakRows (s : State) (w : Nat) (g1 g2 : List Int) (trims : List (Nat × Int)) : List Nat :=
  let sum (i : Nat) : Int := g1.getD i 0 + g2.getD i 0
  (List.range 130).filter fun r =>
    s.spareRow w != some r &&
    (s.weakGain w 0 r (sum r) || s.weakGain w 1 r (sum (130 + r)) ||
      trims.any fun e => e.1 == 3 * 16 + r * 256 && decide (16384 < e.2.natAbs))

/-- R347: the mean of two passes' trim words, heater trims and float32 quantities; a quantity that one of them lacks is the other's. -/
def meanTrims (a b : List (Nat × Int)) : List (Nat × Int) :=
  b.map fun e => (e.1, match a.find? fun x => x.1 == e.1 with
    | some x => rnaDiv (x.2 + e.2) 2
    | none => e.2)

def meanF32 (a b : Nat) : Nat := rnafEx (((exOf a).add (exOf b)).div (Ex.ofInt 2))

def meanHeat (a b : List (Nat × Nat)) : List (Nat × Nat) :=
  b.map fun e => (e.1, match a.find? fun x => x.1 == e.1 with
    | some x => meanF32 x.2 e.2
    | none => e.2)

/-- R367: retries of a well's last sequence. -/
def lastRetries (s : State) (w n : Nat) : State := s.onWellCal w fun c => { c with retries := n }

def putSeq (s : State) (q : CalSeq) : State :=
  { s with cal := { s.cal with seqs := s.cal.seqs.map fun (x : CalSeq) => if x.well = q.well then q else x } }

/-- R350: a recalibration has found weak rows. DESIGN CHOICE (log entry 64): one that belongs to a return leaves the well FENCED with its cause
(R401). -/
def weakFence (s : State) (w : Nat) (rows : List Nat) (ret : Bool) : State :=
  let one := match rows with
    | [r] => decide (r ≤ 128) && !s.flag (pgWell w) Reg.WELL.SPARE_EN
    | _ => false
  let s := s.onFlash fun f => { f with weakRows := sparsePut (fun _ => []) f.weakRows w (List.dedup ((sparseGet (fun _ => []) f.weakRows w) ++ rows)) }
  let s := (s.onWellCal w fun c => { c with weakRow := rows.head? }).raise pgCAL 9
  if ret then s.onFt w fun f => { f with weakReturn := false, barred := f.barred || !one } else (s.onFt w fun f => { f with weakReturn := one }).askFence w 4

/-- CAL_MEASURE_PASS (R347, R348): a pass ends and, from the second on, is tested against the one before it, whose means are staged when the two
agree; a well that was moved to another
source has re-locked first (R302). -/
def calMeasure (s : State) (w : Nat) (p : CalPass) : State :=
  match s.cal.seqs.find? fun q => q.well == w && q.result == 0 with
  | none => s
  | some q =>
    if s.ns < q.start + passEndNs (q.passes + 1) || ((s.well w).moved && !s.flag (pgWell w) Reg.WELL.LO_STAT_LO_LOCKED) then s
    else
      let s := s.lastRetries w q.retries
      let next := { q with
        passes := q.passes + 1, gains := p.gains, phases := p.phases, sigma := p.sigma, trims := p.trims, heat := p.heat, phi := p.phi, g := p.g }
      if q.passes = 0 then s.putSeq next
      else if passesAgree q.gains p.gains q.phases p.phases then
        let trims := meanTrims q.trims p.trims
        let weak := s.weakRows w q.gains p.gains trims
        if weak.isEmpty then
          let sg (i : Nat) : Nat := max (q.sigma.getD i 0) (p.sigma.getD i 0)
          s.putSeq { next with
            result := 1, noise := (List.range 5).map (noiseOf (sg 0) (sg 1) (sg 2)), trims := trims, heat := meanHeat q.heat p.heat
            phi := meanF32 q.phi p.phi, g := meanF32 q.g p.g }
        else (s.putSeq { next with result := 2, weak := weak }).weakFence w weak q.forReturn
      else if 3 ≤ q.retries then
        let s := s.putSeq { next with result := 2 }
        if q.forReturn then ((s.onFt w fun f => { f with weakReturn := false }).bump pgCAL Reg.CAL.DRIFT_FENCES).raise pgCAL 8 else s.driftFence w s.fault.seq
      else (((s.putSeq { next with retries := q.retries + 1 }).lastRetries w (q.retries + 1)).bump pgCAL Reg.CAL.WELL_RETRIES).raise pgCAL 7

/-! ### The reference check -/

/-- R345: result of the deviations in ppm. -/
def refResult (fault : Bool) (d : List Int) : Nat :=
  let a := d.map Int.natAbs
  let spread := (d.foldl max (d.headD 0) - d.foldl min (d.headD 0)).natAbs
  if fault then 3
  else if a.all (· ≤ 1000) then 1
  else if a.all (· ≤ 5000) then 2
  else if a.all (5000 < ·) && decide (spread ≤ 500) then 3
  else 4

/-- R344, R345: the deviations of ρ_IREF, ρ_HSPAN and ρ_MON in ppm; `fault` says that a REFRES voltage is out of the monitor's range. -/
def refCheck (s : State) (fault : Bool) (iref hspan mon : Int) : State :=
  let r := refResult fault [iref, hspan, mon]
  let s := (((s.wr pgCAL Reg.CAL.REF_DEV_IREF (ofSigned iref 32)).wr pgCAL Reg.CAL.REF_DEV_HSPAN (ofSigned hspan 32)).wr pgCAL
    Reg.CAL.REF_DEV_MON (ofSigned mon 32)).wr pgCAL Reg.CAL.REF_STAT_RESULT r
  match r with
  | 2 => s.raise pgCAL 4
  | 3 => s.raise pgCAL 5
  | 4 => (s.raise pgCAL 6).safety 140 true
  | _ => s

/-- R344: a reference check that is asked for runs while no plan is RUNNING. -/
def refCheckAsked (s : State) (fault : Bool) (iref hspan mon : Int) : State := if s.planRunning then s else s.refCheck fault iref hspan mon

/-! ### Lanes -/

def laneCal (s : State) (p k : Nat) : CalRec := sparseGet (fun _ => {}) s.cal.lanes (16 * p + k)

def onLaneCal (s : State) (p k : Nat) (f : CalRec → CalRec) : State :=
  { s with cal := { s.cal with lanes := sparsePut (fun _ => {}) s.cal.lanes (16 * p + k) (f (s.laneCal p k)) } }

def combCal (s : State) (i : Nat) : CalRec := sparseGet (fun _ => {}) s.cal.combs i

def onCombCal (s : State) (i : Nat) (f : CalRec → CalRec) : State :=
  { s with cal := { s.cal with combs := sparsePut (fun _ => {}) s.cal.combs i (f (s.combCal i)) } }

/-- R363: the lane of a port whose turn it is: one asked for by hand, else the next in ascending number that is up and due. -/
def laneTurn (s : State) (p : Nat) : Option Nat :=
  let up (k : Nat) : Bool := bitAt (s.rd (pgHport p) Reg.HPORT.LANE_UP) k
  let due (k : Nat) : Bool := decide ((s.laneCal p k).last + s.calTicks Reg.CAL.LANE_INTERVAL_MS ≤ s.tick.number)
  let from_ := sparseGet (fun _ => 0) s.cal.laneNext p
  ((List.range 16).find? fun k => up k && (s.laneCal p k).now).orElse fun _ =>
    ((List.range 16).map fun i => (from_ + i) % 16).find? fun k => up k && due k

/-- R363: the next turn of a port after lane `k`'s. -/
def passTurn (s : State) (p k : Nat) : State :=
  if (s.laneCal p k).now then s else { s with cal := { s.cal with laneNext := sparsePut (fun _ => 0) s.cal.laneNext p ((k + 1) % 16) } }

/-- LANE_RECAL (R363, R430): the lane leaves the stripe set at the next boundary. -/
def laneRecal (s : State) (p : Nat) : State :=
  let up := s.rd (pgHport p) Reg.HPORT.LINK_STAT_LANES
  let busy := (List.range 16).any fun k => (s.laneCal p k).out
  if p < 32 && s.isOn pgCAL && s.flag pgCAL Reg.CAL.ENABLES_LANE && decide (4 ≤ up) && !busy then
    match s.laneTurn p with
    | none => s
    | some k => ((s.passTurn p k).onLaneCal p k fun c => { c with out := true, now := false, last := s.tick.number }).onPort p fun x =>
        { x with drops := addOnce k x.drops }
  else s

/-- R364: every new value of a lane lies within its limits. -/
def laneWithin (p k : Nat) (values : List Int) : Bool :=
  (values.zip (Config.laneLimits p k)).all fun e => decide (e.2.1 ≤ e.1) && decide (e.1 ≤ e.2.2)

/-- LANE_CAL_RESULT (R364): the lane is released with new or old values. -/
def laneResult (s : State) (p k : Nat) (values : List Int) (marginOld marginNew : Nat) : State :=
  if !(s.laneCal p k).out then s
  else
    let ok := laneWithin p k values && decide (9 * marginOld ≤ 10 * marginNew)
    let s := s.onPort p fun x => { x with trained := addOnce k x.trained }
    if ok then s.onLaneCal p k fun c => { c with out := false, measured := true, consec := 0, values := values }
    else
      let n := (s.laneCal p k).consec + 1
      let s := s.onLaneCal p k fun c => { c with out := false, consec := min 255 n, rejects := satAdd 16 c.rejects 1 }
      let s := (s.bump pgCAL Reg.CAL.LANE_REJECTS).raise pgCAL 11
      if n = 3 then s.raise pgCAL 12 else s

/-! ### Comb lines -/

/-- R365, R291: a line's result is plausible: corrections in 0.01 dB, frequency offsets from the grid and trim move in MHz. -/
def linePlausible (old : Int) (offs : List Int) (k : Nat) (corr move : Int) : Bool :=
  let off (i : Nat) : Int := offs.getD i 0
  let near (i : Nat) : Bool := decide ((off i - off k).natAbs ≤ 500)
  decide ((corr - old).natAbs ≤ 30) && decide (corr.natAbs ≤ 150) && decide ((off k).natAbs ≤ 25000) &&
  (k = 0 || near (k - 1)) && (k = 15 || near (k + 1)) && decide (move.natAbs ≤ 5000)

/-- COMB_RECAL (R365): each line's correction, frequency offset and trim move. -/
def combRecal (s : State) (i : Nat) (lines : List (Int × Int × Int)) : State :=
  let c := s.combCal i
  let cs := (s.source i).cs
  let due := c.now || decide (c.last + s.calTicks Reg.CAL.COMB_INTERVAL_MS ≤ s.tick.number)
  if 6 ≤ i || !s.isOn pgCAL || !s.flag pgCAL Reg.CAL.ENABLES_COMB || !litCs cs || cs == 4 || cs == 5 || !due || lines.length != 16 then s
  else
    let offs := lines.map (·.2.1)
    let res := lines.zipIdx.map fun e => (linePlausible (c.corr.getD e.2 0) offs e.2 e.1.1 e.1.2.2, e.1.1, c.corr.getD e.2 0)
    let bad := (res.filter fun r => !r.1).length
    let mask := res.zipIdx.foldl (fun a r => if r.1.1 then a else a + 2 ^ r.2) 0
    let s := s.onCombCal i fun c =>
      { c with
      now := false, last := s.tick.number, measured := true, linesRej := mask, staged := res.map fun r => if r.1 then r.2.1 else r.2.2
      stagedFreq := (lines.zip res).zipIdx.map fun e => c.freq.getD e.2 0 + if e.1.2.1 then e.1.1.2.2 else 0 }
    if bad = 0 then s else (s.bump pgCAL Reg.CAL.COMB_REJECTS bad).raise pgCAL 13

/-- R363, R365, R366: at a boundary, after the bias loop, results take effect. -/
def calBoundary (s : State) : State :=
  let s := s.each (s.cal.lanes.filter fun e => e.2.measured) fun s e =>
    s.onLaneCal (e.1 / 16) (e.1 % 16) fun c => { c with measured := false, count := satAdd 32 c.count 1, host := s.hostAtTick }
  s.each (s.cal.combs.filter fun e => e.2.measured) fun s e =>
    s.onCombCal e.1 fun c => { c with
      measured := false, corr := c.staged, staged := [], freq := c.stagedFreq, stagedFreq := [], count := satAdd 32 c.count 1, host := s.hostAtTick }

/-- R367: LANE_NOW and COMB_NOW. -/
def laneNow (s : State) (p k : Nat) : State := s.onLaneCal p k fun c => { c with now := true }

def combNow (s : State) (i : Nat) : State := if i < 6 then s.onCombCal i fun c => { c with now := true } else s

end State

/-- CAL_MEASURE_PASS (R348): what the measurement pass of a well's recalibration produced. -/
def execCalMeasurePass (at_ w : Nat) (pass : CalPass) (s : State) : Host.Outcome State Fault Refusal := liveCore s at_ fun s => s.calMeasure w pass

/-- LANE_RECAL (R363) on a port. -/
def execLaneRecal (at_ port : Nat) (s : State) : Host.Outcome State Fault Refusal := liveCore s at_ fun s => s.laneRecal port

/-- LANE_CAL_RESULT (R364): the lane's new values, and the eye margins with old and new values. -/
def execLaneCalResult (at_ port lane : Nat) (values : List Int) (marginOld marginNew : Nat) (s : State) : Host.Outcome State Fault Refusal :=
  liveCore s at_ fun s => s.laneResult port lane values marginOld marginNew

/-- COMB_RECAL (R365): correction (0.01 dB), frequency offset and trim move (MHz) of each of the 16 lines. -/
def execCombRecal (at_ src : Nat) (lines : List (Int × Int × Int)) (s : State) : Host.Outcome State Fault Refusal :=
  liveCore s at_ fun s => s.combRecal src lines

end Sys2Proof.Machine
end

