-- ==== Sys2Proof/Machine/Secure.lean ====
section
/-! DEFINITION. Signed images: signature sections (R263), key pairs (R541), and reading an image where the spec lets one lie. -/

namespace Sys2Proof.Machine

/-- Bytes of a signature section (R263). -/
def sigBytes : Nat := 16608

/-- Bytes of a key pair (R541): modulus 384, exponent 4, SLH-DSA key 48. -/
def pairBytes : Nat := 436

/-- R263: both signatures of a section over a digest verify under a key pair. -/
def sigOk (pair digest sec : List Byte) : Bool :=
  Config.rsaVerify (pair.take 388) digest (sec.take 384) && Config.slhVerify (pair.drop 388) digest ((sec.drop 384).take 16224)

/-- R408, R538: an image whose last 16,608 bytes are a signature over the rest. -/
def imageSigned (pair img : List Byte) : Bool :=
  let n := img.length - sigBytes
  sigOk pair (Config.sha384 (img.take n)) (img.drop n)

/-- Every byte of a range is zero. -/
def zeroAt (bs : List Byte) (o n : Nat) : Bool := ((bs.drop o).take n).all (· == 0)

namespace State

/-- R260: a range of hub SRAM outside the firmware area. -/
def inFreeHub (a n : Nat) : Bool := decide (hubBase + 0x400000 ≤ a ∧ a + n ≤ hubBase + 32 * 2 ^ 20)

/-- R547: a range of mapped memory in the cistern window or in hub SRAM outside the firmware area. -/
def inCisternOrHub (s : State) (a n : Nat) : Bool := inFreeHub a n || (decide (a + n ≤ 12 * 2 ^ 36) && s.inMemory s.mapNow a n)

end State

end Sys2Proof.Machine
end

