-- ==== Sys2Proof/Machine/FieldTest.lean ====
section
/-! DEFINITION. Repeats of captured failures (R382 to R384), field-test sessions (R403 to R405, R409, R410) and fleet packages (R407,
R408). -/

namespace Sys2Proof.Machine

namespace State

/-! ### Repeats -/

/-- R382: the captured tile once more, with the codes, blocks and gain of the capture and the tolerance in force now. -/
def repeatRun (s : State) (w : Nat) (c : Capture) (errs : List (List Int)) : TileRun :=
  let tile := match s.spareRow w with
    | some r => (c.codes.take 128).set r (c.codes.getD 129 [])
    | none => c.codes.take 128
  let cx : TileCtx :=
    { rows := c.codes, rho := (checkRow tile).2, zd := [], sums := [], spare := s.spareRow w, gain := c.gain
      rowOn := bitAt c.checks 0, tol := s.rowTol w c.gain, win := s.rd (pgWell w) Reg.WELL.PILOT_CTL_WIN_LOG2
      slot := 0, desc := c.desc, first := true, trims := s.trimsOf w, sym0 := s.symbolNow w, skip := s.skipsOf (dieOf w)
      inSpan := s.inSpan w, colSpan := s.colSpan w }
  c.blocks.zipIdx.foldl (fun t b =>
    vectorRun cx b.2 ⟨b.1.1, b.1.2⟩ ([], 0) (errs.getD (2 * b.2) []) (errs.getD (2 * b.2 + 1) []) t) {}

/-- R382: a check that was enabled at the failure fails in the repeat. -/
def repeatFails (s : State) (w : Nat) (c : Capture) (errs : List (List Int)) (residue : Bool) : Bool :=
  let t := s.repeatRun w c errs
  let g := if c.kind = 2 then c.blocks.length else 2 ^ c.vecLog2
  let vec := bitAt c.checks 1 && Pd.vecApplies c.desc && !(s.vecFails w g c.blocks.length c.gain t).1.isEmpty
  !t.chk.isEmpty || vec || (bitAt c.checks 2 && residue)

/-- R384, R397: a transient of a well, stamped with its failure's tick, and the fence when there are too many in one window. -/
def transient (s : State) (w tick : Nat) : State :=
  let s := { s with integ := { s.integ with transients := s.integ.transients ++ [(w, tick)] } }
  let win := max 1 (s.rd pgINTEG Reg.INTEG.TRANS_WIN_TICKS)
  let n : Nat := (s.integ.transients.filter fun e => e.1 == w && e.2 / win == tick / win).length
  if !s.isOn pgINTEG || n ≤ s.rd pgINTEG Reg.INTEG.TRANS_MAX then s
  else ((s.askFence w 2 s.fault.seq).bump pgINTEG Reg.INTEG.INTERMITTENT).raise pgINTEG 6

/-- R382: a repeat that passes every check. -/
def repeatPasses (s : State) (w : Nat) (c : Capture) : State :=
  let s := (((s.bump (pgWell w) Reg.WELL.TRANSIENTS).bump pgINTEG Reg.INTEG.TRANSIENTS).raise pgINTEG 4).record (pgWell w) 5 2 0 c.kind c.seq
  let s := { s with integ := { s.integ with captures := s.integ.captures.filter fun y => y != c } }
  let s := (s.wrBit pgINTEG Reg.INTEG.CAPTURE_BUSY c.die false).wr (pgWell w) Reg.WELL.REPEAT_STAT_LAST 1
  s.transient w c.stamp.tick

/-- R382, R383: a repeat in which a check fails; on a well fenced meanwhile only the outcome is recorded. -/
def repeatPermanent (s : State) (w : Nat) (c : Capture) : State :=
  let s := s.wr (pgWell w) Reg.WELL.REPEAT_STAT_LAST 2
  if s.st (pgWell w) = 4 then s.localise c
  else
    let s := { s with integ := { s.integ with captures := s.integ.captures.map fun y => if y == c then { y with state := 2 } else y } }
    if s.fenceAsked w then s else ((s.askFence w 1 c.seq).bump pgINTEG Reg.INTEG.PERMANENTS).raise pgINTEG 5

/-- The session of a kind in progress on a well. -/
def sessionOn (s : State) (w : Nat) (kinds : List Nat) : Option Session :=
  s.fault.sessions.find? fun x => x.well == w && kinds.contains x.kind && !x.done

/-- A session's verdict. -/
def endSession (s : State) (x : Session) (passed : Bool) : State :=
  { s with fault := { s.fault with sessions := s.fault.sessions.map fun y => if y == x then { y with done := true, passed := passed } else y } }

/-- R524: a session or a repeat is interrupted. -/
def cutSession (s : State) (x : Session) : State :=
  { s with fault := { s.fault with sessions := s.fault.sessions.map fun y => if y == x then { y with done := true, cut := true } else y } }

/-- R382, R406: the repeat running on a well. `residue` says that a residue check of it failed. -/
def repeatStep (s : State) (w : Nat) (errs : List (List Int)) (residue : Bool) : State :=
  match s.sessionOn w [3], s.integ.captures.find? fun c => c.well == w && c.state == 1 with
  | some x, some c =>
    let s := (s.bump pgINTEG Reg.INTEG.REPEATS).wr (pgWell w) Reg.WELL.REPEAT_STAT_ST 0
    let bad := s.repeatFails w c errs residue
    (if bad then s.repeatPermanent w c else s.repeatPasses w c).endSession x (!bad)
  | _, _ => s

/-! ### Sessions -/

/-- Patterns of an active package. -/
def fleetCount (p : List Byte) : Nat := fieldOf p 12 4

/-- R409: local patterns of a die. -/
def localPatterns (s : State) (d : Nat) : List (List Byte) := (s.fault.local_.filter fun e => e.1 == d).map (·.2)

/-- R410: the reference runs, on another well of their die, of the captures of wells fenced PERMANENT; `fails` names those that fail. -/
def crossCheck (s : State) (w : Nat) (fails : List Nat) : State :=
  s.each (s.fault.xcheck.filter fun e => dieOf e.1 == dieOf w && e.1 != w) fun s e =>
    let bad := fails.contains e.1
    let s := { s with fault := { s.fault with xcheck := s.fault.xcheck.filter fun y => y != e } }
    let s := (s.record (pgWell w) 9 3 0 (b2n bad) e.1).raise pgTEST 12
    if bad then (s.onFt e.1 fun f => { f with suspect := true }).demandReturn e.1 else s

/-- R405: the step at which a session fails, with the detail of its record; none when it passes. -/
def sessionFailure (s : State) (x : Session) (r : SessionRun) : Option (Nat × Nat) :=
  let loc := s.localPatterns (dieOf x.well)
  match r.structural with
  | some i => some (1, i)
  | none =>
    if r.converters then some (2, 0)
    else match (if s.flag pgTEST Reg.TEST.FT_CTL_LOCAL_EN then r.localFails.filter fun i => decide (i < loc.length) else []) with
      | i :: _ => some (3, fieldOf (loc.getD i []) 0 4)
      | [] =>
        match (if s.flag pgTEST Reg.TEST.FT_CTL_FLEET_EN && fleetCount x.package != 0 then r.fleetFails else []) with
        | id :: _ => some (4, id)
        | [] => none

/-- R405, R411: a failed session. A failed return test leaves the well fenced with its cause unchanged (R401). -/
def sessionFails (s : State) (x : Session) (step detail : Nat) : State :=
  let s := (s.bump pgTEST Reg.TEST.FT_FAILS).raise pgTEST 4
  let s := s.record (pgWell x.well) 8 0 (if x.kind = 1 then 3 else 0) step detail
  let s := if x.kind = 1 then s.askFence x.well 8 s.fault.seq else s.onFt x.well fun f => { f with weakReturn := false }
  s.endSession x false

/-- R401, R404: a session that passes; a return goes on to its recalibration. -/
def sessionPasses (s : State) (x : Session) : State :=
  if x.kind = 1 then s.endSession x true
  else
    { s with
      fault := { s.fault with sessions := s.fault.sessions.filter fun y => y != x }
      cal := { s.cal with seqs := s.cal.seqs ++ [{ well := x.well, start := x.start + 2000000, tick := s.tick.number, forReturn := true }] } }

/-- R404, R405: a session has run its steps, 1.92 ms after its start. -/
def fieldTest (s : State) (w : Nat) (r : SessionRun) : State :=
  match s.sessionOn w [1, 2] with
  | none => s
  | some x =>
    if s.ns < x.start + 1920000 then s
    else
      let s := if s.flag pgTEST Reg.TEST.FT_CTL_LOCAL_EN then s.crossCheck w r.reference else s
      let v := s.sessionFailure x r
      let n := fleetCount x.package
      let last := match v with
        | none => 1
        | some e => e.1 + 1
      let s := s.onFt w fun f =>
        { f with
          tick := s.tick.number, count := satAdd 32 f.count 1, host := s.hostNow, last := last
          nextFleet := if x.kind = 1 ∧ s.flag pgTEST Reg.TEST.FT_CTL_FLEET_EN ∧ n ≠ 0 then (f.nextFleet + min r.fleetRun 256) % n else f.nextFleet }
      let s := s.bump pgTEST Reg.TEST.FT_SESSIONS
      match v with
      | none => s.sessionPasses x
      | some e => s.sessionFails x e.1 e.2

/-! ### Fleet packages -/

/-- R407: a pattern's layout; R159, reasons 1 and 2, for its pass descriptor (log entry 35). -/
def patternOk (p : List Byte) : Bool :=
  let nv := fieldOf p 6 2
  let d := (p.drop 64).take 64
  decide (1 ≤ nv ∧ nv ≤ 512) && p.length == 34432 + 260 * nv && decide (1 ≤ fieldOf p 4 1 ∧ fieldOf p 4 1 ≤ 3) && decide (fieldOf p 5 1 ≤ 4) &&
  zeroAt p 10 2 && zeroAt p 30 34 && decide (1 ≤ Pd.kt d ∧ Pd.kt d ≤ 2048 ∧ 1 ≤ Pd.nv d ∧ Pd.nv d ≤ 1024) && !badCodes d

/-- R408: header and index of a package. -/
def packageOk (p : List Byte) : Bool :=
  let n := fleetCount p
  fieldOf p 0 4 == 0x50464247 && fieldOf p 4 2 == 1 && zeroAt p 6 2 && zeroAt p 24 40 && decide (1 ≤ n ∧ n ≤ 4096) &&
  fieldOf p 16 8 == p.length && decide (64 + 16 * n + sigBytes ≤ p.length) &&
  (List.range n).all fun i =>
    let o := fieldOf p (64 + 16 * i) 8
    let z := fieldOf p (64 + 16 * i + 8) 4
    o % 64 == 0 && decide (64 + 16 * n ≤ o ∧ o + z ≤ p.length - sigBytes) && zeroAt p (64 + 16 * i + 12) 4

/-- R541: the key manifest of the running image: part 7 of the running slot. -/
def manifest (s : State) : List Byte :=
  let f := s.boot.flash
  let img := (if s.flag pgBOOT Reg.BOOT.BOOT_STAT_SLOT then f.slotB else f.slotA).bytes
  if img.isEmpty then Config.factoryManifest
  else match (List.range 7).find? fun i => fieldOf img (64 + 64 * i) 2 == 7 with
    | none => []
    | some i => (img.drop (fieldOf img (64 + 64 * i + 8) 8)).take (fieldOf img (64 + 64 * i + 4) 4)

/-- R408: reason for which a package at an address is refused, with its bytes. -/
def fleetReason (s : State) (a : Nat) : Nat × List Byte :=
  let size := numOf (s.peek (a + 16) 8)
  if !inFreeHub a 64 || decide (24 * 2 ^ 20 < size) || !inFreeHub a size then (1, [])
  else
    let p := s.peek a size
    if !packageOk p then (1, [])
    else if !imageSigned ((s.manifest.drop pairBytes).take pairBytes) p then (2, [])
    else if !s.boot.flash.fleet.isEmpty && decide (fieldOf p 8 4 ≤ fieldOf s.boot.flash.fleet 8 4) then (3, [])
    else if (List.range (fleetCount p)).any fun i => !patternOk ((p.drop (fieldOf p (64 + 16 * i) 8)).take (fieldOf p (64 + 16 * i + 8) 4)) then (4, [])
    else if !s.fault.fleetNext.isEmpty then (5, [])
    else (0, p)

/-- R408, R423: TEST.CMD.FLEET_LOAD. -/
def fleetLoad (s : State) : State :=
  if !s.isOn pgTEST then s
  else
    let a := s.rd pgTEST Reg.TEST.FLEET_ADDR_LO_ADDR * 4096 + s.rd pgTEST Reg.TEST.FLEET_ADDR_HI_ADDR * 2 ^ 32
    let r := s.fleetReason a
    let s := s.wr pgTEST Reg.TEST.FLEET_STAT_REASON r.1
    if r.1 ≠ 0 then (s.wr pgTEST Reg.TEST.FLEET_STAT_ST 3).raise pgTEST 8
    else ({ s with fault := { s.fault with fleetNext := r.2 } }).wr pgTEST Reg.TEST.FLEET_STAT_ST 1

/-- R408, R423: the written package becomes active, once the TEST page is ON. -/
def fleetActive (s : State) : State :=
  if s.fault.fleetNext.isEmpty || !s.isOn pgTEST then s
  else
    let p := s.fault.fleetNext
    let s := ({ s with fault := { s.fault with fleetNext := [] } }).onFlash fun f => { f with fleet := p }
    let s := (s.fault.ft.map (·.1)).foldl (fun (s : State) w => s.onFt w fun f => { f with nextFleet := 0 }) s
    let s := ((s.wr pgTEST Reg.TEST.FLEET_STAT_ST 2).wr pgTEST Reg.TEST.FLEET_STAT_COUNT (fleetCount p)).wr pgTEST Reg.TEST.FLEET_VERSION (fieldOf p 8 4)
    s.raise pgTEST 7

end State

/-- REPEAT (R382). `errs` are the receivers' departures from the ideal field symbol by symbol, as PASS_RUN's; `residue` says that a residue
check of the repeat failed. -/
def execRepeat (at_ w : Nat) (errs : List (List Int)) (residue : Bool) (s : State) : Host.Outcome State Fault Refusal :=
  liveCore s at_ fun s => s.repeatStep w errs residue

/-- FIELD_TEST_SESSION (R404, R405). -/
def execFieldTestSession (at_ w : Nat) (run : SessionRun) (s : State) : Host.Outcome State Fault Refusal :=
  liveCore s at_ fun s => s.fieldTest w run

/-- FLEET_ACTIVE (R408): at a boundary after the package was written. -/
def execFleetActive (at_ : Nat) (s : State) : Host.Outcome State Fault Refusal :=
  liveCore s at_ fun s => if s.tick.off = 0 then s.fleetActive else s

end Sys2Proof.Machine
end

