-- ==== Sys2Proof/Machine/Thermal.lean ====
section
/-! DEFINITION. Temperature: samples, broken sensors (R513 to R517), limits and throttling (R518 to R521), thermal shutdown (R522), the thermal
step (R523, R524); rails, power and the cap (R526 to R529). -/

namespace Sys2Proof.Machine

/-- One sensor's sample: its index, the rail of its converter that the raw reading stands at (0 none, 1 top, 2 bottom), 0.01 °C. -/
structure Reading where
  index : Nat
  rail : Nat
  t : Int
  deriving DecidableEq, Repr

/-- Median of a list of readings; of an even number, the mean of the middle two. -/
def medianOf (l : List Int) : Option Int :=
  let m := sortBy (fun x => (x + 1000000).toNat) l
  let n := m.length
  if n = 0 then none else if n % 2 = 1 then m[n / 2]? else some ((m.getD (n / 2 - 1) 0 + m.getD (n / 2) 0) / 2)

/-- The newest sample at least 100 µs old. -/
def sampleBefore (now : Nat) (h : List (Nat × Int)) : Option Int := (h.find? fun e => decide (e.1 + 100000 ≤ now)).map (·.2)

/-- A history with a new sample, cut behind the newest that is at least 100 µs old. -/
def pushSample (now : Nat) (t : Int) (h : List (Nat × Int)) : List (Nat × Int) :=
  let young := h.takeWhile fun e => decide (now < e.1 + 100000)
  (now, t) :: young ++ (h.drop young.length).take 1

namespace State

/-- R513, R515: group of a sensor: 0 to 3 dies, 4 to 15 cisterns, 16 the hub; 17 a comb source that feeds no region. -/
def sensorGroup (s : State) (i : Nat) : Nat :=
  if i < 2496 then i / 624
  else if i < 2544 then 4 + (i - 2496) / 4
  else if i < 2556 then
    let r := s.regionOf ((i - 2544) / 2)
    if r < 4 then r else 17
  else 16

/-- R515: sensors of a group. -/
def groupSensors (s : State) (g : Nat) : List Nat :=
  if g < 4 then
    (List.range 624).map (624 * g + ·) ++ ((List.range 12).map (2544 + ·)).filter fun i => s.sensorGroup i == g
  else if g < 16 then (List.range 4).map (2496 + 4 * (g - 4) + ·)
  else if g = 16 then (List.range 4).map (2556 + ·)
  else []

/-! ### Broken sensors -/

/-- R516: a reading is more than 10 °C from another. -/
def farFrom (t u : Int) : Bool := decide (1000 < (t - u).natAbs)

/-- R516: the neighbour condition of a sensor, on the readings of this sample. -/
def neighbourBad (s : State) (i : Nat) (t : Int) : Bool :=
  let med (l : List Nat) : Bool := match medianOf (s.readings l) with
    | none => false
    | some m => farFrom t m
  if i < 2496 then
    let b := i / 3 * 3
    [b, b + 1, b + 2].all fun j => j == i || ((s.sensor j).seen && farFrom t (s.sensor j).t)
  else if 2544 ≤ i ∧ i < 2556 then
    let p := if i % 2 = 0 then i + 1 else i - 1
    let r := s.regionOf ((i - 2544) / 2)
    (s.sensor p).seen && farFrom t (s.sensor p).t &&
      match medianOf ((if r < 4 then regionWells r else []).filterMap s.wellTemp) with
      | none => false
      | some m => farFrom t m
  else med ((s.groupSensors (s.sensorGroup i)).filter (· != i))

/-- The value of a sample goes into its sensor. -/
def putReading (s : State) (x : Reading) : State :=
  s.onSensor x.index fun y => { y with t := x.t, seen := true, hist := pushSample s.ns x.t y.hist, at_ := s.ns }

/-- R516, R517: the conditions of a broken sensor, judged once every value of the sample is in; `old` is the state before it. -/
def judgeSensor (old s : State) (x : Reading) : State :=
  let was := old.sensor x.index
  let jump := was.seen && decide (s.ns ≤ was.at_ + 10000) && decide (100 < (x.t - was.t).natAbs)
  let bad := [x.rail == 1, x.rail == 2, decide (x.t < -4000 ∨ 15000 < x.t) || jump, s.neighbourBad x.index x.t]
  let runs := was.runs.zipWith (fun n b => if b then n + 1 else 0) bad
  let cause := match runs.findIdx? (fun n => decide (8 ≤ n)) with
    | none => 0
    | some k => k + 1
  let breaks := !was.broken && cause != 0
  let s := s.onSensor x.index fun y =>
    { y with
      runs := runs, broken := was.broken || breaks, cause := if breaks then cause else was.cause
      cleanSince := if !was.broken || bad.any id then none else some (was.cleanSince.getD s.ns)
      crit := if decide (s.rd pgTHERM Reg.THERM.LIMITS_CRIT_C * 100 ≤ x.t) && !(was.broken || breaks) then was.crit + 1 else 0 }
  if breaks then (s.bump pgTHERM Reg.THERM.BROKEN_COUNT).raise pgTHERM 7 else s

/-- Broken sensors of a well. -/
def brokenOf (s : State) (w : Nat) : Nat := ([3 * w, 3 * w + 1, 3 * w + 2].filter fun i => (s.sensor i).broken).length

/-- SENSOR_RESTORED (R516): no condition for 1 s. -/
def sensorRestored (s : State) (i : Nat) : State :=
  match (s.sensor i).cleanSince with
  | none => s
  | some t =>
    if !(s.sensor i).broken || decide (s.ns < t + 1000000000) then s
    else
      let s := s.onSensor i fun y => { y with broken := false, cause := 0, runs := [0, 0, 0, 0], cleanSince := none }
      let s := (s.wr pgTHERM Reg.THERM.BROKEN_COUNT (s.rd pgTHERM Reg.THERM.BROKEN_COUNT - 1)).raise pgTHERM 8
      let w := i / 3
      if i < 2496 && s.brokenOf w == 0 && (s.ftRec w).cause == 7 then s.demandReturn w else s

/-! ### The thermal step -/

/-- R524: the recalibration or session of a well is interrupted and due again; its slot ends at the next boundary. -/
def interruptWork (s : State) (w : Nat) : State :=
  let s := s.each (s.cal.seqs.filter fun q => q.well == w && q.result == 0) fun s q =>
    let s := s.putSeq { q with result := 3 }
    if q.forReturn then s.demandReturn w else s.onWellCal w fun c => { c with dueNow := true, dueTick := s.tick.number }
  s.each (s.fault.sessions.filter fun x => x.well == w && !x.done) fun s x =>
    let s := s.cutSession x
    match x.kind with
    | 1 => s.onFt w fun f => { f with dueNow := true, last := 6 }
    | 2 => s.demandReturn w
    | _ => s.requeueRepeat w

def group (s : State) (g : Nat) : ThermGroup := sparseGet (fun _ => {}) s.therm.groups g

def onGroup (s : State) (g : Nat) (f : ThermGroup → ThermGroup) : State :=
  { s with therm := { s.therm with groups := sparsePut (fun _ => {}) s.therm.groups g (f (s.group g)) } }

/-- R530: the FAST register. -/
def showFast (s : State) : State :=
  let on (g : Nat) : Bool := (s.group g).fast
  let d := (List.range 4).foldl (fun a i => a + b2n (on i) * 2 ^ i) 0
  ((s.wr pgTHERM Reg.THERM.FAST_DIE d).wr pgTHERM Reg.THERM.FAST_CISTERN (b2n ((List.range 12).any fun c => on (4 + c)))).wr pgTHERM
    Reg.THERM.FAST_HUB (b2n (on 16))

/-- R515: a fast-rate condition holds for a group at this sample. -/
def goFast (s : State) (g : Nat) : State := (s.onGroup g fun x => { x with fast := true, fastAt := s.ns }).showFast

/-- R523: a well's T_w at this sample: it enters a thermal step, or its calm samples are counted. -/
def stepWell (s : State) (w : Nat) (t : Int) : State :=
  let h := sparseGet (fun _ => []) s.therm.hist w
  let rate : Nat := s.rd pgTHERM Reg.THERM.STEP_CTL_RATE
  let moved := match sampleBefore s.ns h with
    | none => false
    | some u => decide (rate < (t - u).natAbs)
  let s := { s with therm := { s.therm with hist := sparsePut (fun _ => []) s.therm.hist w (pushSample s.ns t h) } }
  let calm (s : State) (n : Nat) : State := { s with therm := { s.therm with calm := sparsePut (fun _ => 0) s.therm.calm w n } }
  if moved then
    let s := (calm s 0).goFast (dieOf w)
    if (s.well w).darkStep then s
    else
      let s := ((s.onWell w fun x => { x with darkStep := true }).interruptWork w).bump pgTHERM Reg.THERM.STEP_COUNT
      (s.bump pgTHERM Reg.THERM.STEP_WELLS_COUNT).raise pgTHERM 9
  else if (s.well w).darkStep then (calm s (sparseGet (fun _ => 0) s.therm.calm w + 1)).stepResume w
  else s

/-- R309, R517, R523: a well at a sample: its step, its heaters unless all its sensors are broken, and its fence when two are. -/
def sampleWellTemp (s : State) (w : Nat) : State :=
  let s := if 2 ≤ s.brokenOf w ∧ s.st (pgWell w) ≠ 4 then s.askFence w 7 else s
  match s.wellTemp w with
  | none => s
  | some t => (s.stepWell w t).strobeHeaters w t

/-! ### Limits and throttling -/

/-- R517: a reading as the limits take it. -/
def limitReading (s : State) (i : Nat) : Option Int :=
  let x := s.sensor i
  if !x.seen then none else some (if x.broken then s.rd pgTHERM Reg.THERM.LIMITS_THROTTLE_C * 100 else x.t)

/-- R518: hottest reading of a group. -/
def hottest (s : State) (g : Nat) : Option Int :=
  (s.groupSensors g).foldl (fun m i => match m, s.limitReading i with
    | none, r => r
    | some a, some b => some (max a b)
    | some a, none => some a) none

/-- R519: highest level of the ladder. -/
def maxLevel (s : State) : Nat := if s.flag pgTHERM Reg.THERM.THR_CTL_MODE then 7 else 2

/-- R518, R529: the level that a die is asked for. -/
def askedLevel (s : State) (d : Nat) : Nat :=
  ((List.range 13).map fun k => (s.group (4 + k)).level).foldl max (max (s.group d).level (s.rd pgPWR Reg.PWR.CAP_STAT_LEVEL))

def levelOf (s : State) (d : Nat) : Nat := bits (s.rd pgTHERM Reg.THERM.LEVEL) (4 * d) 4

def setLevel (s : State) (d v : Nat) : State :=
  let old := s.levelOf d
  let s := if old < v then s.riseClock d else s.rebaseClock d
  let s := s.wr pgTHERM Reg.THERM.LEVEL (setBits (s.rd pgTHERM Reg.THERM.LEVEL) (4 * d) 4 v)
  if old = 0 ∧ v ≠ 0 then s.raise pgTHERM 5 else if old ≠ 0 ∧ v = 0 then s.raise pgTHERM 6 else s

/-- R521: rises take effect at once. -/
def raiseLevels (s : State) : State := s.each [0, 1, 2, 3] fun s d => if s.levelOf d < s.askedLevel d then s.setLevel d (s.askedLevel d) else s

/-- R521, R530: at a boundary falls take effect, after the ticks with a die above level 0 are counted. -/
def lowerLevels (s : State) : State :=
  let s := if s.rd pgTHERM Reg.THERM.LEVEL = 0 then s else s.bump pgTHERM Reg.THERM.THROTTLE_TICKS
  s.each [0, 1, 2, 3] fun s d => if s.levelOf d = s.askedLevel d then s else s.setLevel d (s.askedLevel d)

/-- R520: reading below the hysteresis. -/
def relaxBelow (s : State) : Int :=
  ((s.rd pgTHERM Reg.THERM.LIMITS_THROTTLE_C : Nat) : Int) * 100 - ((s.rd pgTHERM Reg.THERM.THR_CTL_HYST_C : Nat) : Int) * 100

/-- R518, R520: a group's limits at this sample. -/
def limitGroup (s : State) (g : Nat) : State :=
  match s.hottest g with
  | none => s
  | some h =>
    let warn := decide ((s.rd pgTHERM Reg.THERM.LIMITS_WARN_C : Nat) * 100 ≤ h)
    let thr : Int := (s.rd pgTHERM Reg.THERM.LIMITS_THROTTLE_C : Nat) * 100
    let x := s.group g
    let s := if warn && !x.warned then (s.bump pgTHERM Reg.THERM.WARN_COUNT).raise pgTHERM 4 else s
    let below := decide (h < s.relaxBelow)
    s.onGroup g fun x =>
      { x with
        warned := warn, level := if thr ≤ h then max 1 x.level else x.level
        above := if thr < h then some (x.above.getD s.ns) else none
        below := if below then some (x.below.getD s.ns) else none }

/-- R515: a sensor's fast-rate conditions. -/
def fastSensor (s : State) (i : Nat) : Bool :=
  let x := s.sensor i
  x.seen && !x.broken &&
    (decide ((s.rd pgTHERM Reg.THERM.LIMITS_WARN_C : Int) * 100 - 800 ≤ x.t) ||
     match sampleBefore s.ns (x.hist.drop 1) with
     | none => false
     | some u => decide (((s.rd pgTHERM Reg.THERM.STEP_CTL_RATE : Nat) : Int) < x.t - u))

/-- R530: HOT_01, HOT_23 and HOT_MOD. -/
def showHot (s : State) : State :=
  let hub := (List.range 13).map fun k => s.hottest (4 + k)
  let hot (d : Nat) : Nat := match (s.hottest d :: hub).filterMap id with
    | [] => 0x8000
    | x :: rest => ofSigned (rest.foldl max x) 16
  let s := (((s.wr pgTHERM Reg.THERM.HOT_01_D0 (hot 0)).wr pgTHERM Reg.THERM.HOT_01_D1 (hot 1)).wr pgTHERM Reg.THERM.HOT_23_D2 (hot 2)).wr
    pgTHERM Reg.THERM.HOT_23_D3 (hot 3)
  let best := s.therm.sensors.foldl (fun (m : Option (Nat × Int)) e => match m, s.limitReading e.1 with
    | none, r => r.map fun t => (e.1, t)
    | some a, some t => some (if a.2 < t then (e.1, t) else a)
    | some a, none => some a) none
  match best with
  | none => s
  | some b => (s.wr pgTHERM Reg.THERM.HOT_MOD_SENSOR b.1).wr pgTHERM Reg.THERM.HOT_MOD_T (ofSigned b.2 16)

/-! ### Thermal shutdown -/

/-- R522: the critical shutdown. -/
def critical (s : State) : State :=
  let before := s
  let s := { s with therm := { s.therm with shutdown := true, coolSince := none } }
  let s := beginClear before s
  let s := s.interruptHandovers.each allSources fun s i => if litCs (s.source i).cs then s.darken i 0 0 else s
  let s := { s with light := { s.light with closed := 0xFFFFFFFF, reopen := [], probing := [] } }
  let s := s.each s.usedWells fun s w => s.overrunWell w
  let s := s.expireQueues
  (s.raise pgTHERM 10).safety 141 true

/-- R522: every sensor that is not broken reads below 80 °C. -/
def allCool (s : State) : Bool := s.therm.sensors.all fun e => e.2.broken || !e.2.seen || decide (e.2.t < 8000)

/-- SENSOR_SAMPLE (R515). In the shutdown of R522 only the readings are taken. -/
def sensorSample (s : State) (l : List Reading) : State :=
  let l := l.filter fun x => decide (x.index < 2560)
  let old := s
  let s := s.each l putReading
  let s := s.each l fun s x => judgeSensor old s x
  let s := { s with therm := { s.therm with coolSince := if s.allCool then some (s.therm.coolSince.getD s.ns) else none } }
  if s.therm.shutdown then s.showHot
  else
    let ws : List Nat := List.dedup ((l.filter fun x => decide (x.index < 2496)).map fun x => x.index / 3)
    let s := s.each ws sampleWellTemp
    let gs : List Nat := List.dedup (l.map fun x => s.sensorGroup x.index)
    let s := s.each (l.filter fun x => s.fastSensor x.index) fun s x =>
      let g := s.sensorGroup x.index
      if g ≤ 16 then s.goFast g else s
    let s := (s.each gs limitGroup).raiseLevels.showHot
    if l.any fun x => decide (2 ≤ (s.sensor x.index).crit) then s.critical else s

/-- FAST_RATE_END (R515). -/
def fastRateEnd (s : State) (g : Nat) : State :=
  let x := s.group g
  if x.fast && decide (x.fastAt + 10000000 ≤ s.ns) then (s.onGroup g fun x => { x with fast := false }).showFast else s

/-- THROTTLE_RISE (R520). -/
def throttleRise (s : State) (g : Nat) : State :=
  match (s.group g).above with
  | none => s
  | some t =>
    if s.ns < t + s.rd pgTHERM Reg.THERM.THR_CTL_RISE_10US * 10000 then s
    else (s.onGroup g fun x => { x with level := min s.maxLevel (x.level + 1), above := some s.ns }).raiseLevels

/-- THROTTLE_RELAX (R520); the level in force falls at the next boundary (R521). -/
def throttleRelax (s : State) (g : Nat) : State :=
  match (s.group g).below with
  | none => s
  | some t =>
    if s.ns < t + s.rd pgTHERM Reg.THERM.THR_CTL_RELAX_MS * 1000000 then s
    else s.onGroup g fun x => { x with level := x.level - 1, below := some s.ns }

/-! ### Rails and power -/

/-- R526: nominal voltage in mV and peak current in 0.1 A of a rail. -/
def railMv (k : Nat) : Nat := [650, 750, 850, 1200, 1050, 3300, 3300].getD k 0
def railPeak (k : Nat) : Nat := [12000, 1600, 7000, 400, 2600, 800, 750].getD k 0

/-- A voltage lies outside a percentage of its nominal. -/
def outsidePct (pct nom v : Nat) : Bool := decide (pct * nom < 100 * ((v : Int) - (nom : Int)).natAbs)

/-- Since when a condition has held, kept in a table of instants plus one. -/
def sinceTable (l : List (Nat × Nat)) (k now : Nat) (holds : Bool) : List (Nat × Nat) :=
  sparsePut (fun _ => 0) l k (if holds then (if sparseGet (fun _ => 0) l k = 0 then now + 1 else sparseGet (fun _ => 0) l k) else 0)

/-- R527: one rail's measurement. -/
def railOne (s : State) (k mv a : Nat) : State :=
  let s := (s.wr pgPWR Reg.PWR.RAIL_MV mv k).wr pgPWR Reg.PWR.RAIL_A a k
  let warn := outsidePct 3 (railMv k) mv
  let s := if warn && !s.rdBit pgPWR Reg.PWR.RAIL_STAT_WARN k then s.raise pgPWR 4 else s
  let s := s.wrBit pgPWR Reg.PWR.RAIL_STAT_WARN k warn
  let out := sinceTable s.therm.railOut k s.ns (outsidePct 5 (railMv k) mv)
  let over_ := sinceTable s.therm.railOver k s.ns (decide (railPeak k < a))
  let s := { s with therm := { s.therm with railOut := out, railOver := over_ } }
  let held (l : List (Nat × Nat)) (d : Nat) : Bool :=
    let t := sparseGet (fun _ => 0) l k
    t != 0 && decide (t - 1 + d ≤ s.ns)
  if (held out 10000 || held over_ 1000000) && !s.rdBit pgPWR Reg.PWR.RAIL_STAT_FAULT k then
    ((s.wrBit pgPWR Reg.PWR.RAIL_STAT_FAULT k true).raise pgPWR 5).safety 142 true
  else s

/-- Average power over the last 10 ms, in 0.1 mW. -/
def meanPower (s : State) : Nat :=
  let l := s.therm.power.map (·.2)
  if l.isEmpty then 0 else l.foldl (· + ·) 0 / l.length

/-- One millijoule in 10⁻¹³ J. -/
def milliJoule : Nat := 10000000000

/-- R529: the average is below 95 % of the cap. -/
def belowCap (s : State) : Bool := decide (100 * s.meanPower < 95 * s.rd pgPWR Reg.PWR.CAP_W * 10000)

/-- R527, R529, R532: power and energy at a measurement. -/
def powerSample (s : State) (p : Nat) : State :=
  let last := ((s.therm.power.head?).map (·.1)).getD 0
  let e := s.therm.energyRest + p * (s.ns - last)
  let s := { s with therm := { s.therm with
      energyRest := e % milliJoule, power := (s.ns, p) :: s.therm.power.filter fun x => decide (s.ns < x.1 + 10000000) } }
  let s := s.wr64 pgPWR Reg.PWR.ENERGY_LO (s.rd64 pgPWR Reg.PWR.ENERGY_LO + e / milliJoule)
  let w := (s.meanPower + 500) / 1000
  let s := s.wr pgPWR Reg.PWR.POWER_W w
  let s := if s.rd pgPWR Reg.PWR.PEAK_W < w then s.wr pgPWR Reg.PWR.PEAK_W w else s
  { s with therm := { s.therm with capBelow := if s.belowCap then some (s.therm.capBelow.getD s.ns) else none } }

/-- RAIL_SAMPLE (R527): per rail mV and 0.1 A, and the comb sources' electrical power in 0.1 W (R316). -/
def railSample (s : State) (rails : List (Nat × Nat)) (combs : List Nat) : State :=
  let s := s.each (rails.take 7).zipIdx fun s e => s.railOne e.2 e.1.1 e.1.2
  let s := s.each (combs.take 6).zipIdx fun s e => s.wr (pgComb e.2) Reg.COMB.POWER_W e.1
  s.powerSample (((rails.take 7).map fun e => e.1 * e.2).foldl (· + ·) 0)

def setCap (s : State) (v : Nat) : State :=
  let was := s.rd pgPWR Reg.PWR.CAP_STAT_LEVEL
  let s := (s.wr pgPWR Reg.PWR.CAP_STAT_LEVEL v).wr pgPWR Reg.PWR.CAP_STAT_ACTIVE (b2n (v != 0))
  if was = 0 ∧ v ≠ 0 then s.raise pgPWR 6 else s

/-- POWER_CAP (R529): the cap level at a boundary. -/
def capBoundary (s : State) : State :=
  let cap := s.rd pgPWR Reg.PWR.CAP_W
  let lvl := s.rd pgPWR Reg.PWR.CAP_STAT_LEVEL
  if cap = 0 then (if lvl = 0 then s else s.setCap 0)
  else if cap * 10000 < s.meanPower then s.setCap (min s.maxLevel (lvl + 1))
  else match s.therm.capBelow with
    | some t => if t + 50000000 ≤ s.ns ∧ lvl ≠ 0 then s.setCap (lvl - 1) else s
    | none => s

/-- R521, R529: the cap, and the levels in force, at a boundary. -/
def thermBoundary (s : State) : State := s.capBoundary.lowerLevels

end State

/-- SENSOR_SAMPLE (R515): the management logic runs through a shutdown. -/
def execSensorSample (at_ : Nat) (readings : List (Nat × Nat × Int)) (s : State) : Host.Outcome State Fault Refusal :=
  live s at_ fun s => s.sensorSample (readings.map fun r => ⟨r.1, r.2.1, r.2.2⟩)

/-- SENSOR_RESTORED (R516). -/
def execSensorRestored (at_ sensor : Nat) (s : State) : Host.Outcome State Fault Refusal := live s at_ fun s => s.sensorRestored sensor

/-- THROTTLE_RISE (R520) of a group: 0 to 3 dies, 4 to 15 cisterns, 16 the hub. -/
def execThrottleRise (at_ group : Nat) (s : State) : Host.Outcome State Fault Refusal :=
  liveCore s at_ fun s => if group ≤ 16 then s.throttleRise group else s

/-- THROTTLE_RELAX (R520). -/
def execThrottleRelax (at_ group : Nat) (s : State) : Host.Outcome State Fault Refusal :=
  liveCore s at_ fun s => if group ≤ 16 then s.throttleRelax group else s

/-- FAST_RATE_END (R515). -/
def execFastRateEnd (at_ group : Nat) (s : State) : Host.Outcome State Fault Refusal :=
  live s at_ fun s => if group ≤ 16 then s.fastRateEnd group else s

/-- RAIL_SAMPLE (R527). -/
def execRailSample (at_ : Nat) (rails : List (Nat × Nat)) (combs : List Nat) (s : State) : Host.Outcome State Fault Refusal :=
  live s at_ fun s => s.railSample rails combs

end Sys2Proof.Machine
end

