-- ==== Sys2Proof/Machine/Boot.lean ====
section
/-! DEFINITION. Resets (R534, R535, R560, R561), the boot sequence (R542 to R546), updates (R547, R548), evidence (R552, R553), the owner key
(R554), and the loss of REFCLK (R562). -/

namespace Sys2Proof.Machine

/-- R534: kinds of reset, by their bit of RESET_CAUSE. -/
def causePowerOn : Nat := 0
def causePin : Nat := 1
def causeSoft : Nat := 2
def causeWatchdog : Nat := 3
def causeThermal : Nat := 4

/-- What reading flash and the references gives the boot sequence. -/
structure BootRun where
  /-- ADDR_SEL (R560). -/
  straps : Nat
  /-- R549: the reconstruction of UDS passed its check. -/
  puf : Bool
  /-- Why slot A and slot B fail on being read (R543, R540): 0, or a reason of R547, or 5. -/
  slotA : Nat
  slotB : Nat
  /-- Why the two copies of the calibration image fail: 0, or a code of FAIL_CAL. -/
  cal : Nat × Nat
  /-- R537: the weak-row records, the source record, fail their MAC. -/
  badRows : Bool
  badSource : Bool
  /-- R344: a REFRES voltage is out of range; the three deviations in ppm. -/
  refFault : Bool
  iref : Int
  hspan : Int
  mon : Int
  deriving DecidableEq, Repr

namespace State

def slot (s : State) (k : Nat) : FwSlot := if k = 0 then s.boot.flash.slotA else s.boot.flash.slotB

def onSlot (s : State) (k : Nat) (f : FwSlot → FwSlot) : State :=
  s.onFlash fun x => if k = 0 then { x with slotA := f x.slotA } else { x with slotB := f x.slotB }

/-! ### Resets -/

/-- R535: every register, memory and counter is cleared; flash, the input pins and the commands waiting stay. An image being written leaves
its slot without a whole image. -/
def resetState (s : State) (cause : Nat) : State :=
  let s := if s.boot.writing.isSome then s.onSlot (1 - s.boot.flash.active) fun x => { x with ok := false } else s
  { State.reset with
    regs := [(0x05C, BitVec.ofNat 32 (2 ^ cause))]
    pins := { s.pins with faultN := false }
    boot := { flash := s.boot.flash, held := true }
    pending := s.pending
    free := s.free }

/-- POWER_ON (R534): PWRGD rises with every rail in tolerance. -/
def powerOn (s : State) : State :=
  if s.pins.pwrgd then s else ({ s with pins := { s.pins with pwrgd := true } }).resetState causePowerOn

/-- PWRGD_FALL, BROWN_OUT (R561): the module is held in reset, its light dark. -/
def pwrgdFall (s : State) : State := ({ s with pins := { s.pins with pwrgd := false } }).resetState causePowerOn

/-- RESET_N_ASSERT (R561): in a reset already under way its cause stays. -/
def resetNAssert (s : State) : State :=
  let t := { s with pins := { s.pins with resetN := false } }
  if !s.pins.pwrgd || s.boot.held then t else t.resetState causePin

/-- THERMAL_RESET (R522): every sensor below 80 °C for 10 s. -/
def thermalReset (s : State) : State :=
  match s.therm.coolSince with
  | none => s
  | some t => if s.therm.shutdown && decide (t + 10000000000 ≤ s.ns) then s.resetState causeThermal else s

/-- SERVICE_WATCHDOG_RESET (R418): the miss persists for 1 s. -/
def serviceWatchdogReset (s : State) : State :=
  match s.fault.svcMiss with
  | none => s
  | some t => if t + 1000000000 ≤ s.ns then s.resetState causeWatchdog else s

/-! ### Boot (R542, R543) -/

/-- R543: a slot boots: its reading, its image, and its SVN against MIN_SVN; the reason when it does not. -/
def slotReason (s : State) (k fault : Nat) : Nat :=
  if fault ≠ 0 then fault else if !(s.slot k).ok then 1 else if (s.slot k).svn < s.boot.flash.minSvn then 3 else 0

/-- R416, R543: the module enters RECOVERY, and SAFE, which only a reset leaves. -/
def recovery (s : State) : State :=
  let s := { s with fault := { s.fault with safeHard := true } }
  ((s.wr pgBOOT Reg.BOOT.BOOT_STAT_PHASE 5).wr pgSYS Reg.SYS.MODULE_STATE_MS 4).raise pgTEST 11

/-- R293: a source that the record marks is never lit again. -/
def loadSources (s : State) : State :=
  let f := s.boot.flash
  let s := { s with light := { s.light with feed := f.feed } }
  let s := s.each f.retired fun s i => s.setCs i 6
  s.each f.failed fun s i => s.setCs i 7

/-- R118, R343, R350: what the calibration image and the field records give the registers. -/
def loadCalibration (s : State) : State :=
  let f := s.boot.flash
  let s := s.each f.spare fun s e => (s.wr (pgWell e.1) Reg.WELL.SPARE_EN 1).wr (pgWell e.1) Reg.WELL.SPARE_ROW e.2
  let s := s.each f.weakRows fun s e => match e.2 with
    | [r] => if r ≤ 128 then (s.wr (pgWell e.1) Reg.WELL.SPARE_EN 1).wr (pgWell e.1) Reg.WELL.SPARE_ROW r else s
    | _ => s
  let s := s.each (List.range 832) fun s w => s.wr (pgCluster (w / 16)) Reg.CLUSTER.CONV_MODE_HTR_SPAN (Config.heaterSpan w % 2) (w % 16)
  let s := s.each (List.range 832) fun s w => (Config.factoryTrims w).foldl (fun s e => s.putTrimWord w e) s
  s.each allSources fun s i => s.wr (pgComb i) Reg.COMB.LOOP_TARGET (ofSigned (Config.loopTarget i) 16)

/-- R311, R350: wells that boot leaves out. -/
def bootExcluded (s : State) (w : Nat) : Bool :=
  crosstalkBad w || match s.boot.flash.weakRows.find? fun e => e.1 == w with
    | none => false
    | some e => decide (2 ≤ e.2.length) || e.2.contains 129

/-- R544: pages that boot enables. -/
def bootPages (s : State) : List Nat :=
  [pgCAL, pgINTEG, pgTEST] ++ (List.range 12).map pgCistern ++ (List.range 4).map pgWdie ++ (List.range 52).map pgCluster ++
  (allSources.filter fun i => s.light.feed.contains i).map pgComb ++ ((List.range 832).filter s.goodWell).map pgWell ++
  (if s.boot.flash.fabricAuto then (List.range 32).map pgHport else [])

/-- R544: CTL.EN of a page is written, outside any group. -/
def enablePage (s : State) (pg : Nat) : State :=
  let a := regAddr pg 0x008
  { s with txn := { s.txn with lone := s.txn.lone ++ [⟨s.now, a, setBits (s.word a).toNat 0 1 1 |> BitVec.ofNat 32⟩] } }

/-- R402, R542 step 7: every good well is due for a recalibration, and those with a logged fence for a full session. -/
def bootDemands (s : State) : State :=
  let s := s.each ((List.range 832).filter s.goodWell) fun s w => s.onWellCal w fun c => { c with dueNow := true }
  let l := (s.boot.flash.fenceLog.filter fun e => decide (16 ≤ e.2)).map fun e => e.1
  s.each (List.dedup l) fun s w => if s.goodWell w then s.onFt w fun f => { f with dueNow := true } else s

/-- R260: the firmware writes the header of its zero block, with ZERO_RANGE (R182). -/
def zeroBlockHeader (s : State) : State := s.putBytes (hubBase + 0x100) (bytesOf 4 (2 ^ 25))

/-- Steps 3 to 6 of R542, in the image of slot `k`. The module is SAFE as long as OPTOFF_N is low (R313). -/
def bootStage1 (s : State) (k : Nat) (r : BootRun) : State :=
  let x := s.slot k
  let s := ((s.wr pgBOOT Reg.BOOT.BOOT_STAT_SLOT k).wr pgBOOT Reg.BOOT.FW_VERSION x.version).wr pgBOOT Reg.BOOT.SVN_SVN x.svn
  let s := (s.wr pgBOOT Reg.BOOT.BOOT_STAT_FAIL_CAL r.cal.1).zeroBlockHeader
  if r.cal.1 ≠ 0 ∧ r.cal.2 ≠ 0 then s.recovery
  else
    let s := if r.badRows || r.badSource then s.raise pgBOOT 9 else s
    let s := s.onFlash fun f =>
      { f with
        weakRows := if r.badRows then [] else f.weakRows
        feed := if r.badSource then [0, 1, 2, 3] else f.feed
        failed := if r.badSource then [] else f.failed
        retired := if r.badSource then [] else f.retired }
    let s := s.each ((List.range 832).filter s.bootExcluded) fun s w => s.onFt w fun f => { f with excluded := true }
    let s := s.loadCalibration.loadSources
    let s := s.each s.bootPages enablePage
    let s := if s.boot.flash.fleet.isEmpty then s
      else ((s.wr pgTEST Reg.TEST.FLEET_STAT_ST 2).wr pgTEST Reg.TEST.FLEET_STAT_COUNT (fleetCount s.boot.flash.fleet)).wr pgTEST
        Reg.TEST.FLEET_VERSION (fieldOf s.boot.flash.fleet 8 4)
    let s := (s.wr pgBOOT Reg.BOOT.BOOT_STAT_PHASE 3).wr pgSYS Reg.SYS.MODULE_STATE_MS 1
    let s := if s.pins.optoffN then s else s.safety 139 false
    s.bootDemands.refCheck r.refFault r.iref r.hspan r.mon

/-- R543: the slot is selected; a pending trial is cleared first. -/
def bootSlots (s : State) (r : BootRun) : State :=
  let f := s.boot.flash
  let first := f.trial.getD f.active
  let trial := f.trial.isSome
  let s := s.onFlash fun f => { f with trial := none }
  let fault (k : Nat) : Nat := if k = 0 then r.slotA else r.slotB
  let why := s.slotReason first (fault first)
  if why = 0 then (s.wr pgBOOT Reg.BOOT.BOOT_STAT_TRIAL (b2n trial)).bootStage1 first r
  else
    let s := s.wr pgBOOT Reg.BOOT.BOOT_STAT_FAIL_IMG why
    let other := 1 - first
    if s.slotReason other (fault other) = 0 then
      ((s.wr pgBOOT Reg.BOOT.BOOT_STAT_FALLBACK 1).raise pgBOOT 5).bootStage1 other r
    else s.recovery

/-- RESET_RELEASE (R542): tick 0 begins and boot steps 1 to 6 run. -/
def resetRelease (s : State) (r : BootRun) : State :=
  if !s.pins.pwrgd || (s.boot.begun && !s.boot.held) then s
  else
    let s := { s with
      tick := {}, pins := { s.pins with resetN := true, addrSel := r.straps % 8 }
      conv := { s.conv with clrPin := !s.pins.clrN }
      boot := { s.boot with held := false, begun := true } }
    let s := s.onFlash fun f => { f with bootCount := (f.bootCount + 1) % 2 ^ 32 }
    let f := s.boot.flash
    let s := ((s.wr pgBOOT Reg.BOOT.BOOT_COUNT f.bootCount).wr pgBOOT Reg.BOOT.CFG_FABRIC_AUTO (b2n f.fabricAuto)).wr pgBOOT Reg.BOOT.SVN_MIN f.minSvn
    let s := s.wr pgSEC Reg.SEC.OWN_STAT_OWNER_SEQ f.ownerSeq
    let s := if r.puf then
        (((s.wr pgSEC Reg.SEC.SEC_STAT_PUF_OK 1).wr pgSEC Reg.SEC.SEC_STAT_RP_OK 1).wr pgSEC Reg.SEC.SEC_STAT_OWNER (b2n (!f.ownerKey.isEmpty))).bootSlots r
      else (s.raise pgSEC 8).recovery
    s.releaseFault

/-- R15, R542 step 8: logical wells on good wells in ascending Well ID. -/
def bootMap (s : State) : State :=
  let ok := (List.range 832).filter fun w => s.goodWell w && s.st (pgWell w) != 4 && s.st (pgWell w) != 5
  { s with cal := { s.cal with map := (ok ++ List.replicate 800 noWell).take 800 } }

/-- R542 step 7 has ended for a well: it is fenced, or calibrated with no session waiting or running. -/
def bootWellDone (s : State) (w : Nat) : Bool :=
  s.st (pgWell w) == 4 || s.st (pgWell w) == 5 || ((s.wellCal w).count != 0 && !(s.wellCal w).dueNow && !(s.ftRec w).dueNow && !s.inSlot w)

/-- R402: wells that failed their boot session are left out until the next power-on. -/
def excludeFailed (s : State) : State :=
  let l := (s.fault.ft.filter fun e => decide (2 ≤ e.2.last ∧ e.2.last ≤ 5)).map fun e => e.1
  s.each l fun s w => s.onFt w fun f => { f with excluded := true }

/-- R545: milliseconds since the release of reset. -/
def readyMs (s : State) : Nat := s.ns / 1000000

/-- R551: SEC.DEVID_HASH. -/
def showDeviceHash (s : State) : State := s.each (List.range 12) fun s i => s.wr pgSEC Reg.SEC.DEVID_HASH (fieldOf Config.deviceHash (4 * i) 4) i

/-- R542: step 7 has ended on every good well of a boot under way. -/
def mayEndBoot (s : State) : Bool :=
  s.boot.begun && !s.boot.ended && s.rd pgBOOT Reg.BOOT.BOOT_STAT_PHASE == 3 && ((List.range 832).filter s.goodWell).all s.bootWellDone

/-- BOOT_DONE (R545): the mapping and the key derivation are complete. -/
def bootDone (s : State) : State :=
  if !s.mayEndBoot then s
  else
    let s := s.excludeFailed.bootMap
    let s := { s with boot := { s.boot with ended := true } }
    let s := (s.showDeviceHash.wr pgSEC Reg.SEC.SEC_STAT_KEYS_READY 1).wr pgBOOT Reg.BOOT.BOOT_STAT_PHASE 4
    let s := (s.wr pgBOOT Reg.BOOT.READY_MS s.readyMs).raise pgBOOT 4
    if s.rd pgSYS Reg.SYS.MODULE_STATE_MS = 4 then s else s.wr pgSYS Reg.SYS.MODULE_STATE_MS (if s.relief == 0 then 3 else 2)

/-- R548: the running image is an uncommitted trial. -/
def trialRunning (s : State) : Bool :=
  s.flag pgBOOT Reg.BOOT.BOOT_STAT_TRIAL && s.rd pgBOOT Reg.BOOT.BOOT_STAT_SLOT != s.boot.flash.active

/-- BOOT_LATE (R546). -/
def bootLate (s : State) : State :=
  if !s.boot.begun || s.boot.ended || s.boot.late || decide (s.ns < 45000000000) then s
  else
    let s := ({ s with boot := { s.boot with late := true } }).raise pgBOOT 6
    if s.flag pgBOOT Reg.BOOT.BOOT_STAT_TRIAL then s.resetState causeWatchdog else s

/-! ### Updates (R547, R548) -/

/-- R538: an image's header. -/
def firmwareOk (img : List Byte) : Bool :=
  let part (i : Nat) : Nat := 64 + 64 * i
  fieldOf img 0 4 == 0x57464247 && fieldOf img 4 2 == 1 && fieldOf img 6 2 == 7 && decide (fieldOf img 14 2 < 2) && zeroAt img 24 40 &&
  fieldOf img 16 8 == img.length && decide (20704 ≤ img.length ∧ img.length ≤ 255 * 2 ^ 20) &&
  ([1, 2, 3, 4, 5, 6, 7].all fun t => (List.range 7).any fun i => fieldOf img (part i) 2 == t) &&
  (List.range 7).all fun i =>
    let z := fieldOf img (part i + 4) 4
    let o := fieldOf img (part i + 8) 8
    zeroAt img (part i + 2) 2 && decide (512 ≤ o ∧ o + z ≤ img.length - sigBytes) && (fieldOf img (part i) 2 != 1 || decide (z ≤ 2 * 2 ^ 20))

/-- R547: reasons 1 to 3 for an image at an address, with its bytes; `hub` confines it to hub SRAM (R543). -/
def imageReason (s : State) (a : Nat) (hub : Bool) : Nat × List Byte :=
  let here (n : Nat) : Bool := if hub then inFreeHub a n else s.inCisternOrHub a n
  let size := numOf (s.peek (a + 16) 8)
  if !here 64 || decide (255 * 2 ^ 20 < size) || !here size then (1, [])
  else
    let img := s.peek a size
    if !firmwareOk img then (1, [])
    else if !imageSigned Config.rootKey img then (2, [])
    else if fieldOf img 12 2 < s.boot.flash.minSvn then (3, [])
    else (0, img)

/-- A verified image as its slot holds it. -/
def slotOf (img : List Byte) : FwSlot :=
  { bytes := img, ok := true, version := fieldOf img 8 4, svn := fieldOf img 12 2, raiseSvn := bitAt (fieldOf img 14 2) 0 }

def updAddr (s : State) : Nat := s.rd pgBOOT Reg.BOOT.UPD_ADDR_LO_ADDR * 4096 + s.rd pgBOOT Reg.BOOT.UPD_ADDR_HI_ADDR * 2 ^ 32

def rejectUpdate (s : State) (why : Nat) : State :=
  ((s.wr pgBOOT Reg.BOOT.UPD_STAT_ST 4).wr pgBOOT Reg.BOOT.UPD_STAT_REASON why).raise pgBOOT 8

/-- BOOT_UPDATE (R547). -/
def bootUpdate (s : State) : State :=
  let r := s.imageReason s.updAddr false
  let why := if r.1 ≠ 0 then r.1 else if s.boot.writing.isSome then 6 else if s.trialRunning then 7 else 0
  if why ≠ 0 then s.rejectUpdate why
  else (({ s with boot := { s.boot with writing := some r.2 } }).wr pgBOOT Reg.BOOT.UPD_STAT_ST 2).wr pgBOOT Reg.BOOT.UPD_STAT_REASON 0

/-- UPDATE_DONE (R547): the image has been written and read back; `ok` says that it verifies. -/
def updateDone (s : State) (ok : Bool) : State :=
  match s.boot.writing with
  | none => s
  | some img =>
    let k := 1 - s.boot.flash.active
    let s := { s with boot := { s.boot with writing := none } }
    if ok then
      let s := (s.onSlot k fun _ => slotOf img).onFlash fun f => { f with trial := some k }
      ((s.wr pgBOOT Reg.BOOT.UPD_STAT_ST 3).wr pgBOOT Reg.BOOT.UPD_STAT_REASON 0).raise pgBOOT 7
    else (s.onSlot k fun x => { x with ok := false }).rejectUpdate 4

/-- RECOVERY_UPDATE (R543): an image in hub SRAM goes to slot A, and the module resets. -/
def recoveryUpdate (s : State) : State :=
  let r := s.imageReason s.updAddr true
  if r.1 ≠ 0 then s.rejectUpdate r.1
  else ((s.onSlot 0 fun _ => slotOf r.2).onFlash fun f => { f with active := 0 }).resetState causeSoft

/-- BOOT_COMMIT (R548). -/
def bootCommit (s : State) : State :=
  if !s.trialRunning then s
  else
    let k := s.rd pgBOOT Reg.BOOT.BOOT_STAT_SLOT
    let x := s.slot k
    let s := s.onFlash fun f => { f with active := k, minSvn := if x.raiseSvn then max f.minSvn x.svn else f.minSvn }
    s.wr pgBOOT Reg.BOOT.SVN_MIN s.boot.flash.minSvn

/-- SAVE_CFG (R555). -/
def saveCfg (s : State) : State := s.onFlash fun f => { f with fabricAuto := s.flag pgBOOT Reg.BOOT.CFG_FABRIC_AUTO }

/-! ### Evidence and ownership -/

def reqAddr (s : State) : Nat := s.rd pgSEC Reg.SEC.REQ_ADDR_LO_ADDR * 64 + s.rd pgSEC Reg.SEC.REQ_ADDR_HI_ADDR * 2 ^ 32

/-- EVIDENCE (R552). -/
def evidence (s : State) : State :=
  let a := s.reqAddr
  let q := s.peek a 72
  let n := fieldOf q 4 1
  let why :=
    if !inFreeHub a 72 || fieldOf q 0 4 != 0x51414247 || n == 0 || decide (64 < n) || !zeroAt q (8 + n) (64 - n) then 1
    else if s.boot.nonce.isSome then 2
    else if !s.flag pgSEC Reg.SEC.SEC_STAT_KEYS_READY then 3
    else 0
  let s := s.wr pgSEC Reg.SEC.EV_STAT_REASON why
  if why ≠ 0 then (s.wr pgSEC Reg.SEC.EV_STAT_ST 3).raise pgSEC 5
  else ({ s with boot := { s.boot with nonce := some ((q.drop 8).take n) } }).wr pgSEC Reg.SEC.EV_STAT_ST 1

/-- R553: SHA-384 of the signed bytes of the running image. -/
def imageDigest (s : State) : List Byte :=
  let k := s.rd pgBOOT Reg.BOOT.BOOT_STAT_SLOT
  let b := (s.slot k).bytes
  if b.isEmpty then Config.factoryDigest k else Config.sha384 (b.take (b.length - sigBytes))

/-- R550: what enters CDI_2. -/
def cdiContext (s : State) : List Byte :=
  s.imageDigest ++ Config.calDigest ++ bytesOf 2 (s.rd pgBOOT Reg.BOOT.SVN_SVN) ++ bytesOf 2 (s.rd pgBOOT Reg.BOOT.SVN_MIN)

/-- R553: bytes 0 to 511 of an evidence record. -/
def evidenceBody (s : State) (nonce : List Byte) : List Byte :=
  let f := s.boot.flash
  let stat := s.rd pgBOOT Reg.BOOT.BOOT_STAT_SLOT + 2 * s.rd pgBOOT Reg.BOOT.BOOT_STAT_TRIAL + 4 * s.rd pgBOOT Reg.BOOT.BOOT_STAT_FALLBACK +
    8 * b2n (!f.ownerKey.isEmpty)
  let loaded := s.rd pgBOOT Reg.BOOT.SVC_STAT_ST == 2 || s.rd pgBOOT Reg.BOOT.SVC_STAT_ST == 3 || s.rd pgBOOT Reg.BOOT.SVC_STAT_ST == 4
  padTo 512 (bytesOf 4 0x56454247 ++ bytesOf 2 1 ++ bytesOf 2 nonce.length ++ padTo 64 nonce ++ bytesOf 8 f.serial ++
    bytesOf 4 (s.rd pgBOOT Reg.BOOT.FW_VERSION) ++ bytesOf 2 (s.rd pgBOOT Reg.BOOT.SVN_SVN) ++ bytesOf 2 (s.rd pgBOOT Reg.BOOT.SVN_MIN) ++
    bytesOf 1 stat ++ bytesOf 1 (s.rd pgCAL Reg.CAL.REF_STAT_RESULT) ++ bytesOf 1 (s.rd pgSYS Reg.SYS.MODULE_STATE_MS) ++ bytesOf 1 0 ++
    stampBytes s.now ++ bytesOf 8 s.hostNow ++ bytesOf 8 (if loaded then s.rd64 pgBOOT Reg.BOOT.PLAN_ID_LO else 0) ++
    padTo 48 s.imageDigest ++ padTo 48 Config.calDigest ++ padTo 48 (if loaded then s.boot.planDigest else []) ++
    padTo 48 (if f.ownerKey.isEmpty then [] else Config.sha384 f.ownerKey) ++ bytesOf 4 (s.rd pgTEST Reg.TEST.FLEET_VERSION))

/-- EVIDENCE_READY (R553): the signed record is placed. -/
def evidenceReady (s : State) : State :=
  match s.boot.nonce with
  | none => s
  | some n =>
    let body := s.evidenceBody n
    let dig := Config.sha384 body
    let cx := s.cdiContext
    let certs := (List.range 4).flatMap fun k => let c := Config.certificate k cx; bytesOf 4 c.length ++ c
    let rec_ := body ++ padTo 384 (Config.sign 0 cx dig) ++ padTo 16224 (Config.sign 1 cx dig) ++ certs
    let s := { s with boot := { s.boot with nonce := none, evidence := rec_ } }
    ((s.wr pgSEC Reg.SEC.EV_LEN rec_.length).wr pgSEC Reg.SEC.EV_STAT_ST 2).raise pgSEC 4

/-- OWNER (R554). -/
def owner (s : State) : State :=
  let a := s.reqAddr
  let r := s.peek a (452 + sigBytes)
  let f := s.boot.flash
  let op := fieldOf r 4 1
  let why :=
    if !inFreeHub a (452 + sigBytes) || fieldOf r 0 4 != 0x4B4F4247 || (op != 1 && op != 2) then 1
    else if !f.ownerKey.isEmpty && !sigOk f.ownerKey (Config.sha384 (r.take 452)) (r.drop 452) then 2
    else if fieldOf r 8 4 ≤ f.ownerSeq then 3
    else if s.planRunning then 4
    else 0
  let s := s.wr pgSEC Reg.SEC.OWN_STAT_REASON why
  if why ≠ 0 then (s.wr pgSEC Reg.SEC.OWN_STAT_ST 3).raise pgSEC 7
  else
    let s := s.onFlash fun f => { f with ownerKey := if op = 1 then (r.drop 16).take pairBytes else [], ownerSeq := fieldOf r 8 4 }
    ((s.wr pgSEC Reg.SEC.OWN_STAT_ST 2).wr pgSEC Reg.SEC.OWN_STAT_OWNER_SEQ (fieldOf r 8 4)).wr pgSEC Reg.SEC.SEC_STAT_OWNER (b2n (op == 1))
      |>.raise pgSEC 6

/-! ### REFCLK (R562) -/

/-- REFCLK_LOST: ticks of the internal source count as holdover. -/
def refclkLost (s : State) : State :=
  if !s.pins.refclk then s
  else
    let s := ({ s with pins := { s.pins with refclk := false } }).raise pgSYS 10
    if s.tick.src = 0 then s.holdover else s

/-- REFCLK_RESTORE: the clocks return at the next boundary. -/
def refclkRestore (s : State) : State := { s with pins := { s.pins with refclk := true } }

/-- R562: at a boundary, ticks on REFCLK end the holdover of the internal source. -/
def refclkBoundary (s : State) : State :=
  if s.pins.refclk && s.tick.src == 0 && s.flag pgTICK Reg.TICK.STATUS_HOLDOVER && s.rd pgTICK Reg.TICK.SRC_SEL == 0 then
    s.wr pgTICK Reg.TICK.STATUS_HOLDOVER 0
  else s

end State

/-- POWER_ON (R534). -/
def execPowerOn (at_ : Nat) (s : State) : Host.Outcome State Fault Refusal := finish s at_ fun s => s.powerOn

/-- PWRGD_FALL (R561). -/
def execPwrgdFall (at_ : Nat) (s : State) : Host.Outcome State Fault Refusal := finish s at_ fun s => s.pwrgdFall

/-- BROWN_OUT (R561): acts as a fall of PWRGD. -/
def execBrownOut (at_ : Nat) (s : State) : Host.Outcome State Fault Refusal := finish s at_ fun s => s.pwrgdFall

/-- RESET_N_ASSERT (R561). -/
def execResetNAssert (at_ : Nat) (s : State) : Host.Outcome State Fault Refusal := finish s at_ fun s => s.resetNAssert

/-- RESET_RELEASE (R542). The operands are what boot reads: straps, PUF, both slots, both calibration copies, field records, references. -/
def execResetRelease (at_ straps : Nat) (puf : Bool) (slotA slotB calA calB : Nat) (badRows badSource refFault : Bool) (iref hspan mon : Int) (s : State) :
    Host.Outcome State Fault Refusal :=
  finish s at_ fun s => s.resetRelease ⟨straps, puf, slotA, slotB, (calA, calB), badRows, badSource, refFault, iref, hspan, mon⟩

/-- BOOT_DONE (R545). -/
def execBootDone (at_ : Nat) (s : State) : Host.Outcome State Fault Refusal := liveCore s at_ fun s => s.bootDone

/-- BOOT_LATE (R546). -/
def execBootLate (at_ : Nat) (s : State) : Host.Outcome State Fault Refusal := liveCore s at_ fun s => s.bootLate

/-- UPDATE_DONE (R547). -/
def execUpdateDone (at_ : Nat) (ok : Bool) (s : State) : Host.Outcome State Fault Refusal := liveCore s at_ fun s => s.updateDone ok

/-- EVIDENCE_READY (R553). -/
def execEvidenceReady (at_ : Nat) (s : State) : Host.Outcome State Fault Refusal := liveCore s at_ fun s => s.evidenceReady

/-- REFCLK_LOST (R562). -/
def execRefclkLost (at_ : Nat) (s : State) : Host.Outcome State Fault Refusal := pinLive s at_ (fun p => { p with refclk := false }) fun s => s.refclkLost

/-- REFCLK_RESTORE (R562). -/
def execRefclkRestore (at_ : Nat) (s : State) : Host.Outcome State Fault Refusal := pinLive s at_ (fun p => { p with refclk := true }) fun s => s.refclkRestore

/-- THERMAL_RESET (R522). -/
def execThermalReset (at_ : Nat) (s : State) : Host.Outcome State Fault Refusal := live s at_ fun s => s.thermalReset

/-- MONITOR_MISMATCH (R417). -/
def execMonitorMismatch (at_ : Nat) (s : State) : Host.Outcome State Fault Refusal := liveCore s at_ fun s => s.resetState causeWatchdog

/-- SERVICE_WATCHDOG_RESET (R418). -/
def execServiceWatchdogReset (at_ : Nat) (s : State) : Host.Outcome State Fault Refusal := liveCore s at_ fun s => s.serviceWatchdogReset

end Sys2Proof.Machine
end

