-- ==== Sys2Proof/Machine/Cistern.lean ====
section
/-! DEFINITION. Base dies: block accesses with ECC and seals (R231, R237 to R243), patrol scrub (R240), scale tensors (R244 to R246), row-sum
builds (R247), and optimiser steps (R252 to R256). -/

namespace Sys2Proof.Machine

/-! ### float32 steps of R254, each rounded once; the second part counts a clip -/

def fRound (x : Dy) : Dy × Nat := let r := rnaf x; (f32Val r.bits, b2n r.clip)
def fAdd (a b : Dy) : Dy × Nat := fRound (a.add b)
def fSub (a b : Dy) : Dy × Nat := fRound (a.sub b)
def fMul (a b : Dy) : Dy × Nat := fRound (a.mul b)

/-- R254: a division by zero yields the largest finite value with the sign of its numerator, or +0, and counts one clip. -/
def fDiv (a b : Dy) : Dy × Nat :=
  if b.isZero then (if a.isZero then ⟨0, 0⟩ else f32Val (if a.n < 0 then 0xFF7FFFFF else 0x7F7FFFFF), 1)
  else
    let r := f32.round (Ex.div (Ex.ofDy a) (Ex.ofDy b))
    (f32Val r.bits, b2n r.clip)

/-- Square root, rounded once; of a negative value a free value (log entry 37). -/
def fSqrt (a : Dy) : Dy :=
  if a.isZero then ⟨0, 0⟩
  else if a.n < 0 then f32Val (Config.sqrtNegative (BitVec.ofNat 32 (rnaf a).bits)).toNat
  else
    let e := Ex.ofDy a
    f32Val (sqrtRound e.num.natAbs e.den).bits

/-- Exact power of a value. -/
def Dy.pow (a : Dy) (n : Nat) : Dy := ⟨a.n ^ n, a.e * n⟩

/-! ### The command (R253) -/

namespace Oc
def op (c : List Byte) : Nat := fieldOf c 0 1
def regen (c : List Byte) : Bool := bitAt (fieldOf c 1 1) 0
def arrive (c : List Byte) : Bool := bitAt (fieldOf c 1 1) 1
def bar (c : List Byte) : Nat := fieldOf c 2 1
def gfmt (c : List Byte) : Nat := fieldOf c 3 1
def nelem (c : List Byte) : Nat := fieldOf c 4 4
def master (c : List Byte) : Nat := fieldOf c 8 6
def grad (c : List Byte) : Nat := fieldOf c 14 6
def mom1 (c : List Byte) : Nat := fieldOf c 20 6
def mom2 (c : List Byte) : Nat := fieldOf c 26 6
def lr (c : List Byte) : Dy := f32Val (fieldOf c 32 4)
def b1 (c : List Byte) : Dy := f32Val (fieldOf c 36 4)
def b2 (c : List Byte) : Dy := f32Val (fieldOf c 40 4)
def eps (c : List Byte) : Dy := f32Val (fieldOf c 44 4)
def wd (c : List Byte) : Dy := f32Val (fieldOf c 48 4)
def qout (c : List Byte) : Nat := fieldOf c 52 6
def qgen (c : List Byte) : Nat := fieldOf c 58 1
def stepNo (c : List Byte) : Nat := fieldOf c 60 4

/-- R253: the fields hold what they may. -/
def fieldsOk (c : List Byte) : Bool :=
  (op c == 1 || op c == 2) && decide (fieldOf c 1 1 < 4) && decide (bar c < 64) && (gfmt c == 12 || gfmt c == 14) && fieldOf c 59 1 == 0 && stepNo c != 0
end Oc

/-! ### Scale tensors (R244) -/

namespace Sc
def tid (h : List Byte) : Nat := fieldOf h 0 2
def wfmt (h : List Byte) : Nat := fieldOf h 2 1
def present (h : List Byte) : Bool := bitAt (fieldOf h 3 1) 0
def build (h : List Byte) : Bool := bitAt (fieldOf h 3 1) 1
def rt (h : List Byte) : Nat := fieldOf h 4 2
def kt (h : List Byte) : Nat := fieldOf h 6 2
def dataBase (h : List Byte) : Nat := fieldOf h 8 6
/-- Offsets from S: row entries of tile row `t`, first-level scale of row, tile and sub-block, row sums of tile `n`. -/
def entryOff (t : Nat) : Nat := 64 + 1024 * t
def eOff (h : List Byte) : Nat := 64 + 1024 * rt h
def s1Off (h : List Byte) (row k j : Nat) : Nat := eOff h + 4 * kt h * row + 4 * k + j
def zOff (h : List Byte) : Nat := (eOff h + 512 * kt h * rt h + 4095) / 4096 * 4096
def sumOff (h : List Byte) (n : Nat) : Nat := zOff h + 512 * n
end Sc

namespace State

/-! ### Accesses -/

/-- The module address of a block of a cistern's store (R232). -/
def blockAddr (s : State) (c block : Nat) : Nat :=
  let g := s.rd (pgCistern 0) Reg.CISTERN.MAP_LINEAR_GIB
  let k := ((List.range 12).find? fun k => cisternOf g k (block * 4096) == c).getD c
  k * 2 ^ 36 + block * 4096

/-- R238, R239: what ECC finds in a block: 1 corrected, 2 uncorrectable. -/
def eccFinds (s : State) (c key ecc : Nat) : State :=
  match ecc with
  | 1 => (s.bump (pgCistern c) Reg.CISTERN.CE_COUNT).raise (pgCistern c) 4
  | 2 => { s with cist := { s.cist with eccBad := addOnce (key / 4096) s.cist.eccBad } }
  | _ => s

/-- R237: an error that ECC miscorrects or does not find: one 64-byte access of the block holds wrong bytes, which the seal's CRC does not match.
Which access and which bytes are free values (log entry 116). -/
def damage (s : State) (key : Nat) (bad : Bool) : State :=
  if !bad then s
  else
    let at_ := s.draw 6
    let bs := at_.1.draw 512
    let t := bs.1.putBytes (key / 4096 * 4096 + 64 * at_.2.toNat) (bytesOf 64 bs.2.toNat)
    t.setSeal (key / 4096) { t.blockSeal (key / 4096) with bad := true }

/-- R237: what ECC finds, and what it delivers wrong: 3 is an error that it miscorrects, 4 one that it does not find. -/
def eccRead (s : State) (c key ecc : Nat) : State :=
  (s.eccFinds c key (if ecc = 3 then 1 else ecc)).damage key (ecc == 3 || ecc == 4)

/-- Destination range of a writing descriptor holds an address. -/
def writesAt (s : State) (d : List Byte) (a : Nat) : Bool :=
  if Qd.op d = 6 then (List.range (Qd.nitem d)).any fun i =>
    let x := Qd.dst d + numOf (s.peek (Qd.idx d + 4 * i) 4) * Qd.esize d
    decide (x ≤ a ∧ a < x + Qd.esize d)
  else [1, 5, 7, 8].contains (Qd.op d) && decide (Qd.dst d ≤ a ∧ a < Qd.dst d + Qd.dstBytes d)

/-- R239, R241: the executing descriptors that write an address complete with a code: SEAL_FAIL or ECC_FAIL. -/
def failWriters (s : State) (a code : Nat) : State :=
  s.each (s.pump.queues.filterMap fun e => e.2.exec.map fun x => (e.1, x)) fun s e =>
    if s.writesAt e.2.desc a then s.onQueue e.1 fun y => { y with exec := y.exec.map fun x => { x with code := if 3 ≤ x.code then x.code else code } } else s

/-- R230: the cistern that serves an address; none for another unit. -/
def cisternAt (s : State) (a : Nat) : Option Nat :=
  match s.resolve s.mapNow a with
  | .mem key => match unitOf key with
    | .cistern c => some c
    | _ => none
  | _ => none

/-- R230: the link port, by its die, that a cistern's round robin visits first within a class. -/
def portTurn (s : State) (c cls : Nat) : Nat := sparseGet (fun _ => 0) s.cist.turn (4 * c + cls)

/-- R230: a cistern serves a link port: the round robin of the class goes on from the next one. -/
def takeTurn (s : State) (c cls die : Nat) : State :=
  { s with cist := { s.cist with turn := sparsePut (fun _ => 0) s.cist.turn (4 * c + cls) ((die + 1) % 4) } }

/-- CISTERN_ACCESS (R11, R230, R231): one block is read (no data) or written, for a request of class `cls` at the link port to die `die`, whose
memory light it needs. `sl` is the incoming seal; its `bad` says that its CRC fails (R241). A part of a block held uncorrectable is refused
before anything else (R239). -/
def cisternAccess (s : State) (cls die a ecc : Nat) (damaged : Bool) (data : List Byte) (sl : Seal) : State :=
  match s.resolve s.mapNow a with
  | .mem key =>
    match unitOf key with
    | .cistern c =>
      if !s.linkLit die then s
      else
      let s := s.takeTurn c cls die
      if data.isEmpty then
        let s := (s.eccFinds c key ecc).damage key damaged
        (s.readBlock (a / 4096 * 4096) (key / 4096 * 4096) 4096).1
      else
        let d := data.take (4096 - a % 4096)
        if s.cist.eccBad.contains (key / 4096) && d.length != 4096 then s.failWriters a 8
        else
          let s := if sl.bad then (s.sealFailure (.cistern c) a sl).failWriters a 7 else s
          (s.store key d { sl with withheld := sl.withheld || sl.bad, bad := false }).1
    | _ => s
  | _ => s

/-- Blocks of a cistern that scrub may read in this tick: those owed and the quota. -/
def scrubQuota (s : State) (c : Nat) : Nat :=
  s.rd (pgCistern c) Reg.CISTERN.SCRUB_BLOCKS_PER_TICK - sparseGet (fun _ => 0) s.cist.scrubbed c

/-- R237, R240: scrub of the next block. -/
def scrubOne (s : State) (c ecc : Nat) : State :=
  let pos := s.rd (pgCistern c) Reg.CISTERN.SCRUB_POS_BLOCK
  let key := c * 2 ^ 36 + pos * 4096
  let a := s.blockAddr c pos
  let links := s.rd64 (pgCistern c) Reg.CISTERN.READ_BYTES_LO
  let s := ((s.eccRead c key ecc).readBlock a key 4096).1.wr64 (pgCistern c) Reg.CISTERN.READ_BYTES_LO links
  let s := s.wr (pgCistern c) Reg.CISTERN.SCRUB_POS_BLOCK (pos + 1)
  let s := if pos + 1 = 2 ^ 24 then s.bumpWrap (pgCistern c) Reg.CISTERN.SCRUB_PASSES else s
  let owed := s.rd (pgCistern c) Reg.CISTERN.SCRUB_DEBT
  if owed ≠ 0 then s.wr (pgCistern c) Reg.CISTERN.SCRUB_DEBT (owed - 1)
  else { s with cist := { s.cist with scrubbed := sparsePut (fun _ => 0) s.cist.scrubbed c (sparseGet (fun _ => 0) s.cist.scrubbed c + 1) } }

/-- PATROL_SCRUB (R240): `finds` gives what ECC finds in each block read. -/
def patrolScrub (s : State) (c : Nat) (finds : List Nat) : State :=
  if !s.isOn (pgCistern c) || !s.flag (pgCistern c) Reg.CISTERN.SCRUB_EN then s
  else
    let n := s.rd (pgCistern c) Reg.CISTERN.SCRUB_DEBT + s.scrubQuota c
    s.each (finds.take n) fun s e => s.scrubOne c e

/-- SCRUB_BEHIND (R240): blocks left unread at a boundary are owed. -/
def scrubBoundary (s : State) : State :=
  let s := s.each (List.range 12) fun s c =>
    if !s.isOn (pgCistern c) || !s.flag (pgCistern c) Reg.CISTERN.SCRUB_EN then s
    else
      let s := s.bump (pgCistern c) Reg.CISTERN.SCRUB_DEBT (s.scrubQuota c)
      if s.rd (pgCistern c) Reg.CISTERN.SCRUB_DEBT = 0 then s else s.raise (pgCistern c) 7
  { s with cist := { s.cist with scrubbed := [] } }

/-- R235: every block of a cistern is written with zeros under the reset seal. -/
def zeroCistern (s : State) (c : Nat) : State :=
  let inC (k : Nat) : Bool := decide (c * 2 ^ 36 ≤ k ∧ k < (c + 1) * 2 ^ 36)
  { s with
    mem := s.mem.filter fun e => !inC e.1
    seals := s.seals.filter fun e => !inC (e.1 * 4096)
    cist := { s.cist with eccBad := s.cist.eccBad.filter fun b => !inC (b * 4096) } }

/-! ### Work of the base dies themselves -/

/-- R236: work that the cisterns have accepted: their memory is there to its end, while their pages drain too; none of it crosses a link. -/
def ownWork (s : State) (f : State → State) : State :=
  let t := s.offLinks (f { s with cist := { s.cist with serving := true } })
  { t with cist := { t.cist with serving := false } }

/-- Small pieces (address, bytes), each within one block: every block is read and checked once (R239, R242); of one that ECC cannot correct the
bytes are zeros. The format is 15 unless a block has another. -/
def readScattered (s : State) (l : List (Nat × Nat)) : State × ReadRes :=
  let blocks := (l.map fun x => x.1 / 4096).dedup
  let got : State × List (Nat × ReadRes) := blocks.foldl (fun (x : State × List (Nat × ReadRes)) b =>
    let first := (l.find? fun y => y.1 / 4096 == b).getD (b * 4096, 0)
    let r := x.1.read x.1.mapNow first.1 first.2
    (r.1, x.2 ++ [(b, r.2)])) (s, [])
  let bytes := l.flatMap fun x =>
    if got.2.any (fun e => e.1 == x.1 / 4096 && e.2.ecc) then List.replicate x.2 0 else got.1.peek x.1 x.2
  let rs := got.2.map (·.2)
  let all := rs.foldl ReadRes.append {}
  let firstRes := (rs.head?).getD {}
  (got.1, { all with
    bytes := bytes, tid := firstRes.tid, blk := firstRes.blk, fmt := ((rs.find? fun r => r.fmt != 15).map (·.fmt)).getD 15 })

/-- R245: the places of the first-level scales of tile `n`: 4 bytes of each of its rows. -/
def s1Places (a : Nat) (h : List Byte) (n : Nat) : List (Nat × Nat) :=
  (List.range 128).map fun r => (a + Sc.s1Off h (n / Sc.kt h * 128 + r) (n % Sc.kt h) 0, 4)

/-- R45: commands launched since `s` by work of a delayed tick. -/
def launched (s t : State) (late : Bool) : State :=
  if !late then t
  else
    let mark (e : Nat × List OptCmd) : Nat × List OptCmd :=
      let n := (sparseGet (fun _ => []) s.cist.opt e.1).length
      (e.1, e.2.zipIdx.map fun x => if n ≤ x.2 then { x.1 with delayed := true } else x.1)
    { t with cist := { t.cist with opt := t.cist.opt.map mark } }

/-! ### Row-sum builds (R247) -/

/-- The 64 header bytes of a scale tensor at an address, as its fields are looked at; the reads that act on them are those of `readHeader`. -/
def scaleHeader (s : State) (a : Nat) : List Byte := s.peek a 64

/-- R239, R242: the header of a scale tensor, read and checked. -/
def readHeader (s : State) (a : Nat) : State × ReadRes := s.read s.mapNow a 64

/-- Format byte of the seal of the block of an address. -/
def sealFmt (s : State) (a : Nat) : Nat :=
  match s.resolve s.mapNow a with
  | .mem key => (s.blockSeal (key / 4096)).fmt
  | _ => 0

/-- R247: a header with BUILD set stands at an address of a cistern. -/
def buildAsked (s : State) (a : Nat) : Bool :=
  a % 4096 == 0 && decide (a < 12 * 2 ^ 36) && s.sealFmt a == 15 && Sc.build (s.scaleHeader a)

/-- ROWSUM_BUILD (R247): the build of the header at an address starts. -/
def rowsumBuild (s : State) (a : Nat) : State :=
  if s.buildAsked a then { s with cist := { s.cist with builds := addOnce a s.cist.builds } } else s

/-- R179, R247: the row sums of tile `n`, from its codes and scales; with what the reads gave. -/
def buildTile (s : State) (a : Nat) (h : List Byte) (n : Nat) : State × List Byte × ReadRes :=
  let b := fmtBits (Sc.wfmt h)
  let codes := s.read s.mapNow (Sc.dataBase h + n * 2048 * b) (2048 * b)
  let ent := codes.1.read codes.1.mapNow (a + Sc.entryOff (n / Sc.kt h)) 1024
  let s1 := ent.1.readScattered (s1Places a h n)
  let sums := (List.range 128).map fun r =>
    let scales := (List.range 4).map fun j => fieldOf s1.2.bytes (4 * r + j) 1
    let row := driveRow (Sc.wfmt h) ((codes.2.bytes.drop (r * 16 * b)).take (16 * b)) scales (rowScaleOf ent.2.bytes r).srm
    sumInt row.1
  (s1.1, sums.flatMap fun x => bytesOf 4 (ofSigned x 32), (codes.2.append ent.2).append s1.2)

/-- Seal for bytes that a base die writes into a scale tensor at `a`: the tensor's own fields, and the marks of what it read. -/
def scaleSeal (s : State) (a : Nat) (r : ReadRes) (x : Nat) : Seal :=
  match s.resolve s.mapNow a with
  | .mem key =>
    let h := s.blockSeal (key / 4096)
    { h with
      blk := (h.blk + (x - a) / 4096) % 2 ^ 32, gen := s.tick.number % 256, withheld := r.withheld, late := r.late, delayed := h.delayed || r.delayed
      bad := false }
  | _ => {}

/-- R242, R247: the sums of a build are written at Z; then the header has ROWSUM_PRESENT, and BUILD no more. -/
def buildSums (s : State) (a : Nat) : State :=
  let hd := s.readHeader a
  let h := hd.2.bytes
  let s := hd.1
  let real := Sc.dataBase h != 0
  let s := if real then
      s.each (List.range (Sc.rt h * Sc.kt h)) fun s n =>
        let r := s.buildTile a h n
        (r.1.write r.1.mapNow (a + Sc.sumOff h n) r.2.1 (r.1.scaleSeal a (r.2.2.append hd.2))).1
    else s
  let fl := clearBit (fieldOf h 3 1) 1
  let fl := if real then setBit fl 0 else fl
  (s.write s.mapNow (a + 3) (bytesOf 1 fl) (s.scaleSeal a {})).1

/-- ROWSUM_DONE (R247). -/
def rowsumDone (s : State) (a : Nat) : State :=
  if !s.cist.builds.contains a then s
  else
    let c := cisternOf (s.rd (pgCistern 0) Reg.CISTERN.MAP_LINEAR_GIB) (a / 2 ^ 36) (a % 2 ^ 36)
    ({ s with cist := { s.cist with builds := dropAll a s.cist.builds } }.ownWork fun s => s.buildSums a).raise (pgCistern c) 11

/-! ### Optimiser steps -/

def optOf (s : State) (c : Nat) : List OptCmd := sparseGet (fun _ => []) s.cist.opt c

def setOpt (s : State) (c : Nat) (l : List OptCmd) : State :=
  let s := { s with cist := { s.cist with opt := sparsePut (fun _ => []) s.cist.opt c l } }
  (s.wr (pgCistern c) Reg.CISTERN.OPT_STAT_RUNNING (b2n (l.length != 0))).wr (pgCistern c) Reg.CISTERN.OPT_STAT_QUEUED (b2n (decide (2 ≤ l.length)))

/-- R252: a write of OPT_CMD word 15 launches the command in words 0 to 15. -/
def optLaunch (s : State) (c : Nat) : State :=
  let l := s.optOf c
  if 2 ≤ l.length then s.raise (pgCistern c) 9
  else
    let ws := (List.range 16).flatMap fun i => bytesOf 4 (s.rd (pgCistern c) Reg.CISTERN.OPT_CMD i)
    s.setOpt c (l ++ [⟨ws, none, false⟩])

/-- Bytes of the gradient (R188, R253). -/
def gradBytes (c : List Byte) : Nat := if Oc.gfmt c = 12 then 4 * Oc.nelem c else ceilDiv (Oc.nelem c) 640 * 4096

/-- R256: a range is mapped memory, at an alignment. -/
def rangeOk (s : State) (al a n : Nat) : Bool := a % al == 0 && s.inMemory s.mapNow a n

/-- R255: QOUT names a scale tensor of the command's shape. -/
def qoutOk (s : State) (c : List Byte) : Bool :=
  let h := s.scaleHeader (Oc.qout c)
  s.sealFmt (Oc.qout c) == 15 && isWeightFmt (Sc.wfmt h) && Sc.dataBase h != 0 && Oc.nelem c == 16384 * Sc.rt h * Sc.kt h

/-- R244, R256: a scale tensor with a good header, and its data tensor, are mapped memory. -/
def qoutMapped (s : State) (c : List Byte) : Bool :=
  let q := Oc.qout c
  let h := s.scaleHeader q
  let n := Sc.rt h * Sc.kt h
  s.rangeOk 4096 q (Sc.sumOff h n) && s.rangeOk 4096 (Sc.dataBase h) (n * 2048 * fmtBits (Sc.wfmt h))

/-- R256: code with which an invalid command ends; 0 when it is valid. -/
def optError (s : State) (c : List Byte) : Nat :=
  let n := 4 * Oc.nelem c
  if !Oc.fieldsOk c then 1
  else if !s.rangeOk 4096 (Oc.master c) n || decide (12 * 2 ^ 36 < Oc.master c + n) || !s.rangeOk (if Oc.gfmt c = 12 then 4 else 4096) (Oc.grad c) (gradBytes c) ||
      !s.rangeOk 4096 (Oc.mom1 c) n || (Oc.op c == 2 && !s.rangeOk 4096 (Oc.mom2 c) n) || (Oc.regen c && !s.rangeOk 4096 (Oc.qout c) 64) then 2
  else if !Oc.regen c then 0
  else if !s.qoutOk c then 3
  else if !s.qoutMapped c then 2
  else 0

/-- R236, R256: the same as the cisterns find it that run the command, while they drain too. -/
def optErrorAt (s : State) (c : List Byte) : Nat := { s with cist := { s.cist with serving := true } }.optError c

/-- R184, R254: a stored float32 operand. -/
def optOperand (bs : List Byte) (i : Nat) : Dy × Nat := let v := f32.value (fieldOf bs (4 * i) 4); (v.1, b2n v.2)

/-- R191, R254: gradient of element `i`, from the bytes read from GRAD: words from `base` on, or whole BFX48 blocks from block `base`. -/
def optGrad (c : List Byte) (bs : List Byte) (base i : Nat) : Dy × Nat :=
  if Oc.gfmt c = 12 then optOperand bs (i - base)
  else
    let blk := (bs.drop ((i / 640 - base) * 4096)).take 4096
    let r := bfxVal (bfxOf blk (i % 640 / 64)) (i % 64)
    (f32Val r.bits, b2n r.clip)

/-- One element's new master and moments, with its clips (R254). `c1` and `c2` are those of the command. -/
def optElement (c : List Byte) (c1 c2 g w m1 m2 : Dy) : (Nat × Nat × Nat) × Nat :=
  let one : Dy := ⟨1, 0⟩
  let bitsOf (x : Dy) : Nat := (rnaf x).bits
  let dec := fMul (Oc.wd c) w
  if Oc.op c = 1 then
    let a := fMul (Oc.b1 c) m1
    let m := fAdd a.1 g
    let u := fAdd m.1 dec.1
    let d := fMul (Oc.lr c) u.1
    let w2 := fSub w d.1
    ((bitsOf w2.1, bitsOf m.1, bitsOf m2), a.2 + m.2 + dec.2 + u.2 + d.2 + w2.2)
  else
    let a := fMul (Oc.b1 c) m1
    let k1 := fSub one (Oc.b1 c)
    let b := fMul k1.1 g
    let m := fAdd a.1 b.1
    let p := fMul (Oc.b2 c) m2
    let k2 := fSub one (Oc.b2 c)
    let gg := fMul g g
    let q := fMul k2.1 gg.1
    let v := fAdd p.1 q.1
    let mh := fDiv m.1 c1
    let vh := fDiv v.1 c2
    let den := fAdd (fSqrt vh.1) (Oc.eps c)
    let r := fDiv mh.1 den.1
    let u := fAdd r.1 dec.1
    let d := fMul (Oc.lr c) u.1
    let w2 := fSub w d.1
    ((bitsOf w2.1, bitsOf m.1, bitsOf v.1),
      a.2 + k1.2 + b.2 + m.2 + p.2 + k2.2 + gg.2 + q.2 + v.2 + mh.2 + vh.2 + den.2 + r.2 + dec.2 + u.2 + d.2 + w2.2)

/-- rnaf(1 − rnaf(B^STEP)), once per command, with its clips (R254). -/
def biasCorrection (b : Dy) (n : Nat) : Dy × Nat :=
  let p := fRound (b.pow n)
  let r := fSub ⟨1, 0⟩ p.1
  (r.1, p.2 + r.2)

/-- R255: weight row, K tile and column within it of element `i`. -/
def regenPlace (h : List Byte) (i : Nat) : Nat × Nat × Nat :=
  let col := i % (128 * Sc.kt h)
  (i / (128 * Sc.kt h), col / 128, col % 128)

/-- R255: the row entry and the first-level scale of element `i`. -/
def regenScales (c h : List Byte) (i : Nat) : List (Nat × Nat) :=
  let p := regenPlace h i
  [(Oc.qout c + Sc.entryOff 0 + 8 * p.1, 8), (Oc.qout c + Sc.s1Off h p.1 p.2.1 (p.2.2 / 32), 1)]

/-- R181, R255: the code of element `i` is encoded anew, with the row entry and first-level scale `sc`, and merged into the data tensor; a zero
point counts for INT4 and INT8 (R167, R180). -/
def regenCode (s : State) (c h sc : List Byte) (i w : Nat) (r : ReadRes) (delayed : Bool) : State × Nat :=
  let p := regenPlace h i
  let b := fmtBits (Sc.wfmt h)
  let rs := rowScaleOf sc 0
  let z := if Sc.wfmt h = 3 ∨ Sc.wfmt h = 6 then rs.z else 0
  let e := encodeWeight (Sc.wfmt h) (f32Val w) (fieldOf sc 8 1) (s2Val rs.s2).1 z
  let bit := ((p.1 / 128 * Sc.kt h + p.2.1) * 2048 * b + p.1 % 128 * 16 * b) * 8 + p.2.2 * b
  let a := Sc.dataBase h + bit / 8
  let n := (bit % 8 + b + 7) / 8
  let v := setBits (numOf (s.peek a n)) (bit % 8) b e.1
  let sl (x : Nat) : Seal :=
    { tid := Sc.tid h, blk := x / 4096 - Sc.dataBase h / 4096, gen := Oc.qgen c, fmt := Sc.wfmt h, withheld := r.withheld, late := r.late
      delayed := delayed || r.delayed }
  ((s.write s.mapNow a (bytesOf n v) sl).1, b2n e.2)

/-- R254: the stored seal that an in-place update of a block leaves: its own fields with the tick's generation and the marks of its operands. -/
def inPlaceSeal (s : State) (r : ReadRes) (delayed : Bool) (x : Nat) : Seal :=
  match s.resolve s.mapNow x with
  | .mem key =>
    { s.blockSeal (key / 4096) with
      gen := s.tick.number % 256, withheld := r.withheld, late := r.late, delayed := delayed || r.delayed, bad := false }
  | _ => {}

/-- R254 to R256, R290: one master block: elements `i0` to `i0 + n - 1`; `hd` is what the read of QOUT's header gave. The flag says that its operands fail and it keeps its contents. -/
def optBlock (s : State) (cis : Nat) (c : List Byte) (hd : ReadRes) (delayed : Bool) (c1 c2 : Dy) (i0 n : Nat) : State × Bool :=
  let gb := if Oc.gfmt c = 12 then i0 else i0 / 640
  let ga := if Oc.gfmt c = 12 then Oc.grad c + 4 * i0 else Oc.grad c + 4096 * gb
  let gn := if Oc.gfmt c = 12 then 4 * n else ((i0 + n - 1) / 640 - gb + 1) * 4096
  let h := hd.bytes
  let m := s.read s.mapNow (Oc.master c + 4 * i0) (4 * n)
  let g := m.1.read m.1.mapNow ga gn
  let a := g.1.read g.1.mapNow (Oc.mom1 c + 4 * i0) (4 * n)
  let b := if Oc.op c = 2 then a.1.read a.1.mapNow (Oc.mom2 c + 4 * i0) (4 * n) else (a.1, {})
  let q := if Oc.regen c then b.1.readScattered ((List.range (ceilDiv n 32)).flatMap fun k => regenScales c h (i0 + 32 * k)) else (b.1, {})
  let s := q.1
  let l := [m.2, g.2, a.2, b.2, q.2, hd]
  let ovf := Oc.gfmt c != 12 && (List.range (g.2.bytes.length / 4096)).any fun k =>
    (List.range 10).any fun j => (bfxOf (g.2.bytes.drop (4096 * k)) j).ovf
  if g.2.withheld || ovf || l.any (fun r => r.ecc || r.sealFail) then (s, true)
  else
    let r := ((m.2.append g.2).append a.2).append b.2
    let es := (List.range n).map fun i =>
      let gv := optGrad c g.2.bytes gb (i0 + i)
      let w := optOperand m.2.bytes i
      let x := optOperand a.2.bytes i
      let y := if Oc.op c = 2 then optOperand b.2.bytes i else (⟨0, 0⟩, 0)
      let r := optElement c c1 c2 gv.1 w.1 x.1 y.1
      (r.1, gv.2 + w.2 + x.2 + y.2 + r.2)
    let col (f : Nat × Nat × Nat → Nat) : List Byte := es.flatMap fun e => bytesOf 4 (f e.1)
    let put (s : State) (x : Nat) (bs : List Byte) : State := (s.write s.mapNow x bs (s.inPlaceSeal r delayed)).1
    let s := put (put s (Oc.master c + 4 * i0) (col (·.1))) (Oc.mom1 c + 4 * i0) (col (·.2.1))
    let s := if Oc.op c = 2 then put s (Oc.mom2 c + 4 * i0) (col (·.2.2)) else s
    let clips := (es.map (·.2)).foldl (· + ·) 0
    let z := if Oc.regen c then
        es.zipIdx.foldl (fun (x : State × Nat) e =>
          let sc := (q.2.bytes.drop (9 * (e.2 / 32))).take 9
          let y := x.1.regenCode c h sc (i0 + e.2) e.1.1.1 ((r.append q.2).append hd) delayed
          (y.1, x.2 + y.2)) (s, clips)
      else (s, clips)
    (z.1.bump (pgCistern cis) Reg.CISTERN.OPT_CLIPS z.2, false)

/-- R242, R254: the blocks of a running command whose master the cistern holds; the clips of its bias corrections are counted once, by ADAMW
alone, and with REGEN the header of QOUT is read once. -/
def optBlocks (s : State) (cis : Nat) (x : OptCmd) : State × Bool :=
  let c := x.words
  let c1 := biasCorrection (Oc.b1 c) (Oc.stepNo c)
  let c2 := biasCorrection (Oc.b2 c) (Oc.stepNo c)
  let s := if Oc.op c = 2 then s.bump (pgCistern cis) Reg.CISTERN.OPT_CLIPS (c1.2 + c2.2) else s
  let hd : State × ReadRes := if Oc.regen c then s.readHeader (Oc.qout c) else (s, {})
  let s := hd.1
  let mine := (List.range (ceilDiv (Oc.nelem c) 1024)).filter fun k =>
    cisternOf (s.rd (pgCistern 0) Reg.CISTERN.MAP_LINEAR_GIB) ((Oc.master c + 4096 * k) / 2 ^ 36) ((Oc.master c + 4096 * k) % 2 ^ 36) == cis
  mine.foldl (fun (y : State × Bool) k =>
    let z := y.1.optBlock cis c hd.2 x.delayed c1.1 c2.1 (1024 * k) (min 1024 (Oc.nelem c - 1024 * k))
    (z.1, y.2 || z.2)) (s, false)

/-- SGD_MOMENTUM, ADAMW (R254): the running command of a cistern, of the given OP, updates the elements whose master block the die holds. -/
def optRun (s : State) (cis op : Nat) : State :=
  match s.optOf cis with
  | x :: rest =>
    if x.done.isSome || Oc.op x.words != op || s.optErrorAt x.words != 0 then s
    else s.ownWork fun s => let r := s.optBlocks cis x; r.1.setOpt cis ({ x with done := some (if r.2 then 4 else 0) } :: rest)
  | [] => s

/-- OPT_DONE (R256): the running command ends. -/
def optDone (s : State) (cis : Nat) : State :=
  match s.optOf cis with
  | [] => s
  | x :: rest =>
    let c := x.words
    let bad := s.optErrorAt c
    if x.done.isNone && bad == 0 then s
    else
      let err := x.done.getD bad
      let pg := pgCistern cis
      let s := (((s.setOpt cis rest).wr pg Reg.CISTERN.OPT_STAT_ERR err).bumpWrap pg Reg.CISTERN.OPT_DONE).raise pg 8
      let s := if Oc.arrive c && decide (Oc.bar c < 64) then s.arriveAt (Oc.bar c) else s
      if err = 0 then s else s.raise pg 10

/-- R236: a queued command ends at the drain of its page. -/
def optDrain (s : State) (cis : Nat) : State :=
  match s.optOf cis with
  | x :: _ :: _ => ((s.setOpt cis [x]).wr (pgCistern cis) Reg.CISTERN.OPT_STAT_ERR 5).raise (pgCistern cis) 10
  | _ => s

end State

/-- CISTERN_ACCESS (R231): the block of an address is read (`data` empty) or written under the seal fields given; `ecc` is what ECC finds on
a read: 1 corrected, 2 uncorrectable; `damaged` marks bytes that the stored CRC does not match (R237); `crcOk` judges the incoming CRC. -/
def execCisternAccess (at_ : Nat) (req : CisternReq) (ecc : Nat) (damaged : Bool) (data : List Byte) (tid blk gen fmt : Nat) (withheld delayed crcOk : Bool) (s : State) :
    Host.Outcome State Fault Refusal :=
  liveCore s at_ fun s => s.cisternAccess req.cls req.die req.addr ecc damaged data ⟨tid, blk, gen, fmt, withheld, delayed, !crcOk, false⟩

/-- PATROL_SCRUB (R240) of a cistern: what ECC finds in each block read. -/
def execPatrolScrub (at_ cis : Nat) (finds : List Nat) (s : State) : Host.Outcome State Fault Refusal :=
  liveCore s at_ fun s => if cis < 12 then s.patrolScrub cis finds else s

/-- SGD_MOMENTUM (R254). -/
def execSgdMomentum (at_ cis : Nat) (s : State) : Host.Outcome State Fault Refusal := liveCore s at_ fun s => if cis < 12 then s.optRun cis 1 else s

/-- ADAMW (R254). -/
def execAdamw (at_ cis : Nat) (s : State) : Host.Outcome State Fault Refusal := liveCore s at_ fun s => if cis < 12 then s.optRun cis 2 else s

/-- OPT_DONE (R256). -/
def execOptDone (at_ cis : Nat) (s : State) : Host.Outcome State Fault Refusal := liveCore s at_ fun s => if cis < 12 then s.optDone cis else s

/-- ROWSUM_BUILD (R247) on the scale tensor at an address. -/
def execRowsumBuild (at_ addr : Nat) (s : State) : Host.Outcome State Fault Refusal := liveCore s at_ fun s => s.rowsumBuild addr

/-- ROWSUM_DONE (R247). -/
def execRowsumDone (at_ addr : Nat) (s : State) : Host.Outcome State Fault Refusal := liveCore s at_ fun s => s.rowsumDone addr

end Sys2Proof.Machine
end

