-- ==== Sys2Proof/Machine/Plan.lean ====
section
/-! DEFINITION. Plans and the serving firmware (R259 to R290): the checks of a plan image, starting and stopping, the issue of tick records,
batches, ingest, emission, and checkpoints. -/

namespace Sys2Proof.Machine

/-! ### The section table (R262) -/

/-- R262: bytes of an entry of a section; sections 2 and 6 hold records of their own length. -/
def sectionEntry : Nat → Nat
  | 0 => 32 | 1 => 48 | 3 => 64 | 4 => 64 | 5 => 32 | 7 => 16608 | _ => 1

/-- R261: reserved fields of the header are zero and its numbers are in range. -/
def headerOk (h : List Byte) : Bool :=
  bits (fieldOf h 24 2) 10 6 == 0 && bits (fieldOf h 29 1) 4 4 == 0 && zeroAt h 30 2 && zeroAt h 36 28 && zeroAt h 192 64 &&
  decide (1 ≤ Ph.reqWells h ∧ Ph.reqWells h ≤ 800) && decide (25 ≤ Ph.tickUs h ∧ Ph.tickUs h ≤ 10000) && decide (Ph.linearGib h ≤ 64)

/-- R262: the sections' places, sizes and presence. -/
def sectionsOk (h : List Byte) : Bool :=
  let live := (List.range 8).filter fun k => Ph.len h k != 0
  live.all (fun k => Ph.off h k % 64 == 0 && decide (Ph.off h k + Ph.len h k ≤ Ph.size h) && Ph.len h k % sectionEntry k == 0) &&
  (live.zip (live.drop 1)).all (fun e => decide (Ph.off h e.1 + Ph.len h e.1 ≤ Ph.off h e.2)) &&
  [0, 1, 2].all live.contains && live.contains 5 == Ph.fabric h && (!live.contains 6 || Ph.resumable h) &&
  live.contains 7 == Ph.signed h && (Ph.len h 7 == 0 || Ph.len h 7 == 16608)

/-- R282: an address in the physical pool window. -/
def physicalPool (a : Nat) : Bool := decide (poolBase ≤ a ∧ a < poolBase + 832 * 2 ^ 20)

/-- R264: a tensor entry within its ranges. -/
def tensorOk (size : Nat) (t : List Byte) : Bool :=
  decide (1 ≤ Tn.tid t) && decide (1 ≤ Tn.fmt t ∧ Tn.fmt t ≤ 15) && bits (fieldOf t 3 1) 2 6 == 0 && Tn.base t % 4096 == 0 &&
  zeroAt t 10 2 && decide (1 ≤ Tn.bytes t ∧ Tn.bytes t ≤ 2 ^ 40) &&
  (if Tn.init t then decide (Tn.initOff t + Tn.bytes t ≤ size) else Tn.initOff t == 0) && zeroAt t 29 3 && !physicalPool (Tn.base t)

/-- R266: a program entry within its ranges. -/
def programOk (tids : List Nat) (starts : List Nat) (p : List Byte) : Bool :=
  let req := Prog.request p
  bits (fieldOf p 2 1) 4 4 == 0 && fieldOf p 3 1 == 0 && zeroAt p 37 11 && !(req && Prog.autostart p) && Prog.nTicks p != 0 &&
  decide (starts.length ≥ starts.findIdx (· == Prog.firstRec p) + Prog.nTicks p) &&
  (if req then decide (1 ≤ Prog.batchMax p ∧ Prog.batchMax p ≤ 1024) else Prog.batchMax p == 0) &&
  (!req || (tids.contains (Prog.inTid p) && tids.contains (Prog.outTid p))) &&
  (if Prog.stateful p then decide (2 ≤ Prog.slots p) && (!req || tids.contains (Prog.idxTid p)) else Prog.idxTid p == 0) &&
  decide (fieldOf p 30 2 < 4096) && decide (fieldOf p 32 2 < 4096) && decide (fieldOf p 34 1 < 64) && decide (fieldOf p 36 1 < 64) &&
  (req || fieldOf p 36 1 == 0)

/-! ### Tick records (R267) -/

namespace Rec
def size (r : List Byte) : Nat := fieldOf r 0 4
def nPass (r : List Byte) : Nat := fieldOf r 4 2
def nPump (r : List Byte) : Nat := fieldOf r 6 2
def nColl (r : List Byte) : Nat := fieldOf r 8 2
def sizeOk (r : List Byte) : Bool := size r == 16 + 16 * nPass r + 8 * nPump r + 4 * nColl r
def pass (r : List Byte) (i : Nat) : List Byte := (r.drop (16 + 16 * i)).take 16
def pump (r : List Byte) (i : Nat) : List Byte := (r.drop (16 + 16 * nPass r + 8 * i)).take 8
def coll (r : List Byte) (i : Nat) : Nat := fieldOf r (16 + 16 * nPass r + 8 * nPump r + 4 * i) 4
def passes (r : List Byte) : List (List Byte) := (List.range (nPass r)).map (pass r)
def pumps (r : List Byte) : List (List Byte) := (List.range (nPump r)).map (pump r)
def colls (r : List Byte) : List Nat := (List.range (nColl r)).map (coll r)
/-- Fields of a pass entry. -/
def lwell (e : List Byte) : Nat := bits (fieldOf e 0 2) 0 10
def wkind (e : List Byte) : Nat := bits (fieldOf e 2 1) 0 2
def wref (e : List Byte) : Nat := bits (fieldOf e 4 2) 0 12
def wval (e : List Byte) : Nat := fieldOf e 8 4
def pdesc (e : List Byte) : Nat := fieldOf e 12 4
/-- Fields of a pump entry. -/
def queue (e : List Byte) : Nat := bits (fieldOf e 0 2) 0 12
def ndesc (e : List Byte) : Nat := fieldOf e 2 2
def first (e : List Byte) : Nat := fieldOf e 4 4
end Rec

/-- R267: a pass entry within its ranges. -/
def passEntryOk (req npass : Nat) (e : List Byte) : Bool :=
  bits (fieldOf e 0 2) 10 6 == 0 && bits (fieldOf e 2 1) 2 6 == 0 && fieldOf e 3 1 == 0 && zeroAt e 6 2 && bits (fieldOf e 4 2) 12 4 == 0 &&
  decide (Rec.lwell e < req) && (Rec.wkind e != 2 || decide (Rec.wref e ≤ 799)) && (Rec.wkind e != 3 || decide (Rec.wref e ≤ 63)) &&
  decide (Rec.pdesc e < npass)

/-- R267, R272: a tick record: at most 15 passes for one logical well. -/
def recordOk (h r : List Byte) : Bool :=
  let wells := (Rec.passes r).map Rec.lwell
  zeroAt r 10 6 && (Rec.passes r).all (passEntryOk (Ph.reqWells h) (Ph.len h 3 / 64)) &&
  (Rec.pumps r).all (fun e => bits (fieldOf e 0 2) 12 4 == 0 && Rec.ndesc e != 0 && decide (Rec.first e + Rec.ndesc e ≤ Ph.len h 4 / 64)) &&
  (Rec.colls r).all (fun c => decide (c < Ph.len h 5 / 32)) && wells.all (fun w => decide (wells.count w ≤ 15))

/-- R157: reserved fields of a pass descriptor are zero, and it names no physical pool (R282). -/
def planPassOk (d : List Byte) : Bool :=
  bits (fieldOf d 2 1) 2 1 == 0 && bits (fieldOf d 3 1) 5 3 == 0 && bits (fieldOf d 4 2) 12 4 == 0 && bits (fieldOf d 6 2) 11 5 == 0 &&
  bits (fieldOf d 46 2) 12 4 == 0 && bits (fieldOf d 54 2) 12 4 == 0 && zeroAt d 57 3 &&
  !([Pd.act d, Pd.res d, Pd.param d, Pd.stat d].any physicalPool) && !(Pd.optical d && physicalPool (Pd.acc d)) &&
  !(Pd.outFmt d != 13 && physicalPool (Pd.out d))

/-- R199, R200: the same of a pump descriptor. -/
def planDescOk (d : List Byte) : Bool :=
  Qd.reservedZero d && !physicalPool (Qd.src d) && !physicalPool (Qd.dst d) &&
  !((Qd.op d == 5 || Qd.op d == 6) && physicalPool (Qd.idx d))

/-- R268: a collective entry within its ranges. -/
def collOk (tids : List Nat) (c : List Byte) : Bool :=
  (Ce.op c == 1 || Ce.op c == 2) && fieldOf c 3 1 == 0 && fieldOf c 13 1 == 0 && zeroAt c 16 16 && decide (Ce.h c ≤ 16) &&
  tids.contains (Ce.src c) && tids.contains (Ce.dst c)

/-- A byte string cut into parts of a length. -/
def chunks (n : Nat) (bs : List Byte) : List (List Byte) :=
  (List.range (bs.length / n)).map fun i => (bs.drop (n * i)).take n

/-- R269: checkpoint entries of section 6: program, TICK_INDEX, TIDs; none when the records do not fill the section or a reserved field is
not zero. -/
def parseCkpts (bs : List Byte) : Nat → Option (List (Nat × Nat × List Nat))
  | 0 => some []
  | fuel + 1 =>
    if bs.isEmpty then some []
    else
      let n := fieldOf bs 2 2
      let size := 16 + (2 * n + 15) / 16 * 16
      if bs.length < size ∨ !zeroAt bs 8 8 ∨ !zeroAt bs (16 + 2 * n) (size - 16 - 2 * n) then none
      else
        match parseCkpts (bs.drop size) fuel with
        | none => none
        | some rest => some ((fieldOf bs 0 2, fieldOf bs 4 4, (List.range n).map fun i => fieldOf bs (16 + 2 * i) 2) :: rest)

/-- Two tensors share an address. -/
def tensorsOverlap (a b : List Byte) : Bool := decide (Tn.base a < Tn.base b + Tn.bytes b ∧ Tn.base b < Tn.base a + Tn.bytes a)

namespace State

/-! ### Reading the image -/

/-- Bytes of the image of the plan at hand. -/
def img (s : State) (o n : Nat) : List Byte := s.peek (s.plan.addr + o) n

/-- A section of the image. -/
def section_ (s : State) (k : Nat) : List Byte := s.img (Ph.off s.plan.header k) (Ph.len s.plan.header k)

/-- R259: a place for a plan image: the cistern window, one die reservoir, or hub SRAM. -/
def imagePlace (s : State) (a n : Nat) : Bool :=
  let d := (a - reservoirBase) / 0x4000000
  s.inCisternOrHub a n || decide (reservoirBase ≤ a ∧ d < 4 ∧ a + n ≤ reservoirBase + d * 0x4000000 + 48 * 2 ^ 20)

/-- R263: the image's bytes outside section 7. -/
def imgUnsigned (s : State) : List Byte :=
  let h := s.plan.header
  let all := s.img 0 (Ph.size h)
  if Ph.len h 7 = 0 then all else all.take (Ph.off h 7) ++ all.drop (Ph.off h 7 + Ph.len h 7)

/-- R263: the CRC that the header should hold. -/
def imgCrc (s : State) : Nat := let b := s.imgUnsigned; crc32c (b.take 32 ++ List.replicate 4 0 ++ b.drop 36)

/-- R541: the key pair that signs plans: the owner's when one is installed, else the manifest's. -/
def planPair (s : State) : List Byte :=
  let o := s.boot.flash.ownerKey
  if o.isEmpty then s.manifest.take pairBytes else o

/-- R267: a tick record at an offset of section 2. -/
def recordAt (s : State) (o : Nat) : List Byte :=
  let a := Ph.off s.plan.header 2 + o
  let size := fieldOf (s.img a 4) 0 4
  s.img a size

/-- R262, R267: offsets of the records of section 2; none when they do not fill it. -/
def recordStarts (s : State) : Nat → Nat → Option (List Nat)
  | 0, o => if o = Ph.len s.plan.header 2 then some [] else none
  | fuel + 1, o =>
    let n := Ph.len s.plan.header 2
    if o = n then some []
    else if n < o + 16 then none
    else
      let r := s.img (Ph.off s.plan.header 2 + o) 16
      if !Rec.sizeOk r || decide (n < o + Rec.size r) then none
      else (s.recordStarts fuel (o + Rec.size r)).map (o :: ·)

/-- Offset in section 2 of record `i` of a program (R266: its records are consecutive). -/
def recordOff (s : State) : Nat → Nat → Nat
  | o, 0 => o
  | o, i + 1 => s.recordOff (o + fieldOf (s.img (Ph.off s.plan.header 2 + o) 4) 0 4) i

/-- A pump descriptor of section 4. -/
def poolDesc (s : State) (i : Nat) : List Byte := s.img (Ph.off s.plan.header 4 + 64 * i) 64

/-- R279: entries of a record with waits. -/
def waitEntries (s : State) (r : List Byte) : Nat :=
  ((Rec.passes r).filter fun e => Rec.wkind e != 0).length +
  ((Rec.pumps r).filter fun e => (List.range (Rec.ndesc e)).any fun j => Qd.wkind (s.poolDesc (Rec.first e + j)) != 0).length

/-! ### The checks (R272) -/

/-- R272, code 4: the layout of an image whose header and tables are held. -/
def layoutOk (s : State) : Bool :=
  let h := s.plan.header
  headerOk h && sectionsOk h &&
  match s.recordStarts (Ph.len h 2 / 16 + 1) 0, parseCkpts (s.section_ 6) (Ph.len h 6 / 16 + 1) with
  | some starts, some cks =>
    let ts := chunks 32 (s.section_ 0)
    let ps := chunks 48 (s.section_ 1)
    let cs := chunks 32 (s.section_ 5)
    let tids := ts.map Tn.tid
    ts.all (tensorOk (Ph.size h)) && decide tids.Nodup && ps.all (programOk tids starts) && decide (ps.map Prog.id).Nodup &&
    decide ((ps.filter fun p => Prog.request p && Prog.stateful p).length ≤ 64) &&
    starts.all (fun o => recordOk h (s.recordAt o)) && ps.all (fun p => decide (s.waitEntries (s.recordAt (Prog.firstRec p)) ≤ 256)) &&
    (chunks 64 (s.section_ 3)).all planPassOk && (chunks 64 (s.section_ 4)).all planDescOk &&
    cs.all (collOk tids) && decide (cs.map Ce.id).Nodup &&
    cks.all fun c =>
      (ps.any fun p => Prog.id p == c.1 && decide (c.2.1 < Prog.nTicks p)) &&
      c.2.2.all fun t => ts.any fun x => Tn.tid x == t && Tn.state x
  | _, _ => false

/-- R272, code 5: a tensor lies in mapped memory. -/
def tensorMapped (s : State) (t : List Byte) : Bool :=
  let a := Tn.base t
  let n := Tn.bytes t
  if a < 12 * 2 ^ 36 then decide (a + n ≤ 12 * 2 ^ 36) && (List.range 12).all fun c => s.isOn (pgCistern c)
  else if logicalBase ≤ a ∧ a < logicalBase + 800 * 2 ^ 20 then
    decide (a + n ≤ logicalBase + 800 * 2 ^ 20) &&
    (List.range ((a + n - 1) / 2 ^ 20 - a / 2 ^ 20 + 1)).all fun i => (s.physOf ((a - logicalBase) / 2 ^ 20 + i)).isSome
  else s.imagePlace a n

/-- R272, code 5, at LOAD and at START. -/
def memoryOk (s : State) : Bool :=
  let ts := s.plan.tensors
  ts.all s.tensorMapped && ts.zipIdx.all (fun a => ts.zipIdx.all fun b => a.2 == b.2 || !tensorsOverlap a.1 b.1) &&
  Ph.linearGib s.plan.header == s.rd (pgCistern 0) Reg.CISTERN.MAP_LINEAR_GIB

/-- R272: the code of the first LOAD check that fails; 0 when all pass. The header is held. -/
def loadReason (s : State) : Nat :=
  let h := s.plan.header
  if s.plan.addr % 4096 ≠ 0 ∨ !s.imagePlace s.plan.addr 256 ∨ Ph.magic h ≠ 0x4C504247 ∨ Ph.major h ≠ 1 ∨ Ph.size h < 4096 ∨
      2 ^ 30 < Ph.size h ∨ !s.imagePlace s.plan.addr (Ph.size h) then 1
  else if s.imgCrc ≠ Ph.crc h then 2
  else if Ph.signed h && !sigOk s.planPair (Config.sha384 s.imgUnsigned) (s.section_ 7) then 3
  else if !Ph.signed h && s.flag pgBOOT Reg.BOOT.SVC_CTL_REQUIRE_SIGNED then 3
  else if !s.layoutOk then 4
  else if !s.memoryOk then 5
  else 0

/-- R259: header and tables as LOAD reads them. -/
def readTables (s : State) (a : Nat) : State :=
  let s := { s with plan := { s.plan with addr := a } }
  let h := s.img 0 256
  let s := { s with plan := { s.plan with header := h } }
  if Ph.magic h ≠ 0x4C504247 ∨ 2 ^ 30 < Ph.size h ∨ !sectionsOk h then s
  else
    { s with plan := { s.plan with
      tensors := chunks 32 (s.section_ 0), programs := chunks 48 (s.section_ 1), colls := chunks 32 (s.section_ 5)
      ckpts := (parseCkpts (s.section_ 6) (Ph.len h 6 / 16 + 1)).getD [] } }

/-! ### Commands of the service (R270, R274) -/

def svcSt (s : State) : Nat := s.rd pgBOOT Reg.BOOT.SVC_STAT_ST

def setSvc (s : State) (st : Nat) : State := s.wr pgBOOT Reg.BOOT.SVC_STAT_ST st

/-- R272: refuse a command. -/
def svcRefuse (s : State) (code : Nat) : State := (s.wr pgBOOT Reg.BOOT.SVC_STAT_REFUSE code).raise pgBOOT 17

/-- R274, R276: no plan is loaded. -/
def svcEmpty (s : State) : State :=
  let s := ({ s with plan := {} }.setSvc 0).wr64 pgBOOT Reg.BOOT.PLAN_ID_LO 0
  let s := (s.wr pgBOOT Reg.BOOT.WELLS_REQ 0).wr pgBOOT Reg.BOOT.CKPT_PROG_VALID 0
  { s with boot := { s.boot with planDigest := [] } }

/-- SVC_LOAD (R272, R274): a LOAD starts the checks; the first that fails refuses the image. -/
def svcLoad (s : State) : State :=
  if s.svcSt ≠ 0 then s.svcRefuse 9
  else
    let a := s.rd pgBOOT Reg.BOOT.SVC_ADDR_LO_ADDR * 4096 + s.rd pgBOOT Reg.BOOT.SVC_ADDR_HI_ADDR * 2 ^ 32
    let t := (s.setSvc 1).readTables a
    let code := t.loadReason
    if code = 0 then t else s.svcRefuse code

/-- R265: the contents of INIT tensors go to their place. -/
def copyInit (s : State) (t : List Byte) : State :=
  if !Tn.init t then s
  else
    let sl (a : Nat) : Seal := { tid := Tn.tid t, fmt := Tn.fmt t, gen := Tn.gen t, blk := (a - Tn.base t) / 4096 }
    (s.write s.mapNow (Tn.base t) (s.img (Tn.initOff t) (Tn.bytes t)) sl).1

/-- PLAN_LOADED (R265, R274): every LOAD check has passed. -/
def planLoaded (s : State) : State :=
  if s.svcSt ≠ 1 then s
  else
    let h := s.plan.header
    let s := s.each s.plan.tensors copyInit
    let s := ((s.setSvc 2).raise pgBOOT 16).wr64 pgBOOT Reg.BOOT.PLAN_ID_LO (Ph.planId h)
    let s := (s.wr pgBOOT Reg.BOOT.WELLS_REQ (Ph.reqWells h)).wr pgBOOT Reg.BOOT.CKPT_PROG_VALID 0
    { s with boot := { s.boot with planDigest := Config.sha384 s.imgUnsigned } }

/-- SVC_START (R273, R276): a START in tick n is checked in tick n + 1; it finds SVC_CTL.RESUME as it stands. -/
def svcStart (s : State) : State :=
  if s.svcSt ≠ 2 then s.svcRefuse 9
  else if s.plan.startAt.isSome ∨ s.plan.firstTick.isSome then s
  else
    { s with plan := { s.plan with
      startAt := some s.tick.number, startOff := s.tick.off
      resume := s.flag pgBOOT Reg.BOOT.SVC_CTL_RESUME && Ph.resumable s.plan.header } }

/-- SVC_STOP (R274). -/
def svcStop (s : State) : State :=
  if s.svcSt ≠ 3 then s.svcRefuse 9
  else if s.plan.stopAt.isSome then s
  else { s with plan := { s.plan with stopAt := some s.tick.number, stopOff := s.tick.off } }

/-- SVC_UNLOAD (R274). -/
def svcUnload (s : State) : State := if s.svcSt ≠ 2 then s.svcRefuse 9 else s.svcEmpty

/-- R270: a write of SVC_CMD. -/
def svcCommand (s : State) (op : Nat) : State :=
  match op with
  | 1 => s.svcLoad
  | 2 => s.svcStart
  | 3 => s.svcStop
  | 4 => s.svcUnload
  | _ => s

/-- Queues that a plan names: in its records, passes and waits, and for ingest and emission. -/
def planQueues (s : State) : List Nat :=
  let starts := (s.recordStarts (Ph.len s.plan.header 2 / 16 + 1) 0).getD []
  (starts.flatMap fun o => (Rec.pumps (s.recordAt o)).map Rec.queue ++
    ((Rec.passes (s.recordAt o)).filter fun e => Rec.wkind e == 1).map Rec.wref) ++
  ((chunks 64 (s.section_ 3)).filter Pd.optical).flatMap (fun d => [Pd.wq d, Pd.sq d]) ++
  ((chunks 64 (s.section_ 4)).filter fun d => Qd.wkind d == 1).map Qd.wref ++
  (s.plan.programs.filter Prog.request).flatMap fun p => [Prog.ingQ p, Prog.emitQ p]

/-- R272: the code of the first START check that fails; 0 when all pass. -/
def startReason (s : State) : Nat :=
  let h := s.plan.header
  if !s.memoryOk then 5
  else if s.goodNow < Ph.reqWells h + 1 then 6
  else if (s.tick.src = 2 ∧ (s.fabric.gm.isNone ∨ s.tick.periodUs ≠ Ph.tickUs h)) ∨ (Ph.fabric h ∧ s.tick.src ≠ 2) then 7
  else if s.planQueues.any fun q => !s.isOn (pgPumpq q) then 8
  else 0

/-- R273, steps 1 and 2: the checks of a START of the preceding tick; the flag asks for a commit of TICK_US. -/
def startCheck (s : State) : State × Bool :=
  match s.plan.startAt with
  | none => (s, false)
  | some n =>
    if s.tick.number ≤ n then (s, false)
    else
      let s := { s with plan := { s.plan with startAt := none } }
      let code := s.startReason
      if code ≠ 0 then (s.svcRefuse code, false)
      else
        let change := s.rd pgTICK Reg.TICK.PERIOD_US != Ph.tickUs s.plan.header
        let first := s.tick.number + (if change then 2 else 1)
        ({ s with plan := { s.plan with firstTick := some first } }.wr64 pgBOOT Reg.BOOT.START_TICK_LO first, change)

/-! ### Writing what a record issues -/

/-- The firmware writes bytes within one block, which keeps its seal's fields (log entry 26). -/
def fwStore (s : State) (a : Nat) (bs : List Byte) : State :=
  match s.resolve s.qmap a with
  | .mem key => (s.store key bs { s.blockSeal (key / 4096) with bad := false }).1
  | _ => s

/-- Work that an instance issues on a queue, in its record, for tick `t`. -/
def queueWork (i : Instance) (t q : Nat) (d : List Byte) : Issued :=
  { prog := i.prog, record := i.record, tick := t, delayed := decide (1 ≤ i.d), pass := false, at_ := q, desc := d }

/-- R278: a descriptor goes into its queue's ring. One that finds it full is held: what is written ahead, until the end of the tick (`retryAhead`);
any other is not issued, and is an overrun at the end of its tick (R42). -/
def ringWrite (s : State) (x : Issued) : State :=
  let q := x.at_
  let next := (s.head q + 1) % s.ringSize q
  if next = s.tail q then { s with plan := { s.plan with dropped := s.plan.dropped ++ [x] } }
  else
    let s := (s.fwStore (s.slotAddr q (s.head q)) x.desc).wr (pgPumpq q) Reg.PUMPQ.HEAD_INDEX next
    { s with plan := { s.plan with steps := x :: s.plan.steps } }

/-- R278: at the last instant of a tick, what is written ahead and found no room goes into the rings as far as they have room now. -/
def retryAhead (s : State) : State :=
  let l := s.plan.dropped.filter fun x => decide (s.tick.number < x.tick)
  ({ s with plan := { s.plan with dropped := s.plan.dropped.filter fun x => decide (x.tick ≤ s.tick.number) } }).each l fun s x =>
    (s.ringWrite x).fetch x.at_

/-- R280: the moon writes the next entry of a logical well into its pass ring when its condition holds. The flag says that it did. -/
def passWrite (s : State) (n : Nat) : State × Bool :=
  match s.plan.entries.find? fun e => e.work.at_ == n, s.physOf n with
  | some e, some w =>
    if s.waitMet e.kind e.ref e.val && decide (s.passDepth w < 15) then
      let head := s.rd (pgWell w) Reg.WELL.PASSQ_HEAD_INDEX
      let key := s.passKey w head
      let s := (s.store key e.work.desc { s.blockSeal (key / 4096) with bad := false }).1.wr (pgWell w) Reg.WELL.PASSQ_HEAD_INDEX ((head + 1) % 16)
      ({ s with plan := { s.plan with entries := s.plan.entries.erase e, steps := e.work :: s.plan.steps } }, true)
    else (s, false)
  | _, _ => (s, false)

/-- R280: entries without a wait at the front of a logical well's list are written. -/
def passFlush (s : State) (n : Nat) : Nat → State
  | 0 => s
  | fuel + 1 =>
    match s.plan.entries.find? fun e => e.work.at_ == n with
    | some e => if e.kind ≠ 0 then s else let r := s.passWrite n; if r.2 then passFlush r.1 n fuel else r.1
    | none => s

/-- MOON_PASS_WRITE (R280): the entry due for a logical well, and those without a wait behind it. -/
def moonPassWrite (s : State) (n : Nat) : State :=
  let r := s.passWrite n
  if r.2 then r.1.passFlush n 16 else s

/-! ### Instances -/

/-- R279: the counters at a boundary: passes counted, DONE_COUNTs, and generations that are not 0. -/
def sampleBases (s : State) : List (Nat × Nat × Nat) :=
  (s.usedQueues.map fun q => (1, q, s.rd (pgPumpq q) Reg.PUMPQ.DONE_COUNT)) ++ (s.pump.passCount.map fun e => (2, e.1, e.2)) ++
  (List.range 64).map fun b => (3, b, s.barGen b)

/-- R279: a wait value of the image, rebased. -/
def rebase (i : Instance) (kind ref val : Nat) : Nat :=
  let base := ((i.bases.find? fun b => b.1 == kind && b.2.1 == ref).map (·.2.2)).getD 0
  if kind = 3 then (val + base) % 256 else (val + base) % 2 ^ 32

/-- Bytes put over a byte string at an offset. -/
def putAt (bs : List Byte) (o : Nat) (v : List Byte) : List Byte := bs.take o ++ v ++ bs.drop (o + v.length)

/-- R278: what the firmware changes in a descriptor that runs in tick `t`: TICK, STATUS and WVAL. -/
def stampDesc (t : Nat) (i : Instance) (d : List Byte) : List Byte :=
  let d := if Qd.untimed d then d else putAt d 56 (bytesOf 4 t)
  let d := putAt d 60 (bytesOf 4 0)
  if Qd.wkind d = 0 then d else putAt d 52 (bytesOf 4 (rebase i (Qd.wkind d) (Qd.wref d) (Qd.wval d)))

/-- A COPY (op 1) or GATHER (op 5) of the service, of the current tick. -/
def svcDesc (s : State) (op cls len src dst tid blk0 : Nat) (idx esize nitem : Nat) (wkind wref wval : Nat) (arrive : Option Nat) : List Byte :=
  bytesOf 1 op ++ bytesOf 1 (16 * cls + 4 * b2n arrive.isSome) ++ bytesOf 1 0 ++ bytesOf 1 (arrive.getD 0) ++ bytesOf 4 len ++ bytesOf 6 src ++
  bytesOf 6 dst ++ bytesOf 2 tid ++ bytesOf 2 0 ++ bytesOf 4 blk0 ++ bytesOf 6 idx ++ bytesOf 2 esize ++ bytesOf 4 nitem ++ bytesOf 8 0 ++
  bytesOf 1 wkind ++ bytesOf 1 0 ++ bytesOf 2 wref ++ bytesOf 4 wval ++ bytesOf 4 s.tick.number ++ bytesOf 4 0

/-- R285: a request's class in a program. -/
def servedClass (p : List Byte) (r : Request) : Nat := if r.cls = 0 ∧ Prog.nTicks p ≠ 1 then 1 else r.cls

/-- The requests of a batch with their first slots, in batch order. -/
def batchOf (s : State) (i : Instance) : List (Request × Nat) :=
  i.batch.filterMap fun b => (s.plan.requests.find? fun r => r.id == b.1).map fun r => (r, b.2)

def tensorBase (s : State) (tid : Nat) : Nat := ((s.tensor tid).map Tn.base).getD 0

/-- R260: place of a program's index list: its number among the REQUEST programs with STATEFUL set. -/
def indexPlace (s : State) (pi : Nat) : Nat :=
  hubBase + 0x10000 + 4096 * ((s.plan.programs.take pi).filter fun p => Prog.request p && Prog.stateful p).length

/-- R284: GATHERs that pad the slots from item `o` on, at most 1,024 items each. -/
def padDescs (s : State) (cls es src base tid : Nat) : Nat → Nat → Nat → List (List Byte)
  | 0, _, _ => []
  | fuel + 1, o, n =>
    if n ≤ o then []
    else
      let k := min 1024 (n - o)
      s.svcDesc 5 cls (es * k) src (base + es * o) tid (es * o / 4096) (hubBase + 0x1000) es k 0 0 0 none ::
        s.padDescs cls es src base tid fuel (o + k) n

/-- R284: the ingest descriptors of an instance, items 1 to 3, in order. -/
def ingestDescs (s : State) (pi : Nat) (p : List Byte) (i : Instance) : List (List Byte) :=
  let blks := Prog.inBlks p
  let tid := Prog.inTid p
  let base := s.tensorBase tid
  let heads := 256 * Prog.batchMax p * blks
  let l := s.batchOf i
  let reqs := l.flatMap fun e =>
    let w := frameBase + e.1.port * 2 ^ 32 + e.1.vc * 2 ^ 28 + e.1.slot * 2 ^ 24
    let n := e.1.vectors * blks
    let o := 256 * blks * e.2
    let h := heads + 4 * blks * e.2
    let cls := servedClass p e.1
    [s.svcDesc 1 cls (256 * n) w (base + o) tid (o / 4096) 0 0 0 0 0 0 none,
     s.svcDesc 1 cls (4 * n) (w + 0x800000) (base + h) tid (h / 4096) 0 0 0 0 0 0 none]
  let used := (l.map fun e => e.1.vectors).foldl (· + ·) 0 * blks
  let all := Prog.batchMax p * blks
  reqs ++ s.padDescs 1 256 hubBase base tid (all / 1024 + 1) used all ++
  (s.padDescs 1 4 (hubBase + 0x100) (base + heads) tid (all / 1024 + 1) used all).map (fun d =>
    putAt d 24 (bytesOf 4 ((Qd.dst d - base) / 4096))) ++
  (if Prog.stateful p then
    [s.svcDesc 1 1 (4 * Prog.batchMax p) (s.indexPlace pi) (s.tensorBase (Prog.idxTid p)) (Prog.idxTid p) 0 0 0 0 0 0 0 none] else [])

/-- R284: the index list of a batch goes to the index staging, under the seal of the tensor that it is copied to. -/
def writeIndex (s : State) (pi : Nat) (p : List Byte) (i : Instance) : State :=
  if !Prog.stateful p then s
  else
    let slots := (s.batchOf i).flatMap fun e => List.replicate e.1.vectors e.1.seqSlot
    let bs := padTo (4 * Prog.batchMax p) (slots.flatMap (bytesOf 4))
    let t := Prog.idxTid p
    let sl : Seal := { tid := t, gen := s.tick.number % 256, fmt := ((s.tensor t).map Tn.fmt).getD 0 }
    (s.write s.qmap (s.indexPlace pi) bs fun _ => sl).1

/-- R284: the ingest of an instance that starts now. -/
def ingest (s : State) (pi : Nat) (p : List Byte) (i : Instance) : State :=
  let q := Prog.ingQ p
  let s := s.writeIndex pi p i
  let ds := s.ingestDescs pi p i
  let done := s.rd (pgPumpq q) Reg.PUMPQ.DONE_COUNT
  let last := s.svcDesc 1 1 0 0 0 0 0 0 0 0 1 q ((done + ds.length) % 2 ^ 32) (some (Prog.ingBar p))
  (s.each (ds ++ [last]) fun s d => s.ringWrite (queueWork i s.tick.number q d)).fetch q

/-! ### Emission (R286, R489) -/

/-- R286, R486: what emits one request's result. INT16 results have no single block exponent: XEXP is a free value. -/
def emissionOf (s : State) (p : List Byte) (i : Instance) (r : Request) (slot : Nat) : State × Emission :=
  let n := r.vectors * Prog.outBlks p
  let tid := Prog.outTid p
  let fmt := ((s.tensor tid).map Tn.fmt).getD 0
  let x := if fmt = 9 then s.draw 9 else (s, 0)
  let pre := padTo 64 (r.reply (if 1 ≤ i.d then 1 else 0) ++ bytesOf 1 fmt ++ bytesOf 1 0 ++ bytesOf 2 (ofSigned x.2.toInt 16) ++ bytesOf 4 n ++
    bytesOf 8 0 ++ bytesOf 4 (256 * n) ++ bytesOf 1 1)
  let o := 256 * Prog.outBlks p * slot
  let d := s.svcDesc 1 (servedClass p r) (256 * n) (s.tensorBase tid + o) (frameBase + (8 + r.outPort) * 2 ^ 32 + r.outVc * 2 ^ 28) tid (o / 4096)
    0 0 0 3 (Prog.emitBar p) (rebase i 3 (Prog.emitBar p) (Prog.emitGen p)) none
  (x.1, ⟨queueWork i s.tick.number (Prog.emitQ p) d, r.outPort, r.outVc, pre⟩)

/-- R489: emissions whose channel has no frame under assembly are written: the preamble, then the copy. -/
def writeEmissions (s : State) : State :=
  let l := s.plan.emits
  ({ s with plan := { s.plan with emits := [] } }).each l fun s e =>
    if (s.txPort e.port).assembling.any fun a => a.vc == e.vc then { s with plan := { s.plan with emits := s.plan.emits ++ [e] } }
    else ((s.preamble e.port e.vc e.preamble).1.ringWrite e.work).fetch e.work.at_

/-- R286: the emissions of an instance in its last tick. -/
def emitAll (s : State) (p : List Byte) (i : Instance) : State :=
  (s.each (s.batchOf i) fun s e =>
    let r := s.emissionOf p i e.1 e.2
    { r.1 with plan := { r.1.plan with emits := r.1.plan.emits ++ [r.2] } }).writeEmissions

/-! ### Issue of a record (R278 to R281) -/

/-- The tick record that an instance runs. -/
def recordFor (s : State) (i : Instance) : List Byte := s.recordAt (s.recordOff (Prog.firstRec (s.plan.programs.getD i.prog [])) i.record)

/-- R278: the descriptors of an instance's record that `sel` takes are written for tick `t`, in record order. -/
def writePumps (s : State) (i : Instance) (t : Nat) (sel : List Byte → Bool) : State :=
  s.each (Rec.pumps (s.recordFor i)) fun s e =>
    let ds := ((List.range (Rec.ndesc e)).map fun j => s.poolDesc (Rec.first e + j)).filter sel
    (s.each ds fun s d => s.ringWrite (queueWork i t (Rec.queue e) (stampDesc t i d))).fetch (Rec.queue e)

/-- R280: the pass entries of an instance's record in the current tick. -/
def passEntries (s : State) (i : Instance) : List PassEntry :=
  (Rec.passes (s.recordFor i)).map fun e =>
    { work := { prog := i.prog, record := i.record, tick := s.tick.number, delayed := decide (1 ≤ i.d), pass := true, at_ := Rec.lwell e
                desc := s.img (Ph.off s.plan.header 3 + 64 * Rec.pdesc e) 64 }
      kind := Rec.wkind e, ref := Rec.wref e, val := if Rec.wkind e = 0 then 0 else rebase i (Rec.wkind e) (Rec.wref e) (Rec.wval e) }

/-- RECORD_ISSUE (R278 to R281): the record that an instance runs in the current tick, with the descriptors that are not written ahead; `first`
says that it is its first record, whose waits are rebased now (R279). -/
def issueRecord (s : State) (i : Instance) (first : Bool) : State :=
  let p := s.plan.programs.getD i.prog []
  let done := s.plan.ahead.contains (i.prog, s.tick.number)
  let s := s.each (Rec.colls (s.recordFor i)) fun s c => s.collIssue c i.record (decide (1 ≤ i.d))
  let es := s.passEntries i
  let s := { s with plan := { s.plan with entries := s.plan.entries ++ es } }
  let s := s.each (List.dedup (es.map fun e => e.work.at_)) fun s n => s.passFlush n 16
  let s := if done then s else s.writePumps i s.tick.number fun d => !first || Qd.wkind d == 0
  let s := if first then s.writePumps i s.tick.number fun d => Qd.wkind d != 0 else s
  if Prog.request p ∧ i.record + 1 = Prog.nTicks p then s.emitAll p i else s

/-- INSTANCE_START (R277, R279): an instance of a program starts in this tick, at record `rec0`; in a calibration tick that record waits. -/
def startInstance (s : State) (pi rec0 : Nat) (batch : List (Nat × Nat)) : State :=
  let p := s.plan.programs.getD pi []
  let dark := s.cal.calTick != 0
  let i : Instance := { prog := pi, start := s.tick.number, record := rec0, d := b2n dark, fresh := dark, bases := s.plan.sampled, batch := batch }
  let i := if Prog.request p then
      { i with ingest := some ((s.rd (pgPumpq (Prog.ingQ p)) Reg.PUMPQ.DONE_COUNT + 2 * batch.length) % 2 ^ 32) } else i
  let s := { s with plan := { s.plan with instances := s.plan.instances ++ [i] } }
  let s := if Prog.request p then s.ingest pi p i else s
  if dark then s else s.issueRecord i true

/-- R283: order in which requests enter a batch. -/
def requestRank (p : List Byte) (r : Request) : Nat :=
  (((b2n (servedClass p r != 0) * 2 ^ 64 + r.frameEnd.tick) * 2 ^ 32 + r.frameEnd.off) * 8 + r.port) * 16 + r.vc

/-- R283: the requests that fit, from the front, each with its first slot. -/
def fillBatch (room : Nat) : List Request → Nat → List (Nat × Nat)
  | [], _ => []
  | r :: rest, slot => if room < slot + r.vectors then [] else (r.id, slot) :: fillBatch room rest (slot + r.vectors)

/-- R283, R573: the requests for a program whose Frame Ends lie before this boundary, in order. -/
def batchQueue (s : State) (p : List Byte) : List Request :=
  sortBy (requestRank p) (s.plan.waiting.filter fun r => r.prog == Prog.id p && decide (r.frameEnd.tick < s.tick.number))

/-- BATCH_CLOSE (R283): a REQUEST program with no running instance closes its batch. -/
def closeBatch (s : State) (pi : Nat) : State :=
  let p := s.plan.programs.getD pi []
  let l := s.batchQueue p
  if l.isEmpty then s
  else
    let b := fillBatch (Prog.batchMax p) l 0
    let take := l.take b.length
    let s := { s with plan := { s.plan with
      waiting := s.plan.waiting.filter fun r => !take.any fun t => t.id == r.id, requests := s.plan.requests ++ take } }
    (s.bump pgBOOT Reg.BOOT.REQ_ACCEPTED take.length).startInstance pi 0 b

/-- Programs in ascending PROG_ID, by index. -/
def programOrder (s : State) : List Nat := sortBy (fun i => Prog.id (s.plan.programs.getD i [])) (List.range s.plan.programs.length)

/-- R284, R475: frame slots of a batch whose ingest copies are complete, or that `all` releases. -/
def releaseIngested (s : State) (all : Bool) : State :=
  s.each s.plan.instances fun s i =>
    match i.ingest with
    | none => s
    | some n =>
      let q := Prog.ingQ (s.plan.programs.getD i.prog [])
      if all || s.waitMet 1 q n then
        let s := s.each (s.batchOf i) fun s e => s.releaseSlot e.1.port e.1.vc e.1.slot
        { s with plan := { s.plan with instances := s.plan.instances.map fun x => if x.prog == i.prog then { x with ingest := none } else x } }
      else s

/-! ### Boundaries -/

/-- R276: a tensor was written in the instance, and no block of it is WITHHELD. -/
def cleanTensor (s : State) (i : Instance) (tid : Nat) : Bool :=
  match s.tensor tid with
  | none => false
  | some t =>
    decide (i.start + 1 ≤ sparseGet (fun _ => 0) s.plan.written tid) &&
    (List.range (ceilDiv (Tn.bytes t) 4096)).all fun b =>
      match s.resolve s.mapNow (Tn.base t + 4096 * b) with
      | .mem key => !(s.blockSeal (key / 4096)).withheld && !(s.blockSeal (key / 4096)).bad && !s.cist.eccBad.contains (key / 4096)
      | _ => false

/-- CHECKPOINT (R276) at the end of the tick in which an instance ran its record. -/
def recordCkpt (s : State) (i : Instance) : State :=
  let id := Prog.id (s.plan.programs.getD i.prog [])
  if s.plan.overran then s
  else match s.plan.ckpts.find? fun c => c.1 == id && c.2.1 == i.record && c.2.2.all (s.cleanTensor i) with
    | none => s
    | some c =>
      let s := { s with plan := { s.plan with recorded := s.plan.recorded.filter (fun x : Nat × Nat => x.1 != i.prog) ++ [(i.prog, c.2.1)] } }
      ((s.wr pgBOOT Reg.BOOT.CKPT_TICK c.2.1).wr pgBOOT Reg.BOOT.CKPT_PROG_PROG id).wr pgBOOT Reg.BOOT.CKPT_PROG_VALID 1

/-- R287: the slots of sequences whose end flag came with a batch that has ended. -/
def freeSeqs (s : State) (i : Instance) : State :=
  s.each (s.batchOf i) fun s e =>
    if e.1.seqEnd then { s with plan := { s.plan with seqs := s.plan.seqs.filter fun x => !(x.prog == i.prog && x.slot == e.1.seqSlot) } } else s

/-- An instance ends. -/
def endInstance (s : State) (i : Instance) : State :=
  let s := s.freeSeqs i
  { s with plan := { s.plan with
    instances := s.plan.instances.filter fun x => x.prog != i.prog, endedNow := s.plan.endedNow ++ [i.prog]
    requests := s.plan.requests.filter fun r => !i.batch.any fun b => b.1 == r.id } }

/-- R42, R278, R280: work of the closing tick that was never issued: pass entries not written, descriptors that found their ring full, and
emissions whose channel was never free. -/
def closeUnissued (s : State) : State :=
  let t := s.tick.number
  let s := s.each s.plan.entries fun s e =>
    let w := (s.physOf e.work.at_).getD 0
    (s.markPass w e.work.desc true).overrun (pgWell w) t e.work.record (Pd.id e.work.desc)
  let s := s.each (s.plan.dropped.filter fun x => x.tick == t) fun s x => (s.markDest x.at_ x.desc).overrun (pgPumpq x.at_) t x.record 0
  let s := s.each s.plan.emits fun s e =>
    (s.statusFrame e.port e.vc (withCode (e.preamble.take 32) 2)).overrun (pgPumpq e.work.at_) t e.work.record 0
  { s with plan := { s.plan with entries := [], emits := [], dropped := s.plan.dropped.filter fun x => decide (t < x.tick) } }

/-- R42, R276, R280: the plan at the end of a tick, before the commits: work that was not issued is an overrun, checkpoints are recorded, and
instances whose last record has run end. -/
def planClose (s : State) : State :=
  let s := ({ s with plan := { s.plan with endedNow := [] } }).closeUnissued.releaseIngested true
  let s := if s.cal.calTick ≠ 0 then s
    else
      let s := s.each s.plan.instances recordCkpt
      s.each (s.plan.instances.filter fun i => decide (Prog.nTicks (s.plan.programs.getD i.prog []) ≤ i.record + 1)) endInstance
  { s with plan := { s.plan with overran := false } }

/-- R277, R283: a program without an instance: a REQUEST program closes its batch, and a CYCLIC program restarts in the tick after its last
record; one that is both restarts with an empty batch when no request waits. -/
def openInstance (s : State) (pi : Nat) : State :=
  let p := s.plan.programs.getD pi []
  if Prog.request p && s.planRunning && !(s.batchQueue p).isEmpty then s.closeBatch pi
  else if Prog.cyclic p && s.plan.endedNow.contains pi then s.startInstance pi 0 []
  else s

def instanceOf (s : State) (pi : Nat) : Option Instance := s.plan.instances.find? fun i => i.prog == pi

def putInstance (s : State) (i : Instance) : State :=
  { s with plan := { s.plan with instances := s.plan.instances.map fun x : Instance => if x.prog == i.prog then i else x } }

/-- R277: the programs in a plan tick, in ascending PROG_ID: one record of each running instance, and instances that start. -/
def planRecords (s : State) : State :=
  let s := s.each s.programOrder fun s pi =>
    match s.instanceOf pi with
    | some i =>
      let j := { i with fresh := false, record := if i.fresh then i.record else i.record + 1 }
      (s.putInstance j).issueRecord j i.fresh
    | none => s.openInstance pi
  if s.delayedTick then s.bump pgTICK Reg.TICK.DELAYED_COUNT else s

/-- R277: a calibration tick: D counts it for every running instance; batches close and instances start all the same. -/
def planHolds (s : State) : State :=
  let s := { s with plan := { s.plan with instances := s.plan.instances.map fun i : Instance => { i with d := i.d + 1 } } }
  s.each s.programOrder fun s pi => if (s.instanceOf pi).isSome then s else s.openInstance pi

/-- R276: the record at which an AUTOSTART program starts. -/
def startRecord (s : State) (pi : Nat) : Nat :=
  match s.plan.recorded.find? fun c => c.1 == pi with
  | some c => if s.plan.resume then c.2 + 1 else 0
  | none => 0

/-- R276, R277: record at which an AUTOSTART program starts its first instance; none when its checkpoint was its last record. -/
def firstRecord (s : State) (pi : Nat) : Option Nat :=
  let p := s.plan.programs.getD pi []
  let r := s.startRecord pi
  if !Prog.autostart p then none else if r < Prog.nTicks p then some r else if Prog.cyclic p then some 0 else none

/-- R278: the instance whose record a program runs in the next tick, as far as it is known, and whether it is an instance's first record. -/
def aheadRecord (s : State) (pi : Nat) : Option (Instance × Bool) :=
  let p := s.plan.programs.getD pi []
  match s.instanceOf pi with
  | none => none
  | some i =>
    if i.fresh then none
    else if i.record + 1 < Prog.nTicks p then some ({ i with record := i.record + 1 }, false)
    else if Prog.cyclic p then some ({ prog := pi, start := s.tick.number + 1 }, true)
    else none

/-- R278: descriptors of the next tick's records are written ahead: of a first record those without waits. DESIGN CHOICE (log entry 40): at the
opening of the tick before, or, where that tick is a calibration tick, at its last instant, which is the boundary. -/
def writeAhead (s : State) (next : Nat → Option (Instance × Bool)) : State :=
  let t := s.tick.number + 1
  s.each s.programOrder fun s pi =>
    match next pi with
    | none => s
    | some (i, first) =>
      ({ s with plan := { s.plan with ahead := s.plan.ahead ++ [(pi, t)] } }).writePumps i t fun d => !first || Qd.wkind d == 0

/-- R278: what the firmware writes in the tick that begins for the records of the next one. -/
def planAhead (s : State) : State :=
  if s.svcSt = 3 ∧ s.cal.calTick = 0 ∧ s.cal.calNext = false then s.writeAhead s.aheadRecord
  else if s.svcSt = 2 ∧ s.plan.firstTick = some (s.tick.number + 1) then
    s.writeAhead fun pi => (s.firstRecord pi).map fun r => ({ prog := pi, start := s.tick.number + 1, record := r }, true)
  else s

/-- A queue still holds a descriptor: executing, shadowed, or in its ring. -/
def queueHolds (s : State) (q : Nat) (d : List Byte) : Bool :=
  (match s.exec? q with
    | some e => e.desc == d || e.merged.any fun x => x.2 == d
    | none => false) ||
  (match (s.queue q).shadow with
    | some x => x.2 == d
    | none => false) ||
  (List.range ((s.head q + s.ringSize q - s.tail q) % s.ringSize q)).any fun i => s.peek (s.slotAddr q ((s.tail q + i) % s.ringSize q)) 64 == d

/-- What is kept of the work issued: that of the last tick on, and UNTIMED descriptors that their queues still hold. -/
def purgeSteps (s : State) : State :=
  let t := s.tick.number
  { s with plan := { s.plan with
    steps := s.plan.steps.filter fun x => decide (t ≤ x.tick + 1) || (!x.pass && Qd.untimed x.desc && s.queueHolds x.at_ x.desc)
    ahead := s.plan.ahead.filter fun x => decide (t ≤ x.2)
    badSteps := s.plan.badSteps.filter fun x => decide (t ≤ x.2 + 1) } }

/-- R274, R277, R278, R279: the plan at the boundary that begins the current tick, after the commits. -/
def planStep (s : State) : State :=
  let s := { s with plan := { s.plan with sampled := s.sampleBases } }
  let s := match s.plan.stopAt with
    | some n =>
      if s.svcSt = 3 ∧ n < s.tick.number then
        let s := (s.setSvc 4).wr pgTICK Reg.TICK.STATUS_PINNED 0
        if s.plan.stopForced then s.raise pgBOOT 18 else s
      else s
    | none => s
  let works := s.svcSt = 3 ∨ (s.svcSt = 4 ∧ s.plan.stopAt.any fun n => n + 1 == s.tick.number)
  let s := s.purgeSteps
  let s := if !works then s else if s.cal.calTick ≠ 0 then s.planHolds else s.planRecords
  s.planAhead

/-- PLAN_RUN_START (R273): at tick s the plan runs. -/
def planRunStart (s : State) : State :=
  if s.svcSt ≠ 2 ∨ s.plan.firstTick ≠ some s.tick.number then s
  else
    let s := { s with plan := { s.plan with firstTick := none, stopAt := none, stopForced := false } }
    let resumed := (List.range s.plan.programs.length).any fun pi => Prog.autostart (s.plan.programs.getD pi []) && s.startRecord pi != 0
    let s := ((s.setSvc 3).wr pgTICK Reg.TICK.STATUS_PINNED 1).wr pgBOOT Reg.BOOT.SVC_STAT_RESUMED (b2n resumed)
    let s := s.each (s.plan.programs.filter Prog.request) fun s p => s.barTarget (Prog.ingBar p / 16) (Prog.ingBar p % 16) 1
    (s.each s.programOrder fun s pi => match s.firstRecord pi with
      | some r => s.startInstance pi r []
      | none => s).planAhead

/-- PLAN_STOP_DONE (R274): at boundary n + 2 a stopping plan is LOADED again; the requests of instances that have not ended go as
STOPPED and end their sequences where they say so (R287), and requests that wait find no plan running (R288). -/
def planStopDone (s : State) : State :=
  if s.svcSt ≠ 4 ∨ !(s.plan.stopAt.all fun n => decide (n + 2 ≤ s.tick.number)) then s
  else
    let s := s.each s.plan.instances fun s i => s.each (s.batchOf i) fun s e => s.statusFrame e.1.outPort e.1.outVc (e.1.reply 4)
    let s := s.each s.plan.instances freeSeqs
    let s := s.each s.plan.waiting fun s r => (s.refuseRequest r 8).releaseSlot r.port r.vc r.slot
    let s := s.releaseIngested true
    ({ s with plan := { s.plan with
      instances := [], requests := [], waiting := [], entries := [], emits := [], dropped := [], ahead := [], stopAt := none, stopForced := false } }).setSvc 2

/-- SEQ_SLOT_TIMEOUT (R287): a sequence without a request for SEQ_TIMEOUT ticks. -/
def seqSlotTimeout (s : State) (pi slot : Nat) : State :=
  let t := s.rd pgBOOT Reg.BOOT.SEQ_TIMEOUT_TICKS
  { s with plan := { s.plan with
    seqs := s.plan.seqs.filter fun x => !(x.prog == pi && x.slot == slot && decide (x.last + t ≤ s.tick.number)) } }

end State

/-- PLAN_LOADED (R274). -/
def execPlanLoaded (at_ : Nat) (s : State) : Host.Outcome State Fault Refusal := liveCore s at_ fun s => s.planLoaded

/-- PLAN_RUN_START (R273). -/
def execPlanRunStart (at_ : Nat) (s : State) : Host.Outcome State Fault Refusal := liveCore s at_ fun s => s.planRunStart

/-- PLAN_STOP_DONE (R274). -/
def execPlanStopDone (at_ : Nat) (s : State) : Host.Outcome State Fault Refusal := liveCore s at_ fun s => s.planStopDone

/-- MOON_PASS_WRITE (R280): for the logical well whose moon writes. -/
def execMoonPassWrite (at_ n : Nat) (s : State) : Host.Outcome State Fault Refusal := liveCore s at_ fun s => s.moonPassWrite n

/-- SEQ_SLOT_TIMEOUT (R287): program by index, and sequence slot. -/
def execSeqSlotTimeout (at_ prog slot : Nat) (s : State) : Host.Outcome State Fault Refusal := liveCore s at_ fun s => s.seqSlotTimeout prog slot

end Sys2Proof.Machine
end

