-- ==== Sys2Proof/Machine/Txn.lean ====
section
/-! DEFINITION. Page locks (R61, R62), transaction groups (R63 to R67, R70 to R73) and writes to fields that change at a boundary
(R65, R67, R69). Applying commits is in Commit.lean. -/

namespace Sys2Proof.Machine

/-- R58: the path identities: I3C port 0, I3C port 1, firmware. -/
def busPath (path : Nat) : Bool := 1 ≤ path && path ≤ 3

/-- R55: fields of a page kind that change at a boundary; CTL.EN is read-only on always-on pages. -/
def rwsFields (k : PageKind) : List Field :=
  (if k.alwaysOn then [] else [Reg.HDR.CTL_EN]) ++ k.fields.filter fun f => f.acc == .rws

/-- Bits of the fields of one access code at an offset of a page kind. -/
def accMask (k : PageKind) (a : Access) (off : Nat) : Nat :=
  ((fieldsAt k off).filter fun e => e.1.acc == a && !(k.alwaysOn && off == 8)).foldl (fun m e => m + (2 ^ e.1.width - 1) <<< e.1.lsb) 0

/-- Offsets of the registers of a page kind that hold fields changing at a boundary. -/
def rwsOffsets (k : PageKind) : List Nat :=
  (rwsFields k).foldl (fun l f => (List.range (max 1 f.count)).foldl (fun l i => addOnce (f.at i) l) l) []

/-- A word with the bits of a mask taken from another. -/
def maskMerge (old new : Word) (m : Nat) : Word := let k := BitVec.ofNat 32 m; (old &&& ~~~k) ||| (new &&& k)

namespace State

/-- R61: LOCK.HOLDER of a page. -/
def holder (s : State) (pg : Nat) : Nat := s.rd pg Reg.HDR.LOCK_HOLDER

/-- R61: a write from this path is discarded. -/
def lockedOut (s : State) (path pg : Nat) : Bool := s.holder pg != 0 && s.holder pg != path

/-- R56: LOCK_VIOLATION. -/
def lockViolation (s : State) (pg : Nat) : State := s.raise pg 3

/-- LOCK_WRITE (R61, R62): take, release, or discard. -/
def lockWrite (s : State) (path pg v : Nat) : State :=
  let h := s.holder pg
  let owned := pg == pgSYS || s.holder pgSYS == 0 || s.holder pgSYS == path
  if v % 4 = path ∧ h = 0 ∧ owned = true then s.wr pg Reg.HDR.LOCK_HOLDER path
  else if v % 4 = 0 ∧ h = path then s.wr pg Reg.HDR.LOCK_HOLDER 0
  else s.lockViolation pg

/-! ### Groups -/

/-- The open or commit-pending group of a page. -/
def groupOf (s : State) (pg : Nat) : Option TxnGroup := s.txn.groups.find? fun g => g.pages.contains pg

def groupById (s : State) (g : Nat) : Option TxnGroup := s.txn.groups.find? fun x => x.id == g

/-- R72: outcome of a page's operation, with the rejected field when there is one. -/
def setStatus (s : State) (pg code : Nat) (off lsb : Nat := 0) : State :=
  ((s.wr pg Reg.HDR.TXN_STAT_STATUS code).wr pg Reg.HDR.TXN_STAT_REJ_OFFSET off).wr pg Reg.HDR.TXN_STAT_REJ_LSB lsb

/-- R72: a refusal leaves the membership and raises TXN_REFUSED. -/
def refuseTxn (s : State) (pg code : Nat) : State := (s.setStatus pg code).raise pg 2

/-- The groups with one replaced, by ID. -/
def putGroup (s : State) (x : TxnGroup) : State :=
  { s with txn := { s.txn with groups := (s.txn.groups.filter fun g => g.id != x.id) ++ [x] } }

/-- A group and its shadows are gone (R68, R70, R71). -/
def closeGroup (s : State) (x : TxnGroup) : State :=
  { s with txn := { s.txn with
      groups := s.txn.groups.filter fun g => g.id != x.id
      shadow := s.txn.shadow.filter fun e => !x.pages.contains (e.1 / 0x1000)
      seen := s.txn.seen.filter fun e => !x.pages.contains (e.1 / 0x1000) } }

/-- R70, R71: a group rolls back: every page reports the status and raises TXN_ROLLBACK. -/
def rollback (s : State) (x : TxnGroup) (code : Nat) : State :=
  (s.closeGroup x).each x.pages fun s pg => (s.setStatus pg code).raise pg 1

/-- R70: a group whose timeout has run out with no COMMIT stamped before. -/
def overdue (s : State) (x : TxnGroup) : Bool := decide (x.opened + x.timeout ≤ (x.commit.map (·.tick)).getD s.tick.number)

/-- R70: groups whose timeout ran out roll back before anything else happens to a group. -/
def expireGroups (s : State) : State := s.each s.txn.groups fun s x => if s.overdue x then s.rollback x 4 else s

/-- TXN_TIMEOUT (R70). -/
def txnTimeout (s : State) (g : Nat) : State :=
  match s.groupById g with
  | some x => if s.overdue x then s.rollback x 4 else s
  | none => s

/-- R82: an offset of the host-time counter. -/
def hostTimeOff (k : PageKind) (o : Nat) : Bool := k == .tick && (o == 0x060 || o == 0x064)

/-- R64: the live words of a page at BEGIN. The host-time words enter the group only when they are written (R82), and the registers that
several pages show enter it through the first of them: `own` selects the words that the commit moves to live, and otherwise those that the
page only shows. -/
def snapshot (s : State) (pg : Nat) (own : Bool) : List (Nat × Word) :=
  match pageKind pg with
  | none => []
  | some k => ((rwsOffsets k).filter fun o => (!hostTimeOff k o && (canonReg pg o).1 == pg) == own).map fun o =>
      (pg * 0x1000 + o, if hostTimeOff k o then BitVec.ofNat 32 (if o = 0x060 then s.hostNow else s.hostNow / 2 ^ 32) else s.word (regAddr pg o))

/-- R63: the group belongs to another path. -/
def foreign (s : State) (path g : Nat) : Bool := (s.groupById g).any fun x => x.owner != path

/-- TXN_BEGIN (R64): group g joined or opened by a page. DESIGN CHOICE (log entry 45): where several refusals hold for one BEGIN, the status
is the first of group 0, a group of another path, a page in another group, a commit-pending group. -/
def txnBegin (s : State) (path pg g : Nat) : State :=
  if g = 0 then s.refuseTxn pg 8
  else if s.foreign path g then s.refuseTxn pg 9
  else match s.groupOf pg with
    | some x => if x.id = g then s else s.refuseTxn pg 7
    | none =>
      let t := { s.txn with shadow := s.txn.shadow ++ s.snapshot pg true, seen := s.txn.seen ++ s.snapshot pg false }
      match s.groupById g with
      | some x =>
        if x.commit.isSome then s.refuseTxn pg 8
        else (({ s with txn := t }).putGroup { x with pages := x.pages ++ [pg] }).setStatus pg 1
      | none =>
        (({ s with txn := t }).putGroup ⟨g, path, [pg], s.tick.number, s.rd pgSYS Reg.SYS.TXN_TIMEOUT_TICKS, none, s.tick.off⟩).setStatus pg 1

/-- TXN_COMMIT (R66, R67). -/
def txnCommit (s : State) (path pg g : Nat) : State :=
  if s.foreign path g then s.refuseTxn pg 9
  else match s.groupById g with
    | none => s.refuseTxn pg 8
    | some x =>
      if !x.pages.contains pg then s.refuseTxn pg 8
      else if x.commit.isSome then s
      else (s.putGroup { x with commit := some s.now }).each x.pages fun s p => s.setStatus p 2

/-- TXN_ABORT (R66, R67, R71). -/
def txnAbort (s : State) (path pg g : Nat) : State :=
  if s.foreign path g then s.refuseTxn pg 9
  else match s.groupById g with
    | none => s.refuseTxn pg 8
    | some x =>
      if !x.pages.contains pg then s.refuseTxn pg 8
      else if x.commit.isSome then (s.setStatus pg 2).raise pg 2
      else s.rollback x 5

/-- A write of TXN_CTL (R55, R63): GROUP and OP; a locked page refuses every operation with LOCKED. -/
def txnCtl (s : State) (path pg v : Nat) : State :=
  let s := s.expireGroups
  let g := bits v 0 8
  let op := bits v 8 2
  if op = 0 then (if s.lockedOut path pg then s.lockViolation pg else s)
  else if s.lockedOut path pg then (s.lockViolation pg).refuseTxn pg 9
  else if op = 1 then s.txnBegin path pg g
  else if op = 2 then s.txnCommit path pg g
  else s.txnAbort path pg g

/-! ### Writes to fields that change at a boundary -/

/-- The word that a page's group holds for a register: its shadow, or else the live word. -/
def shadowWord (s : State) (pg off : Nat) : Word :=
  ((sparseFind s.txn.shadow (pg * 0x1000 + off)).orElse fun _ => sparseFind s.txn.seen (pg * 0x1000 + off)).getD (s.word (regAddr pg off))

/-- The state with a shadow word stored. -/
def putShadow (s : State) (a : Nat) (w : Word) : State :=
  { s with txn := { s.txn with shadow := (s.txn.shadow.filter fun e => e.1 != a) ++ [(a, w)] } }

/-- R65, R67, R69: a write to the fields of a register that change at a boundary. -/
def rwsWrite (s : State) (pg off : Nat) (m : Nat) (v : Word) : State :=
  let s := s.expireGroups
  match s.groupOf pg with
  | some x => if x.commit.isSome then s.raise pg 2 else s.putShadow (pg * 0x1000 + off) (maskMerge (s.shadowWord pg off) v m)
  | none => { s with txn := { s.txn with lone := s.txn.lone ++ [⟨s.now, pg * 0x1000 + off, v⟩] } }

end State

end Sys2Proof.Machine
end

