-- ==== Sys2Proof/Machine/Show.lean ====
section
/-! DEFINITION. What a register reads as: the stored word, or the value that the state behind it gives (R53, R55 and the page tables), and
the shadow while the page is in an open group (R7). -/

namespace Sys2Proof.Machine

/-- R125: code of a plane state. -/
def PlaneState.code : PlaneState → Nat
  | .empty => 0 | .loading => 1 | .ready => 2 | .active => 3 | .refreshing => 4

/-- R53: the low words of LO/HI pairs; the HI word follows at offset + 4. -/
def loWords : PageKind → List Field
  | .sys => [Reg.SYS.SERIAL_LO, Reg.SYS.HMEM_ADDR_LO_ADDR, Reg.SYS.I3C_PID_LO]
  | .tick => [Reg.TICK.NUMBER_LO, Reg.TICK.HOST_TIME_LO]
  | .hport => [Reg.HPORT.PEER_ID_LO, Reg.HPORT.RBASE_LO, Reg.HPORT.TX_FRAMES_LO, Reg.HPORT.RX_FRAMES_LO, Reg.HPORT.FEC_CORR_LO,
      Reg.HPORT.FABRIC_ID_LO, Reg.HPORT.GROUP_BASE_LO_ADDR, Reg.HPORT.EPOCH_TICK_LO, Reg.HPORT.GM_ID_LO, Reg.HPORT.MID_LO]
  | .cistern => [Reg.CISTERN.UE_ADDR_LO, Reg.CISTERN.READ_BYTES_LO, Reg.CISTERN.WRITE_BYTES_LO]
  | .pwr => [Reg.PWR.ENERGY_LO]
  | .cal => [Reg.CAL.WCAL_LAST_LO, Reg.CAL.WCAL_TICK_LO, Reg.CAL.WCAL_DUE_LO, Reg.CAL.LCAL_LAST_LO, Reg.CAL.CCAL_LAST_LO]
  | .test => [Reg.TEST.FT_LAST_LO, Reg.TEST.FLEET_ADDR_LO_ADDR]
  | .sec => [Reg.SEC.REQ_ADDR_LO_ADDR]
  | .boot => [Reg.BOOT.SVC_ADDR_LO_ADDR, Reg.BOOT.PLAN_ID_LO, Reg.BOOT.START_TICK_LO, Reg.BOOT.UPD_ADDR_LO_ADDR]
  | .wdie => [Reg.WDIE.PUMP_BYTES_LO]
  | .well => [Reg.WELL.DARK_SYMBOLS_LO, Reg.WELL.ADC_CLIPS_LO, Reg.WELL.REQ_CLIPS_LO, Reg.WELL.UNDERFLOWS_LO, Reg.WELL.OUTPUTS_LO,
      Reg.WELL.ADC_SAMPLES_LO, Reg.WELL.QFIT_TICK_LO]
  | .pumpq => [Reg.PUMPQ.RING_BASE_LO_ADDR, Reg.PUMPQ.BYTES_LO]
  | _ => []

/-- R53: the register at an offset is the low word of a pair. -/
def isLoWord (k : PageKind) (off : Nat) : Bool := (loWords k).any fun f => (f.indexAt off).isSome

/-- The low or high word of a number. -/
def loHi (v : Nat) (hi : Bool) : Nat := if hi then v / 2 ^ 32 % 2 ^ 32 else v % 2 ^ 32

/-- A signed quantity in 16 bits. -/
def s16 (x : Int) : Nat := ofSigned x 16

namespace State

/-- R78, R498, R511: SYS registers. -/
def showSys (s : State) (off w : Nat) : Nat :=
  if off = 0x044 then (832 - s.boot.flash.badWells.length) + s.relief * 2 ^ 16
  else if off = 0x050 then b2n s.clearActive + 2 * b2n (!s.pins.clrN) + 4 * b2n s.conv.clrSoft
  else if off = 0x064 then loHi s.boot.flash.serial false
  else if off = 0x068 then loHi s.boot.flash.serial true
  else if off = 0x100 then setBits w 8 7 (0x48 + s.pins.addrSel)
  else if off = 0x120 then setBits w 8 7 (0x50 + s.pins.addrSel)
  else if off = 0x140 then 0xB832 * 2 ^ 16 + s.boot.flash.serial % 4096
  else w

/-- R81: TICK registers. -/
def showTick (s : State) (off w : Nat) : Nat :=
  if off = 0x050 then loHi s.tick.number false
  else if off = 0x054 then loHi s.tick.number true
  else if off = 0x058 then s.tick.off
  else if off = 0x060 then loHi s.hostNow false
  else if off = 0x064 then loHi s.hostNow true
  else w

/-- R103: EVT registers. -/
def showEvt (s : State) (off w : Nat) : Nat :=
  if off = 0x04C then
    b2n s.pins.clrN + 2 * b2n s.pins.optoffN + 4 * b2n s.pins.tickIn + 8 * b2n s.pins.resetN + 16 * b2n s.pins.pwrgd
  else if off = 0x058 then s.evt.ibi0.length + s.evt.ibi1.length * 2 ^ 8
  else w

/-- R466: HPORT registers about the member MSEL. -/
def showHport (s : State) (off w : Nat) : Nat :=
  let r := s.rd (pgHport 0) Reg.HPORT.MSEL_RANK
  let id := (s.rankId r).getD 0
  let route := s.fabric.routes.find? fun e => e.1 == r
  if off = 0x43C then loHi id false
  else if off = 0x440 then loHi id true
  else if off = 0x444 then min 255 ((route.map (·.2.1)).getD 0) + 2 ^ 8 * b2n (s.rankId r).isSome
  else if off = 0x448 then ((route.map (·.2.2)).getD []).foldl (fun a p => setBit a p) 0
  else w

/-- R316: COMB registers of source `i`. -/
def showComb (s : State) (i off w : Nat) : Nat :=
  let x := s.source i
  if off = 0x040 then x.cs + s.regionOf i * 2 ^ 4 + s.partnerOf i * 2 ^ 8
  else if off = 0x044 then x.bias + Config.biasMax i % 2 ^ 14 * 2 ^ 16
  else if 0x070 ≤ off ∧ off < 0x0B0 then
    (match x.taps[(off - 0x070) / 4]? with
    | some t => s16 t
    | none => 0x8000)
  else if off = 0x0B0 then ((regionWells (s.regionOf i)).filter fun n => decide (n < 832) && (s.well n).darkLight).length
  else if off = 0x100 then s.light.closed
  else if off = 0x108 then b2n (!s.pins.optoffN)
  else w

/-- R135, R165, R195, R395: WELL registers of well `n`. -/
def showWell (s : State) (n off w : Nat) : Nat :=
  let x := s.well n
  if off = 0x04C then x.planeA.st.code + x.planeB.st.code * 2 ^ 4 + b2n x.activeB * 2 ^ 8 + b2n (s.readyTile n).isNone * 2 ^ 9
  else if off = 0x050 then n % 16 + s.sourceOf n * 2 ^ 4
  else if off = 0x068 ∨ off = 0x06C then loHi (s.rd64 (pgWell n) Reg.WELL.DARK_SYMBOLS_LO + s.darkNow n) (off == 0x06C)
  else if off = 0x078 then
    let r := s.rd (pgWell n) Reg.WELL.RXP_SEL_ROW
    (match x.rxp[r]? with
    | some p => if r < 130 then s16 p else 0x8000
    | none => 0x8000)
  else if off = 0x100 then
    (match x.passes.head? with
    | some p => p.st + s.passDepth n * 2 ^ 8 + Pd.id p.desc * 2 ^ 16
    | none => s.passDepth n * 2 ^ 8)
  else if off = 0x250 then min 65535 (s.rowTol n (s.rd (pgWell n) Reg.WELL.OPT_CTL_RX_GAIN))
  else w

/-- R367: ST of WCAL_STAT. -/
def calState (s : State) (n : Nat) : Nat :=
  if s.st (pgWell n) = 4 then 5
  else if s.cal.seqs.any fun q => q.well == n then 4
  else if (s.wellCal n).overdue then 3
  else if s.calDue n ≤ s.tick.number then 2
  else if s.calDue n ≤ s.tick.number + s.calTicks Reg.CAL.EARLY_MS then 1
  else 0

/-- R367: CAL registers. -/
def showCal (s : State) (off w : Nat) : Nat :=
  let n := s.rd pgCAL Reg.CAL.WSEL_WELL
  let c := s.wellCal n
  let l := s.laneCal (s.rd pgCAL Reg.CAL.LSEL_PORT) (s.rd pgCAL Reg.CAL.LSEL_LANE)
  let i := s.combCal (s.rd pgCAL Reg.CAL.CSEL_SOURCE)
  if off = 0x06C then
    (List.range 4).foldl (fun a d =>
      a + ((s.cal.seqs.find? fun q => dieOf q.well == d).map fun q => q.well % 208).getD 0xFF * 2 ^ (8 * d)) 0
  else if off = 0x074 then min c.count (2 ^ 32 - 1)
  else if off = 0x078 ∨ off = 0x07C then loHi c.host (off == 0x07C)
  else if off = 0x080 ∨ off = 0x084 then loHi c.tick (off == 0x084)
  else if off = 0x088 ∨ off = 0x08C then loHi (if c.count = 0 ∧ !c.dueNow then 0 else s.calDue n) (off == 0x08C)
  else if off = 0x090 then s.calState n + min 3 c.retries * 2 ^ 8 + (sparseGet (fun _ => []) s.boot.flash.weakRows n).headD 0xFF * 2 ^ 16
  else if off = 0x098 then min l.count (2 ^ 32 - 1)
  else if off = 0x09C ∨ off = 0x0A0 then loHi l.host (off == 0x0A0)
  else if off = 0x0A4 then min 255 l.consec + min 65535 l.rejects * 2 ^ 16
  else if off = 0x0AC then min i.count (2 ^ 32 - 1)
  else if off = 0x0B0 ∨ off = 0x0B4 then loHi i.host (off == 0x0B4)
  else if off = 0x0B8 then i.linesRej % 2 ^ 16
  else w

/-- R421: ST of FT_STAT. -/
def ftState (s : State) (n : Nat) : Nat :=
  let f := s.ftRec n
  if f.excluded then 5
  else if s.st (pgWell n) = 4 then 4
  else if s.fault.sessions.any (fun x => x.well == n && !s.sessionOver x) then 3
  else if s.ftDue n ≤ s.tick.number then 2
  else if s.ftDue n ≤ s.tick.number + s.ftTicks Reg.TEST.FT_EARLY_S then 1
  else 0

/-- Word `i` of a 1 KiB page of a byte string; zero beyond its end. -/
def winWord (bs : List Byte) (page i : Nat) : Nat := fieldOf bs (page * 1024 + 4 * i) 4

/-- R421: TEST registers. -/
def showTest (s : State) (off w : Nat) : Nat :=
  let n := s.rd pgTEST Reg.TEST.WSEL_WELL
  let f := s.ftRec n
  let r := (s.fault.ring.head?.map (·.bytes)).getD []
  if off = 0x054 then s.ftState n + f.last % 16 * 2 ^ 4 + f.cause % 256 * 2 ^ 8 + min 255 f.returns * 2 ^ 16
  else if off = 0x058 then min f.count (2 ^ 32 - 1)
  else if off = 0x05C ∨ off = 0x060 then loHi f.host (off == 0x060)
  else if off = 0x07C then (List.range 4).foldl (fun a d => a + (s.fault.local_.filter fun e => e.1 == d).length * 2 ^ (4 * d)) 0
  else if off = 0x080 then (List.range 18).foldl (fun a i => a + b2n (s.safetyInput i) * 2 ^ i) 0
  else if off = 0x084 then s.fault.ring.length
  else if off = 0x08C then (s.fault.ring.head?.map (·.seq)).getD 0
  else if off = 0x090 then r.length
  else if 0x400 ≤ off ∧ off < 0x800 then winWord r (s.rd pgTEST Reg.TEST.REC_PAGE_PAGE) ((off - 0x400) / 4)
  else w

/-- R530: THERM registers about the sensor SENSOR_SEL. -/
def showTherm (s : State) (off w : Nat) : Nat :=
  let x := s.sensor (s.rd pgTHERM Reg.THERM.SENSOR_SEL_INDEX)
  if off = 0x064 then (if x.seen then s16 x.t else 0x8000) + b2n x.broken * 2 ^ 16 + x.cause * 2 ^ 17 else w

/-- R270, R275: service registers of the BOOT page. -/
def showBoot (s : State) (off w : Nat) : Nat :=
  if off = 0x824 then
    let req := s.rd pgBOOT Reg.BOOT.WELLS_REQ
    req + (if s.svcSt = 0 then 0 else s.goodNow - req) * 2 ^ 16
  else if off = 0x82C then
    (match s.physOf (s.rd pgBOOT Reg.BOOT.MAP_SEL_LOGICAL) with
    | some n => n + 2 ^ 15 + b2n (s.standInOf n).isSome * 2 ^ 16
    | none => 0)
  else w

/-- What a register of a page holds now, whatever the groups: R55 and the page tables. -/
def showWord (s : State) (k : PageKind) (pg off : Nat) : Nat :=
  let w := (s.word (regAddr pg off)).toNat
  if off = 0x018 then s.rd pg Reg.HDR.EVT_RAW &&& s.rd pg Reg.HDR.EVT_EN
  else if off = 0x020 then ((s.groupOf pg).map (·.id)).getD 0
  else if off = 0x024 then
    (match s.groupOf pg with
    | some x => if x.commit.isNone then setBits w 24 8 (min 255 (x.opened + x.timeout - s.tick.number)) else w
    | none => w)
  else if off < 0x040 then w
  else
    match k with
    | .sys => s.showSys off w
    | .tick => s.showTick off w
    | .evt => s.showEvt off w
    | .frameIn =>
      if 0x180 ≤ off ∧ off < 0x1C0 then setBits w 16 15 (s.heldMask (pg - 0x10) ((off - 0x180) / 4)) else w
    | .frameOut =>
      if off = 0x054 then min 63 (s.txPort (pg - 0x18)).ready.length + s.txBytes (pg - 0x18) / 1024 % 2 ^ 20 * 2 ^ 12 else w
    | .hport => s.showHport off w
    | .comb => s.showComb (pg - 0x50) off w
    | .cal => s.showCal off w
    | .test => s.showTest off w
    | .therm => s.showTherm off w
    | .boot => s.showBoot off w
    | .sec => if 0x400 ≤ off ∧ off < 0x800 then winWord s.boot.evidence (s.rd pgSEC Reg.SEC.EV_PAGE_PAGE) ((off - 0x400) / 4) else w
    | .wdie =>
      if off = 0x100 ∨ off = 0x110 ∨ off = 0x120 ∨ off = 0x130 then
        let p := 4 * (pg - 0x70) + (off - 0x100) / 16
        s.minSum p % 4096 + s.freeCredits p % 4096 * 2 ^ 16
      else w
    | .cluster => if off = 0x144 then (s.trimRead (pg - 0x80)).2 else w
    | .well => s.showWell (pg - 0x100) off w
    | .cistern | .pwr | .integ | .pumpq => w

/-- R7: the word a read returns: write-only fields read 0, and fields of a page in an open group read their shadow. -/
def readWord (s : State) (k : PageKind) (pg off : Nat) : Word :=
  let live := BitVec.ofNat 32 (s.showWord k pg off) &&& ~~~(BitVec.ofNat 32 (accMask k .wo off))
  match s.groupOf pg with
  | some x =>
    if x.commit.isNone then
      match (sparseFind s.txn.shadow (pg * 0x1000 + off)).orElse fun _ => sparseFind s.txn.seen (pg * 0x1000 + off) with
      | some v => maskMerge live v (accMask k .rws off)
      | none => live
    else live
  | none => live

end State

end Sys2Proof.Machine
end

