-- ==== Sys2Proof/Machine/Bus.lean ====
section
/-! DEFINITION. Register accesses (R7, R51 to R53, R58, R59, R61, R86): reads and writes of one word by a path, with the effects of the
registers that have one, and the host memory windows (R509). -/

namespace Sys2Proof.Machine

/-- R52, R61, R504: what became of one access. -/
inductive Access1 where
  | ok | unmapped | locked
  deriving DecidableEq, Repr

/-- R509: the window k of an offset of the SYS page, with the word of its data when it is one. -/
def hmemAt (off : Nat) : Option (Nat × Option Nat) :=
  if 0x180 ≤ off ∧ off < 0x280 then
    let k := (off - 0x180) / 0x80
    let r := (off - 0x180) % 0x80
    some (k, if 0x40 ≤ r then some ((r - 0x40) / 4) else none)
  else none

namespace State

/-! ### Host memory windows (R509) -/

/-- Window address A of port k. -/
def winAddr (s : State) (k : Nat) : Nat :=
  s.rd pgSYS Reg.SYS.HMEM_ADDR_LO_ADDR k * 64 + s.rd pgSYS Reg.SYS.HMEM_ADDR_HI_ADDR k * 2 ^ 32

/-- The window address moves on by 64 bytes. -/
def winAdvance (s : State) (k : Nat) : State :=
  let a := s.winAddr k + 64
  (s.wr pgSYS Reg.SYS.HMEM_ADDR_LO_ADDR (a % 2 ^ 32 / 64) k).wr pgSYS Reg.SYS.HMEM_ADDR_HI_ADDR (a / 2 ^ 32) k

/-- R509: the module serves the window at this address; in RECOVERY hub SRAM only. -/
def winServed (s : State) (a : Nat) : Bool :=
  let rom := s.rd pgBOOT Reg.BOOT.BOOT_STAT_PHASE == 5
  match s.resolve s.mapNow a with
  | .mem key =>
    match unitOf key with
    | .cistern _ | .reservoir _ => !rom
    | .hub => inFreeHub a 4
    | .pool _ => false
  | _ => false

/-- R509: seal of a window write. -/
def winSeal (s : State) (k a : Nat) : Seal :=
  { s.genSeal (s.rd pgSYS Reg.SYS.HMEM_SEAL_TID k) (s.rd pgSYS Reg.SYS.HMEM_BLK0 k) (s.i3cPort k).winStart
      (s.rd pgSYS Reg.SYS.HMEM_SEAL_FMT k) false a with delayed := false }

/-- HMEM_DATA_WRITE (R509): word i of window k. -/
def hmemWrite (s : State) (k i : Nat) (v : Word) : State :=
  let a := s.winAddr k + 4 * i
  let t := if s.winServed a then (s.write s.mapNow a (bytesOf 4 v.toNat) (s.winSeal k)).1
    else s.wr pgSYS Reg.SYS.HMEM_STAT_BAD_ADDR 1 k
  if i = 15 then t.winAdvance k else t

/-- HMEM_DATA_READ (R509): word i of window k. -/
def hmemRead (s : State) (k i : Nat) : State × Word :=
  let a := s.winAddr k + 4 * i
  let r : State × Word :=
    if s.winServed a then
      let x := s.read s.mapNow a 4
      (if x.2.withheld || x.2.sealFail then x.1.wr pgSYS Reg.SYS.HMEM_STAT_SEAL_FAIL 1 k else x.1, BitVec.ofNat 32 (numOf x.2.bytes))
    else (s.wr pgSYS Reg.SYS.HMEM_STAT_BAD_ADDR 1 k, 0)
  (if i = 15 then r.1.winAdvance k else r.1, r.2)

/-- HMEM_ADDR_LO_WRITE (R509): bits [31:6] of A, and S. -/
def hmemAddrLo (s : State) (k : Nat) (v : Word) : State :=
  let s := s.wr pgSYS Reg.SYS.HMEM_ADDR_LO_ADDR (v.toNat / 64) k
  s.onI3c k fun p => { p with winStart := s.winAddr k }

/-! ### Writes with an effect -/

/-- EVT_SET (R55). -/
def evtSet (s : State) (pg v : Nat) : State := s.wr pg Reg.HDR.EVT_RAW (s.rd pg Reg.HDR.EVT_RAW ||| v % 2 ^ 32)

/-- EVT_STAT (R55): writing 1 clears the bit of EVT_RAW. -/
def evtClear (s : State) (pg : Nat) (v : Word) : State :=
  s.setWord (regAddr pg 0x010) (s.word (regAddr pg 0x010) &&& ~~~v)

/-- SOFT_RESET (R78): a write with another WKEY is discarded and raises TXN_REFUSED. -/
def softReset (s : State) (wkey : Nat) : State := if wkey = 0xA5C3 then s.resetState causeSoft else s.raise pgSYS 2

/-- SYS.CLEAR (R78). DESIGN CHOICE (log entry 48): with CLR and RELEASE both written 1, CLR comes first. -/
def sysCommand (s : State) (v : Nat) : State :=
  let s := if bitAt v 0 then s.sysClear else s
  let s := if bitAt v 1 then s.sysRelease else s
  if bitAt v 8 then s.softReset (v / 2 ^ 16) else s

/-- R345: a reference check asked for by a register write measures what the model leaves free (log entry 9). -/
def refCheckFree (s : State) : State :=
  let f := s.draw 1
  let a := f.1.draw 32
  let b := a.1.draw 32
  let c := b.1.draw 32
  c.1.refCheckAsked (f.2 == 1) a.2.toInt b.2.toInt c.2.toInt

/-- CAL.CMD (R367). -/
def calCommand (s : State) (v : Nat) : State :=
  let s := if bitAt v 0 then s.wellNow (s.rd pgCAL Reg.CAL.WSEL_WELL) else s
  let s := if bitAt v 1 then s.refCheckFree else s
  let s := if bitAt v 2 then s.laneNow (s.rd pgCAL Reg.CAL.LSEL_PORT) (s.rd pgCAL Reg.CAL.LSEL_LANE) else s
  if bitAt v 3 then s.combNow (s.rd pgCAL Reg.CAL.CSEL_SOURCE) else s

/-- TEST.CMD (R421). -/
def testCommand (s : State) (v : Nat) : State :=
  let w := s.rd pgTEST Reg.TEST.WSEL_WELL
  let s := if bitAt v 0 then s.testNow w else s
  let s := if bitAt v 1 then s.returnNow w else s
  let s := if bitAt v 2 then s.fleetLoad else s
  if bitAt v 3 then s.recPop else s

/-- SEC.CMD (R556). -/
def secCommand (s : State) (v : Nat) : State :=
  let s := if bitAt v 0 then s.evidence else s
  if bitAt v 1 then s.owner else s

/-- BOOT.CMD (R555); in RECOVERY the boot ROM serves UPDATE (R543). -/
def bootCommand (s : State) (v : Nat) : State :=
  if s.rd pgBOOT Reg.BOOT.BOOT_STAT_PHASE = 5 then (if bitAt v 0 then s.recoveryUpdate else s)
  else
    let s := if bitAt v 0 then s.bootUpdate else s
    let s := if bitAt v 1 then s.bootCommit else s
    if bitAt v 2 then s.saveCfg else s

/-- FAB_CMD (R446, R456). -/
def fabCommand (s : State) (v : Nat) : State :=
  let s := if bitAt v 0 then { s with fabric := { s.fabric with reload := true } } else s
  if bitAt v 1 then s.fabLeave else s

/-- CNT_CLR (R165): the 64-bit counters of a well read 0. -/
def cntClr (s : State) (w : Nat) : State :=
  s.each (List.range 10) fun s i => s.setWord (regAddr (pgWell w) (0x120 + 4 * i)) 0

/-- HEAD_DOORBELL (R203, R227): HEAD written, and the queue fetches. -/
def doorbell (s : State) (q h : Nat) : State :=
  ((s.wr (pgPumpq q) Reg.PUMPQ.HEAD_INDEX (h % s.ringSize q)).fetch q).drainQueue q

/-- A register whose write has an effect of its own; none for the others. -/
def effectWrite (s : State) (path : Nat) (k : PageKind) (pg off : Nat) (v : Word) : Option State :=
  let n := v.toNat
  if off = 0x018 then some (s.evtClear pg v)
  else if off = 0x01C then some (s.evtSet pg n)
  else if off = 0x020 then some (s.txnCtl path pg n)
  else if off < 0x040 then none
  else
    match k with
    | .sys =>
      if off = 0x04C then some (s.sysCommand n)
      else match hmemAt off with
        | some (w, some i) => some (s.hmemWrite w i v)
        | some (w, none) => if off = 0x180 + 0x80 * w then some (s.hmemAddrLo w v) else none
        | none => none
    | .frameIn => if off = 0x064 then some (s.releaseSlot (pg - 0x10) (bits n 4 4) (bits n 0 4)) else none
    | .hport =>
      if off = 0x418 then some (s.fabCommand n)
      else if off = 0x44C then some (if bits n 0 2 = 0 then s else s.ctrlSend (bits n 0 2) (bits n 4 3) (bits n 16 16))
      else none
    | .cistern =>
      if 0x100 ≤ off ∧ off < 0x140 then
        let t := s.wr pg Reg.CISTERN.OPT_CMD n ((off - 0x100) / 4)
        some (if off = 0x13C then t.optLaunch (pg - 0x40) else t)
      else none
    | .comb => if off = 0x06C then some (s.combCmd (pg - 0x50) (bitAt n 0) (bitAt n 1)) else none
    | .cal => if off = 0x058 then some (s.calCommand n) else none
    | .test => if off = 0x04C then some (s.testCommand n) else none
    | .sec => if off = 0x044 then some (s.secCommand n) else none
    | .boot =>
      if off = 0x054 then some (s.bootCommand n) else if off = 0x800 then some (s.svcCommand (bits n 0 3)) else none
    | .wdie =>
      if 0x200 ≤ off ∧ off < 0x280 ∧ off % 8 = 0 then some (s.barTarget (pg - 0x70) ((off - 0x200) / 8) (bits n 0 16)) else none
    | .cluster => if off = 0x144 then some (s.trimWrite (pg - 0x80) (bits n 0 16)) else none
    | .well => if off = 0x158 then some (if bitAt n 0 then s.cntClr (pg - 0x100) else s) else none
    | .pumpq =>
      if off = 0x04C then some (s.doorbell (pg - 0x1000) (bits n 0 16))
      else if off = 0x074 then some (((s.rearm (pg - 0x1000) (bits n 0 16) (bits n 16 8))).drainQueue (pg - 0x1000))
      else none
    | .tick | .evt | .frameOut | .therm | .pwr | .integ => none

/-- R7: a register without an effect of its own: RW at once, W1C clears, RWS at a boundary; RO ignores. -/
def plainWrite (s : State) (k : PageKind) (pg off : Nat) (v : Word) : State :=
  let a := regAddr pg off
  let old := s.word a
  let new := maskMerge old v (accMask k .rw off) &&& ~~~(v &&& BitVec.ofNat 32 (accMask k .w1c off))
  let s := if new = old then s else s.setWord a new
  let m := accMask k .rws off
  if m = 0 then s else s.rwsWrite pg off m v

/-- R86: COMPLETE, HCOMPLETE and SWSET of a controller are exempt from page locks. -/
def lockExempt (off : Nat) : Bool := off == 0x004 || off == 0x00C || off == 0x018

/-- R509: a window serves its own port only. -/
def otherWindow (k : PageKind) (path off : Nat) : Bool :=
  k == .sys && match hmemAt off with
    | some (w, _) => path != w + 1
    | none => false

/-- A write of one register word (R52, R58, R61). -/
def busWrite (s : State) (path addr : Nat) (v : Word) : State × Access1 :=
  let pg := addr / 0x1000
  let off := addr % 0x1000
  match pageKind pg with
  | none => (s, .unmapped)
  | some k =>
    if off % 4 ≠ 0 then (s, .unmapped)
    else match ctlAt addr with
      | some (c, o) =>
        if s.lockedOut path pg && !lockExempt o then (s.lockViolation pg, .locked) else (s.ctlWrite c o v, .ok)
      | none =>
        if s.lockedOut path pg && (!assigned k off || otherWindow k path off) then (s.lockViolation pg, .locked)
        else if !assigned k off || otherWindow k path off then (s, .unmapped)
        else if off = 0x028 then
          let h := s.holder pg
          let t := s.lockWrite path pg v.toNat
          (t, if t.holder pg = h then .locked else .ok)
        else if s.lockedOut path pg then
          (if off = 0x020 then s.txnCtl path pg v.toNat else s.lockViolation pg, .locked)
        else ((s.effectWrite path k pg off v).getD (s.plainWrite k pg off v), .ok)

/-- R53: what a path captured for a HI word. -/
def capturedHi (s : State) (path addr : Nat) : Option Word := (s.txn.hiCap.find? fun e => e.1 == path && e.2.1 == addr).map (·.2.2)

def dropHi (s : State) (path addr : Nat) : State :=
  { s with txn := { s.txn with hiCap := s.txn.hiCap.filter fun e => !(e.1 == path && e.2.1 == addr) } }

def captureHi (s : State) (path addr : Nat) (w : Word) : State :=
  let s := s.dropHi path addr
  { s with txn := { s.txn with hiCap := s.txn.hiCap ++ [(path, addr, w)] } }

/-- R91, R85: a read of a controller register; CLAIM serves the firmware and HCLAIM the I3C paths. -/
def ctlBusRead (s : State) (path c o : Nat) : State × Word :=
  if o = 0x000 ∧ path = 3 then s.claim c false
  else if o = 0x008 ∧ path ≠ 3 then s.claim c true
  else (s, s.ctlRead c o)

/-- A read of one register word by a path (R52, R53). -/
def busRead (s : State) (path addr : Nat) : State × Word × Access1 :=
  let pg := addr / 0x1000
  let off := addr % 0x1000
  match pageKind pg with
  | none => (s, 0, .unmapped)
  | some k =>
    if off % 4 ≠ 0 then (s, 0, .unmapped)
    else match ctlAt addr with
      | some (c, o) => let r := s.ctlBusRead path c o; (r.1, r.2, .ok)
      | none =>
        if !assigned k off || otherWindow k path off then (s, 0, .unmapped)
        else match (if k = .sys then hmemAt off else none) with
          | some (w, some i) => let r := s.hmemRead w i; (r.1, r.2, .ok)
          | _ =>
            let v := s.readWord k pg off
            let s := if k = .cluster ∧ off = 0x144 then (s.trimRead (pg - 0x80)).1 else s
            if isLoWord k off then (s.captureHi path (addr + 4) (s.readWord k pg (off + 4)), v, .ok)
            else match s.capturedHi path addr with
              | some h => (s.dropHi path addr, h, .ok)
              | none => (s, v, .ok)

/-- R98, R101: what follows from one word of several before the next one is written. -/
def betweenWords (s : State) : State := s.pinLevels.ibiPass

/-- Writes of consecutive words in ascending order; a word that resets the module is the last. -/
def busWords (s : State) (path addr : Nat) : List Word → State × List Access1
  | [] => (s, [])
  | w :: rest =>
    let r := s.busWrite path addr w
    let t := if r.1.halted || rest.isEmpty then (r.1, []) else State.busWords r.1.betweenWords path (addr + 4) rest
    (t.1, r.2 :: t.2)

/-- Reads of `n` consecutive words in ascending order. -/
def busReads (s : State) (path : Nat) : Nat → Nat → State × List (Word × Access1)
  | 0, _ => (s, [])
  | n + 1, addr =>
    let r := s.busRead path addr
    let t := State.busReads r.1 path n (addr + 4)
    (t.1, (r.2.1, r.2.2) :: t.2)

end State

end Sys2Proof.Machine
end

