-- ==== Sys2Proof/Machine/Command.lean ====
section
/-! DEFINITION. The commands that are one register access: locks, transactions, event controllers, and every register whose write has an
effect of its own. Each names its path (R58): 1 I3C port 0, 2 I3C port 1, 3 firmware. -/

namespace Sys2Proof.Machine

namespace State

/-- R58, R522: the path exists; the firmware's cores have a clock. -/
def pathRuns (s : State) (path : Nat) : Bool := busPath path && !(s.therm.shutdown && path == 3)

/-- One write of a register word, its outcome to the path left aside. -/
def regWrite (s : State) (path addr v : Nat) : State := (s.busWrite path addr (BitVec.ofNat 32 v)).1

/-- R52: an internal access that is not one aligned word is not performed, and its core takes an access fault. -/
def accessFault (s : State) (addr : Nat) : State := { s with txn := { s.txn with accessFault := some addr } }

/-- R52: a write of `bytes` bytes at a register address: one aligned word, or an access fault of the firmware's core. The ports' commands
refuse any other access themselves (R504). -/
def sizedWrite (s : State) (path addr v bytes : Nat) : State :=
  if bytes = 4 ∧ addr % 4 = 0 then s.regWrite path addr v else if path = 3 then s.accessFault addr else s

/-- One read whose word is kept. -/
def regRead (s : State) (path addr : Nat) : State :=
  let r := s.busRead path addr
  { r.1 with txn := { r.1.txn with answer := r.2.1 } }

/-- R61: a write that the page's lock discards, or else its effect. -/
def unlessLocked (s : State) (path pg : Nat) (f : State → State) : State := if s.lockedOut path pg then s.lockViolation pg else f s

end State

/-- A command of a path: it acts while the module runs and the path's logic has a clock. -/
def onBus (s : State) (at_ path : Nat) (f : State → State) : Host.Outcome State Fault Refusal :=
  live s at_ fun s => if s.pathRuns path then f s else s

/-- LOCK_WRITE (R61, R62): a write of `value` to the LOCK of page `pg`. -/
def execLockWrite (at_ path pg value : Nat) (s : State) : Host.Outcome State Fault Refusal :=
  onBus s at_ path fun s => s.regWrite path (pg * 0x1000 + 0x028) value

/-- REGISTER_WRITE (R7, R52): a write of a value to the register at `addr`, of so many bytes. -/
def execRegisterWrite (at_ path addr : Nat) (value : BusData) (s : State) : Host.Outcome State Fault Refusal :=
  onBus s at_ path fun s => s.sizedWrite path addr value.value value.bytes

/-- TXN_BEGIN (R64): BEGIN of group `group` written to page `pg`. -/
def execTxnBegin (at_ path pg group : Nat) (s : State) : Host.Outcome State Fault Refusal :=
  onBus s at_ path fun s => s.regWrite path (pg * 0x1000 + 0x020) (0x100 + group % 256)

/-- TXN_COMMIT (R66): COMMIT of group `group` written to page `pg`. -/
def execTxnCommit (at_ path pg group : Nat) (s : State) : Host.Outcome State Fault Refusal :=
  onBus s at_ path fun s => s.regWrite path (pg * 0x1000 + 0x020) (0x200 + group % 256)

/-- TXN_ABORT (R71): ABORT of group `group` written to page `pg`. -/
def execTxnAbort (at_ path pg group : Nat) (s : State) : Host.Outcome State Fault Refusal :=
  onBus s at_ path fun s => s.regWrite path (pg * 0x1000 + 0x020) (0x300 + group % 256)

/-- TXN_TIMEOUT (R70): the timeout of group `group` has run out. -/
def execTxnTimeout (at_ group : Nat) (s : State) : Host.Outcome State Fault Refusal := liveCore s at_ fun s => s.txnTimeout group

/-- EVT_SET (R55): a write of `value` to the EVT_SET of page `pg`. -/
def execEvtSet (at_ path pg value : Nat) (s : State) : Host.Outcome State Fault Refusal :=
  onBus s at_ path fun s => s.regWrite path (pg * 0x1000 + 0x01C) value

/-! ### SYS -/

/-- SYS_CLEAR (R78): CLEAR.CLR. -/
def execSysClear (at_ path : Nat) (s : State) : Host.Outcome State Fault Refusal :=
  onBus s at_ path fun s => s.regWrite path 0x04C 1

/-- RELEASE (R79): CLEAR.RELEASE. -/
def execRelease (at_ path : Nat) (s : State) : Host.Outcome State Fault Refusal :=
  onBus s at_ path fun s => s.regWrite path 0x04C 2

/-- SOFT_RESET (R78): CLEAR.SOFT_RESET with a WKEY. -/
def execSoftReset (at_ path wkey : Nat) (s : State) : Host.Outcome State Fault Refusal :=
  onBus s at_ path fun s => s.regWrite path 0x04C (0x100 + wkey % 2 ^ 16 * 2 ^ 16)

/-- HMEM_ADDR_LO_WRITE (R509): by port `port`. -/
def execHmemAddrLoWrite (at_ port value : Nat) (s : State) : Host.Outcome State Fault Refusal :=
  onBus s at_ (port + 1) fun s => if port < 2 then s.regWrite (port + 1) (0x180 + 0x80 * port) value else s

/-- HMEM_DATA_WRITE (R509): word `i` of the window of port `port`. -/
def execHmemDataWrite (at_ port i value : Nat) (s : State) : Host.Outcome State Fault Refusal :=
  onBus s at_ (port + 1) fun s => if port < 2 ∧ i < 16 then s.regWrite (port + 1) (0x1C0 + 0x80 * port + 4 * i) value else s

/-- HMEM_DATA_READ (R509): word `i` of the window of port `port`. -/
def execHmemDataRead (at_ port i : Nat) (s : State) : Host.Outcome State Fault Refusal :=
  onBus s at_ (port + 1) fun s => if port < 2 ∧ i < 16 then s.regRead (port + 1) (0x1C0 + 0x80 * port + 4 * i) else s

/-! ### Event controllers -/

/-- CLAIM (R91): a read of CLAIM of controller `ctl` by the firmware. -/
def execClaim (at_ ctl : Nat) (s : State) : Host.Outcome State Fault Refusal :=
  onBus s at_ 3 fun s => if isController ctl then s.regRead 3 (ctlBase ctl) else s

/-- HCLAIM (R91): a read of HCLAIM of controller `ctl` through I3C port `port`. -/
def execHclaim (at_ port ctl : Nat) (s : State) : Host.Outcome State Fault Refusal :=
  onBus s at_ (port + 1) fun s => if port < 2 ∧ isController ctl = true then s.regRead (port + 1) (ctlBase ctl + 0x008) else s

/-- COMPLETE (R92): a write of source `id` to COMPLETE of controller `ctl`. -/
def execComplete (at_ path ctl id : Nat) (s : State) : Host.Outcome State Fault Refusal :=
  onBus s at_ path fun s => if isController ctl then s.regWrite path (ctlBase ctl + 0x004) id else s

/-- HCOMPLETE (R92): a write of source `id` to HCOMPLETE of controller `ctl`. -/
def execHcomplete (at_ path ctl id : Nat) (s : State) : Host.Outcome State Fault Refusal :=
  onBus s at_ path fun s => if isController ctl then s.regWrite path (ctlBase ctl + 0x00C) id else s

/-- SWSET (R88): a write of source `id` to SWSET of controller `ctl`. -/
def execSwset (at_ path ctl id : Nat) (s : State) : Host.Outcome State Fault Refusal :=
  onBus s at_ path fun s => if isController ctl then s.regWrite path (ctlBase ctl + 0x018) id else s

/-! ### Wells, queues, dies, clusters -/

/-- CNT_CLR (R165): the counters of well `w`. -/
def execCntClr (at_ path w : Nat) (s : State) : Host.Outcome State Fault Refusal :=
  onBus s at_ path fun s => if w < 832 then s.regWrite path (pgWell w * 0x1000 + 0x158) 1 else s

/-- TENSOR_MAXABS_WRITE (R154): the tracked maximum of well `w`. -/
def execTensorMaxabsWrite (at_ path w value : Nat) (s : State) : Host.Outcome State Fault Refusal :=
  onBus s at_ path fun s => if w < 832 then s.regWrite path (pgWell w * 0x1000 + 0x148) value else s

/-- HEAD_DOORBELL (R227): HEAD of queue `q`. -/
def execHeadDoorbell (at_ path q head : Nat) (s : State) : Host.Outcome State Fault Refusal :=
  onBus s at_ path fun s => if q < 4096 then s.regWrite path (pgPumpq q * 0x1000 + 0x04C) head else s

/-- REARM (R221): slot and generation, on queue `q`. -/
def execRearm (at_ path q slot gen : Nat) (s : State) : Host.Outcome State Fault Refusal :=
  onBus s at_ path fun s =>
    if q < 4096 then s.regWrite path (pgPumpq q * 0x1000 + 0x074) (slot % 2 ^ 16 + gen % 256 * 2 ^ 16) else s

/-- BAR_CFG_WRITE (R207): the target of barrier `i` of die `die`. -/
def execBarCfgWrite (at_ path die i target : Nat) (s : State) : Host.Outcome State Fault Refusal :=
  onBus s at_ path fun s => if die < 4 ∧ i < 16 then s.regWrite path (pgWdie die * 0x1000 + 0x200 + 8 * i) target else s

/-- TRIM_DATA_WRITE (R339): the trim that TRIM_ADDR of cluster `c` names. -/
def execTrimDataWrite (at_ path c value : Nat) (s : State) : Host.Outcome State Fault Refusal :=
  onBus s at_ path fun s => if c < 52 then s.regWrite path (pgCluster c * 0x1000 + 0x144) value else s

/-! ### The service (R270) -/

/-- SVC_LOAD (R272): SVC_CMD.OP 1. -/
def execSvcLoad (at_ path : Nat) (s : State) : Host.Outcome State Fault Refusal :=
  onBus s at_ path fun s => s.regWrite path (pgBOOT * 0x1000 + 0x800) 1

/-- SVC_START (R273): SVC_CMD.OP 2. -/
def execSvcStart (at_ path : Nat) (s : State) : Host.Outcome State Fault Refusal :=
  onBus s at_ path fun s => s.regWrite path (pgBOOT * 0x1000 + 0x800) 2

/-- SVC_STOP (R274): SVC_CMD.OP 3. -/
def execSvcStop (at_ path : Nat) (s : State) : Host.Outcome State Fault Refusal :=
  onBus s at_ path fun s => s.regWrite path (pgBOOT * 0x1000 + 0x800) 3

/-- SVC_UNLOAD (R274): SVC_CMD.OP 4. -/
def execSvcUnload (at_ path : Nat) (s : State) : Host.Outcome State Fault Refusal :=
  onBus s at_ path fun s => s.regWrite path (pgBOOT * 0x1000 + 0x800) 4

/-! ### Light, calibration, tests -/

/-- CMD_PREWARM (R298): COMB.CMD.PREWARM of source `src`. -/
def execCmdPrewarm (at_ path src : Nat) (s : State) : Host.Outcome State Fault Refusal :=
  onBus s at_ path fun s => if src < 6 then s.regWrite path (pgComb src * 0x1000 + 0x06C) 2 else s

/-- CMD_HANDOVER (R298): COMB.CMD.HANDOVER of source `src`. -/
def execCmdHandover (at_ path src : Nat) (s : State) : Host.Outcome State Fault Refusal :=
  onBus s at_ path fun s => if src < 6 then s.regWrite path (pgComb src * 0x1000 + 0x06C) 1 else s

/-- WELL_NOW (R351): CAL.CMD.WELL_NOW. -/
def execWellNow (at_ path : Nat) (s : State) : Host.Outcome State Fault Refusal :=
  onBus s at_ path fun s => s.regWrite path (pgCAL * 0x1000 + 0x058) 1

/-- REFCHECK (R344, R345): CAL.CMD.REFCHECK, with what it measures: the reference resistors' fault and the deviations in ppm. -/
def execRefcheck (at_ path : Nat) (fault : Bool) (iref hspan mon : Int) (s : State) : Host.Outcome State Fault Refusal :=
  onBus s at_ path fun s => s.unlessLocked path pgCAL fun s => s.refCheckAsked fault iref hspan mon

/-- LANE_NOW (R367): CAL.CMD.LANE_NOW. -/
def execLaneNow (at_ path : Nat) (s : State) : Host.Outcome State Fault Refusal :=
  onBus s at_ path fun s => s.regWrite path (pgCAL * 0x1000 + 0x058) 4

/-- COMB_NOW (R367): CAL.CMD.COMB_NOW. -/
def execCombNow (at_ path : Nat) (s : State) : Host.Outcome State Fault Refusal :=
  onBus s at_ path fun s => s.regWrite path (pgCAL * 0x1000 + 0x058) 8

/-- TEST_NOW (R421): TEST.CMD.TEST_NOW. -/
def execTestNow (at_ path : Nat) (s : State) : Host.Outcome State Fault Refusal :=
  onBus s at_ path fun s => s.regWrite path (pgTEST * 0x1000 + 0x04C) 1

/-- RETURN_NOW (R421): TEST.CMD.RETURN_NOW. -/
def execReturnNow (at_ path : Nat) (s : State) : Host.Outcome State Fault Refusal :=
  onBus s at_ path fun s => s.regWrite path (pgTEST * 0x1000 + 0x04C) 2

/-- FLEET_LOAD (R408): TEST.CMD.FLEET_LOAD. -/
def execFleetLoad (at_ path : Nat) (s : State) : Host.Outcome State Fault Refusal :=
  onBus s at_ path fun s => s.regWrite path (pgTEST * 0x1000 + 0x04C) 4

/-- REC_POP (R421): TEST.CMD.REC_POP. -/
def execRecPop (at_ path : Nat) (s : State) : Host.Outcome State Fault Refusal :=
  onBus s at_ path fun s => s.regWrite path (pgTEST * 0x1000 + 0x04C) 8

/-! ### Fabric and frame ports -/

/-- The word of CTRL_SEND (R466). -/
def ctrlSendWord (subop mask rank : Nat) : Nat := subop + mask % 8 * 2 ^ 4 + rank % 2 ^ 16 * 2 ^ 16

/-- CTRL_SEND_STOP (R450). -/
def execCtrlSendStop (at_ path mask rank : Nat) (s : State) : Host.Outcome State Fault Refusal :=
  onBus s at_ path fun s => s.regWrite path 0x2044C (ctrlSendWord 1 mask rank)

/-- CTRL_SEND_FENCE (R451). -/
def execCtrlSendFence (at_ path mask rank : Nat) (s : State) : Host.Outcome State Fault Refusal :=
  onBus s at_ path fun s => s.regWrite path 0x2044C (ctrlSendWord 2 mask rank)

/-- CTRL_SEND_RESUME (R450). -/
def execCtrlSendResume (at_ path mask rank : Nat) (s : State) : Host.Outcome State Fault Refusal :=
  onBus s at_ path fun s => s.regWrite path 0x2044C (ctrlSendWord 3 mask rank)

/-- GROUP_RELOAD (R446): FAB_CMD.GROUP_RELOAD. -/
def execGroupReload (at_ path : Nat) (s : State) : Host.Outcome State Fault Refusal :=
  onBus s at_ path fun s => s.regWrite path 0x20418 1

/-- FAB_LEAVE (R456): FAB_CMD.LEAVE. -/
def execFabLeave (at_ path : Nat) (s : State) : Host.Outcome State Fault Refusal :=
  onBus s at_ path fun s => s.regWrite path 0x20418 2

/-- SLOT_RELEASE (R475): slot `slot` of channel `v` of receive port `p`. -/
def execSlotRelease (at_ path p v slot : Nat) (s : State) : Host.Outcome State Fault Refusal :=
  onBus s at_ path fun s => if p < 8 then s.regWrite path (pgFrameIn p * 0x1000 + 0x064) (slot % 16 + v % 16 * 16) else s

/-! ### Boot and security -/

/-- BOOT_UPDATE (R547): BOOT.CMD.UPDATE. -/
def execBootUpdate (at_ path : Nat) (s : State) : Host.Outcome State Fault Refusal :=
  onBus s at_ path fun s => s.regWrite path (pgBOOT * 0x1000 + 0x054) 1

/-- RECOVERY_UPDATE (R543): BOOT.CMD.UPDATE while the boot ROM runs RECOVERY. -/
def execRecoveryUpdate (at_ path : Nat) (s : State) : Host.Outcome State Fault Refusal :=
  onBus s at_ path fun s =>
    if s.rd pgBOOT Reg.BOOT.BOOT_STAT_PHASE = 5 then s.regWrite path (pgBOOT * 0x1000 + 0x054) 1 else s

/-- BOOT_COMMIT (R548): BOOT.CMD.COMMIT. -/
def execBootCommit (at_ path : Nat) (s : State) : Host.Outcome State Fault Refusal :=
  onBus s at_ path fun s => s.regWrite path (pgBOOT * 0x1000 + 0x054) 2

/-- SAVE_CFG (R555): BOOT.CMD.SAVE_CFG. -/
def execSaveCfg (at_ path : Nat) (s : State) : Host.Outcome State Fault Refusal :=
  onBus s at_ path fun s => s.regWrite path (pgBOOT * 0x1000 + 0x054) 4

/-- EVIDENCE (R552): SEC.CMD.EVIDENCE. -/
def execEvidence (at_ path : Nat) (s : State) : Host.Outcome State Fault Refusal :=
  onBus s at_ path fun s => s.regWrite path (pgSEC * 0x1000 + 0x044) 1

/-- OWNER (R554): SEC.CMD.OWNER. -/
def execOwner (at_ path : Nat) (s : State) : Host.Outcome State Fault Refusal :=
  onBus s at_ path fun s => s.regWrite path (pgSEC * 0x1000 + 0x044) 2

end Sys2Proof.Machine
end

