-- ==== Sys2Proof/Machine/I3c.lean ====
section
/-! DEFINITION. The I3C target ports (R495 to R508): addresses, common command codes, register-access commands and their responses,
HDR-DDR, Hot-Join and the sending of in-band interrupts. Bus signalling is left to bytes and instants: a command names the port it
reaches. Byte layouts of the common command codes are those of the I3C standard (log entry 42). -/

namespace Sys2Proof.Machine

namespace State

/-- R498: the port has a dynamic address. -/
def hasDa (s : State) (k : Nat) : Bool := s.flag pgSYS Reg.SYS.I3C_STAT_DA_VALID k

/-- R498, R512: the dynamic address is assigned, changed or removed. -/
def setDa (s : State) (k : Nat) (da : Option Nat) : State :=
  let old := if s.hasDa k then some (s.rd pgSYS Reg.SYS.I3C_STAT_DA k) else none
  let new := da.map (· % 128)
  if old = new then s
  else ((s.wr pgSYS Reg.SYS.I3C_STAT_DA (new.getD 0) k).wr pgSYS Reg.SYS.I3C_STAT_DA_VALID (b2n new.isSome) k).raise pgSYS 8

/-- R498: static address of a port. -/
def staticAddr (s : State) (k : Nat) : Nat := (if k = 0 then 0x48 else 0x50) + s.pins.addrSel

/-- R501: maximum write and read lengths of a port. -/
def mwl (s : State) (k : Nat) : Nat := if k = 0 then s.rd pgSYS Reg.SYS.I3C_MWL_PORT0 else s.rd pgSYS Reg.SYS.I3C_MWL_PORT1
def mrl (s : State) (k : Nat) : Nat := if k = 0 then s.rd pgSYS Reg.SYS.I3C_MRL_PORT0 else s.rd pgSYS Reg.SYS.I3C_MRL_PORT1

def setMwl (s : State) (k v : Nat) : State :=
  if k = 0 then s.wr pgSYS Reg.SYS.I3C_MWL_PORT0 v else s.wr pgSYS Reg.SYS.I3C_MWL_PORT1 v
def setMrl (s : State) (k v : Nat) : State :=
  if k = 0 then s.wr pgSYS Reg.SYS.I3C_MRL_PORT0 v else s.wr pgSYS Reg.SYS.I3C_MRL_PORT1 v

/-- The port exists and its peripheral is ready (R500, R501). -/
def portReady (s : State) (k : Nat) : Bool := k < 2 && decide ((s.i3cPort k).readyAt ≤ s.ns)

/-- What a port answers. -/
def answerBytes (s : State) (k : Nat) (r : Option (List Byte)) : State := s.onI3c k fun p => { p with reply := r }

/-- R497: provisioned ID of a port. -/
def pid (s : State) (k : Nat) : Nat := 0x1B5 * 2 ^ 33 + 0xB832 * 2 ^ 16 + k * 2 ^ 12 + s.boot.flash.serial % 4096

/-! ### Register-access commands (R503 to R507) -/

/-- R504: status code of an outcome. -/
def accessCode : Access1 → Nat
  | .ok => 0 | .unmapped => 1 | .locked => 2

/-- R504: STATUS and DONE over the words of a command. -/
def firstOutcome (l : List Access1) : Nat × Nat :=
  let i := l.findIdx (· != .ok)
  (accessCode (l.getD i .ok), i)

/-- R504, R511: a command's response is kept; commands of STATUS 3 to 8 count as refused. -/
def respond (s : State) (k status done wait : Nat) (words : List Word) : State :=
  let s := s.bumpWrap pgSYS Reg.SYS.I3C_CMDS 1 k
  let s := if 3 ≤ status then s.bump pgSYS Reg.SYS.I3C_REFUSED 1 k else s
  s.onI3c k fun p => { p with status := status, done := done, words := words, ready := s.ns + wait }

/-- R506, R504: a WRITE's check: none when it is performed. -/
def writeCheck (s : State) (k addr : Nat) (payload : List Byte) (early : Bool) : Option Nat :=
  let n := (payload.length - 4) / 4
  if s.mwl k < 1 + payload.length then some 4
  else if !early && (payload.length % 4 != 0 || n == 0 || payload.length < 4) then some 4
  else if 16 < n then some 4
  else if payload.length < 4 then some 4
  else if addr % 4 ≠ 0 then some 8
  else if 0x1000 < addr % 0x1000 + 4 * n then some 5
  else none

/-- I3C_WRITE (R503, R504, R506): `code` is the command byte, `payload` what follows it; `early` when the controller ends it before its
last byte; `bad` on a parity or CRC error. -/
def i3cWrite (s : State) (k : Nat) (hdr : Bool) (code : Nat) (payload : List Byte) (early bad : Bool) : State :=
  if !s.portReady k || !s.hasDa k || s.flag pgSYS Reg.SYS.I3C_STAT_HDR k != hdr then s
  else if bad then
    let s := ((s.bump pgSYS Reg.SYS.I3C_PERR 1 k).raise pgSYS 9).onI3c k fun p => { p with perr := true }
    s.respond k 6 0 300 []
  else if code ≠ 0x10 then s.respond k 3 0 300 []
  else
    let addr := fieldOf payload 0 4
    match s.writeCheck k addr payload early with
    | some e => s.respond k e 0 300 []
    | none =>
      let n := (payload.length - 4) / 4
      let r := s.busWords (k + 1) addr ((List.range n).map fun i => BitVec.ofNat 32 (fieldOf payload (4 + 4 * i) 4))
      if r.1.halted then r.1
      else if early then r.1.respond k 4 n (300 + 100 * n) []
      else let o := firstOutcome r.2; r.1.respond k o.1 o.2 (300 + 100 * n) []

/-- R495: a READ of window data takes the memory's latency besides. -/
def windowWait (k addr n : Nat) : Nat := if addr < 0x1C0 + 0x80 * k + 0x40 ∧ 0x1C0 + 0x80 * k < addr + 4 * n then 1000 else 0

/-- I3C_READ (R503, R504, R506): the address, N, and in HDR-DDR one zero byte. -/
def i3cRead (s : State) (k : Nat) (hdr : Bool) (payload : List Byte) (bad : Bool) : State :=
  let need := if hdr then 6 else 5
  let addr := fieldOf payload 0 4
  let n := fieldOf payload 4 1
  if !s.portReady k || !s.hasDa k || s.flag pgSYS Reg.SYS.I3C_STAT_HDR k != hdr then s
  else if bad then
    let s := ((s.bump pgSYS Reg.SYS.I3C_PERR 1 k).raise pgSYS 9).onI3c k fun p => { p with perr := true }
    s.respond k 6 0 300 []
  else if payload.length < need then s
  else if need < payload.length ∨ n = 0 ∨ 16 < n ∨ s.mrl k < 4 + 4 * n then s.respond k 4 0 300 []
  else if addr % 4 ≠ 0 then s.respond k 8 0 300 []
  else if 0x1000 < addr % 0x1000 + 4 * n then s.respond k 5 0 300 []
  else
    let r := s.busReads (k + 1) n addr
    let o := firstOutcome (r.2.map (·.2))
    r.1.respond k o.1 o.2 (300 + 100 * n + windowWait k addr n) (r.2.map (·.1))

/-- R504: the response of a port. -/
def response (s : State) (k : Nat) : List Byte :=
  let p := s.i3cPort k
  bytesOf 1 p.status ++ bytesOf 1 (s.rd pgSYS Reg.SYS.I3C_CMDS k) ++ bytesOf 1 p.done ++ bytesOf 1 0 ++
    p.words.flatMap fun w => bytesOf 4 w.toNat

/-- RESPONSE_READ (R505, R507): a private read, in HDR-DDR with its read command code. -/
def responseRead (s : State) (k : Nat) (hdr : Bool) (code : Nat) : State :=
  if !s.portReady k || !s.hasDa k || s.flag pgSYS Reg.SYS.I3C_STAT_HDR k != hdr then s.answerBytes k none
  else if hdr = true ∧ code ≠ 0xA0 then (s.respond k 3 0 300 []).answerBytes k none
  else if s.ns < (s.i3cPort k).ready then s.answerBytes k none
  else s.answerBytes k (some (s.response k))

/-! ### Common command codes (R498, R501, R502) -/

/-- R498: a port without a dynamic address answers broadcasts only. -/
def cccReaches (s : State) (k : Nat) (direct : Bool) : Bool := s.portReady k && (!direct || s.hasDa k)

/-- ENEC and DISEC: event bits 0 ENINT and 3 ENHJ. -/
def eventControl (s : State) (k events v : Nat) : State :=
  let s := if bitAt events 0 then s.wr pgSYS Reg.SYS.I3C_STAT_ENINT v k else s
  if bitAt events 3 then s.wr pgSYS Reg.SYS.I3C_STAT_ENHJ v k else s

/-- A direct read CCC: the bytes returned, most significant byte first where the value is one number. -/
def cccGet (s : State) (k : Nat) (bs : List Byte) : State :=
  if s.cccReaches k true then s.answerBytes k (some bs) else s.answerBytes k none

/-- Big-endian bytes, as the I3C standard sends numbers of common command codes. -/
def bigBytes (n x : Nat) : List Byte := (bytesOf n x).reverse

/-- R501: the I3C peripheral of a port is reset; the module is not. -/
def resetPeripheral (s : State) (k : Nat) : State :=
  let s := s.setDa k none
  let s := ((s.wr pgSYS Reg.SYS.I3C_STAT_ENINT 1 k).wr pgSYS Reg.SYS.I3C_STAT_ENHJ 1 k).wr pgSYS Reg.SYS.I3C_STAT_HDR 0 k
  let s := (s.setMwl k 69).setMrl k 68
  s.onI3c k fun p => { winStart := p.winStart, readyAt := s.ns + 1000000 }

/-- GETSTATUS (R502). -/
def getStatus (s : State) (k : Nat) : State :=
  let p := s.i3cPort k
  let depth := if k = 0 then s.evt.ibi0.length else s.evt.ibi1.length
  if s.cccReaches k true then
    (s.answerBytes k (some (bigBytes 2 (min 15 depth + 2 ^ 5 * b2n p.perr + 2 ^ 8 * p.status)))).onI3c k fun p => { p with perr := false }
  else s.answerBytes k none

/-! ### In-band interrupts and Hot-Join (R499, R508) -/

/-- R102: the request that a port sends next: highest priority first, oldest first within it. -/
def ibiNext (q : List IbiReq) : Option IbiReq :=
  q.foldl (fun best r => match best with
    | none => some r
    | some b => if b.prio < r.prio then some r else some b) none

/-- R101: payload of a request. -/
def ibiPayload (r : IbiReq) : List Byte :=
  bytesOf 1 r.group ++ bytesOf 1 r.ctl ++ bytesOf 2 r.src ++ bytesOf 1 r.prio ++ stampBytes r.stamp

/-- IBI_SEND (R508): the port sends its next request; the controller accepts it or not. -/
def ibiSend (s : State) (k : Nat) (accepted : Bool) : State :=
  let q := if k = 0 then s.evt.ibi0 else s.evt.ibi1
  if !s.portReady k || !s.hasDa k || !s.flag pgSYS Reg.SYS.I3C_STAT_ENINT k then s
  else match ibiNext q with
    | none => s
    | some r =>
      if !accepted then s
      else
        let rest := q.erase r
        let s := if k = 0 then { s with evt := { s.evt with ibi0 := rest } } else { s with evt := { s.evt with ibi1 := rest } }
        (s.bumpWrap pgSYS Reg.SYS.I3C_IBI_SENT 1 k).answerBytes k (some ((ibiPayload r).take (min 17 (s.i3cPort k).ibiMax)))

/-- HOT_JOIN (R499). -/
def hotJoin (s : State) (k : Nat) : State :=
  let p := s.i3cPort k
  if k < 2 ∧ s.hasDa k = false ∧ s.flag pgSYS Reg.SYS.I3C_STAT_ENHJ k = true ∧ p.hotJoined = false ∧ p.readyAt + 1000000 ≤ s.ns then
    s.onI3c k fun p => { p with hotJoined := true }
  else s

end State

/-- I3C_WRITE (R503). -/
def execI3cWrite (at_ port : Nat) (hdr : Bool) (code : Nat) (payload : List Byte) (early bad : Bool) (s : State) :
    Host.Outcome State Fault Refusal := live s at_ fun s => s.i3cWrite port hdr code payload early bad

/-- I3C_READ (R503). -/
def execI3cRead (at_ port : Nat) (hdr : Bool) (payload : List Byte) (bad : Bool) (s : State) : Host.Outcome State Fault Refusal :=
  live s at_ fun s => s.i3cRead port hdr payload bad

/-- RESPONSE_READ (R505). -/
def execResponseRead (at_ port : Nat) (hdr : Bool) (code : Nat) (s : State) : Host.Outcome State Fault Refusal :=
  live s at_ fun s => if port < 2 then s.responseRead port hdr code else s

/-- ENEC (R501). -/
def execEnec (at_ port : Nat) (direct : Bool) (events : Nat) (s : State) : Host.Outcome State Fault Refusal :=
  live s at_ fun s => if s.cccReaches port direct then s.eventControl port events 1 else s

/-- DISEC (R501). -/
def execDisec (at_ port : Nat) (direct : Bool) (events : Nat) (s : State) : Host.Outcome State Fault Refusal :=
  live s at_ fun s => if s.cccReaches port direct then s.eventControl port events 0 else s

/-- RSTDAA (R498). -/
def execRstdaa (at_ port : Nat) (s : State) : Host.Outcome State Fault Refusal :=
  live s at_ fun s => if s.portReady port then s.setDa port none else s

/-- ENTDAA (R497): the port takes part while it has no dynamic address; `won` when the arbitration on the PID gives it the address. -/
def execEntdaa (at_ port da : Nat) (won : Bool) (s : State) : Host.Outcome State Fault Refusal :=
  live s at_ fun s =>
    if s.portReady port && !s.hasDa port && won then
      (s.answerBytes port (some (State.bigBytes 6 (s.pid port) ++ [0x26, 0x00]))).setDa port (some da)
    else s

/-- SETMWL (R501). -/
def execSetmwl (at_ port : Nat) (direct : Bool) (len : Nat) (s : State) : Host.Outcome State Fault Refusal :=
  live s at_ fun s => if s.cccReaches port direct then s.setMwl port len else s

/-- GETMWL (R501). -/
def execGetmwl (at_ port : Nat) (s : State) : Host.Outcome State Fault Refusal :=
  live s at_ fun s => if port < 2 then s.cccGet port (State.bigBytes 2 (s.mwl port)) else s

/-- SETMRL (R501): the maximum read length and the maximum IBI payload. -/
def execSetmrl (at_ port : Nat) (direct : Bool) (len ibi : Nat) (s : State) : Host.Outcome State Fault Refusal :=
  live s at_ fun s =>
    if s.cccReaches port direct then (s.setMrl port len).onI3c port fun p => { p with ibiMax := ibi % 256 } else s

/-- GETMRL (R501). -/
def execGetmrl (at_ port : Nat) (s : State) : Host.Outcome State Fault Refusal :=
  live s at_ fun s => if port < 2 then s.cccGet port (State.bigBytes 2 (s.mrl port) ++ bytesOf 1 (s.i3cPort port).ibiMax) else s

/-- ENTHDR0 (R507). -/
def execEnthdr0 (at_ port : Nat) (s : State) : Host.Outcome State Fault Refusal :=
  live s at_ fun s => if s.portReady port then s.wr pgSYS Reg.SYS.I3C_STAT_HDR 1 port else s

/-- HDR_EXIT (R507). -/
def execHdrExit (at_ port : Nat) (s : State) : Host.Outcome State Fault Refusal :=
  live s at_ fun s => if s.portReady port then s.wr pgSYS Reg.SYS.I3C_STAT_HDR 0 port else s

/-- SETAASA (R498). -/
def execSetaasa (at_ port : Nat) (s : State) : Host.Outcome State Fault Refusal :=
  live s at_ fun s => if s.portReady port && !s.hasDa port then s.setDa port (some (s.staticAddr port)) else s

/-- RSTACT (R501): `get` reports; another action than 0 and 1 is not acknowledged. -/
def execRstact (at_ port : Nat) (direct get : Bool) (action : Nat) (s : State) : Host.Outcome State Fault Refusal :=
  live s at_ fun s =>
    if get then (if port < 2 then s.cccGet port [0x01, 0x01] else s)
    else if s.cccReaches port direct && decide (action < 2) then s.onI3c port fun p => { p with rstact := action }
    else s

/-- TARGET_RESET (R501): the target reset pattern. -/
def execTargetReset (at_ port : Nat) (s : State) : Host.Outcome State Fault Refusal :=
  live s at_ fun s => if port < 2 ∧ (s.i3cPort port).rstact = 1 then s.resetPeripheral port else s

/-- SETDASA (R498). -/
def execSetdasa (at_ port da : Nat) (s : State) : Host.Outcome State Fault Refusal :=
  live s at_ fun s => if s.portReady port && !s.hasDa port then s.setDa port (some da) else s

/-- SETNEWDA (R501). -/
def execSetnewda (at_ port da : Nat) (s : State) : Host.Outcome State Fault Refusal :=
  live s at_ fun s => if s.cccReaches port true then s.setDa port (some da) else s

/-- GETPID (R497). -/
def execGetpid (at_ port : Nat) (s : State) : Host.Outcome State Fault Refusal :=
  live s at_ fun s => if port < 2 then s.cccGet port (State.bigBytes 6 (s.pid port)) else s

/-- GETBCR (R496). -/
def execGetbcr (at_ port : Nat) (s : State) : Host.Outcome State Fault Refusal :=
  live s at_ fun s => if port < 2 then s.cccGet port [0x26] else s

/-- GETDCR (R496). -/
def execGetdcr (at_ port : Nat) (s : State) : Host.Outcome State Fault Refusal :=
  live s at_ fun s => if port < 2 then s.cccGet port [0x00] else s

/-- GETSTATUS (R502). -/
def execGetstatus (at_ port : Nat) (s : State) : Host.Outcome State Fault Refusal :=
  live s at_ fun s => if port < 2 then s.getStatus port else s

/-- GETMXDS (R501): the maximum read turnaround, 2 µs. -/
def execGetmxds (at_ port : Nat) (s : State) : Host.Outcome State Fault Refusal :=
  live s at_ fun s => if port < 2 then s.cccGet port [0x00, 0x00, 0x02, 0x00, 0x00] else s

/-- GETCAPS (R501): HDR-DDR only; I3C Basic version 1.1. -/
def execGetcaps (at_ port : Nat) (s : State) : Host.Outcome State Fault Refusal :=
  live s at_ fun s => if port < 2 then s.cccGet port [0x01, 0x01] else s

/-- HOT_JOIN (R499). -/
def execHotJoin (at_ port : Nat) (s : State) : Host.Outcome State Fault Refusal := live s at_ fun s => s.hotJoin port

/-- IBI_SEND (R508). -/
def execIbiSend (at_ port : Nat) (accepted : Bool) (s : State) : Host.Outcome State Fault Refusal :=
  live s at_ fun s => s.ibiSend port accepted

end Sys2Proof.Machine
end

