-- ==== Sys2Proof/Machine/Xfer.lean ====
section
/-! DEFINITION. The movement of data by pump descriptors (R200 to R202, R217, R218, R241 to R250, R388, R390, R442): COPY, TILE, MULTICAST,
SCALES, GATHER, SCATTER, STATS and REDUCE, and TRANSFER_COMPLETE (R208). -/

namespace Sys2Proof.Machine

/-- R208: completion code that a read gives. -/
def ReadRes.code (r : ReadRes) : Nat := if r.unmapped then 6 else if r.ecc then 8 else if r.sealFail then 7 else if r.withheld then 2 else 1

/-- Codes of the parts of a descriptor, in order: the first failure stands, a mark stands over none. -/
def joinCode (a b : Nat) : Nat := if 3 ≤ a then a else max a b

/-- Words of a byte string. -/
def wordsOf (bs : List Byte) : List Word := (List.range (bs.length / 4)).map fun i => BitVec.ofNat 32 (fieldOf bs (4 * i) 4)

namespace State

/-! ### Seals that travel -/

/-- R388, R390: the seal of a source block as it travels, marked where the read found a mark or a failure. -/
def carried (s : State) (a : Nat) (withheld : Bool) : Seal :=
  match s.resolve s.mapNow a with
  | .mem key => { s.blockSeal (key / 4096) with withheld := withheld, bad := false }
  | _ => {}

/-- A source block carries WITHHELD for its consumer (R390). -/
def blockMarked (s : State) (a : Nat) : Bool :=
  match s.resolve s.mapNow a with
  | .mem key =>
    let x := s.blockSeal (key / 4096)
    x.withheld || x.bad || s.cist.eccBad.contains (key / 4096)
  | _ => false

/-! ### COPY (R200, R202, R442) -/

/-- R442: rank of the module that a Holade window names; none where it has no rank in the epoch in force, or the port drains (R468). -/
def windowRank (s : State) (p : Nat) : Option Nat :=
  let r := if s.flag (pgHport p) Reg.HPORT.RDEST_ROUTED then s.rd (pgHport p) Reg.HPORT.RDEST_RANK else s.rd (pgHport p) Reg.HPORT.PEER_RANK
  if s.st (pgHport p) = 3 ∨ (s.rankId r).isNone then none else some r

/-- R442: remote address of an offset in a Holade window. -/
def remoteAddr (s : State) (p o : Nat) : Nat := s.rdAddr (pgHport p) Reg.HPORT.RBASE_LO + o

/-- R442: send a message through a window: routed, or to the far end of its port. -/
def windowSend (s : State) (p : Nat) (m : Msg) : State :=
  if s.flag (pgHport p) Reg.HPORT.RDEST_ROUTED then s.originate m else s.accept p m

/-- The collective of the current tick whose tensor a descriptor names (R442). -/
def collNamed (s : State) (d : List Byte) : Option Coll :=
  s.plan.collsRunning.find? fun c => c.tick == s.tick.number && Ce.dst (s.collEntry c) == Qd.tid d

/-- One part of a COPY is written at its destination: memory, a transmit window, registers or a Holade window. -/
def putPart (s : State) (d : List Byte) (a : Nat) (bs : List Byte) (sl : Seal) (last : Bool) : State × Nat :=
  match s.resolve s.mapNow a with
  | .mem _ => let w := s.write s.mapNow a bs fun _ => sl; (w.1, if w.2 then 8 else 1)
  | .frame p o =>
    let w := s.txWindowWrite (p - 8) o bs sl.withheld (sl.withheld && sl.late)
    (w.1, match w.2 with | .ok => 1 | .badAddr => 6 | .badDesc => 5)
  | .reg x => (s.launched (s.busWords 3 x (wordsOf bs)).1 (s.delayedWork d), 1)
  | .holade p o =>
    match s.windowRank p with
    | none => (s, 6)
    | some r =>
      let base := s.newMsg 1 0 (Qd.cls d) r
      let m : Msg :=
        { base with
          addr := s.remoteAddr p o, payload := bs, tid := sl.tid, blk := sl.blk, gen := sl.gen, fmt := sl.fmt, withheld := sl.withheld
          delayed := sl.delayed, last := last }
      (s.windowSend p m, 1)
  | .unmapped => (s, 6)

/-- A source that is not memory is read whole: a receive window (R473) or registers (R59). -/
def readWhole (s : State) (a n : Nat) : State × Option ReadRes :=
  match s.resolve s.mapNow a with
  | .frame p o => let r := s.rxWindowRead p o n; (r.1, some r.2)
  | .reg x =>
    let r := s.busReads 3 (n / 4) x
    (r.1, some { bytes := r.2.flatMap fun e => bytesOf 4 e.1.toNat })
  | _ => (s, none)

/-- R388: the seal of a block that a transfer writes at address `a` from `src`: the source's own, or a generated one. -/
def movedSeal (s : State) (d : List Byte) (fmt : Nat) (generates : Bool) (src a : Nat) (r : ReadRes) : Seal :=
  let bad := r.withheld || s.badStep d
  { (if generates then s.descSeal d fmt bad a else s.carried src bad) with late := r.late }

/-- R200, R388: `n` bytes of a COPY from byte `off` move, block by block of the destination. -/
def copyBytes (s : State) (d : List Byte) (off n : Nat) : State × Nat :=
  let src := Qd.src d + off
  let dst := Qd.dst d + off
  let w := s.readWhole src n
  let generates := w.2.isSome || src % 4096 != dst % 4096
  let fmt := match w.2 with
    | some r => r.fmt
    | none => s.sourceFmt (Qd.src d)
  if (w.2.map (·.unmapped)).getD false then (w.1, 6)
  else (blockParts dst n).foldl (fun (a : State × Nat) c =>
    if 3 ≤ a.2 then a
    else
      let r : State × ReadRes := match w.2 with
        | some x => (a.1, { x with bytes := (x.bytes.drop c.1).take c.2 })
        | none => a.1.read a.1.mapNow (src + c.1) c.2
      let p := r.1.putPart d (dst + c.1) r.2.bytes (r.1.movedSeal d fmt generates (src + c.1) (dst + c.1) r.2) (off + c.1 + c.2 == Qd.len d)
      (p.1, joinCode a.2 (joinCode r.2.code p.2))) (w.1, 1)

/-- R449: `n` bytes of the COPY of a broadcast's tensor from byte `off`, at byte offset `o` of the tensor. -/
def copyBroadcast (s : State) (d : List Byte) (c : Coll) (o off n : Nat) : State × Nat :=
  let src := Qd.src d + off
  let w := s.readWhole src n
  let r : State × ReadRes := match w.2 with
    | some x => (w.1, x)
    | none => w.1.read w.1.mapNow src n
  if r.2.unmapped then (r.1, 6)
  else
    let sl (x : Nat) : Seal := match w.2 with
      | some y => { fmt := y.fmt, withheld := y.withheld }
      | none => s.carried (src + x) (s.blockMarked (src + x))
    (r.1.broadcast c (o + off) (Qd.cls d) r.2.bytes sl, r.2.code)

/-- R442: the READ_REQ message of one transfer; its tag. -/
def sendRead (s : State) (q : Nat) (d : List Byte) (p o r off n : Nat) : State × Nat :=
  let t := s.fabric.nextTag
  let s : State := { s with fabric := { s.fabric with nextTag := t + 1, reads := s.fabric.reads ++ [⟨t, q, d, off, n, p⟩] } }
  let base := s.newMsg 2 0 (Qd.cls d) r
  (s.windowSend p { base with addr := s.remoteAddr p (o + off), tag := t, operand := n, last := true }, t)

/-- R202, R442: what keeps a COPY from moving anything: its addresses, a rank that the epoch lacks, or a collective of another operation. -/
def copyFault (s : State) (q : Nat) (d : List Byte) : Nat :=
  let noRank (p : Nat) : Nat := if (s.windowRank p).isNone then 6 else 1
  if !s.copySourceOk q (Qd.src d) (Qd.len d) || !s.copyDestOk q (Qd.dst d) (Qd.len d) then 6
  else match s.resolve s.mapNow (Qd.src d) with
    | .holade p _ => noRank p
    | _ =>
      match s.resolve s.mapNow (Qd.dst d) with
      | .holade p _ =>
        (match s.collNamed d with
        | some c => if Ce.op (s.collEntry c) = 2 then 1 else 5
        | none => noRank p)
      | _ => 1

/-- R450, R451: a STOP of the module at the other end of a window holds a transfer of a descriptor. -/
def windowHeld (s : State) (d : List Byte) : Bool :=
  let held (p : Nat) : Bool := ((s.windowRank p).map fun r => s.stopHolds r (Qd.cls d)).getD false
  match s.resolve s.mapNow (Qd.src d), s.resolve s.mapNow (Qd.dst d) with
  | .holade p _, _ => held p
  | _, .holade p _ => (s.collNamed d).isNone && held p
  | _, _ => false

/-- What one transfer has moved: its completion code, bytes delivered, items delivered, destinations, and READ_REQ tags. -/
structure Moved where
  code : Nat
  bytes : Nat
  items : Nat := 0
  copies : Nat := 1
  tags : List Nat := []
  /-- Codes of merged descriptors, each its own. -/
  codes : List Nat := []
  deriving DecidableEq, Repr

/-- R442, R200: `n` bytes of one COPY from byte `off`. -/
def copyPart (s : State) (q : Nat) (d : List Byte) (off n : Nat) : State × Moved :=
  match s.resolve s.mapNow (Qd.src d) with
  | .holade p o =>
    match s.windowRank p with
    | none => (s, ⟨6, 0, 0, 1, [], []⟩)
    | some r => let t := s.sendRead q d p o r off n; (t.1, ⟨1, n, 0, 1, [t.2], []⟩)
  | _ =>
    let done (r : State × Nat) : State × Moved := (r.1, ⟨r.2, n, 0, 1, [], []⟩)
    match s.resolve s.mapNow (Qd.dst d) with
    | .holade _ o =>
      match s.collNamed d with
      | some c => done (s.copyBroadcast d c o off n)
      | none => done (s.copyBytes d off n)
    | _ => done (s.copyBytes d off n)

/-- R442: answers of READ_REQ messages that go on to a destination other than memory. -/
def putAnswers (s : State) (d : List Byte) (l : List (Nat × Nat × List Byte × Bool × Nat)) : State × Nat :=
  l.foldl (fun (a : State × Nat) e =>
    if 3 ≤ a.2 then a
    else
      let p := a.1.putPart d e.2.1 e.2.2.1 (a.1.descSeal d e.2.2.2.2 e.2.2.2.1 e.2.1) false
      (p.1, joinCode a.2 (joinCode (if e.2.2.2.1 then 2 else 1) p.2))) (s, 1)

/-- R200, R209: the next transfer of a COPY: a part of at most 4,096 B, or all of those merged, in ring order, each with its own code. -/
def moveCopy (s : State) (q : Nat) (e : Exec) : State × Moved :=
  if e.merged.isEmpty then s.copyPart q e.desc (4096 * e.issued) (min 4096 (Qd.len e.desc - 4096 * e.issued))
  else
    (e.desc :: e.merged.map (·.2)).foldl (fun (a : State × Moved) d =>
      let f := a.1.copyFault q d
      let r := if Qd.len d = 0 then (a.1, ⟨1, 0, 0, 1, [], []⟩) else if f = 1 then a.1.copyPart q d 0 (Qd.len d) else (a.1, ⟨f, 0, 0, 1, [], []⟩)
      (r.1, ⟨1, a.2.bytes + r.2.bytes, 0, 1, a.2.tags ++ r.2.tags, a.2.codes ++ [r.2.code]⟩)) (s, ⟨1, 0, 0, 1, [], []⟩)

/-! ### MULTICAST (R200, R216, R217) -/

/-- R217: members that still receive: of a group, those whose page is ON. -/
def receivers (s : State) (q : Nat) : List Nat :=
  let l := s.targets q
  if s.rd (pgPumpq q) Reg.PUMPQ.TGT_CFG_COUNT ≤ 1 then l else l.filter fun w => s.isOn (pgWell w)

/-- R200, R202: what keeps a MULTICAST from moving anything. -/
def multicastFault (s : State) (q : Nat) (d : List Byte) : Nat :=
  if (s.receivers q).isEmpty ∨ 2 ^ 20 < Qd.dst d % 2 ^ 20 + Qd.len d ∨ !s.memOk q (Qd.src d) (Qd.len d) true then 6 else 1

/-- R200, R217: the next transfer of a MULTICAST: its bytes are read once and written to the pool of every member that still receives. -/
def moveMulticast (s : State) (q : Nat) (e : Exec) : State × Moved :=
  let d := e.desc
  let off := 4096 * e.issued
  let n := min 4096 (Qd.len d - off)
  let src := Qd.src d + off
  let dst := Qd.dst d + off
  let o := Qd.dst d % 2 ^ 20 + off
  let ws := s.receivers q
  let generates := src % 4096 != dst % 4096
  let fmt := s.sourceFmt (Qd.src d)
  let r := (blockParts dst n).foldl (fun (a : State × Nat) c =>
    if 3 ≤ a.2 then a
    else
      let r := a.1.read a.1.mapNow (src + c.1) c.2
      let sl := r.1.movedSeal d fmt generates (src + c.1) (dst + c.1) r.2
      let t := r.1.each ws fun s w => (s.write s.mapNow (poolBase + w * 2 ^ 20 + o + c.1) r.2.bytes fun _ => sl).1
      (t, joinCode a.2 r.2.code)) (s, 1)
  (r.1, ⟨r.2, n, 0, ws.length, [], []⟩)

/-! ### GATHER and SCATTER (R200, R202) -/

/-- R202: one item: it is checked, then moved under generated seals. -/
def moveItem (s : State) (q : Nat) (d : List Byte) (fmt i ix : Nat) (ixr : ReadRes) : State × Nat :=
  let es := Qd.esize d
  let sa := Qd.src d + (if Qd.op d = 5 then ix else i) * es
  let da := Qd.dst d + (if Qd.op d = 5 then i else ix) * es
  if !s.memOk q sa es true || !s.memOk q da es false then (s, 6)
  else
    let r := s.read s.mapNow sa es
    let marked := r.2.withheld || ixr.withheld
    let late := r.2.late || ixr.late
    let w := r.1.write r.1.mapNow da r.2.bytes fun a => { r.1.descSeal d fmt marked a with late := late }
    (w.1, joinCode r.2.code (if w.2 then 8 else if ixr.withheld then 2 else 1))

/-- The format of the first source seal of a GATHER or SCATTER. -/
def itemFmt (s : State) (d : List Byte) : Nat :=
  let ix := if Qd.op d = 5 then numOf (s.peek (Qd.idx d) 4) else 0
  s.sourceFmt (Qd.src d + ix * Qd.esize d)

/-- R196, R202: the next transfer of a GATHER or SCATTER: the items that 4,096 B hold, by blocks of the index list, up to the first bad item. -/
def moveItems (s : State) (q : Nat) (e : Exec) : State × Moved :=
  let d := e.desc
  let fmt := s.itemFmt d
  let n := min (Qd.itemsEach d) (Qd.nitem d - e.items)
  let a0 := Qd.idx d + 4 * e.items
  let r := (blockParts a0 (4 * n)).foldl (fun (a : State × Nat × Nat) c =>
    if 3 ≤ a.2.1 then a
    else if !a.1.memOk q (a0 + c.1) c.2 true then (a.1, 6, a.2.2)
    else
      let r := a.1.read a.1.mapNow (a0 + c.1) c.2
      if 3 ≤ r.2.code then (r.1, r.2.code, a.2.2)
      else (List.range (c.2 / 4)).foldl (fun (b : State × Nat × Nat) k =>
        if 3 ≤ b.2.1 then b
        else
          let m := b.1.moveItem q d fmt (e.items + c.1 / 4 + k) (fieldOf r.2.bytes (4 * k) 4) r.2
          (m.1, joinCode b.2.1 m.2, if m.2 = 6 then b.2.2 else b.2.2 + 1)) (r.1, a.2)) (s, 1, 0)
  (r.1, ⟨r.2.1, r.2.2 * Qd.esize d, r.2.2, 1, [], []⟩)

/-! ### STATS (R201, R250) -/

/-- R201: element `i` of a source: its exact value and whether it is not finite. -/
def statElement (fmt : Nat) (bs hdrs : List Byte) (i : Nat) : Dy × Bool :=
  match fmt with
  | 9 => actVal 9 (fieldOf bs (2 * i) 2) (xexpOf (fieldOf hdrs (4 * (i / 128)) 4))
  | 10 => actVal 10 (fieldOf bs (2 * i) 2) 0
  | 11 => actVal 11 (fieldOf bs (2 * i) 2) 0
  | 12 => f32.value (fieldOf bs (4 * i) 4)
  | 13 => (Dy.ofInt (toSigned (fieldOf bs (4 * i) 4) 32), false)
  | _ =>
    let g := bfxOf ((bs.drop (i / 640 * 4096)).take 4096) (i % 640 / 64)
    (if g.zr then ⟨0, 0⟩ else ⟨g.n.getD (i % 64) 0, g.exp⟩, false)

/-- R201: bytes 0 to 15 of the record: max-abs, non-finite elements, zero blocks or groups, elements. -/
def statCounts (fmt : Nat) (bs hdrs : List Byte) : List Byte :=
  let n := match fmt with
    | 12 => bs.length / 4
    | 13 => bs.length / 4
    | 14 => bs.length / 4096 * 640
    | _ => bs.length / 2
  let vs := (List.range n).map (statElement fmt bs hdrs)
  let m := maxAbsDy ((vs.filter fun v => !v.2).map fun v => v.1.abs)
  let zeros := match fmt with
    | 12 => 0
    | 13 => 0
    | 14 => ((List.range (bs.length / 4096)).flatMap fun b =>
        (List.range 10).filter fun g => (bfxOf ((bs.drop (b * 4096)).take 4096) g).zr).length
    | _ => ((List.range (ceilDiv bs.length 256)).filter fun b =>
        let part := (bs.drop (256 * b)).take 256
        (List.range (part.length / 2)).all fun i =>
          let w := fieldOf part (2 * i) 2
          if fmt = 9 then w == 0 else bits w 0 15 == 0).length
  bytesOf 4 (rnaf m).bits ++ bytesOf 4 (vs.filter (·.2)).length ++ bytesOf 4 zeros ++ bytesOf 4 n

/-- R202: what keeps a STATS from moving anything. -/
def statsFault (s : State) (q : Nat) (d : List Byte) : Nat :=
  if !s.memOk q (Qd.src d) (Qd.srcBytes d) true || !s.memOk q (Qd.dst d) 64 false then 6 else 1

/-- R201, R250: the statistics record of a source; its timestamp is set again at completion. -/
def moveStats (s : State) (d : List Byte) : State × Moved :=
  let src := Qd.src d
  let n := Qd.len d
  let r := s.read s.mapNow src n
  let h := if Qd.sfmt d = 9 then r.1.read r.1.mapNow (src + n) (n / 64) else (r.1, {})
  let t := if 12 * 2 ^ 36 ≤ src then h.1 else s.offLinks h.1
  let lastBlk := (t.carried (src + n - 1) false).blk
  let rec_ := statCounts (Qd.sfmt d) r.2.bytes h.2.bytes ++ bytesOf 2 r.2.tid ++ bytesOf 4 r.2.blk ++ bytesOf 4 lastBlk ++ stampBytes t.now
  let late := r.2.late || h.2.late
  let w := t.write t.mapNow (Qd.dst d) (padTo 64 rec_) fun a => { t.descSeal d 0 (r.2.withheld || h.2.withheld) a with late := late }
  (if 12 * 2 ^ 36 ≤ src then w.1 else t.offLinks w.1, ⟨joinCode (joinCode r.2.code h.2.code) (if w.2 then 8 else 1), 64, 0, 1, [], []⟩)

/-! ### REDUCE (R189, R190, R200, R442) -/

/-- R189: clips and underflows of a conversion are counted. -/
def countBfx (s : State) (clips underflows : Nat) : State :=
  { s with pump := { s.pump with clips := s.pump.clips + clips, underflows := s.pump.underflows + underflows } }

/-- R189, R201: the converted groups of block `b` of a REDUCE, and what its source reads gave. -/
def reduceGroups (s : State) (d : List Byte) (b : Nat) : State × List Bfx × ReadRes :=
  let f := Qd.sfmt d
  let ne := Qd.nelem d
  let cnt := min 640 (ne - 640 * b)
  let size := match f with | 14 => 4096 | 12 => 4 * cnt | _ => 2 * cnt
  let off := match f with | 14 => 4096 * b | 12 => 2560 * b | _ => 1280 * b
  let r := s.read s.mapNow (Qd.src d + off) size
  let h := if f = 9 then r.1.read r.1.mapNow (Qd.src d + 256 * ceilDiv ne 128 + 20 * b) (4 * ceilDiv cnt 128) else (r.1, {})
  let x : Option Int := if Qd.auto d then none else some (Qd.xfix d)
  let gs : State × List Bfx := (List.range (ceilDiv cnt 64)).foldl (fun (a : State × List Bfx) g =>
    if f = 14 ∧ (bfxOf r.2.bytes g).ovf then let z := a.1.drawGroup; (z.1, a.2 ++ [z.2])
    else
      let vs : List Dy := (List.range 64).map fun i =>
        if 64 * g + i < cnt then (statElement f r.2.bytes h.2.bytes (64 * g + i)).1 else ⟨0, 0⟩
      let c := toBfx vs (Qd.headroom d) x
      (a.1.countBfx c.2.1 c.2.2, a.2 ++ [c.1])) (h.1, [])
  (gs.1, gs.2, r.2.append h.2)

/-- R190: one block of a REDUCE is added into its destination in memory; the base die's own read of a destination in its cistern crosses no link
(R200, R257). -/
def reduceInto (s : State) (d : List Byte) (b : Nat) : State × Nat :=
  let a := Qd.dst d + 4096 * b
  let c := s.reduceGroups d b
  let got := c.1.read c.1.mapNow a 4096
  let old := (if a < 12 * 2 ^ 36 then c.1.offLinks got.1 else got.1, got.2)
  let sums : State × List Bfx := (List.range 10).foldl (fun (acc : State × List Bfx) g =>
    match c.2.1[g]? with
    | none => (acc.1, acc.2 ++ [bfxOf old.2.bytes g])
    | some x =>
      let sum := acc.1.sumGroups (bfxOf old.2.bytes g) x
      (sum.1, acc.2 ++ [sum.2])) (old.1, [])
  let marked := c.2.2.withheld || old.2.withheld || sums.2.any (·.ovf)
  let late := c.2.2.late || old.2.late
  let w := sums.1.write sums.1.mapNow a (bfxBlock sums.2) fun x => { sums.1.descSeal d 14 marked x with late := late }
  (w.1, joinCode (joinCode c.2.2.code old.2.code) (if w.2 then 8 else if marked then 2 else 1))

/-- R442, R447: one block of a contribution, for byte offset `o` of the tensor. -/
def reduceSend (s : State) (d : List Byte) (c : Coll) (o b : Nat) : State × Nat :=
  let g := s.reduceGroups d b
  let blk := bfxBlock (g.2.1 ++ List.replicate (10 - g.2.1.length) ⟨eMin, true, false, List.replicate 64 0⟩)
  let marked := g.2.2.withheld || g.2.1.any (·.ovf)
  let s := if (o + 4096 * b) / 4096 < Ce.blocks (s.collEntry c) then g.1.contributeAll c (o + 4096 * b) (Qd.cls d) [blk] marked else g.1
  (s, joinCode g.2.2.code (if marked then 2 else 1))

/-- R200, R202, R442: what keeps a REDUCE from moving anything. -/
def reduceFault (s : State) (q : Nat) (d : List Byte) : Nat :=
  if !s.memOk q (Qd.src d) (Qd.srcBytes d) true then 6
  else match s.resolve s.mapNow (Qd.dst d) with
    | .holade _ _ =>
      match s.collNamed d with
      | none => 5
      | some c => if Ce.op (s.collEntry c) ≠ 1 ∨ Ce.h (s.collEntry c) ≠ Qd.headroom d then 5 else 1
    | .mem _ => if s.memOk q (Qd.dst d) (4096 * Qd.reduceBlocks d) false then 1 else 6
    | _ => 6

/-- R200: the next transfer of a REDUCE: a block, into memory or as a contribution to a collective. -/
def moveReduce (s : State) (d : List Byte) (b : Nat) : State × Moved :=
  let r := match s.resolve s.mapNow (Qd.dst d), s.collNamed d with
    | .holade _ o, some c => s.reduceSend d c o b
    | .holade _ _, none => (s, 5)
    | _, _ => s.reduceInto d b
  (r.1, ⟨r.2, 4096, 0, 1, [], []⟩)

/-! ### Credits of a well (R213) -/

/-- What a well's passes ask of their queues (R213): the descriptor of a pass, the tiles loaded, its weight format where the first tile has given
it, and the WBITS of its scale stream where its record is taken. -/
structure Feed where
  desc : List Byte
  loaded : Nat
  fmt : Nat
  wbits : Option Nat
  deriving DecidableEq, Repr

/-- R213: the optical passes in SETUP or RUN, and the next one queued while the page is ON (R136). -/
def feeding (s : State) (w : Nat) : List Feed :=
  let x := s.well w
  let cur := (x.passes.filter fun p => p.st == 1 || p.st == 2).map fun p => ⟨p.desc, p.loaded, p.fmt, if p.haveRecord then some p.wbits else none⟩
  let n := x.passes.length + x.stale
  let next := if s.isOn (pgWell w) && decide (n < s.passDepth w) then
      [⟨s.bytesAt (s.passKey w ((s.passTail w + n) % 16)) 64, 0, 0, none⟩] else []
  (cur ++ next).filter fun e => Pd.optical e.desc

/-- WBITS of the first scale items of passes at the scale input from a queue, in order: the first that is there, for a pass whose queue serves no
pass ahead of it, else the row scale records. -/
def firstItems (s : State) (w sq : Nat) (alone : Bool) : List Nat :=
  let l := (s.well w).scales.filter fun i => i.queue == sq
  (if alone then l.take 1 else l.filter fun i => i.kind == 0).map (·.wbits)

/-- R213: the pass that the next tile from queue `q` is for, when its first scale item has arrived: its number of this tile, its WBITS, and its
weight format as far as it is known. `n` tiles of the queue are staged and not loaded; `sqs` names the queues of passes ahead, each with
whether that pass still awaits its record. -/
def tileFor (s : State) (w q : Nat) : List Feed → Nat → List (Nat × Bool) → Option (Nat × Nat × Nat)
  | [], _, _ => none
  | f :: rest, n, sqs =>
    let left := Pd.kt f.desc - f.loaded
    if Pd.wq f.desc = q ∧ n < left then
      let b := match f.wbits with
        | some b => some b
        | none =>
          let ahead := sqs.filter fun (e : Nat × Bool) => e.1 == Pd.sq f.desc
          (s.firstItems w (Pd.sq f.desc) ahead.isEmpty)[(ahead.filter fun (e : Nat × Bool) => e.2).length]?
      b.map fun b => (f.loaded + n, b, f.fmt)
    else
      s.tileFor w q rest (if Pd.wq f.desc = q then n - left else n) (sqs ++ [(Pd.sq f.desc, f.wbits.isNone)])

/-- Staged tiles of a queue that no plane is taking. -/
def stagedFree (s : State) (w q : Nat) : List StagedTile :=
  let x := s.well w
  let pl := x.plane (s.idlePlane w)
  let loading := pl.st == .loading && x.passes.any fun p => p.slot == pl.pass && Pd.wq p.desc == q
  (x.staged.filter fun t => t.queue == q).drop (b2n loading)

/-- R213: the pass and tile that the next tile of a queue is for at a well. -/
def nextTile (s : State) (w q : Nat) : Option (Nat × Nat × Nat) := s.tileFor w q (s.feeding w) (s.stagedFree w q).length []

/-- R213: tiles under way to a well from other queues than `q`: each holds a slot already. -/
def tilesUnderWay (s : State) (w q : Nat) : Nat :=
  (s.pump.queues.filter fun e => e.1 != q && (s.receivers e.1).contains w &&
    (e.2.exec.map fun x => Qd.op x.desc == 2 && x.part != 0).getD false).length

/-- R213: a well grants staging credits for one tile of a queue. -/
def takesTile (s : State) (w q : Nat) : Bool :=
  s.runs (pgWell w) && decide ((s.well w).staged.length + s.tilesUnderWay w q < 2) && (s.nextTile w q).isSome

/-- R213: a well grants scale input credits for `n` bytes of a queue. -/
def takesScales (s : State) (w q n : Nat) : Bool :=
  let used := ((s.well w).scales.map fun i => ceilDiv i.bytes.length 512).foldl (· + ·) 0
  s.runs (pgWell w) && (s.feeding w).any (fun e => Pd.sq e.desc == q) && decide (used + ceilDiv n 512 ≤ 8)

/-! ### TILE (R248, R249) -/

/-- R249: every byte of a stored row lies in the linear part of the cistern of window `k`. -/
def inLinear (s : State) (k a n : Nat) : Bool :=
  decide (a < 12 * 2 ^ 36) && a / 2 ^ 36 == k && (a + n - 1) / 2 ^ 36 == k &&
    decide ((64 - s.rd (pgCistern 0) Reg.CISTERN.MAP_LINEAR_GIB) * 2 ^ 30 ≤ a % 2 ^ 36)

/-- R173, R249: a tile of b-bit codes from its stored rows, transposed. -/
def transposeRows (rows : List (List Byte)) (b : Nat) : List Byte :=
  let ns := rows.map numOf
  (List.range 128).flatMap fun r => bytesOf (16 * b) ((ns.zipIdx.map fun e => codeAt e.1 b r * 2 ^ (b * e.2)).foldl (· + ·) 0)

/-- R249, R390: tile `j` of a TRANSPOSE from address `a`, of format `f`, with the formats of its generated blocks after the first; failing source
blocks mark it. -/
def readTransposed (s : State) (q : Nat) (d : List Byte) (j a f : Nat) : State × Nat × Option StagedTile × List Nat :=
  let b := fmtBits f
  let row (i : Nat) : Nat := a + i * Qd.rpitch d
  if Qd.rpitch d < 16 * b || !(List.range 128).all (fun i => s.inLinear (a / 2 ^ 36) (row i) (16 * b) && s.inMemory s.mapNow (row i) (16 * b)) then
    (s, 6, none, [])
  else
    let r : State × Nat × List (List Byte) × Bool := (List.range 128).foldl (fun (x : State × Nat × List (List Byte) × Bool) i =>
      let y := x.1.read x.1.mapNow (row i) (16 * b)
      (y.1, joinCode x.2.1 y.2.code, x.2.2.1 ++ [y.2.bytes], x.2.2.2 || y.2.withheld)) (s, 1, [], false)
    let at_ := j * 2048 * b
    (r.1, r.2.1, some
      { queue := q, tid := Qd.tid d, blk := (Qd.blk0 d + at_ / 4096) % 2 ^ 32, off := at_ % 4096, fmt := f
        bytes := transposeRows r.2.2.1 b, withheld := r.2.2.2, skewed := none }, List.replicate ((at_ % 4096 + 2048 * b - 1) / 4096) f)

/-- R219: the first later block of a tile whose seal does not follow from the first: block index expected and received, TID expected and
received. -/
def laterSkew (first : ReadRes) (l : List ReadRes) : Option (Nat × Nat × Nat × Nat) :=
  (l.zipIdx.find? fun e => e.1.tid != first.tid || e.1.blk != (first.blk + e.2) % 2 ^ 32).map fun e =>
    ((first.blk + e.2) % 2 ^ 32, e.1.blk, first.tid, e.1.tid)

/-- R219, R248, R390: tile `j` as it stands, block by block, with the formats of its blocks after the first; a failing block is passed on marked. -/
def readStored (s : State) (q a f : Nat) : State × Nat × Option StagedTile × List Nat :=
  let n := 2048 * fmtBits f
  if !s.inMemory s.mapNow a n || !s.streamSource (a + n - 1) then (s, 6, none, [])
  else
    let r : State × Nat × List ReadRes := (blockParts a n).foldl (fun (x : State × Nat × List ReadRes) c =>
      let y := x.1.read x.1.mapNow (a + c.1) c.2
      (y.1, joinCode x.2.1 y.2.code, x.2.2 ++ [y.2])) (s, 1, [])
    let first := (r.2.2.head?).getD {}
    (r.1, r.2.1, some
      { queue := q, tid := first.tid, blk := first.blk, off := a % 4096, fmt := f, bytes := r.2.2.flatMap (·.bytes)
        withheld := r.2.2.any (·.withheld), skewed := State.laterSkew first r.2.2 }, (r.2.2.drop 1).map (·.fmt))

/-- R248: first byte of tile `j` of a TILE descriptor; none where it is no source. -/
def tileAddr (s : State) (d : List Byte) (j : Nat) : Option Nat :=
  let a : Int := (Qd.src d : Int) + j * Qd.tileStep d
  if a < 0 ∨ !s.streamSource a.toNat then none else some a.toNat

/-- R248: bytes of tile `j`, by the format of its first source block; none of a block without a weight format. -/
def tileBytes (s : State) (d : List Byte) (j : Nat) : Nat :=
  ((s.tileAddr d j).map fun a => if isWeightFmt (s.sourceFmt a) then 2048 * fmtBits (s.sourceFmt a) else 0).getD 0

/-- R248: tile `j` of a TILE descriptor, with the formats of its later blocks. -/
def readTile (s : State) (q : Nat) (d : List Byte) (j : Nat) : State × Nat × Option StagedTile × List Nat :=
  match s.tileAddr d j with
  | none => (s, 6, none, [])
  | some a =>
    let f := s.sourceFmt a
    if !isWeightFmt f then (s, 7, none, [])
    else if Qd.transpose d then s.readTransposed q d j a f
    else s.readStored q a f

/-- R169: the blocks of a tile that fail at a well's staging: a format other than that of the pass's first block, or of another width than its
scale stream gives. `later` are the formats of the blocks after the first. -/
def badBlocks (s : State) (w q : Nat) (t : StagedTile) (later : List Nat) : List Nat :=
  match s.nextTile w q with
  | none => []
  | some (k, wbits, fmt) =>
    let want := if k = 0 then t.fmt else if fmt ≠ 0 then fmt else ((s.stagedFree w q).head?.map (·.fmt)).getD t.fmt
    ((t.fmt :: later).zipIdx.filter fun e => e.1 != want || fmtBits e.1 != wbits).map (·.2)

/-- R169, R213, R390: a tile arrives at a well's staging; the flag says that a block of it failed its check. -/
def stageTile (s : State) (w q : Nat) (t : StagedTile) (later : List Nat) : State × Bool :=
  let bad := s.badBlocks w q t later
  ((s.stagingFail w t bad).onWell w fun x => { x with staged := x.staged ++ [{ t with withheld := t.withheld || !bad.isEmpty }] }, !bad.isEmpty)

/-- R196, R200, R216: the next transfer of a TILE: a part of at most 4,096 B of its next tile, which every receiver's staging takes; with the last
part the tile is staged. -/
def moveTile (s : State) (q : Nat) (e : Exec) (n : Nat) : State × Moved :=
  let d := e.desc
  let total := if e.part = 0 then s.tileBytes d e.items else e.tileB
  let ws := s.receivers q
  if total = 0 ∨ total ≤ 4096 * (e.part + 1) then
    let r := s.readTile q d e.items
    match r.2.2.1 with
    | none => (r.1, ⟨r.2.1, 0, 0, ws.length, [], []⟩)
    | some t =>
      let u := ws.foldl (fun (a : State × Bool) w => let y := a.1.stageTile w q t r.2.2.2; (y.1, a.2 || y.2)) (r.1, false)
      (u.1, ⟨if u.2 then joinCode r.2.1 7 else r.2.1, n, 1, ws.length, [], []⟩)
  else (s, ⟨1, n, 0, ws.length, [], []⟩)

/-! ### SCALES (R218, R244 to R246) -/

/-- First byte of the tile that item or tile `j` serves (R218). -/
def scaleByte (d : List Byte) (j : Nat) : Int := (Qd.doff d : Int) + j * Qd.scaleStep d

/-- R246: the alignment of every tile of a SCALES. -/
def scalesAligned (d : List Byte) : Bool :=
  (List.range (Qd.ntiles d)).all fun j => decide (0 ≤ State.scaleByte d j) && State.scaleByte d j % ((2048 * Qd.wbits d : Nat) : Int) == 0

/-- R246: BAD_DESC against the header of a scale tensor. -/
def scalesOk (d h : List Byte) : Bool :=
  Qd.dtid d == Sc.tid h && Qd.wbits d == fmtBits (Sc.wfmt h) && isWeightFmt (Sc.wfmt h) && (!Qd.hasRowsum d || Sc.present h) &&
  State.scalesAligned d &&
  (List.range (Qd.ntiles d)).all fun j => decide ((State.scaleByte d j).toNat / (2048 * Qd.wbits d) < Sc.rt h * Sc.kt h)

/-- Kind and tile of item `i` of a SCALES stream (R218). -/
def scaleItemAt (d : List Byte) (i : Nat) : Nat × Nat :=
  let i' := i - b2n (Qd.hasRecord d)
  if Qd.hasRecord d ∧ i = 0 then (0, 0) else if i' < Qd.ntiles d then (1, i') else (2, i' - Qd.ntiles d)

/-- R245: the first-level scale block of tile `n`: 4 bytes of each row, of which the block sent makes 512 (R257). -/
def gatherScales (s : State) (a : Nat) (h : List Byte) (n : Nat) : State × ReadRes :=
  let l := s1Places a h n
  let r := s.readScattered l
  let t := (s.offLinks r.1).each l fun t x =>
    match s.resolve s.mapNow x.1 with
    | .mem key => (match unitOf key with
      | .cistern c => t.bump64 (pgCistern c) Reg.CISTERN.READ_BYTES_LO x.2
      | _ => t)
    | _ => t
  (t, r.2)

/-- `n` bytes of a scale stream from an address, block by block; the format is 15 only where every block has it (R168). -/
def readStream (s : State) (a n : Nat) : State × ReadRes := s.readScattered ((blockParts a n).map fun c => (a + c.1, c.2))

/-- R200, R245: the bytes of item `i`. -/
def readScales (s : State) (d h : List Byte) (i : Nat) : State × ReadRes :=
  let src := Qd.src d
  let k := State.scaleItemAt d i
  if s.inReservoir src then
    let off := if k.1 = 0 then 0 else 1024 * b2n (Qd.hasRecord d) + 512 * (if k.1 = 1 then k.2 else Qd.ntiles d + k.2)
    s.readStream (src + off) (if k.1 = 0 then 1024 else 512)
  else
    let n := (State.scaleByte d k.2).toNat / (2048 * Qd.wbits d)
    match k.1 with
    | 0 => s.readStream (src + Sc.entryOff (n / Sc.kt h)) 1024
    | 1 => s.gatherScales src h n
    | _ => s.readStream (src + Sc.sumOff h n) 512

/-- R218: item `i` with its pairing tag. -/
def streamItem (q : Nat) (d : List Byte) (i : Nat) (r : ReadRes) : ScaleItem :=
  let k := State.scaleItemAt d i
  let b := (State.scaleByte d k.2).toNat
  { queue := q, kind := k.1, tid := Qd.dtid d, wbits := Qd.wbits d, first := b / 4096 % 2 ^ 32, last := (b + 2048 * Qd.wbits d - 1) / 4096 % 2 ^ 32
    bytes := r.bytes, withheld := r.withheld }

/-- R244, R246: before its first item, the header of a SCALES' tensor is read and checked; from a die reservoir only the alignment applies. -/
def scalesFault (s : State) (d : List Byte) : State × Nat :=
  if s.inReservoir (Qd.src d) then (s, if State.scalesAligned d then 1 else 5)
  else
    let r := s.read s.mapNow (Qd.src d) 64
    (r.1, if 3 ≤ r.2.code then r.2.code else if !State.scalesOk d r.2.bytes then 5 else 1)

/-- R168, R390: a scale block under a seal of another format than 15 fails its check at a scale input. -/
def scaleFmtFail (s : State) (w : Nat) (r : ReadRes) : State :=
  ((s.bump pgINTEG Reg.INTEG.SEAL_FAILS).raise pgINTEG 8).record (pgWell w) 11 0 1 (r.blk * 4096) (r.tid * 2 ^ 32 + r.blk)

/-- R213, R218: the next transfer of a SCALES: one item, to the scale input of every receiver. -/
def moveScales (s : State) (q : Nat) (e : Exec) : State × Moved :=
  let d := e.desc
  let ws := s.receivers q
  let h := if s.inReservoir (Qd.src d) then [] else s.scaleHeader (Qd.src d)
  let r := s.readScales d h e.items
  if r.2.unmapped then (r.1, ⟨6, 0, 0, ws.length, [], []⟩)
  else
    let wrong := r.2.fmt != 15 && !r.2.ecc
    let i := State.streamItem q d e.items { r.2 with withheld := r.2.withheld || wrong }
    let t := r.1.each ws fun s w => (if wrong then s.scaleFmtFail w r.2 else s).onWell w fun x => { x with scales := x.scales ++ [i] }
    (t, ⟨joinCode r.2.code (if wrong then 7 else 1), if i.kind = 0 then 1024 else 512, 1, ws.length, [], []⟩)

/-! ### Issue (R210, R211, R214, R575) -/

/-- Bytes of the next transfer of an execution (R196). -/
def nextBytes (s : State) (e : Exec) : Nat :=
  let d := e.desc
  match Qd.op d with
  | 2 => min 4096 ((if e.part = 0 then s.tileBytes d e.items else e.tileB) - 4096 * e.part)
  | 4 => if (State.scaleItemAt d e.items).1 = 0 then 1024 else 512
  | 5 => min (Qd.itemsEach d) (Qd.nitem d - e.items) * Qd.esize d
  | 6 => min (Qd.itemsEach d) (Qd.nitem d - e.items) * Qd.esize d
  | 1 => if e.merged.isEmpty then min 4096 (Qd.len d - 4096 * e.issued) else e.len
  | _ => min 4096 (Qd.dstBytes d - 4096 * e.issued)

/-- R210: source bytes of the next transfer of an execution, which enter the fetch buffer: of a STATS from a cistern only the record, whose source the
base dies read (R250). -/
def fetchBytes (s : State) (e : Exec) : Nat :=
  let d := e.desc
  match Qd.op d with
  | 7 => if Qd.src d < 12 * 2 ^ 36 then 64 else min 4096 (Qd.srcBytes d)
  | 8 =>
    let cnt := min 640 (Qd.nelem d - 640 * e.issued)
    (match Qd.sfmt d with
    | 14 => 4096
    | 12 => 4 * cnt
    | 9 => 2 * cnt + 4 * ceilDiv cnt 128
    | _ => 2 * cnt)
  | _ => s.nextBytes e

/-- R575: the receive buffers that `n` bytes at an address enter, with the bytes of each; a write to a pool enters its mirror's too. -/
def needAt (s : State) (q a n : Nat) : List (Nat × Nat) :=
  (blockParts a n).flatMap fun c =>
    match s.resolve s.qmap (a + c.1) with
    | .mem key => (key :: s.mirrorKeys key).filterMap fun k => (bufferOf (queueDie q) (.mem k)).map fun b => (b.1, c.2)
    | l => ((bufferOf (queueDie q) l).map fun b => (b.1, c.2)).toList

/-- R211, R575: credits that the next transfer of an execution takes from each receive buffer. Staging and scale inputs grant their own (R213). -/
def destNeeds (s : State) (q : Nat) (e : Exec) : List (Nat × Nat) :=
  let d := e.desc
  let n := s.nextBytes e
  let l := match Qd.op d with
    | 2 => []
    | 4 => []
    | 3 => (s.receivers q).flatMap fun w => s.needAt q (poolBase + w * 2 ^ 20 + Qd.dst d % 2 ^ 20 + 4096 * e.issued) n
    | 5 => s.needAt q (Qd.dst d + e.items * Qd.esize d) n
    | 6 => (List.range (n / max 1 (Qd.esize d))).flatMap fun i =>
        s.needAt q (Qd.dst d + numOf (s.peek (Qd.idx d + 4 * (e.items + i)) 4) * Qd.esize d) (Qd.esize d)
    | _ => s.needAt q (Qd.dst d + 4096 * e.issued) n
  ((l.map (·.1)).dedup).map fun b => (b, ceilDiv ((l.filter fun x => x.1 == b).map (·.2)).sum 512)

/-- R213, R216: every receiver of a stream grants its staging slot or scale input; a tile once begun goes on. -/
def streamGranted (s : State) (q : Nat) (e : Exec) : Bool :=
  match Qd.op e.desc with
  | 2 => e.part != 0 || (!(s.receivers q).isEmpty && (s.receivers q).all fun w => s.takesTile w q)
  | 4 => !(s.receivers q).isEmpty && (s.receivers q).all fun w => s.takesScales w q (s.nextBytes e)
  | _ => true

/-- R11, R250: a transfer crosses a memory link of the queue's die; what the base dies move within the cistern window does not. -/
def onLink (d : List Byte) : Bool :=
  let cis (a : Nat) : Bool := decide (a < 12 * 2 ^ 36)
  let op := Qd.op d
  if op = 7 then cis (Qd.src d) != cis (Qd.dst d)
  else cis (Qd.src d) || ([1, 5, 6, 8].contains op && cis (Qd.dst d)) || ((op == 5 || op == 6) && cis (Qd.idx d))

/-- R11, R203, R210, R211: a queue could issue a transfer but for the credits of receive buffers; over a memory link its region has light. -/
def wantsIssue (s : State) (q : Nat) : Option Exec :=
  match s.exec? q with
  | none => none
  | some e =>
    if s.isOn (pgPumpq q) && s.qst q == 3 && !(s.queue q).skew && e.more &&
        decide ((s.queue q).inflight.length < s.rd (pgPumpq q) Reg.PUMPQ.SCHED_OUTSTANDING) &&
        s.fetchCredits q (ceilDiv (s.fetchBytes e) 512) && s.streamGranted q e && !s.windowHeld e.desc &&
        (!State.onLink e.desc || s.linkLit (queueDie q)) then some e
    else none

/-- R210, R211: the execution whose next transfer a queue may start now, and its bytes; none when it may not: every receive buffer that it enters
has granted its credits. -/
def issuable (s : State) (q : Nat) : Option Nat :=
  match s.wantsIssue q with
  | none => none
  | some e =>
    if (s.destNeeds q e).all fun b => s.pump.asked.any fun a => a.buffer == b.1 && a.queue == q && a.granted then some (s.nextBytes e) else none

/-- R575: each receive buffer grants the requests made to it in their order, as far as its credits reach: `held` are the buffers where a request
still waits. The requests, and the credits taken. -/
def grantAll : List Asked → List Nat → List (Nat × Nat) → List Asked × List (Nat × Nat)
  | [], _, taken => ([], taken)
  | a :: rest, held, taken =>
    let used := sparseGet (fun _ => 0) taken a.buffer
    let r :=
      if a.granted then (a, held, taken)
      else if held.contains a.buffer || decide (bufferCredits a.buffer < used + a.credits) then (a, a.buffer :: held, taken)
      else ({ a with granted := true }, held, sparsePut (fun _ => 0) taken a.buffer (used + a.credits))
    let t := grantAll rest r.2.1 r.2.2
    (r.1 :: t.1, t.2)

/-- R575: a queue asks every receive buffer that its next transfer enters, where it has not yet. -/
def askBuffers (s : State) (q : Nat) : State :=
  match s.wantsIssue q with
  | none => s
  | some e =>
    let l := (s.destNeeds q e).foldl (fun l b =>
      if l.any (fun a => a.buffer == b.1 && a.queue == q) then l else l ++ [{ buffer := b.1, queue := q, credits := b.2 }]) s.pump.asked
    { s with pump := { s.pump with asked := l } }

/-- R575: queues ask in turn, and the buffers grant. -/
def askAll (s : State) (l : List Nat) : State :=
  let s := s.each l fun s q => s.askBuffers q
  let r := grantAll s.pump.asked [] s.pump.taken
  { s with pump := { s.pump with asked := r.1, taken := r.2 } }

/-- R202, R244, R442: before its first transfer, what keeps a descriptor from moving anything; 1 for nothing. Merged descriptors and items of an
index list are judged one by one as they move. -/
def startFault (s : State) (q : Nat) (e : Exec) : State × Nat :=
  let d := e.desc
  if e.issued ≠ 0 ∨ e.items ≠ 0 ∨ e.part ≠ 0 ∨ !e.merged.isEmpty then (s, 1)
  else match Qd.op d with
    | 1 => (s, s.copyFault q d)
    | 3 => (s, s.multicastFault q d)
    | 4 => s.scalesFault d
    | 7 => (s, s.statsFault q d)
    | 8 => (s, s.reduceFault q d)
    | _ => (s, 1)

/-- The data of the next transfer of a queue's execution moves. -/
def moveNext (s : State) (q : Nat) (e : Exec) (n : Nat) : State × Moved :=
  match Qd.op e.desc with
  | 1 => s.moveCopy q e
  | 2 => s.moveTile q e n
  | 3 => s.moveMulticast q e
  | 4 => s.moveScales q e
  | 5 => s.moveItems q e
  | 6 => s.moveItems q e
  | 7 => s.moveStats e.desc
  | _ => s.moveReduce e.desc e.issued

/-- R210, R211, R575: the credits of a transfer that starts, `fetch` for its source, and its place in the queue's flight; the credits that its
destinations granted are its own now. -/
def startTransfer (s : State) (q n fetch : Nat) (m : Moved) : State :=
  let needs := (s.pump.asked.filter fun a => a.queue == q && a.granted).map fun a => (a.buffer, a.credits)
  let s := s.onQueue q fun x => { x with inflight := x.inflight ++ [⟨n, needs, m.copies, m.tags, fetch⟩] }
  let s := { s with pump := { s.pump with asked := s.pump.asked.filter fun a => a.queue != q } }
  let pg := pgPumpq q
  let s := (s.bump pg Reg.PUMPQ.Q_STAT_INFLIGHT).wr pg Reg.PUMPQ.Q_STAT_CREDITS (s.heldCredits q + fetch)
  let wd := pgWdie (queueDie q)
  (s.bump64 wd Reg.WDIE.PUMP_BYTES_LO n (q / 256 % 4)).bumpWrap wd Reg.WDIE.PUMP_BUSY 1 (q / 256 % 4)

/-- The execution after a transfer has moved. -/
def afterMove (s : State) (e : Exec) (m : Moved) (started : Bool) : Exec :=
  { e with
    code := joinCode e.code m.code, codes := m.codes, issued := e.issued + b2n started, items := e.items + m.items
    part := if Qd.op e.desc = 2 ∧ m.items = 0 ∧ started then e.part + 1 else 0
    tileB := if Qd.op e.desc = 2 ∧ e.part = 0 then s.tileBytes e.desc e.items else e.tileB }

/-- R208: with nothing left to issue, the queue flushes; with nothing in flight either, the descriptor is complete. -/
def flushOrEnd (s : State) (q : Nat) : State :=
  match s.exec? q with
  | none => s
  | some e =>
    if e.more || (s.queue q).skew then s
    else if (s.queue q).inflight.isEmpty then s.completeExec q
    else s.setQst q .flush

/-- R230: the cisterns whose link ports to the queue's die the next transfer of an execution uses. -/
def linkCisterns (s : State) (e : Exec) : List Nat :=
  let d := e.desc
  let n := s.fetchBytes e
  let src := match Qd.op d with
    | 2 => (s.tileAddr d e.items).getD 0 + 4096 * e.part
    | 5 => Qd.idx d + 4 * e.items
    | 6 => Qd.src d + e.items * Qd.esize d
    | _ => Qd.src d + 4096 * e.issued
  let dst := match Qd.op d with
    | 5 => [Qd.dst d + e.items * Qd.esize d]
    | 6 => [Qd.dst d + numOf (s.peek (Qd.idx d + 4 * e.items) 4) * Qd.esize d]
    | 2 => []
    | 3 => []
    | 4 => []
    | _ => [Qd.dst d + 4096 * e.issued]
  ((if onLink d then (blockParts src n).map (src + ·.1) ++ dst else []).filterMap s.cisternAt).dedup

/-- R196, R211, R230: a queue issues its next transfer, whose data moves, taking its turn at the link ports; a descriptor that may not move anything,
or a transfer that delivers nothing, starts none. -/
def issueOne (s : State) (q : Nat) : State :=
  match s.issuable q, s.exec? q with
  | some n, some e =>
    let f := s.startFault q e
    if 3 ≤ f.2 then (f.1.onQueue q fun x => { x with exec := some { e with code := f.2 } }).completeExec q
    else
      let fetch := ceilDiv (f.1.fetchBytes e) 512
      let m := (f.1.each (f.1.linkCisterns e) fun s c => s.takeTurn c (Qd.cls e.desc) (queueDie q)).moveNext q e n
      let started := m.2.bytes != 0 || !m.2.codes.isEmpty
      let e' := f.1.afterMove e m.2 started
      let s := m.1.onQueue q fun x => { x with exec := x.exec.map fun y => { e' with got := y.got } }
      (if started then s.startTransfer q m.2.bytes fetch m.2 else s.dropAsked q).flushOrEnd q
  | _, _ => s

/-- R214: deficit round robin from the queue `turn` (1 more than its number, 0 for none): a queue goes on while its deficit covers its next transfer;
else the next ones are visited in ascending number, each visit granting its quantum. The queue served, and the deficits. -/
def serve (weight size : Nat → Nat) (l : List Nat) (turn : Nat) : Nat → List (Nat × Nat) → Option (Nat × List (Nat × Nat))
  | 0, _ => none
  | fuel + 1, defs =>
    let cur := turn - 1
    let d := sparseGet (fun _ => 0) defs cur
    if turn ≠ 0 ∧ l.contains cur ∧ size cur ≤ d then some (cur, sparsePut (fun _ => 0) defs cur (d - size cur))
    else
      match (l.filter fun q => decide (turn ≤ q)).head? <|> l.head? with
      | none => none
      | some q => serve weight size l (q + 1) fuel (sparsePut (fun _ => 0) defs q (sparseGet (fun _ => 0) defs q + weight q * 512))

/-- R214: the queue of a pump that starts a transfer, and its deficits. -/
def arbitrate (s : State) (p : Nat) : Option (Nat × List (Nat × Nat)) :=
  let can := (s.pump.queues.map (·.1)).filter fun q => q / 256 == p && (s.issuable q).isSome
  let prio (q : Nat) : Nat := s.rd (pgPumpq q) Reg.PUMPQ.SCHED_PRIO
  let top := can.foldl (fun a q => max a (prio q)) 0
  let l := can.filter fun q => prio q == top
  serve (fun q => s.rd (pgPumpq q) Reg.PUMPQ.SCHED_WEIGHT) (fun q => (s.issuable q).getD 0) l (sparseGet (fun _ => 0) s.pump.turn p)
    (32 * l.length + 1) ((s.pump.queues.filter fun e => e.1 / 256 == p).map fun e => (e.1, e.2.deficit))

/-- TRANSFER_ISSUE (R211, R214): the queues of a pump ask for credits, and one of them starts a transfer. -/
def transferIssue (s : State) (p : Nat) : State :=
  let s := s.askAll ((s.pump.queues.map (·.1)).filter fun q => q / 256 == p)
  match s.arbitrate p with
  | none => s
  | some (q, defs) =>
    let s := s.each defs fun s x => s.onQueue x.1 fun y => { y with deficit := x.2 }
    { s with pump := { s.pump with turn := sparsePut (fun _ => 0) s.pump.turn p (q + 1) } }.issueOne q

/-- Transfers of the descriptor that a queue executes, as long as they may issue. -/
def issueAll (s : State) (q op : Nat) : Nat → State
  | 0 => s
  | fuel + 1 =>
    match s.exec? q with
    | none => s
    | some e =>
      if Qd.op e.desc ≠ op then s
      else
        let s := s.askAll [q]
        if (s.issuable q).isSome then (s.issueOne q).issueAll q op fuel else s

/-- A row that names an operation: the transfers of the executing descriptor issue, as far as credits reach. DESIGN CHOICE (log entry 60): the row
names one queue, so the arbitration of R214, which chooses among queues, is left to TRANSFER_ISSUE. -/
def moveOp (s : State) (q op : Nat) : State := s.issueAll q op 65

/-- R247: a header with BUILD that a descriptor wrote is acknowledged only after its build. -/
def awaitsBuild (s : State) (d : List Byte) : Bool :=
  [1, 5, 6].contains (Qd.op d) && decide (Qd.dst d < 12 * 2 ^ 36) &&
    (blockParts (Qd.dst d) (Qd.len d)).any fun c => (Qd.dst d + c.1) % 4096 == 0 && decide (4 ≤ c.2) && s.buildAsked (Qd.dst d + c.1)

/-- R442: the answers that the oldest transfer in flight has waited for go on to its destination. -/
def deliverAnswers (s : State) (q : Nat) : State :=
  match (s.queue q).inflight, s.exec? q with
  | t :: _, some e =>
    let r := s.putAnswers e.desc (e.got.filter fun g => t.tags.contains g.1)
    r.1.onQueue q fun x =>
      { x with exec := x.exec.map fun y => { y with code := joinCode y.code r.2, got := y.got.filter fun g => !t.tags.contains g.1 } }
  | _, _ => s

/-- R206, R208: the executing descriptor, all of whose transfers are acknowledged, completes, unless it still waits. -/
def completeIf (s : State) (q : Nat) : State :=
  if (s.exec? q).isNone || !s.delivered? q || (s.queue q).skew then s else s.completeExec q

/-- TRANSFER_COMPLETE (R208): the oldest transfer in flight is acknowledged, once its reads are answered and a header that it wrote is built (R247);
with the last one the descriptor completes. -/
def transferComplete (s : State) (q : Nat) : State :=
  let waits := ((s.queue q).inflight.head?.map s.unanswered).getD false || ((s.exec? q).map fun e => s.awaitsBuild e.desc).getD false
  if waits then s else ((s.deliverAnswers q).acknowledge q).completeIf q

end State

/-- COPY (R200, R202, R442): of the descriptor that queue `q` executes. -/
def execCopy (at_ q : Nat) (s : State) : Host.Outcome State Fault Refusal := liveCore s at_ fun s => s.moveOp q 1

/-- TILE (R200, R248, R249). -/
def execTile (at_ q : Nat) (s : State) : Host.Outcome State Fault Refusal := liveCore s at_ fun s => s.moveOp q 2

/-- MULTICAST (R200, R216). -/
def execMulticast (at_ q : Nat) (s : State) : Host.Outcome State Fault Refusal := liveCore s at_ fun s => s.moveOp q 3

/-- SCALES (R218, R245). -/
def execScales (at_ q : Nat) (s : State) : Host.Outcome State Fault Refusal := liveCore s at_ fun s => s.moveOp q 4

/-- GATHER (R200, R202). -/
def execGather (at_ q : Nat) (s : State) : Host.Outcome State Fault Refusal := liveCore s at_ fun s => s.moveOp q 5

/-- SCATTER (R200, R202). -/
def execScatter (at_ q : Nat) (s : State) : Host.Outcome State Fault Refusal := liveCore s at_ fun s => s.moveOp q 6

/-- STATS (R201, R250). -/
def execStats (at_ q : Nat) (s : State) : Host.Outcome State Fault Refusal := liveCore s at_ fun s => s.moveOp q 7

/-- REDUCE (R189, R190, R442). -/
def execReduce (at_ q : Nat) (s : State) : Host.Outcome State Fault Refusal := liveCore s at_ fun s => s.moveOp q 8

/-- TRANSFER_ISSUE (R211, R214) on pump 0 to 15. -/
def execTransferIssue (at_ p : Nat) (s : State) : Host.Outcome State Fault Refusal := liveCore s at_ fun s => s.transferIssue p

/-- TRANSFER_COMPLETE (R208): of the oldest transfer in flight of queue `q`. -/
def execTransferComplete (at_ q : Nat) (s : State) : Host.Outcome State Fault Refusal :=
  liveCore s at_ fun s => (((s.transferComplete q).drainQueue q).writeEmissions).releaseIngested false

end Sys2Proof.Machine
end

