-- ==== Sys2Proof/Machine/Commit.lean ====
section
/-! DEFINITION. Applying commits at a boundary (R34 action 3, R68, R69, R74, R77): the rules by which each page kind accepts or rejects
its shadow values, and the move of the accepted values to live. -/

namespace Sys2Proof.Machine

/-- R68: what a page's rules reject: byte offset and lowest bit of the field. -/
abbrev Rejects := List (Nat × Nat)

/-- A field, rejected when the condition holds. -/
def rejIf (f : Field) (b : Bool) (i : Nat := 0) : Rejects := if b then [(f.at i, f.lsb)] else []

/-- Outside an inclusive range. -/
def outside (lo hi v : Nat) : Bool := v < lo || hi < v

/-- R333: a generator whose tone of multiple `k` lies outside 1 kHz to 200 kHz. -/
def toneBad (ftw k fu : Nat) : Bool := ftw != 0 && outside (1000 * 2 ^ 32) (200000 * 2 ^ 32) (k * ftw * fu)

/-- The first rejected field of a page: lowest offset, then lowest bit. -/
def firstReject : Rejects → Option (Nat × Nat)
  | [] => none
  | x :: rest =>
    match firstReject rest with
    | none => some x
    | some y => if y.1 * 32 + y.2 < x.1 * 32 + x.2 then some y else some x

/-- Members listed more than once, by position. -/
def repeated (l : List Nat) : List Nat := (List.range l.length).filter fun i => (l.take i).contains (l.getD i 0)

namespace State

/-! ### The rules of each page: `n` would be the state after the commit, `o` is the one before it -/

/-- A field that a commit changes. -/
def differs (n o : State) (pg : Nat) (f : Field) (i : Nat := 0) : Bool := n.rd pg f i != o.rd pg f i

/-- A field outside an inclusive range is rejected. -/
def rejRange (n : State) (pg : Nat) (f : Field) (lo hi : Nat) : Rejects := rejIf f (outside lo hi (n.rd pg f))

/-- R70, R333, R336. -/
def checkSys (n : State) : Rejects :=
  n.rejRange pgSYS Reg.SYS.TXN_TIMEOUT_TICKS 1 255 ++ rejIf Reg.SYS.BIAS_FTW (toneBad (n.rd pgSYS Reg.SYS.BIAS_FTW) 1 1000000) ++
  n.rejRange pgSYS Reg.SYS.BIAS_MON_WIN 1 255 ++ n.rejRange pgSYS Reg.SYS.BIAS_MON_FAIL_N 1 15

/-- R22, R23, R26: period and source are pinned while a plan runs, from the boundary that begins its first tick on (R273). -/
def checkTick (n o : State) : Rejects :=
  let us := n.rd pgTICK Reg.TICK.PERIOD_US
  let pinned := o.planRunning || o.plan.firstTick == some o.tick.number
  rejIf Reg.TICK.PERIOD_US (outside 25 10000 us ||
    (pinned && differs n o pgTICK Reg.TICK.PERIOD_US && us != Ph.tickUs o.plan.header)) ++
  rejIf Reg.TICK.SRC_SEL (n.rd pgTICK Reg.TICK.SRC_SEL == 3 || (pinned && differs n o pgTICK Reg.TICK.SRC_SEL))

/-- R97. -/
def checkEvt (n : State) : Rejects :=
  n.rejRange pgEVT Reg.EVT.FILT_CLR_N 2 255 ++ n.rejRange pgEVT Reg.EVT.FILT_OPTOFF_N 2 255 ++ n.rejRange pgEVT Reg.EVT.FILT_TICK_N 2 255

/-- R519, R521, R523, R530. -/
def checkTherm (n o : State) : Rejects :=
  let hot := o.rd pgTHERM Reg.THERM.LEVEL != 0
  n.rejRange pgTHERM Reg.THERM.LIMITS_WARN_C 60 95 ++ rejIf Reg.THERM.THR_CTL_MODE (hot && differs n o pgTHERM Reg.THERM.THR_CTL_MODE) ++
  n.rejRange pgTHERM Reg.THERM.THR_CTL_RISE_10US 1 255 ++ n.rejRange pgTHERM Reg.THERM.THR_CTL_HYST_C 1 15 ++
  n.rejRange pgTHERM Reg.THERM.THR_CTL_RELAX_MS 1 255 ++ n.rejRange pgTHERM Reg.THERM.STEP_CTL_RATE 5 20

/-- R529. -/
def checkPwr (n : State) : Rejects :=
  rejIf Reg.PWR.CAP_W (n.rd pgPWR Reg.PWR.CAP_W != 0 && outside 1000 2400 (n.rd pgPWR Reg.PWR.CAP_W))

/-- R355. -/
def checkCal (n o : State) : Rejects :=
  let late := differs n o pgCAL Reg.CAL.EARLY_MS || differs n o pgCAL Reg.CAL.INTERVAL_MS
  n.rejRange pgCAL Reg.CAL.INTERVAL_MS 100 10000 ++
  rejIf Reg.CAL.EARLY_MS (late && decide (n.rd pgCAL Reg.CAL.INTERVAL_MS ≤ n.rd pgCAL Reg.CAL.EARLY_MS)) ++
  n.rejRange pgCAL Reg.CAL.OVERDUE_MS 1 10000 ++ n.rejRange pgCAL Reg.CAL.LANE_INTERVAL_MS 1000 65535 ++
  n.rejRange pgCAL Reg.CAL.COMB_INTERVAL_MS 100 65535

/-- R384. -/
def checkInteg (n : State) : Rejects :=
  n.rejRange pgINTEG Reg.INTEG.TRANS_MAX 1 255 ++ rejIf Reg.INTEG.TRANS_WIN_TICKS (n.rd pgINTEG Reg.INTEG.TRANS_WIN_TICKS == 0)

/-- R403. -/
def checkTest (n o : State) : Rejects :=
  let late := differs n o pgTEST Reg.TEST.FT_EARLY_S || differs n o pgTEST Reg.TEST.FT_INTERVAL_S
  n.rejRange pgTEST Reg.TEST.FT_INTERVAL_S 10 65535 ++
  rejIf Reg.TEST.FT_EARLY_S (late && decide (n.rd pgTEST Reg.TEST.FT_INTERVAL_S ≤ n.rd pgTEST Reg.TEST.FT_EARLY_S))

/-- R287. -/
def checkBoot (n : State) : Rejects := n.rejRange pgBOOT Reg.BOOT.SEQ_TIMEOUT_TICKS 1 65535

/-- R471: PHY_CFG of a frame port. -/
def checkPhy (n o : State) (pg : Nat) (mode lanes : Field) : Rejects :=
  let off := o.st pg == 0
  rejIf mode (!off && differs n o pg mode) ++ rejIf lanes (n.rd pg lanes == 0 || (!off && differs n o pg lanes))

/-- R472: 4 KiB units of the enabled channels below channel `v`. -/
def unitsBelow (n : State) (pg v : Nat) : Nat :=
  ((List.range v).map fun i =>
    if n.flag pg Reg.FRAME_IN.VC_CFG_EN i then n.rd pg Reg.FRAME_IN.VC_CFG_SLOTS i * n.rd pg Reg.FRAME_IN.VC_CFG_SLOT_4K i else 0).foldl (· + ·) 0

/-- R471, R472, R476, R477, R482. -/
def checkFrameIn (n o : State) (p : Nat) : Rejects :=
  let pg := pgFrameIn p
  checkPhy n o pg Reg.FRAME_IN.PHY_CFG_MODE Reg.FRAME_IN.PHY_CFG_LANES ++ n.rejRange pg Reg.FRAME_IN.MAX_TICKS_TICKS 1 255 ++
  (List.range 16).flatMap fun v =>
    let busy := o.frames.rx.any fun f => f.port == p && f.vc == v
    let en := n.flag pg Reg.FRAME_IN.VC_CFG_EN v
    let units := n.rd pg Reg.FRAME_IN.VC_CFG_SLOTS v * n.rd pg Reg.FRAME_IN.VC_CFG_SLOT_4K v
    let held (f : Field) : Bool := busy && differs n o pg f v
    rejIf Reg.FRAME_IN.VC_CFG_EN (held Reg.FRAME_IN.VC_CFG_EN) v ++
    rejIf Reg.FRAME_IN.VC_CFG_KIND (held Reg.FRAME_IN.VC_CFG_KIND || n.rd pg Reg.FRAME_IN.VC_CFG_KIND v == 3) v ++
    rejIf Reg.FRAME_IN.VC_CFG_SLOTS (held Reg.FRAME_IN.VC_CFG_SLOTS || n.rd pg Reg.FRAME_IN.VC_CFG_SLOTS v == 0) v ++
    rejIf Reg.FRAME_IN.VC_CFG_SLOT_4K (held Reg.FRAME_IN.VC_CFG_SLOT_4K || outside 1 1024 (n.rd pg Reg.FRAME_IN.VC_CFG_SLOT_4K v) ||
      (en && n.rd pg Reg.FRAME_IN.VC_CFG_KIND v == 2 && decide (units < 16)) ||
      (en && decide (1024 < n.unitsBelow pg (v + 1)))) v ++
    rejIf Reg.FRAME_IN.VC_CFG_AGE (held Reg.FRAME_IN.VC_CFG_AGE || n.rd pg Reg.FRAME_IN.VC_CFG_AGE v == 0) v ++
    rejIf Reg.FRAME_IN.VC_WIDTH_WIDTH (n.rd pg Reg.FRAME_IN.VC_WIDTH_WIDTH v == 0) v

/-- R470, R471. -/
def checkFrameOut (n o : State) (p : Nat) : Rejects :=
  let pg := pgFrameOut p
  let rate := n.rd pg Reg.FRAME_OUT.PHY_CFG_RATE
  checkPhy n o pg Reg.FRAME_OUT.PHY_CFG_MODE Reg.FRAME_OUT.PHY_CFG_LANES ++
  rejIf Reg.FRAME_OUT.PHY_CFG_RATE ((o.st pg != 0 && differs n o pg Reg.FRAME_OUT.PHY_CFG_RATE) ||
    outside 1 (if n.flag pg Reg.FRAME_OUT.PHY_CFG_MODE then 45 else 60) rate)

/-- R428, R431, R439, and for the registers of the fabric R453 to R457. -/
def checkHport (n o : State) (p : Nat) (fab : Bool) : Rejects :=
  let pg := pgHport p
  let sum := n.rd pg Reg.HPORT.RXBUF0_C0_MIN + n.rd pg Reg.HPORT.RXBUF0_C1_MIN + n.rd pg Reg.HPORT.RXBUF1_C2_MIN
  rejIf Reg.HPORT.LANE_ADMIN_MASK (decide ((n.allowedLanes p).length < 2)) ++ n.rejRange pg Reg.HPORT.LANE_CFG_DEG_PPM 1 1000 ++
  n.rejRange pg Reg.HPORT.LANE_CFG_DEG_TICKS 1 15 ++ rejIf Reg.HPORT.RXBUF0_C0_MIN (decide (16320 < sum)) ++
  (if fab then
    rejIf Reg.HPORT.FAB_CTL_EN (o.planRunning && Ph.fabric o.plan.header && differs n o pg Reg.HPORT.FAB_CTL_EN) ++
    n.rejRange pg Reg.HPORT.EPOCH_CFG_LEAD 4 255 ++ n.rejRange pg Reg.HPORT.EPOCH_CFG_MEMBER_TIMEOUT 2 255 ++
    n.rejRange pg Reg.HPORT.EPOCH_CFG_GM_TIMEOUT 2 255
  else [])

/-- R233. -/
def checkCistern (n o : State) (c : Nat) : Rejects :=
  let pg := pgCistern c
  let g := n.rd pg Reg.CISTERN.MAP_LINEAR_GIB
  let mixed := (List.range 12).any fun i => n.rd (pgCistern i) Reg.CISTERN.MAP_LINEAR_GIB != g
  rejIf Reg.CISTERN.MAP_LINEAR_GIB (mixed || decide (64 < g) || (differs n o pg Reg.CISTERN.MAP_LINEAR_GIB && o.st pg != 0))

/-- R318 and the ranges of R316. -/
def checkComb (n o : State) (i : Nat) : Rejects :=
  let pg := pgComb i
  let t := toSigned (n.rd pg Reg.COMB.LOOP_TARGET) 16
  let was := toSigned (o.rd pg Reg.COMB.LOOP_TARGET) 16
  let cs := (o.source i).cs
  rejIf Reg.HDR.CTL_EN (o.planRunning && (cs == 3 || cs == 5) && o.flag pg Reg.HDR.CTL_EN && !n.flag pg Reg.HDR.CTL_EN) ++
  rejIf Reg.COMB.LOOP_TARGET (decide (100 < (t - was).natAbs)) ++ n.rejRange pg Reg.COMB.LOOP_STEP 1 255 ++
  n.rejRange pg Reg.COMB.TRIG_MARGIN 1 1000 ++ n.rejRange pg Reg.COMB.TRIG_BIAS_PCT 50 100 ++ n.rejRange pg Reg.COMB.TRIG_PRE_PCT 50 100 ++
  n.rejRange pg Reg.COMB.PROJ_WIN_TICKS 1 65535 ++ n.rejRange pg Reg.COMB.PROJ_HORIZON_TICKS 1 65535 ++
  n.rejRange pg Reg.COMB.PREWARM_HORIZON_MS 1 65535

/-- R333, R336. -/
def checkWdie (n : State) (d : Nat) : Rejects :=
  let pg := pgWdie d
  let ftw := n.rd pg Reg.WDIE.GEN_HTR_FTW
  let k := n.rd pg Reg.WDIE.GEN_HTR_K_KOFF
  rejIf Reg.WDIE.GEN_HTR_FTW (k != 0 && (toneBad ftw k 1000000 || toneBad ftw (k + 129) 1000000)) ++ rejIf Reg.WDIE.GEN_HTR_K_KOFF (k == 0) ++
  rejIf Reg.WDIE.GEN_IN_FTW (toneBad (n.rd pg Reg.WDIE.GEN_IN_FTW) 1 5000000000) ++
  rejIf Reg.WDIE.GEN_COL_FTW (toneBad (n.rd pg Reg.WDIE.GEN_COL_FTW) 1 1250000000) ++
  n.rejRange pg Reg.WDIE.MON_CTL_WIN 1 255 ++ n.rejRange pg Reg.WDIE.MON_CTL_FAIL_N 1 15

/-- R324. -/
def checkCluster (n o : State) (c : Nat) (written : List Nat) : Rejects :=
  let pg := pgCluster c
  (List.range 16).flatMap fun i =>
    let w := 16 * c + i
    let serves := (o.logicalOf w).isSome || (o.standInOf w).isSome
    let setsSpan (f : Field) : Bool := serves && n.rd pg f i != 0 && written.contains (0x100 + 4 * i)
    rejIf Reg.CLUSTER.CONV_MODE_IN_SPAN (n.rd pg Reg.CLUSTER.CONV_MODE_IN_SPAN i == 3 || setsSpan Reg.CLUSTER.CONV_MODE_IN_SPAN) i ++
    rejIf Reg.CLUSTER.CONV_MODE_COL_SPAN (setsSpan Reg.CLUSTER.CONV_MODE_COL_SPAN) i ++
    rejIf Reg.CLUSTER.CONV_MODE_HTR_SPAN (o.isOn (pgWell w) && differs n o pg Reg.CLUSTER.CONV_MODE_HTR_SPAN i) i

/-- R111, R119, R130, R148, R194, R374. -/
def checkWell (n o : State) (w : Nat) : Rejects :=
  let pg := pgWell w
  let live := o.runs pg
  n.rejRange pg Reg.WELL.OPT_CTL_RX_GAIN 0 4 ++ n.rejRange pg Reg.WELL.PILOT_CTL_WIN_LOG2 8 16 ++
  n.rejRange pg Reg.WELL.PILOT_CTL_PHASE_THR 1 255 ++ n.rejRange pg Reg.WELL.PILOT_CTL_GAIN_THR 1 255 ++
  rejIf Reg.WELL.SPARE_EN (live && differs n o pg Reg.WELL.SPARE_EN) ++
  rejIf Reg.WELL.SPARE_ROW (decide (128 < n.rd pg Reg.WELL.SPARE_ROW) || (live && differs n o pg Reg.WELL.SPARE_ROW)) ++
  rejIf Reg.WELL.PASSQ_BASE_OFFSET (o.passDepth w != 0 && differs n o pg Reg.WELL.PASSQ_BASE_OFFSET) ++
  n.rejRange pg Reg.WELL.QFIT_CTL_WIN_TICKS 1 65535 ++ n.rejRange pg Reg.WELL.INT_CTL_VEC_LOG2 2 6 ++
  n.rejRange pg Reg.WELL.INT_CTL_ROW_K 64 255 ++ n.rejRange pg Reg.WELL.INT_CTL_VEC_K 64 255

/-- R212: the reserved minimum of a queue. -/
def minOf (s : State) (q : Nat) : Nat := if s.reserves q then s.rd (pgPumpq q) Reg.PUMPQ.CREDIT_MIN else 0

/-- R212: reserved minimums of a pump with the changes of a commit: all that lower one, and those that raise one up to queue `q`. -/
def minsUpTo (n o : State) (q : Nat) : Nat :=
  ((pumpQueues (q / 256)).map fun r => if r ≤ q then n.minOf r else min (n.minOf r) (o.minOf r)).foldl (· + ·) 0

/-- R212: the change of queue `q` is the one with which the minimums of its pump no longer fit. -/
def minExceeds (n o : State) (q : Nat) : Bool :=
  decide (o.minOf q < n.minOf q) && decide (2048 < minsUpTo n o q) && decide (minsUpTo n o q - (n.minOf q - o.minOf q) ≤ 2048)

/-- R215: fields of a queue that a running engine uses (R224). -/
def ringFields : List Field :=
  [Reg.PUMPQ.RING_BASE_LO_ADDR, Reg.PUMPQ.RING_BASE_HI_ADDR, Reg.PUMPQ.RING_CFG_LOG2, Reg.PUMPQ.PAIR_QUEUE, Reg.PUMPQ.PAIR_EN,
   Reg.PUMPQ.PAIR_ROLE, Reg.PUMPQ.TGT_CFG_GROUP, Reg.PUMPQ.TGT_CFG_COUNT, Reg.PUMPQ.TGT_WELL01_N0, Reg.PUMPQ.TGT_WELL01_PHYS0,
   Reg.PUMPQ.TGT_WELL01_N1, Reg.PUMPQ.TGT_WELL01_PHYS1, Reg.PUMPQ.TGT_WELL23_N0, Reg.PUMPQ.TGT_WELL23_PHYS0, Reg.PUMPQ.TGT_WELL23_N1,
   Reg.PUMPQ.TGT_WELL23_PHYS1, Reg.PUMPQ.TGT_WELL45_N0, Reg.PUMPQ.TGT_WELL45_PHYS0, Reg.PUMPQ.TGT_WELL45_N1, Reg.PUMPQ.TGT_WELL45_PHYS1,
   Reg.PUMPQ.TGT_WELL67_N0, Reg.PUMPQ.TGT_WELL67_PHYS0, Reg.PUMPQ.TGT_WELL67_N1, Reg.PUMPQ.TGT_WELL67_PHYS1]

/-- R215: the fields of the members of a target set, number and PHYS bit, in order. -/
def memberFields : List (Field × Field) :=
  [(Reg.PUMPQ.TGT_WELL01_N0, Reg.PUMPQ.TGT_WELL01_PHYS0), (Reg.PUMPQ.TGT_WELL01_N1, Reg.PUMPQ.TGT_WELL01_PHYS1),
   (Reg.PUMPQ.TGT_WELL23_N0, Reg.PUMPQ.TGT_WELL23_PHYS0), (Reg.PUMPQ.TGT_WELL23_N1, Reg.PUMPQ.TGT_WELL23_PHYS1),
   (Reg.PUMPQ.TGT_WELL45_N0, Reg.PUMPQ.TGT_WELL45_PHYS0), (Reg.PUMPQ.TGT_WELL45_N1, Reg.PUMPQ.TGT_WELL45_PHYS1),
   (Reg.PUMPQ.TGT_WELL67_N0, Reg.PUMPQ.TGT_WELL67_PHYS0), (Reg.PUMPQ.TGT_WELL67_N1, Reg.PUMPQ.TGT_WELL67_PHYS1)]

/-- R215: the listed members of a queue as register values. -/
def listed (s : State) (q : Nat) : List Nat :=
  (memberFields.take (s.rd (pgPumpq q) Reg.PUMPQ.TGT_CFG_COUNT)).map fun f => s.rd (pgPumpq q) f.1 + 1024 * s.rd (pgPumpq q) f.2

/-- R212, R215, R224, R227. -/
def checkPumpq (n o : State) (q : Nat) : Rejects :=
  let pg := pgPumpq q
  let busy := o.qst q != 0
  let mn := n.rd pg Reg.PUMPQ.CREDIT_MIN
  let mx := n.rd pg Reg.PUMPQ.CREDIT_MAX
  let count := n.rd pg Reg.PUMPQ.TGT_CFG_COUNT
  let r := n.rd pg Reg.PUMPQ.PAIR_QUEUE
  let pr := pgPumpq r
  let paired := n.flag pg Reg.PUMPQ.PAIR_EN
  let names := n.flag pr Reg.PUMPQ.PAIR_EN && n.rd pr Reg.PUMPQ.PAIR_QUEUE == q && n.rd pr Reg.PUMPQ.PAIR_ROLE != n.rd pg Reg.PUMPQ.PAIR_ROLE
  ringFields.flatMap (fun f => rejIf f (busy && differs n o pg f)) ++ n.rejRange pg Reg.PUMPQ.RING_CFG_LOG2 4 16 ++
  n.rejRange pg Reg.PUMPQ.SCHED_WEIGHT 1 16 ++ n.rejRange pg Reg.PUMPQ.SCHED_OUTSTANDING 1 64 ++
  rejIf Reg.PUMPQ.CREDIT_MIN (outside 1 2048 mn || minExceeds n o q) ++ rejIf Reg.PUMPQ.CREDIT_MAX (decide (mx < mn) || decide (2048 < mx)) ++
  rejIf Reg.PUMPQ.PAIR_QUEUE (paired && r / 256 != q / 256) ++ rejIf Reg.PUMPQ.PAIR_ROLE (paired && !names) ++
  rejIf Reg.PUMPQ.TGT_CFG_GROUP (decide (1 < count) && n.rd pg Reg.PUMPQ.TGT_CFG_GROUP == 0) ++
  rejIf Reg.PUMPQ.TGT_CFG_COUNT (decide (8 < count) || (paired && names &&
    (n.rd pr Reg.PUMPQ.TGT_CFG_COUNT != count || n.rd pr Reg.PUMPQ.TGT_CFG_GROUP != n.rd pg Reg.PUMPQ.TGT_CFG_GROUP || n.listed r != n.listed q))) ++
  (repeated (n.listed q)).flatMap fun i => rejIf ((memberFields.getD i (Reg.PUMPQ.TGT_WELL01_N0, Reg.PUMPQ.TGT_WELL01_PHYS0)).1) true

/-- R68: every field that a page of a commit rejects; `written` lists the offsets of the words that the commit writes there. -/
def checkPage (n o : State) (pg : Nat) (written : List Nat) : Rejects :=
  match pageRange pg with
  | none => []
  | some (k, base, _) =>
    let i := pg - base
    match k with
    | .sys => n.checkSys
    | .tick => checkTick n o
    | .evt => n.checkEvt
    | .frameIn => checkFrameIn n o i
    | .frameOut => checkFrameOut n o i
    | .hport => checkHport n o i (written.any fun a => decide (0x400 ≤ a))
    | .cistern => checkCistern n o i
    | .comb => checkComb n o i
    | .therm => checkTherm n o
    | .pwr => n.checkPwr
    | .cal => checkCal n o
    | .integ => n.checkInteg
    | .test => checkTest n o
    | .sec => []
    | .boot => n.checkBoot
    | .wdie => n.checkWdie i
    | .cluster => checkCluster n o i written
    | .well => checkWell n o i
    | .pumpq => checkPumpq n o i

/-! ### Applying -/

/-- One commit that falls due: a group, or one write outside any group (R69). -/
structure Due where
  stamp : Stamp
  id : Nat
  pages : List Nat
  /-- Register address as accessed, and the word that its fields take. -/
  words : List (Nat × Word)
  deriving DecidableEq, Repr

/-- R82: host-time words go to the counter, not to a register. -/
def isHostTime (a : Nat) : Bool := a == 0x1060 || a == 0x1064

/-- R82: a load of one word of the host-time counter, the other as it stands. -/
def loadHostTime (s : State) (a : Nat) (v : Word) : State :=
  let t := if s.flag pgTICK Reg.TICK.HOST_TIME_VALID_SET then s.tick.hostTime else 0
  let t := if a = 0x1060 then t / 2 ^ 32 * 2 ^ 32 + v.toNat else t % 2 ^ 32 + v.toNat * 2 ^ 32
  ({ s with tick := { s.tick with hostTime := t } }).wr pgTICK Reg.TICK.HOST_TIME_VALID_SET 1

/-- R57, R82: a word of the host time at the boundary, high or low, with HOST_TIME_VALID. -/
def hostTimeShown (s : State) (high : Bool) : Nat × Bool :=
  (if high then s.tick.hostTime / 2 ^ 32 else s.tick.hostTime % 2 ^ 32, s.flag pgTICK Reg.TICK.HOST_TIME_VALID_SET)

/-- A word moves to live: only the fields that change at a boundary. -/
def loadWord (s : State) (a : Nat) (v : Word) : State :=
  let pg := a / 0x1000
  let off := a % 0x1000
  match pageKind pg with
  | none => s
  | some k => if isHostTime a then s.loadHostTime a v else s.setWord (regAddr pg off) (maskMerge (s.word (regAddr pg off)) v (accMask k .rws off))

/-- R194: a change of the window length or of EN discards the window; counting resumes at the first boundary, this one included, whose number is a
multiple of the new length. -/
def qfitChange (n o : State) (pg : Nat) : State :=
  if 0x100 ≤ pg ∧ pg < 0x440 then
    if differs n o pg Reg.WELL.QFIT_CTL_WIN_TICKS || differs n o pg Reg.WELL.QFIT_CTL_EN then
      n.onWell (pg - 0x100) fun x =>
        { x with qfit := {}, qfitWait := n.tick.number % max 1 (n.rd pg Reg.WELL.QFIT_CTL_WIN_TICKS) != 0 }
    else n
  else n

/-- R77: a FENCED page's EN stays 0, and the page raises TXN_REFUSED. -/
def fencedEnable (s : State) (pg : Nat) : State :=
  if s.st pg == 4 && s.flag pg Reg.HDR.CTL_EN then (s.wr pg Reg.HDR.CTL_EN 0).raise pg 2 else s

/-- R68: one commit is checked and applied, or rejected. The second part: pages on which it applied, and those that it changed (R57). DESIGN
CHOICE (log entry 47): where a write made outside any group falls due while its page is in a group opened after it, the page's STATUS (R72)
takes that write's outcome. -/
def applyDue (s : State) (d : Due) : State × List Nat × List Nat :=
  let n := s.each d.words fun s e => s.loadWord e.1 e.2
  let rej := d.pages.filterMap fun pg =>
    (firstReject (checkPage n s pg ((d.words.filter fun e => e.1 / 0x1000 == pg).map fun e => e.1 % 0x1000))).map fun r => (pg, r)
  let close (s : State) : State :=
    if d.id = 0 then s
    else { s with txn := { s.txn with
      groups := s.txn.groups.filter fun g => g.id != d.id
      shadow := s.txn.shadow.filter fun e => !d.pages.contains (e.1 / 0x1000)
      seen := s.txn.seen.filter fun e => !d.pages.contains (e.1 / 0x1000) } }
  if rej.isEmpty then
    let t := (close n).each d.pages fun t pg => ((qfitChange t s pg).setStatus pg 3).fencedEnable pg
    let kept := d.words.filter fun e =>
      if isHostTime e.1 then t.hostTimeShown (e.1 == 0x1064) != s.hostTimeShown (e.1 == 0x1064)
      else t.word (regAddr (e.1 / 0x1000) (e.1 % 0x1000)) != s.word (regAddr (e.1 / 0x1000) (e.1 % 0x1000))
    (t, d.pages, (kept.map fun e => e.1 / 0x1000).dedup)
  else
    let t := (close s).each d.pages fun t pg =>
      let r := ((rej.find? fun e => e.1 == pg).map (·.2)).getD (0xFFF, 0)
      (t.setStatus pg 6 r.1 r.2).raise pg 1
    (t, [], [])

/-- R34, R68, R69: the commits stamped before a boundary at offset `b` of the tick, in order of stamp, ties by group ID. -/
def dueCommits (s : State) (b : Nat) : List Due :=
  let groups := s.txn.groups.filterMap fun g => g.commit.map fun c =>
    (⟨c, g.id, g.pages, s.txn.shadow.filter fun e => g.pages.contains (e.1 / 0x1000)⟩ : Due)
  let lone := s.txn.lone.map fun l => (⟨l.stamp, 0, [l.addr / 0x1000], [(l.addr, l.value)]⟩ : Due)
  let key (d : Due) : Nat := d.stamp.off * 256 + d.id
  sortBy key ((lone ++ groups).filter fun d => decide (d.stamp.off < b))

/-- R573: a stamp of tick `c` at or after offset `b` belongs to the tick that begins there, of number `n`. -/
def later (c b n : Nat) (t : Stamp) : Stamp := if t.tick = c ∧ b ≤ t.off then ⟨n, t.off - b⟩ else t

/-- The same of the 12 bytes at offset `o` of a record (R31). -/
def laterBytes (c b n o : Nat) (bs : List Byte) : List Byte :=
  let t : Stamp := ⟨fieldOf bs o 8, fieldOf bs (o + 8) 4⟩
  if t.tick = c ∧ b ≤ t.off ∧ o + 12 ≤ bs.length then putAt bs o (stampBytes (later c b n t)) else bs

/-- R573: transaction groups and lone writes: what is stamped from the boundary on belongs to the new tick; the writes that fall due leave
the queue (R69). -/
def laterTxn (s : State) (c b n : Nat) : State :=
  { s with txn := { s.txn with
    groups := s.txn.groups.map fun (g : TxnGroup) =>
      let o := later c b n ⟨g.opened, g.openedOff⟩
      { g with commit := g.commit.map (later c b n), opened := o.tick, openedOff := o.off }
    lone := (s.txn.lone.filter fun (l : LoneWrite) => decide (b ≤ l.stamp.off)).map fun (l : LoneWrite) => { l with stamp := later c b n l.stamp } } }

/-- R573: the firmware's stamps: START and STOP, and the Frame Ends of requests. -/
def laterPlan (s : State) (c b n : Nat) : State :=
  let start := s.plan.startAt.map fun t => later c b n ⟨t, s.plan.startOff⟩
  let stop := s.plan.stopAt.map fun t => later c b n ⟨t, s.plan.stopOff⟩
  let reqs (l : List Request) : List Request := l.map fun (r : Request) => { r with frameEnd := later c b n r.frameEnd }
  { s with plan := { s.plan with
    startAt := start.map (·.tick), startOff := (start.map (·.off)).getD 0, stopAt := stop.map (·.tick), stopOff := (stop.map (·.off)).getD 0
    waiting := reqs s.plan.waiting, requests := reqs s.plan.requests } }

/-- R573: frames being received and the descriptors of transmit frames. -/
def laterFrames (s : State) (c b n : Nat) : State :=
  { s with frames := { s.frames with
    rx := s.frames.rx.map fun (f : RxFrame) => { f with start := later c b n f.start, ended := f.ended.map (later c b n) }
    tx := s.frames.tx.map fun (e : Nat × TxPort) => (e.1, { e.2 with
      assembling := e.2.assembling.map fun (a : Assembly) => { a with desc := laterBytes c b n 20 a.desc }
      ready := e.2.ready.map fun (f : OutFrame) => { f with desc := laterBytes c b n 20 f.desc } }) } }

/-- R573: messages that this module has stamped. -/
def laterMsgs (s : State) (c b n : Nat) : State :=
  let own := s.rd (pgHport 0) Reg.HPORT.FAB_STAT_RANK
  let msg (m : Msg) : Msg := if m.src = own then { m with stamp := later c b n m.stamp } else m
  let frames (l : List TxFrame) : List TxFrame := l.map fun (f : TxFrame) => { f with msg := msg f.msg }
  { s with fabric := { s.fabric with
    held := s.fabric.held.map msg
    ports := s.fabric.ports.map fun (e : Nat × Port) => (e.1, { e.2 with
      waiting := e.2.waiting.map msg, replayD := frames e.2.replayD, replayC := frames e.2.replayC }) } }

/-- R573: in-band interrupts, captures and error records. -/
def laterRecords (s : State) (c b n : Nat) : State :=
  let ibi (l : List IbiReq) : List IbiReq := l.map fun (r : IbiReq) => { r with stamp := later c b n r.stamp }
  let cap (x : Capture) : Capture := { x with stamp := later c b n x.stamp }
  let passes (w : Well) : Well := { w with passes := w.passes.map fun (p : PassRun) => { p with cap := p.cap.map cap } }
  { s with
    evt := { s.evt with ibi0 := ibi s.evt.ibi0, ibi1 := ibi s.evt.ibi1 }
    integ := { s.integ with captures := s.integ.captures.map cap }
    wells := s.wells.map fun (e : Nat × Well) => (e.1, passes e.2)
    fault := { s.fault with ring := s.fault.ring.map fun (x : Comet) => { x with bytes := laterBytes c b n (cometStamp x.bytes) x.bytes } }
    boot := { s.boot with flash := { s.boot.flash with log := s.boot.flash.log.map fun x => laterBytes c b n (cometStamp x) x } } }

/-- R201, R573: the timestamps of STATS records. -/
def laterStats (s : State) (c b n : Nat) : State :=
  let late := s.pump.stamped.filter fun e => decide (b ≤ e.2)
  let s := s.each late fun s e => s.putBytes e.1 (laterBytes c b n 0 (s.bytesAt e.1 12))
  { s with pump := { s.pump with stamped := late.map fun e => (e.1, e.2 - b) } }

/-- R573: what is stamped at or after a boundary at offset `b` of the current tick belongs to the tick that it begins, of number `n`. -/
def keepLater (s : State) (b n : Nat) : State :=
  let c := s.tick.number
  let t := (s.laterTxn c b n).laterStats c b n
  if s.tick.off ≤ b then t else (((t.laterPlan c b n).laterFrames c b n).laterMsgs c b n).laterRecords c b n

/-- What the commits of a boundary did. -/
structure Applied where
  /-- A commit was pending at the boundary (R79). -/
  pending : Bool := false
  /-- Pages on which a commit applied, and pages that it changed. -/
  pages : List Nat := []
  changed : List Nat := []
  deriving DecidableEq, Repr

/-- R34 action 3: every commit of the tick that has ended. The new tick's number is in force. -/
def applyCommits (s : State) (l : List Due) : State × Applied :=
  l.foldl (fun a d =>
    let r := a.1.applyDue d
    (r.1, { pending := true, pages := a.2.pages ++ r.2.1, changed := a.2.changed ++ r.2.2 })) (s, {})

end State

end Sys2Proof.Machine
end

