-- ==== Sys2Proof/Machine/Boundary.lean ====
section
/-! DEFINITION. The tick boundary (R24 to R40): its actions in the order of R34, the page state machine (R74 to R77), tick sources
(R23 to R28, R573), and the rows that report start sequences and drains. -/

namespace Sys2Proof.Machine

namespace State

/-! ### Page states (R74 to R77) -/

/-- A page's reports of its start sequence and drain are spent. -/
def clearReports (s : State) (pg : Nat) : State :=
  { s with txn := { s.txn with
    startDone := dropAll pg s.txn.startDone, startFail := dropAll pg s.txn.startFail, drainDone := dropAll pg s.txn.drainDone
    blockFault := dropAll pg s.txn.blockFault, started := s.txn.started.filter fun e => e.1 != pg } }

/-- R223: the ring of a queue lies in the memory windows of R197. -/
def ringValid (s : State) (q : Nat) : Bool :=
  let a := s.slotAddr q 0
  let z := s.slotAddr q (s.ringSize q - 1) + 63
  let inMem (x : Nat) : Bool := decide (x < 12 * 2 ^ 36) || (match s.resolve s.mapNow x with
    | .mem _ => true
    | _ => false)
  inMem a && inMem z

/-- R75: the start sequence of a page is complete: reported, or of a kind that completes at the first boundary (R223, R369, R397, R423). -/
def startComplete (s : State) (pg : Nat) : Bool :=
  match pageRange pg with
  | some (.pumpq, b, _) => s.ringValid (pg - b)
  | some (.cal, _, _) => true
  | some (.integ, _, _) => true
  | some (.test, _, _) => true
  | _ => s.txn.startDone.contains pg

/-- R136, R235, R318, R468, R494: time in ns within which a start sequence of a page's kind must complete; none where the spec sets no limit. -/
def startLimit (pg : Nat) : Option Nat :=
  match pageKind pg with
  | some .well => some 50000000
  | some .cistern => some 40000000
  | some .comb => some 3000000000
  | some .hport => some 10000000
  | some .frameIn | some .frameOut => some 1000000
  | _ => none

/-- Nanoseconds since a page entered STARTING. -/
def startAge (s : State) (pg : Nat) : Nat := s.ns - ((s.txn.started.find? fun e => e.1 == pg).map (·.2)).getD s.ns

/-- The limit of a page's start sequence has been reached. -/
def startLate (s : State) (pg : Nat) : Bool := (startLimit pg).any fun l => decide (l ≤ s.startAge pg)

/-- A page enters STARTING: its block begins its start sequence. -/
def enterStarting (s : State) (pg : Nat) : State :=
  let s := ((s.clearReports pg).setSt pg 1).wr pg Reg.HDR.STATE_PENDING_EN 0
  let s := { s with txn := { s.txn with started := s.txn.started ++ [(pg, s.ns)] } }
  match pageRange pg with
  | some (.comb, b, _) => s.combStart (pg - b)
  | _ => s

/-- A page enters ON. -/
def enterOn (s : State) (pg : Nat) : State :=
  let s := (s.clearReports pg).setSt pg 2
  match pageRange pg with
  | some (.cistern, b, _) => s.zeroCistern (pg - b)
  | some (.hport, b, _) => s.trainPort (pg - b)
  | _ => s

/-- R397: a repeat that waits is dropped, with its demand and what was prepared for it. -/
def dropRepeats (s : State) : State :=
  let runs (c : Capture) : Bool := s.cal.standins.any (fun x => x.orig == c.well && x.kind == 4 && x.begun) ||
    s.fault.sessions.any fun x => x.well == c.well && x.kind == 3
  s.each (s.integ.captures.filter fun c => c.state == 1 && !runs c) fun s c => s.dropRepeat c

/-- R423: sessions in progress, the recalibrations of returns, and stand-ins prepared for them are interrupted. -/
def dropSessions (s : State) : State :=
  let s := s.each (s.cal.standins.filter fun x => x.kind == 3 || x.kind == 6) fun s x => s.interrupt x
  let s := s.each (s.fault.sessions.filter fun x => x.kind != 3 && !x.done) fun s x => s.interruptWork x.well
  s.each (s.cal.seqs.filter fun q => q.forReturn && q.result == 0) fun s q => s.interruptWork q.well

/-- A page enters STOPPING: its block begins its drain. -/
def enterStopping (s : State) (pg : Nat) : State :=
  let s := (s.clearReports pg).setSt pg 3
  match pageRange pg with
  | some (.well, b, _) =>
    let s := s.abandonQueued (pg - b)
    if (s.well (pg - b)).passes.isEmpty then s.emptyPlanes (pg - b) else s
  | some (.comb, b, _) =>
    let s := s.combStop (pg - b)
    { s with txn := { s.txn with drainDone := addOnce pg s.txn.drainDone } }
  | some (.cistern, b, _) => s.optDrain (pg - b)
  | some (.frameOut, b, _) => s.cutAssembly (pg - b) (s.tick.number - 1)
  | some (.integ, _, _) => s.dropRepeats
  | some (.test, _, _) => s.dropSessions
  | _ => s

/-- R468, R315: a port's page is no longer in service: its lanes and its link are off and its fibre is dark. -/
def portOff (s : State) (p : Nat) : State :=
  let s := s.linkDown p
  (s.each (List.range 16) fun s k => s.setLane p k 0).shutPort p

/-- A page enters OFF. -/
def enterOff (s : State) (pg : Nat) : State :=
  let s := (s.clearReports pg).setSt pg 0
  match pageRange pg with
  | some (.well, b, _) => s.emptyPlanes (pg - b)
  | some (.comb, b, _) => s.combStop (pg - b)
  | some (.integ, _, _) => s.dropRepeats
  | some (.test, _, _) => s.dropSessions
  | some (.hport, b, _) => s.portOff (pg - b)
  | some (.frameIn, b, _) => { s with frames := { s.frames with rx := s.frames.rx.filter fun f => f.port != pg - b } }
  | _ => s

/-- A start that is abandoned or fails leaves its block off. -/
def startEnds (s : State) (pg : Nat) : State :=
  match pageRange pg with
  | some (.comb, b, _) => s.combStop (pg - b)
  | _ => s

/-- R401: a returned well is enabled by the firmware once its page is OFF. -/
def enableReturned (s : State) (pg : Nat) : State := (s.busWrite 3 (pg * 0x1000 + 8) 1).1

/-- R74, R75: a start that failed, or a block fault that no unit accounts for: the page enters FAULT and its block is off. -/
def enterFault (s : State) (pg : Nat) : State :=
  let s := if s.st pg = 1 then s.startEnds pg else s.enterOff pg
  (((s.clearReports pg).setSt pg 5).wr pg Reg.HDR.CTL_EN 0).wr pg Reg.HDR.STATE_PENDING_EN 0

/-- R401: the return test and the recalibration of a page's well have passed by this boundary. -/
def returnsNow (s : State) (pg : Nat) : Bool :=
  match pageRange pg with
  | some (.well, b, _) => s.cal.seqs.any fun q => q.well == pg - b && q.forReturn && q.result == 1 && s.seqOver q
  | _ => false

/-- R75: the transition of a page at a boundary. DESIGN CHOICE (log entry 49): with EN = 0 a page whose start sequence is complete goes to OFF,
and so does a page whose drain is complete at the boundary at which a commit sets EN = 0 while PENDING_EN is 1. -/
def pageStep (s : State) (pg : Nat) : State :=
  let en := s.flag pg Reg.HDR.CTL_EN
  if (s.st pg == 1 && (s.txn.startFail.contains pg || (s.startLate pg && !s.startComplete pg))) || (1 ≤ s.st pg && s.st pg ≤ 3 && s.txn.blockFault.contains pg) then s.enterFault pg
  else match s.st pg with
  | 0 => if en then s.enterStarting pg else s
  | 1 =>
    if !en then ((s.clearReports pg).setSt pg 0).startEnds pg
    else if s.startComplete pg then s.enterOn pg
    else s
  | 2 => if en then s else s.enterStopping pg
  | 3 =>
    if s.txn.drainDone.contains pg then
      if en then (s.enterOff pg).enterStarting pg else (s.enterOff pg).wr pg Reg.HDR.STATE_PENDING_EN 0
    else s.wr pg Reg.HDR.STATE_PENDING_EN (b2n en)
  | 4 =>
    if s.returnsNow pg then (s.enterOff pg).enableReturned pg else s
  | 5 => if en then s.enterStarting pg else s
  | _ => s

/-- Pages whose state may change: those with an enable or a state away from reset, and those that have reported. -/
def livePages (s : State) : List Nat :=
  let l := (s.regs.filter fun e => e.1 % 0x1000 == 0x008 || e.1 % 0x1000 == 0x00C).map fun e => e.1 / 0x1000
  (l ++ s.txn.startFail ++ s.txn.blockFault).dedup.filter fun pg => match pageKind pg with
    | some k => !k.alwaysOn
    | none => false

/-- R57, R74, R75: fences, then every other page's transition, then the sequence numbers of the pages that a commit or a transition changed. -/
def pageStates (s : State) (changed : List Nat) : State :=
  let t := s.fencePass
  let fenced := s.livePages.filter fun pg => s.st pg != t.st pg
  let t := t.each (t.livePages.filter fun pg => !fenced.contains pg) fun t pg => t.pageStep pg
  let moved := (s.livePages ++ t.livePages).filter fun pg => s.st pg != t.st pg
  t.each (changed ++ moved).dedup fun t pg => t.bumpWrap pg Reg.HDR.SEQ

/-! ### Sources of the tick (R23 to R28, R37, R38) -/

/-- R24, R25: what a switch of the source begins with. -/
def switchSource (s : State) (sel : Nat) : State :=
  let s := ((s.wr pgTICK Reg.TICK.STATUS_LOCKED 0).wr pgTICK Reg.TICK.STATUS_HOLDOVER 0).wr pgTICK Reg.TICK.STATUS_ACTIVE_SRC sel
  let s := { s with tick := { s.tick with src := sel, acquiring := sel == 1, accepted := 0, acqLost := false, planHold := false
                                          epochPeriod := none, leads := false, syncNumber := none } }
  if sel = 2 then (if s.fabEn then s.elect else s)
  else
    let s := s.wr pgTICK Reg.TICK.HOPS_COUNT 0
    if sel = 0 && !s.pins.refclk then s.holdover else s

/-- R27: the period that the grandmaster in force announces, when it is another module. -/
def announcedPeriod (s : State) : Option Nat :=
  (s.neighbours.find? fun e => some e.2.ann.gmId == s.fabric.gm && s.linkState e.1 == 2).map fun e => e.2.ann.gmPeriod

/-- R28: a RUNNING plan keeps its period and holds over; otherwise the fabric's period is adopted. -/
def adoptPeriod (s : State) (us : Nat) : State :=
  if s.planRunning && us != Ph.tickUs s.plan.header then ({ s with tick := { s.tick with planHold := true } }).holdover
  else { s with tick := { s.tick with periodUs := us, planHold := false, epochPeriod := none } }

/-- R27: this module has become its own grandmaster: its own committed period takes effect, but never another one under a RUNNING plan
(R28), for which it waits (log entry 43). -/
def ownPeriod (s : State) : State :=
  let us := s.rd pgTICK Reg.TICK.PERIOD_US
  if s.planRunning && us != Ph.tickUs s.plan.header then s
  else { s with tick := { s.tick with periodUs := us, leads := true, epochPeriod := none } }

/-- R28: the fabric's period announced for an epoch boundary takes effect at it; the flag says that one is due or waits. -/
def epochPeriodStep (s : State) : State × Bool :=
  match s.tick.epochPeriod with
  | some e => (if e.1 ≤ s.tick.number then s.adoptPeriod e.2 else s, true)
  | none => (s, false)

/-- R28: at the first boundary at which the plan that held its period is no longer RUNNING, the hold ends. -/
def endPlanHold (s : State) : State :=
  if s.tick.planHold && !s.planStays then { s with tick := { s.tick with planHold := false } } else s

/-- R27, R28: the period with the fabric as source, by the grandmaster that the commits in force leave. -/
def fabricPeriod (s : State) : State :=
  let s := s.endPlanHold.standing
  match s.fabric.gm with
  | none => s.holdover
  | some g =>
    if s.tick.planHold then s.holdover
    else if g = s.ownId then
      let s := if s.tick.leads then s.epochPeriodStep.1 else s.ownPeriod
      if s.tick.planHold then s else s.syncLock 0
    else
      let r := ({ s with tick := { s.tick with leads := false } }).epochPeriodStep
      if r.2 then r.1
      else match s.announcedPeriod with
        | some us => r.1.adoptPeriod us
        | none => r.1

/-- R38: with a change of period at an epoch boundary the grandmaster's phase goes on from the boundary nearest to this one. -/
def rebasePhase (s : State) (old : Nat) : State :=
  { s with tick := { s.tick with gmPhase := s.tick.gmPhase.map fun g => s.tick.elapsed + nearest (g - s.tick.elapsed) (old * 1000) } }

/-- What a boundary did to the time base: whether a transition tick begins (R25), and whether for a new source. -/
structure PhaseMove where
  transition : Bool
  fresh : Bool
  deriving DecidableEq, Repr

/-- R25, R34 action 4: a committed change of period or source takes effect. -/
def sourceStep (s : State) : State × PhaseMove :=
  let sel := s.rd pgTICK Reg.TICK.SRC_SEL
  let fresh := s.tick.src != sel
  let t := if fresh then s.switchSource sel else s
  let t := if sel = 2 then t.fabricPeriod else { t with tick := { t.tick with periodUs := t.rd pgTICK Reg.TICK.PERIOD_US } }
  let moved := fresh || t.tick.periodUs != s.tick.periodUs
  let t := if moved && !fresh then t.rebasePhase s.tick.periodUs else t
  let t := t.wr pgTICK Reg.TICK.STATUS_TRANSITION (b2n moved)
  (if moved then t.raise pgTICK 7 else t, ⟨moved, fresh⟩)

/-- The module follows another grandmaster, whose phase it knows and corrects toward (R38). -/
def followedPhase (s : State) : Option Int :=
  let t := s.tick
  if t.src == 2 && !t.planHold && s.fabric.gm.isSome && s.fabric.gm != some s.ownId && !s.flag pgTICK Reg.TICK.STATUS_HOLDOVER then t.gmPhase
  else none

/-- R25, R38: the length of the tick that begins: the period; lengthened or shortened by an offset of up to 10 ns; stretched to the first
boundary of the grandmaster that lies at least one period away for a larger offset and for a switch to the fabric. -/
def tickLength (s : State) (m : PhaseMove) : State :=
  let t := s.tick
  let base : Int := t.periodUs * 1000
  let off : Int := match s.followedPhase with
    | some g => if m.transition && !m.fresh then 0 else g - t.elapsed
    | none => 0
  let near := nearest off base
  let small := !m.fresh && decide (near.natAbs ≤ 10)
  let corr : Int := if small then near else 0
  let stretch : Nat := if small then 0 else (off % base).toNat
  { s with tick := { t with len := (base + corr).toNat + stretch, corr := corr, stretch := stretch } }

/-! ### The boundary (R34) -/

/-- R34, actions 1 and 2: the tick closes, and what is not complete is an overrun. -/
def closeTick (s : State) : State :=
  let s := ({ s with tick := { s.tick with overruns := [] } }).genClose
  if s.therm.shutdown then s
  else
    let s := s.retryAhead.scrubBoundary.expireQueues
    let s := (s.each s.usedWells fun s w => s.overrunWell w).collClose
    (s.each (s.frames.tx.map (·.1)) fun s q => s.cutAssembly q s.tick.number).planClose

/-- R30, R32, R33: the new tick's number and the times that go on from the boundary, `b` ns after the last one. -/
def newTick (s : State) (b : Nat) : State :=
  let t := s.tick
  let n := s.nextTickNo
  let valid := s.flag pgTICK Reg.TICK.HOST_TIME_VALID_SET
  let s := ((s.keepLater b n).wr pgTICK Reg.TICK.LAST_LENGTH_NS b).freshUnits
  { s with tick := { t with
    number := n, off := t.off - b, syncNumber := none, elapsed := t.elapsed + b, hostTime := if valid then t.hostTime + b else t.hostTime } }

/-- R428, R430, R431: the ports' boundary: lanes newly allowed train, those no longer allowed leave, and stripe sets change. -/
def portsBoundary (s : State) : State :=
  s.each ((List.range 32).filter fun p => s.runs (pgHport p)) fun s p =>
    let allowed := s.allowedLanes p
    let s := s.each (List.range 16) fun s k =>
      if s.laneSt p k == 0 && allowed.contains k && s.isOn (pgHport p) then s.setLane p k 1
      else if (s.laneSt p k == 1 || s.laneSt p k == 3) && !allowed.contains k then s.setLane p k 0
      else s
    (s.portBoundary p).stripeChange p

/-- R273: a START accepted at this boundary: the firmware commits the plan's period when it differs. -/
def startPlan (s : State) : State :=
  let r := s.startCheck
  if r.2 then (r.1.busWrite 3 0x1040 (BitVec.ofNat 32 (Ph.tickUs r.1.plan.header))).1 else r.1

/-- R34 action 5: everything that begins with the new tick. -/
def beginTick (s : State) : State :=
  let s := s.lightBoundary.optoffReturn.calBoundary.reliefBoundary
  let s := s.startPlan.planStep
  let s := s.portsBoundary.memberBoundary.thermBoundary
  s.frameSend.freeRawSlots.takeEarly.startQueues

/-- R198: a map that ends with tick `old` is kept for the accesses of its ticks. -/
def keepMap (s : State) (old : Nat) (map : List Nat) : State :=
  if s.cal.map = map then s else { s with cal := { s.cal with past := (old, map) :: s.cal.past.take 15 } }

/-- R34: the boundary at offset `b` of the current tick, recognised now. -/
def boundaryAt (s : State) (b : Nat) : State :=
  let old := s.tick.number
  let map := s.cal.map
  let s := s.closeTick
  let due := s.dueCommits b
  let s := (s.newTick b).expireGroups
  let s := if s.therm.shutdown then s else s.qfitBoundary old
  let r := s.applyCommits due
  let s := r.1.endClear r.2.pending (!r.2.pages.isEmpty)
  let m := s.sourceStep
  let s := m.1.tickLength m.2
  let s := if s.therm.shutdown then s else s.collBoundary
  let s := s.pageStates r.2.changed
  let s := if s.therm.shutdown then s else s.epochBoundary.beginTick
  (s.refclkBoundary.releaseFault).keepMap old map

/-- R563: TICK_OUT rises `off` ns into the new tick. -/
def riseTickOut (s : State) (off : Nat) : State := { s with tick := { s.tick with tickOut := ⟨s.tick.number, off⟩ } }

/-- TICK_BOUNDARY (R34): the internal counter reaches the end of the tick; with TICK_IN in force the rows of R24 place boundaries. -/
def tickBoundary (s : State) : State :=
  if s.tick.src = 1 ∨ s.tick.off < s.tick.len then s else (s.boundaryAt s.tick.len).riseTickOut 0

/-- R24: an edge is accepted: the boundary lies at the edge, `e` ns into the tick. -/
def acceptEdge (s : State) (e : Nat) : State :=
  let n := s.tick.accepted + 1
  let s := ({ s with tick := { s.tick with acquiring := false, accepted := n, acqLost := false } }).wr pgTICK Reg.TICK.STATUS_HOLDOVER 0
  let s := s.boundaryAt e
  let s := s.riseTickOut s.tick.off
  if s.tick.src ≠ 1 then s
  else
    let s := s.wr pgTICK Reg.TICK.STATUS_ACTIVE_SRC 1
    if n = 3 then (s.wr pgTICK Reg.TICK.STATUS_LOCKED 1).raise pgTICK 6 else s

/-- R573: delay with which an edge of TICK_IN is recognised, in ns. -/
def edgeDelay (s : State) : Nat := s.rd pgEVT Reg.EVT.FILT_TICK_N * 10 + 20

/-- TICK_IN_EDGE (R24, R98, R573): a filtered edge is recognised now. DESIGN CHOICE (log entry 44): an edge exactly at twice the period less
10 ns into an acquiring tick, at which that tick also ends on the internal counter, is not accepted. -/
def tickInEdge (s : State) (rising : Bool) : State :=
  let s := ({ s with pins := { s.pins with tickIn := rising } }).pinEdge Reg.EVT.FILT_TICK_SENSE 6 rising
  let p := s.tick.len
  let e := s.tick.off - s.edgeDelay
  if !rising || s.tick.src != 1 || decide (s.tick.off < s.edgeDelay) then s
  else
    let lo := if s.tick.acquiring then p else p - 1000
    let hi := if s.tick.acquiring then 2 * p - 11 else p + 1000
    if decide (lo ≤ e) && decide (e ≤ hi) then s.acceptEdge e else s

/-- TICK_IN_MISSING (R24): the boundary is placed on the internal counter, in holdover. -/
def tickInMissing (s : State) : State :=
  if s.tick.src ≠ 1 ∨ s.tick.acquiring = true ∨ s.tick.off < s.tick.len then s
  else
    let s := (s.boundaryAt s.tick.len).riseTickOut 0
    if s.tick.src = 1 ∧ s.tick.acquiring = false then ({ s with tick := { s.tick with accepted := 0 } }).holdover else s

/-- ACQUIRE_TIMEOUT (R24): no edge by twice the period less 10 ns: the tick ends on the internal counter, and the module keeps acquiring. -/
def acquireTimeout (s : State) : State :=
  let b := 2 * s.tick.len - 10
  if s.tick.src ≠ 1 ∨ s.tick.acquiring = false ∨ s.tick.off < b then s
  else
    let s := (s.boundaryAt b).riseTickOut 0
    if s.tick.src = 1 ∧ s.tick.acquiring = true ∧ s.tick.acqLost = false then ({ s with tick := { s.tick with acqLost := true } }).holdover else s

/-! ### Start sequences and drains -/

/-- R136, R235, R318, R468, R494: what a page in STARTING needs besides the report. -/
def mayStart (s : State) (pg : Nat) : Bool :=
  match pageRange pg with
  | some (.well, b, _) =>
    let x := s.well (pg - b)
    !(sparseGet (fun _ => []) s.conv.heat (pg - b)).isEmpty && s.flag pg Reg.WELL.LO_STAT_LO_LOCKED && x.rxp.length == 130 && x.rxp.all (fun p => decide (-1200 ≤ p)) &&
      x.planeA.st == .empty && x.planeB.st == .empty
  | some (.comb, b, _) => s.combStarted (pg - b)
  | some (.hport, b, _) => let src := s.light.feed.getD ((pg - b) / 8) 7; decide (src < 6) && (s.source src).cs == 3
  | some (k, _, _) => !k.alwaysOn
  | none => false

/-- START_SEQUENCE_DONE (R75), within the limit of the page's kind: counted at the next boundary. -/
def startSequenceDone (s : State) (pg : Nat) : State :=
  if s.st pg == 1 && s.mayStart pg && (startLimit pg).all fun l => decide (s.startAge pg ≤ l) then
    { s with txn := { s.txn with startDone := addOnce pg s.txn.startDone } }
  else s

/-- START_SEQUENCE_FAIL (R75): a start that is not complete within its limit has failed. Before the limit, and on a page that is ON or STOPPING, it
reports a fault of its block that no unit accounts for (R75, R398; log entry 50); a well's faults are its own, which fences answer. -/
def startSequenceFail (s : State) (pg : Nat) : State :=
  if s.st pg = 1 && s.startLate pg then { s with txn := { s.txn with startFail := addOnce pg s.txn.startFail } }
  else if decide (1 ≤ s.st pg) && decide (s.st pg ≤ 3) && (pageKind pg).any fun k => !k.alwaysOn && k != .well then
    { s with txn := { s.txn with blockFault := addOnce pg s.txn.blockFault } }
  else s

/-- R136, R236, R369, R397, R423, R468, R494: nothing of the block is left to drain. -/
def drained (s : State) (pg : Nat) : Bool :=
  match pageRange pg with
  | some (.well, b, _) => (s.well (pg - b)).passes.isEmpty
  | some (.cistern, b, _) =>
    (s.optOf (pg - b)).isEmpty &&
      !s.cist.builds.any fun a => cisternOf (s.rd (pgCistern 0) Reg.CISTERN.MAP_LINEAR_GIB) (a / 2 ^ 36) (a % 2 ^ 36) == pg - b
  | some (.cal, _, _) => s.cal.seqs.isEmpty && !s.cal.standins.any fun x => x.kind == 2 || x.kind == 5
  | some (.integ, _, _) => !s.cal.standins.any (fun x => x.kind == 4) && !s.fault.sessions.any fun x => x.kind == 3
  | some (.test, _, _) => !s.cal.standins.any (fun x => x.kind == 3 || x.kind == 6) && !(s.fault.sessions.any fun x => x.kind != 3) &&
    !s.cal.seqs.any fun q => q.forReturn
  | some (.frameIn, b, _) => !s.frames.rx.any fun f => f.port == pg - b && (f.ended.isNone || s.slotInFlight f)
  | some (.frameOut, b, _) => let t := s.txPort (pg - b); t.assembling.isEmpty && t.ready.isEmpty && t.sending.isNone
  | some (.hport, b, _) => let x := s.port (pg - b); x.waiting.isEmpty && x.replayD.isEmpty && x.replayC.isEmpty
  | some (.pumpq, b, _) => s.txn.drainDone.contains pg || ((s.queue (pg - b)).inflight.isEmpty && (s.exec? (pg - b)).isNone && s.head (pg - b) == s.tail (pg - b))
  | some _ => true
  | none => false

/-- R136: a well that has drained sets both planes to EMPTY. -/
def drainEnds (s : State) (pg : Nat) : State :=
  match pageRange pg with
  | some (.well, b, _) => s.emptyPlanes (pg - b)
  | _ => s

/-- DRAIN_DONE (R75): counted at the next boundary. -/
def drainDoneRow (s : State) (pg : Nat) : State :=
  if s.st pg == 3 && s.drained pg then
    let s := s.drainEnds pg
    { s with txn := { s.txn with drainDone := addOnce pg s.txn.drainDone } }
  else s

end State

/-- TICK_BOUNDARY (R34). -/
def execTickBoundary (at_ : Nat) (s : State) : Host.Outcome State Fault Refusal := live s at_ fun s => s.tickBoundary

/-- TICK_IN_EDGE (R24): the filtered edge, rising or falling; `at_` is its recognition (R573). -/
def execTickInEdge (at_ : Nat) (rising : Bool) (s : State) : Host.Outcome State Fault Refusal := pinLive s at_ (fun p => { p with tickIn := rising }) fun s => s.tickInEdge rising

/-- TICK_IN_MISSING (R24). -/
def execTickInMissing (at_ : Nat) (s : State) : Host.Outcome State Fault Refusal := live s at_ fun s => s.tickInMissing

/-- ACQUIRE_TIMEOUT (R24). -/
def execAcquireTimeout (at_ : Nat) (s : State) : Host.Outcome State Fault Refusal := live s at_ fun s => s.acquireTimeout

/-- START_SEQUENCE_DONE (R75) of a page. -/
def execStartSequenceDone (at_ pg : Nat) (s : State) : Host.Outcome State Fault Refusal := liveCore s at_ fun s => s.startSequenceDone pg

/-- START_SEQUENCE_FAIL (R75) of a page. -/
def execStartSequenceFail (at_ pg : Nat) (s : State) : Host.Outcome State Fault Refusal := liveCore s at_ fun s => s.startSequenceFail pg

/-- DRAIN_DONE (R75) of a page. -/
def execDrainDone (at_ pg : Nat) (s : State) : Host.Outcome State Fault Refusal := liveCore s at_ fun s => s.drainDoneRow pg

end Sys2Proof.Machine
end

