-- ==== Sys2Proof/Machine/Dispatch.lean ====
section
/-! DEFINITION. Dispatch: one arm per command, each one call of its meaning. -/

namespace Sys2Proof.Machine

/-- A command's effect on everything but the queue. -/
def exec (i : Instr) (s : State) : Host.Outcome State Fault Refusal :=
  match i with
  | .tickBoundary at_ => Sys2Proof.Machine.execTickBoundary at_ s
  | .tickInEdge at_ rising => Sys2Proof.Machine.execTickInEdge at_ rising s
  | .tickInMissing at_ => Sys2Proof.Machine.execTickInMissing at_ s
  | .acquireTimeout at_ => Sys2Proof.Machine.execAcquireTimeout at_ s
  | .txnBegin at_ path pg group => Sys2Proof.Machine.execTxnBegin at_ path pg group s
  | .txnCommit at_ path pg group => Sys2Proof.Machine.execTxnCommit at_ path pg group s
  | .txnAbort at_ path pg group => Sys2Proof.Machine.execTxnAbort at_ path pg group s
  | .txnTimeout at_ group => Sys2Proof.Machine.execTxnTimeout at_ group s
  | .lockWrite at_ path pg value => Sys2Proof.Machine.execLockWrite at_ path pg value s
  | .registerWrite at_ path addr value => Sys2Proof.Machine.execRegisterWrite at_ path addr value s
  | .sysClear at_ path => Sys2Proof.Machine.execSysClear at_ path s
  | .release at_ path => Sys2Proof.Machine.execRelease at_ path s
  | .softReset at_ path wkey => Sys2Proof.Machine.execSoftReset at_ path wkey s
  | .claim at_ ctl => Sys2Proof.Machine.execClaim at_ ctl s
  | .hclaim at_ port ctl => Sys2Proof.Machine.execHclaim at_ port ctl s
  | .complete at_ path ctl id => Sys2Proof.Machine.execComplete at_ path ctl id s
  | .hcomplete at_ path ctl id => Sys2Proof.Machine.execHcomplete at_ path ctl id s
  | .swset at_ path ctl id => Sys2Proof.Machine.execSwset at_ path ctl id s
  | .ibiSend at_ port accepted => Sys2Proof.Machine.execIbiSend at_ port accepted s
  | .clrNAssert at_ => Sys2Proof.Machine.execClrNAssert at_ s
  | .clrNDeassert at_ => Sys2Proof.Machine.execClrNDeassert at_ s
  | .optoffAssert at_ => Sys2Proof.Machine.execOptoffAssert at_ s
  | .optoffRelease at_ => Sys2Proof.Machine.execOptoffRelease at_ s
  | .planeLoad at_ w => Sys2Proof.Machine.execPlaneLoad at_ w s
  | .planeReady at_ w => Sys2Proof.Machine.execPlaneReady at_ w s
  | .swapStrobe at_ w => Sys2Proof.Machine.execSwapStrobe at_ w s
  | .groupStrobe at_ g => Sys2Proof.Machine.execGroupStrobe at_ g s
  | .refresh at_ w ends => Sys2Proof.Machine.execRefresh at_ w ends s
  | .loUnlock at_ w row err => Sys2Proof.Machine.execLoUnlock at_ w row err s
  | .loRelock at_ w row err => Sys2Proof.Machine.execLoRelock at_ w row err s
  | .pilotWindowEnd at_ w => Sys2Proof.Machine.execPilotWindowEnd at_ w s
  | .passSetup at_ w => Sys2Proof.Machine.execPassSetup at_ w s
  | .passRun at_ w errs fault => Sys2Proof.Machine.execPassRun at_ w errs fault s
  | .passEpilogue at_ w fault => Sys2Proof.Machine.execPassEpilogue at_ w fault s
  | .passDone at_ w => Sys2Proof.Machine.execPassDone at_ w s
  | .qfitWindow at_ w => Sys2Proof.Machine.execQfitWindow at_ w s
  | .cntClr at_ path w => Sys2Proof.Machine.execCntClr at_ path w s
  | .tensorMaxabsWrite at_ path w value => Sys2Proof.Machine.execTensorMaxabsWrite at_ path w value s
  | .headDoorbell at_ path q head => Sys2Proof.Machine.execHeadDoorbell at_ path q head s
  | .descIssue at_ q => Sys2Proof.Machine.execDescIssue at_ q s
  | .transferIssue at_ p => Sys2Proof.Machine.execTransferIssue at_ p s
  | .transferComplete at_ q => Sys2Proof.Machine.execTransferComplete at_ q s
  | .copy at_ q => Sys2Proof.Machine.execCopy at_ q s
  | .tile at_ q => Sys2Proof.Machine.execTile at_ q s
  | .multicast at_ q => Sys2Proof.Machine.execMulticast at_ q s
  | .scales at_ q => Sys2Proof.Machine.execScales at_ q s
  | .gather at_ q => Sys2Proof.Machine.execGather at_ q s
  | .scatter at_ q => Sys2Proof.Machine.execScatter at_ q s
  | .stats at_ q => Sys2Proof.Machine.execStats at_ q s
  | .reduce at_ q => Sys2Proof.Machine.execReduce at_ q s
  | .queueHalted at_ q => Sys2Proof.Machine.execQueueHalted at_ q s
  | .rearm at_ path q slot gen => Sys2Proof.Machine.execRearm at_ path q slot gen s
  | .barCfgWrite at_ path die index target => Sys2Proof.Machine.execBarCfgWrite at_ path die index target s
  | .startSequenceDone at_ pg => Sys2Proof.Machine.execStartSequenceDone at_ pg s
  | .startSequenceFail at_ pg => Sys2Proof.Machine.execStartSequenceFail at_ pg s
  | .drainDone at_ pg => Sys2Proof.Machine.execDrainDone at_ pg s
  | .cisternAccess at_ req ecc damaged data tid blk gen fmt withheld delayed crcOk => Sys2Proof.Machine.execCisternAccess at_ req ecc damaged data tid blk gen fmt withheld delayed crcOk s
  | .patrolScrub at_ cis finds => Sys2Proof.Machine.execPatrolScrub at_ cis finds s
  | .sgdMomentum at_ cis => Sys2Proof.Machine.execSgdMomentum at_ cis s
  | .adamw at_ cis => Sys2Proof.Machine.execAdamw at_ cis s
  | .optDone at_ cis => Sys2Proof.Machine.execOptDone at_ cis s
  | .rowsumBuild at_ addr => Sys2Proof.Machine.execRowsumBuild at_ addr s
  | .rowsumDone at_ addr => Sys2Proof.Machine.execRowsumDone at_ addr s
  | .svcLoad at_ path => Sys2Proof.Machine.execSvcLoad at_ path s
  | .planLoaded at_ => Sys2Proof.Machine.execPlanLoaded at_ s
  | .svcStart at_ path => Sys2Proof.Machine.execSvcStart at_ path s
  | .planRunStart at_ => Sys2Proof.Machine.execPlanRunStart at_ s
  | .svcStop at_ path => Sys2Proof.Machine.execSvcStop at_ path s
  | .planStopDone at_ => Sys2Proof.Machine.execPlanStopDone at_ s
  | .svcUnload at_ path => Sys2Proof.Machine.execSvcUnload at_ path s
  | .moonPassWrite at_ n => Sys2Proof.Machine.execMoonPassWrite at_ n s
  | .seqSlotTimeout at_ prog slot => Sys2Proof.Machine.execSeqSlotTimeout at_ prog slot s
  | .lightSample at_ taps rx => Sys2Proof.Machine.execLightSample at_ taps rx s
  | .cmdPrewarm at_ path src => Sys2Proof.Machine.execCmdPrewarm at_ path src s
  | .cmdHandover at_ path src => Sys2Proof.Machine.execCmdHandover at_ path src s
  | .spareReady at_ src => Sys2Proof.Machine.execSpareReady at_ src s
  | .warmingTimeout at_ src => Sys2Proof.Machine.execWarmingTimeout at_ src s
  | .darkFence at_ w => Sys2Proof.Machine.execDarkFence at_ w s
  | .aprClose at_ p => Sys2Proof.Machine.execAprClose at_ p s
  | .aprProbe at_ p ends => Sys2Proof.Machine.execAprProbe at_ p ends s
  | .aprOpen at_ p => Sys2Proof.Machine.execAprOpen at_ p s
  | .monitorRead at_ bank inst channel value m => Sys2Proof.Machine.execMonitorRead at_ bank inst channel value m s
  | .trimDataWrite at_ path c value => Sys2Proof.Machine.execTrimDataWrite at_ path c value s
  | .refcheck at_ path fault iref hspan mon => Sys2Proof.Machine.execRefcheck at_ path fault iref hspan mon s
  | .wellNow at_ path => Sys2Proof.Machine.execWellNow at_ path s
  | .laneNow at_ path => Sys2Proof.Machine.execLaneNow at_ path s
  | .combNow at_ path => Sys2Proof.Machine.execCombNow at_ path s
  | .calEligible at_ w => Sys2Proof.Machine.execCalEligible at_ w s
  | .calOverdue at_ w => Sys2Proof.Machine.execCalOverdue at_ w s
  | .poolCopyDone at_ orig => Sys2Proof.Machine.execPoolCopyDone at_ orig s
  | .calMeasurePass at_ w pass => Sys2Proof.Machine.execCalMeasurePass at_ w pass s
  | .laneRecal at_ port => Sys2Proof.Machine.execLaneRecal at_ port s
  | .laneCalResult at_ port lane values marginOld marginNew => Sys2Proof.Machine.execLaneCalResult at_ port lane values marginOld marginNew s
  | .combRecal at_ src lines => Sys2Proof.Machine.execCombRecal at_ src lines s
  | .repeatRun at_ w errs residue => Sys2Proof.Machine.execRepeat at_ w errs residue s
  | .ftEligible at_ w => Sys2Proof.Machine.execFtEligible at_ w s
  | .fieldTestSession at_ w run => Sys2Proof.Machine.execFieldTestSession at_ w run s
  | .testNow at_ path => Sys2Proof.Machine.execTestNow at_ path s
  | .returnNow at_ path => Sys2Proof.Machine.execReturnNow at_ path s
  | .fleetLoad at_ path => Sys2Proof.Machine.execFleetLoad at_ path s
  | .fleetActive at_ => Sys2Proof.Machine.execFleetActive at_ s
  | .recPop at_ path => Sys2Proof.Machine.execRecPop at_ path s
  | .watchdogMiss at_ core => Sys2Proof.Machine.execWatchdogMiss at_ core s
  | .lockstepMismatch at_ die => Sys2Proof.Machine.execLockstepMismatch at_ die s
  | .monitorMismatch at_ => Sys2Proof.Machine.execMonitorMismatch at_ s
  | .serviceWatchdogReset at_ => Sys2Proof.Machine.execServiceWatchdogReset at_ s
  | .laneTrained at_ p k => Sys2Proof.Machine.execLaneTrained at_ p k s
  | .laneLockLoss at_ p k => Sys2Proof.Machine.execLaneLockLoss at_ p k s
  | .linkFrame at_ p h fec => Sys2Proof.Machine.execLinkFrame at_ p h fec s
  | .replayTimeout at_ p space => Sys2Proof.Machine.execReplayTimeout at_ p space s
  | .holadeWrite at_ p h m => Sys2Proof.Machine.execHoladeWrite at_ p h m s
  | .readReq at_ p h m => Sys2Proof.Machine.execReadReq at_ p h m s
  | .readResp at_ p h m => Sys2Proof.Machine.execReadResp at_ p h m s
  | .reduceAdd at_ p h m => Sys2Proof.Machine.execReduceAdd at_ p h m s
  | .result at_ p h m => Sys2Proof.Machine.execResult at_ p h m s
  | .digestContribution at_ p h m => Sys2Proof.Machine.execDigestContribution at_ p h m s
  | .digestResult at_ p h m => Sys2Proof.Machine.execDigestResult at_ p h m s
  | .bcast at_ p h m => Sys2Proof.Machine.execBcast at_ p h m s
  | .tickSyncAnnounce at_ p h m arrival => Sys2Proof.Machine.execTickSyncAnnounce at_ p h m arrival s
  | .delayMeasure at_ p => Sys2Proof.Machine.execDelayMeasure at_ p s
  | .delayReq at_ p h m residence => Sys2Proof.Machine.execDelayReq at_ p h m residence s
  | .delayResp at_ p h m => Sys2Proof.Machine.execDelayResp at_ p h m s
  | .tickSyncLoss at_ => Sys2Proof.Machine.execTickSyncLoss at_ s
  | .memberAnnounce at_ p h m a => Sys2Proof.Machine.execMemberAnnounce at_ p h m a s
  | .memberJoin at_ p h m => Sys2Proof.Machine.execMemberJoin at_ p h m s
  | .memberTable at_ p h m => Sys2Proof.Machine.execMemberTable at_ p h m s
  | .memberLeave at_ p h m => Sys2Proof.Machine.execMemberLeave at_ p h m s
  | .memberEpoch at_ p h m number tick period joins leaves => Sys2Proof.Machine.execMemberEpoch at_ p h m number tick period joins leaves s
  | .memberTimeout at_ p => Sys2Proof.Machine.execMemberTimeout at_ p s
  | .gmTimeout at_ => Sys2Proof.Machine.execGmTimeout at_ s
  | .stopRx at_ p h m => Sys2Proof.Machine.execStopRx at_ p h m s
  | .resumeRx at_ p h m => Sys2Proof.Machine.execResumeRx at_ p h m s
  | .fenceRx at_ p h m => Sys2Proof.Machine.execFenceRx at_ p h m s
  | .ctrlSendStop at_ path mask rank => Sys2Proof.Machine.execCtrlSendStop at_ path mask rank s
  | .ctrlSendFence at_ path mask rank => Sys2Proof.Machine.execCtrlSendFence at_ path mask rank s
  | .ctrlSendResume at_ path mask rank => Sys2Proof.Machine.execCtrlSendResume at_ path mask rank s
  | .groupReload at_ path => Sys2Proof.Machine.execGroupReload at_ path s
  | .fabLeave at_ path => Sys2Proof.Machine.execFabLeave at_ path s
  | .hportDrainTimeout at_ p => Sys2Proof.Machine.execHportDrainTimeout at_ p s
  | .frameStart at_ p v num c => Sys2Proof.Machine.execFrameStart at_ p v num c s
  | .requestDescriptor at_ p v bytes c => Sys2Proof.Machine.execRequestDescriptor at_ p v bytes c s
  | .tensorHeader at_ p v bytes c => Sys2Proof.Machine.execTensorHeader at_ p v bytes c s
  | .payloadPacket at_ p v bytes c => Sys2Proof.Machine.execPayloadPacket at_ p v bytes c s
  | .rawLine at_ p v dt bytes c => Sys2Proof.Machine.execRawLine at_ p v dt bytes c s
  | .loadHeader at_ p v bytes c => Sys2Proof.Machine.execLoadHeader at_ p v bytes c s
  | .frameEnd at_ p v num c => Sys2Proof.Machine.execFrameEnd at_ p v num c s
  | .frameTimeout at_ p v => Sys2Proof.Machine.execFrameTimeout at_ p v s
  | .slotRelease at_ path p v slot => Sys2Proof.Machine.execSlotRelease at_ path p v slot s
  | .phyUnlock at_ p => Sys2Proof.Machine.execPhyUnlock at_ p s
  | .preambleWrite at_ q v bytes => Sys2Proof.Machine.execPreambleWrite at_ q v bytes s
  | .i3cWrite at_ port hdr code payload early bad => Sys2Proof.Machine.execI3cWrite at_ port hdr code payload early bad s
  | .i3cRead at_ port hdr payload bad => Sys2Proof.Machine.execI3cRead at_ port hdr payload bad s
  | .responseRead at_ port hdr code => Sys2Proof.Machine.execResponseRead at_ port hdr code s
  | .enec at_ port direct events => Sys2Proof.Machine.execEnec at_ port direct events s
  | .disec at_ port direct events => Sys2Proof.Machine.execDisec at_ port direct events s
  | .rstdaa at_ port => Sys2Proof.Machine.execRstdaa at_ port s
  | .entdaa at_ port da won => Sys2Proof.Machine.execEntdaa at_ port da won s
  | .setmwl at_ port direct len => Sys2Proof.Machine.execSetmwl at_ port direct len s
  | .getmwl at_ port => Sys2Proof.Machine.execGetmwl at_ port s
  | .setmrl at_ port direct len ibi => Sys2Proof.Machine.execSetmrl at_ port direct len ibi s
  | .getmrl at_ port => Sys2Proof.Machine.execGetmrl at_ port s
  | .enthdr0 at_ port => Sys2Proof.Machine.execEnthdr0 at_ port s
  | .hdrExit at_ port => Sys2Proof.Machine.execHdrExit at_ port s
  | .setaasa at_ port => Sys2Proof.Machine.execSetaasa at_ port s
  | .rstact at_ port direct get action => Sys2Proof.Machine.execRstact at_ port direct get action s
  | .targetReset at_ port => Sys2Proof.Machine.execTargetReset at_ port s
  | .setdasa at_ port da => Sys2Proof.Machine.execSetdasa at_ port da s
  | .setnewda at_ port da => Sys2Proof.Machine.execSetnewda at_ port da s
  | .getpid at_ port => Sys2Proof.Machine.execGetpid at_ port s
  | .getbcr at_ port => Sys2Proof.Machine.execGetbcr at_ port s
  | .getdcr at_ port => Sys2Proof.Machine.execGetdcr at_ port s
  | .getstatus at_ port => Sys2Proof.Machine.execGetstatus at_ port s
  | .getmxds at_ port => Sys2Proof.Machine.execGetmxds at_ port s
  | .getcaps at_ port => Sys2Proof.Machine.execGetcaps at_ port s
  | .hotJoin at_ port => Sys2Proof.Machine.execHotJoin at_ port s
  | .hmemAddrLoWrite at_ port value => Sys2Proof.Machine.execHmemAddrLoWrite at_ port value s
  | .hmemDataWrite at_ port index value => Sys2Proof.Machine.execHmemDataWrite at_ port index value s
  | .hmemDataRead at_ port index => Sys2Proof.Machine.execHmemDataRead at_ port index s
  | .sensorSample at_ readings => Sys2Proof.Machine.execSensorSample at_ readings s
  | .sensorRestored at_ sensor => Sys2Proof.Machine.execSensorRestored at_ sensor s
  | .throttleRise at_ group => Sys2Proof.Machine.execThrottleRise at_ group s
  | .throttleRelax at_ group => Sys2Proof.Machine.execThrottleRelax at_ group s
  | .fastRateEnd at_ group => Sys2Proof.Machine.execFastRateEnd at_ group s
  | .thermalReset at_ => Sys2Proof.Machine.execThermalReset at_ s
  | .railSample at_ rails combs => Sys2Proof.Machine.execRailSample at_ rails combs s
  | .powerOn at_ => Sys2Proof.Machine.execPowerOn at_ s
  | .pwrgdFall at_ => Sys2Proof.Machine.execPwrgdFall at_ s
  | .brownOut at_ => Sys2Proof.Machine.execBrownOut at_ s
  | .resetNAssert at_ => Sys2Proof.Machine.execResetNAssert at_ s
  | .resetRelease at_ straps puf slotA slotB calA calB badRows badSource refFault iref hspan mon => Sys2Proof.Machine.execResetRelease at_ straps puf slotA slotB calA calB badRows badSource refFault iref hspan mon s
  | .bootDone at_ => Sys2Proof.Machine.execBootDone at_ s
  | .bootLate at_ => Sys2Proof.Machine.execBootLate at_ s
  | .bootUpdate at_ path => Sys2Proof.Machine.execBootUpdate at_ path s
  | .updateDone at_ ok => Sys2Proof.Machine.execUpdateDone at_ ok s
  | .recoveryUpdate at_ path => Sys2Proof.Machine.execRecoveryUpdate at_ path s
  | .bootCommit at_ path => Sys2Proof.Machine.execBootCommit at_ path s
  | .saveCfg at_ path => Sys2Proof.Machine.execSaveCfg at_ path s
  | .evidence at_ path => Sys2Proof.Machine.execEvidence at_ path s
  | .evidenceReady at_ => Sys2Proof.Machine.execEvidenceReady at_ s
  | .owner at_ path => Sys2Proof.Machine.execOwner at_ path s
  | .refclkLost at_ => Sys2Proof.Machine.execRefclkLost at_ s
  | .refclkRestore at_ => Sys2Proof.Machine.execRefclkRestore at_ s
  | .laneTrainingFail at_ p k => Sys2Proof.Machine.execLaneTrainingFail at_ p k s
  | .phyLock at_ p rate => Sys2Proof.Machine.execPhyLock at_ p rate s
  | .evtSet at_ path pg value => Sys2Proof.Machine.execEvtSet at_ path pg value s
  | .txFrameEnd at_ q => Sys2Proof.Machine.execTxFrameEnd at_ q s

end Sys2Proof.Machine
end

