-- ==== Sys2Proof/WellFormed.lean ====
section
/-! DEFINITION. Well-formed commands: every operand lies in the range that the spec gives what it names (R31, R51, R54, R58). A command that
is not well-formed stands for nothing outside the module. -/

namespace Sys2Proof

/-- R31: an offset in a tick is 32 bits wide. -/
def okStamp (n : Nat) : Bool := n < 2 ^ 32

/-- R51, R53: a register address or word. -/
def okWord (n : Nat) : Bool := n < 2 ^ 32

def okHalf (n : Nat) : Bool := n < 2 ^ 16
def okByte (n : Nat) : Bool := n < 256
def ok256 (n : Nat) : Bool := n < 256
def ok16 (n : Nat) : Bool := n < 16
def okBit (n : Nat) : Bool := n < 2

/-- R197: an address of memory. -/
def okAddr48 (n : Nat) : Bool := n < 2 ^ 48

/-- R52: width of an access in bytes. -/
def okWidth (n : Nat) : Bool := n == 1 || n == 2 || n == 4 || n == 8

/-- R58: I3C port 0, I3C port 1 or the firmware. -/
def okPath (n : Nat) : Bool := 1 ≤ n && n ≤ 3

/-- R54: a page of the table. -/
def okPage (n : Nat) : Bool :=
  n < 3 || (0x10 ≤ n && n < 0x40) || (0x40 ≤ n && n < 0x4C) || (0x50 ≤ n && n < 0x56) || (0x60 ≤ n && n < 0x67) || (0x70 ≤ n && n < 0x74) ||
    (0x80 ≤ n && n < 0xB4) || (0x100 ≤ n && n < 0x440) || (0x1000 ≤ n && n < 0x2000)

/-- R64, R215: a group ID is one byte. -/
def okGroup (n : Nat) : Bool := n < 256

/-- R84: an event controller. -/
def okCtl (n : Nat) : Bool := n < 52 || (64 ≤ n && n < 68) || n == 96 || n == 97

/-- R87: a source number of a controller. -/
def okSource (n : Nat) : Bool := n < 1024

/-- R11: a physical well; a cluster; a well die. -/
def okWell (n : Nat) : Bool := n < 832
def okCluster (n : Nat) : Bool := n < 52
def okDie (n : Nat) : Bool := n < 4

/-- R198: a logical well number. -/
def okLogical (n : Nat) : Bool := n < 832

/-- R107: a physical row of a plane. -/
def okRow (n : Nat) : Bool := n < 130

/-- R196: a queue; a pump. -/
def okQueue (n : Nat) : Bool := n < 4096
def okPump (n : Nat) : Bool := n < 16

def okCistern (n : Nat) : Bool := n < 12

/-- R237: what ECC finds: nothing, a corrected symbol, or an uncorrectable one. -/
def okEcc (n : Nat) : Bool := n < 3

/-- R291: a comb source. -/
def okSource6 (n : Nat) : Bool := n < 6

/-- R319: input, column, heater or comb bias bank. -/
def okBank (n : Nat) : Bool := n < 4

/-- R424: a Holade port; one of its lanes. -/
def okHport (n : Nat) : Bool := n < 32
def okLane (n : Nat) : Bool := n < 16

/-- R451: classes 0 to 2. -/
def okMask (n : Nat) : Bool := n < 8

/-- R457: an epoch number; R21: a period in µs. -/
def okHalfWord (n : Nat) : Bool := n < 2 ^ 32
def okPeriod (n : Nat) : Bool := 25 ≤ n && n ≤ 10000

/-- R417: a planet pair of a die, or the service planets. -/
def okCore (n : Nat) : Bool := n < 5

/-- R470: a frame port. -/
def okFrame (n : Nat) : Bool := n < 8

/-- R470: a rate in units of 10 Msym/s or 10 Mb/s. -/
def okRate (n : Nat) : Bool := n < 4096

/-- R481: the data types of raw lines. -/
def okType (n : Nat) : Bool := n == 0x2A || n == 0x2B || n == 0x2C || n == 0x2E

/-- R495: an I3C target port; a dynamic address; a payload of one message (R470 and R503 bound it by memory). -/
def okI3c (n : Nat) : Bool := n < 2
def okAddr7 (n : Nat) : Bool := n < 128
def okBytes (l : List Byte) : Bool := l.length ≤ 2 ^ 30

/-- R513: a sensor; R515: a group of sensors. -/
def okSensor (n : Nat) : Bool := n < 2560
def okThermGroup (n : Nat) : Bool := n < 17

/-- R560: ADDR_SEL straps; R542, R543: how a flash slot read. -/
def okStraps (n : Nat) : Bool := n < 8
def okSlotState (n : Nat) : Bool := n < 16

/-- R442: fields of a message header. -/
def okMsg (m : Msg) : Bool := m.cls < 4 && m.src < 2 ^ 16 && m.dst < 2 ^ 16 && m.ttl < 256

namespace Instr

/-- Every operand of a command is in its range. -/
def wellFormed : Instr → Bool
  | .tickBoundary at_ => okStamp at_
  | .tickInEdge at_ _ => okStamp at_
  | .tickInMissing at_ => okStamp at_
  | .acquireTimeout at_ => okStamp at_
  | .txnBegin at_ path pg group => okStamp at_ && okPath path && okPage pg && okGroup group
  | .txnCommit at_ path pg group => okStamp at_ && okPath path && okPage pg && okGroup group
  | .txnAbort at_ path pg group => okStamp at_ && okPath path && okPage pg && okGroup group
  | .txnTimeout at_ group => okStamp at_ && okGroup group
  | .lockWrite at_ path pg value => okStamp at_ && okPath path && okPage pg && okWord value
  | .registerWrite at_ path addr d => okStamp at_ && okPath path && okWord addr && okWord d.value && okWidth d.bytes
  | .sysClear at_ path => okStamp at_ && okPath path
  | .release at_ path => okStamp at_ && okPath path
  | .softReset at_ path wkey => okStamp at_ && okPath path && okHalf wkey
  | .claim at_ ctl => okStamp at_ && okCtl ctl
  | .hclaim at_ port ctl => okStamp at_ && okI3c port && okCtl ctl
  | .complete at_ path ctl id => okStamp at_ && okPath path && okCtl ctl && okSource id
  | .hcomplete at_ path ctl id => okStamp at_ && okPath path && okCtl ctl && okSource id
  | .swset at_ path ctl id => okStamp at_ && okPath path && okCtl ctl && okSource id
  | .ibiSend at_ port _ => okStamp at_ && okI3c port
  | .clrNAssert at_ => okStamp at_
  | .clrNDeassert at_ => okStamp at_
  | .optoffAssert at_ => okStamp at_
  | .optoffRelease at_ => okStamp at_
  | .planeLoad at_ w => okStamp at_ && okWell w
  | .planeReady at_ w => okStamp at_ && okWell w
  | .swapStrobe at_ w => okStamp at_ && okWell w
  | .groupStrobe at_ g => okStamp at_ && okGroup g
  | .refresh at_ w _ => okStamp at_ && okWell w
  | .loUnlock at_ w row err => okStamp at_ && okWell w && okRow row && okHalf err
  | .loRelock at_ w row err => okStamp at_ && okWell w && okRow row && okHalf err
  | .pilotWindowEnd at_ w => okStamp at_ && okWell w
  | .passSetup at_ w => okStamp at_ && okWell w
  | .passRun at_ w _ _ => okStamp at_ && okWell w
  | .passEpilogue at_ w _ => okStamp at_ && okWell w
  | .passDone at_ w => okStamp at_ && okWell w
  | .qfitWindow at_ w => okStamp at_ && okWell w
  | .cntClr at_ path w => okStamp at_ && okPath path && okWell w
  | .tensorMaxabsWrite at_ path w value => okStamp at_ && okPath path && okWell w && okWord value
  | .headDoorbell at_ path q head => okStamp at_ && okPath path && okQueue q && okHalf head
  | .descIssue at_ q => okStamp at_ && okQueue q
  | .transferIssue at_ p => okStamp at_ && okPump p
  | .transferComplete at_ q => okStamp at_ && okQueue q
  | .copy at_ q => okStamp at_ && okQueue q
  | .tile at_ q => okStamp at_ && okQueue q
  | .multicast at_ q => okStamp at_ && okQueue q
  | .scales at_ q => okStamp at_ && okQueue q
  | .gather at_ q => okStamp at_ && okQueue q
  | .scatter at_ q => okStamp at_ && okQueue q
  | .stats at_ q => okStamp at_ && okQueue q
  | .reduce at_ q => okStamp at_ && okQueue q
  | .queueHalted at_ q => okStamp at_ && okQueue q
  | .rearm at_ path q slot gen => okStamp at_ && okPath path && okQueue q && okHalf slot && okByte gen
  | .barCfgWrite at_ path die i target => okStamp at_ && okPath path && okDie die && ok16 i && okHalf target
  | .startSequenceDone at_ pg => okStamp at_ && okPage pg
  | .startSequenceFail at_ pg => okStamp at_ && okPage pg
  | .drainDone at_ pg => okStamp at_ && okPage pg
  | .cisternAccess at_ r ecc _ data tid blk gen fmt _ _ _ => okStamp at_ && r.cls < 3 && okDie r.die && okAddr48 r.addr && okEcc ecc && okBytes data && okHalf tid && okWord blk && okByte gen && okByte fmt
  | .patrolScrub at_ cis _ => okStamp at_ && okCistern cis
  | .sgdMomentum at_ cis => okStamp at_ && okCistern cis
  | .adamw at_ cis => okStamp at_ && okCistern cis
  | .optDone at_ cis => okStamp at_ && okCistern cis
  | .rowsumBuild at_ addr => okStamp at_ && okAddr48 addr
  | .rowsumDone at_ addr => okStamp at_ && okAddr48 addr
  | .svcLoad at_ path => okStamp at_ && okPath path
  | .planLoaded at_ => okStamp at_
  | .svcStart at_ path => okStamp at_ && okPath path
  | .planRunStart at_ => okStamp at_
  | .svcStop at_ path => okStamp at_ && okPath path
  | .planStopDone at_ => okStamp at_
  | .svcUnload at_ path => okStamp at_ && okPath path
  | .moonPassWrite at_ n => okStamp at_ && okLogical n
  | .seqSlotTimeout at_ prog slot => okStamp at_ && ok256 prog && ok256 slot
  | .lightSample at_ _ _ => okStamp at_
  | .cmdPrewarm at_ path src => okStamp at_ && okPath path && okSource6 src
  | .cmdHandover at_ path src => okStamp at_ && okPath path && okSource6 src
  | .spareReady at_ src => okStamp at_ && okSource6 src
  | .warmingTimeout at_ src => okStamp at_ && okSource6 src
  | .darkFence at_ w => okStamp at_ && okWell w
  | .aprClose at_ p => okStamp at_ && okHport p
  | .aprProbe at_ p _ => okStamp at_ && okHport p
  | .aprOpen at_ p => okStamp at_ && okHport p
  | .monitorRead at_ bank _ _ _ _ => okStamp at_ && okBank bank
  | .trimDataWrite at_ path c value => okStamp at_ && okPath path && okCluster c && okWord value
  | .refcheck at_ path _ _ _ _ => okStamp at_ && okPath path
  | .wellNow at_ path => okStamp at_ && okPath path
  | .laneNow at_ path => okStamp at_ && okPath path
  | .combNow at_ path => okStamp at_ && okPath path
  | .calEligible at_ w => okStamp at_ && okWell w
  | .calOverdue at_ w => okStamp at_ && okWell w
  | .poolCopyDone at_ orig => okStamp at_ && okWell orig
  | .calMeasurePass at_ w p => okStamp at_ && okWell w && p.gains.length == 1429 && p.phases.length == 651
  | .laneRecal at_ port => okStamp at_ && okHport port
  | .laneCalResult at_ port lane values _ _ => okStamp at_ && okHport port && okLane lane && values.length == 7
  | .combRecal at_ src _ => okStamp at_ && okSource6 src
  | .repeatRun at_ w _ _ => okStamp at_ && okWell w
  | .ftEligible at_ w => okStamp at_ && okWell w
  | .fieldTestSession at_ w _ => okStamp at_ && okWell w
  | .testNow at_ path => okStamp at_ && okPath path
  | .returnNow at_ path => okStamp at_ && okPath path
  | .fleetLoad at_ path => okStamp at_ && okPath path
  | .fleetActive at_ => okStamp at_
  | .recPop at_ path => okStamp at_ && okPath path
  | .watchdogMiss at_ core => okStamp at_ && okCore core
  | .lockstepMismatch at_ die => okStamp at_ && okDie die
  | .monitorMismatch at_ => okStamp at_
  | .serviceWatchdogReset at_ => okStamp at_
  | .laneTrained at_ p k => okStamp at_ && okHport p && okLane k
  | .laneLockLoss at_ p k => okStamp at_ && okHport p && okLane k
  | .linkFrame at_ p _ _ => okStamp at_ && okHport p
  | .replayTimeout at_ p space => okStamp at_ && okHport p && okBit space
  | .holadeWrite at_ p _ m => okStamp at_ && okHport p && okMsg m
  | .readReq at_ p _ m => okStamp at_ && okHport p && okMsg m
  | .readResp at_ p _ m => okStamp at_ && okHport p && okMsg m
  | .reduceAdd at_ p _ m => okStamp at_ && okHport p && okMsg m
  | .result at_ p _ m => okStamp at_ && okHport p && okMsg m
  | .digestContribution at_ p _ m => okStamp at_ && okHport p && okMsg m
  | .digestResult at_ p _ m => okStamp at_ && okHport p && okMsg m
  | .bcast at_ p _ m => okStamp at_ && okHport p && okMsg m
  | .tickSyncAnnounce at_ p _ m _ => okStamp at_ && okHport p && okMsg m
  | .delayMeasure at_ p => okStamp at_ && okHport p
  | .delayReq at_ p _ m _ => okStamp at_ && okHport p && okMsg m
  | .delayResp at_ p _ m => okStamp at_ && okHport p && okMsg m
  | .tickSyncLoss at_ => okStamp at_
  | .memberAnnounce at_ p _ m _ => okStamp at_ && okHport p && okMsg m
  | .memberJoin at_ p _ m => okStamp at_ && okHport p && okMsg m
  | .memberTable at_ p _ m => okStamp at_ && okHport p && okMsg m
  | .memberLeave at_ p _ m => okStamp at_ && okHport p && okMsg m
  | .memberEpoch at_ p _ m number _ period _ _ => okStamp at_ && okHport p && okMsg m && okHalfWord number && okPeriod period
  | .memberTimeout at_ p => okStamp at_ && okHport p
  | .gmTimeout at_ => okStamp at_
  | .stopRx at_ p _ m => okStamp at_ && okHport p && okMsg m
  | .resumeRx at_ p _ m => okStamp at_ && okHport p && okMsg m
  | .fenceRx at_ p _ m => okStamp at_ && okHport p && okMsg m
  | .ctrlSendStop at_ path mask rank => okStamp at_ && okPath path && okMask mask && okHalf rank
  | .ctrlSendFence at_ path mask rank => okStamp at_ && okPath path && okMask mask && okHalf rank
  | .ctrlSendResume at_ path mask rank => okStamp at_ && okPath path && okMask mask && okHalf rank
  | .groupReload at_ path => okStamp at_ && okPath path
  | .fabLeave at_ path => okStamp at_ && okPath path
  | .hportDrainTimeout at_ p => okStamp at_ && okHport p
  | .frameStart at_ p v num _ => okStamp at_ && okFrame p && ok16 v && okHalf num
  | .requestDescriptor at_ p v bytes _ => okStamp at_ && okFrame p && ok16 v && okBytes bytes
  | .tensorHeader at_ p v bytes _ => okStamp at_ && okFrame p && ok16 v && okBytes bytes
  | .payloadPacket at_ p v bytes _ => okStamp at_ && okFrame p && ok16 v && okBytes bytes
  | .rawLine at_ p v dt bytes _ => okStamp at_ && okFrame p && ok16 v && okType dt && okBytes bytes
  | .loadHeader at_ p v bytes _ => okStamp at_ && okFrame p && ok16 v && okBytes bytes
  | .frameEnd at_ p v num _ => okStamp at_ && okFrame p && ok16 v && okHalf num
  | .frameTimeout at_ p v => okStamp at_ && okFrame p && ok16 v
  | .slotRelease at_ path p v slot => okStamp at_ && okPath path && okFrame p && ok16 v && ok16 slot
  | .phyUnlock at_ p => okStamp at_ && okFrame p
  | .preambleWrite at_ q v bytes => okStamp at_ && okFrame q && ok16 v && okBytes bytes
  | .i3cWrite at_ port _ code payload _ _ => okStamp at_ && okI3c port && okByte code && okBytes payload && code != 0x20
  | .i3cRead at_ port _ payload _ => okStamp at_ && okI3c port && okBytes payload
  | .responseRead at_ port _ code => okStamp at_ && okI3c port && okByte code
  | .enec at_ port _ events => okStamp at_ && okI3c port && okByte events
  | .disec at_ port _ events => okStamp at_ && okI3c port && okByte events
  | .rstdaa at_ port => okStamp at_ && okI3c port
  | .entdaa at_ port da _ => okStamp at_ && okI3c port && okAddr7 da
  | .setmwl at_ port _ len => okStamp at_ && okI3c port && okHalf len
  | .getmwl at_ port => okStamp at_ && okI3c port
  | .setmrl at_ port _ len ibi => okStamp at_ && okI3c port && okHalf len && okByte ibi
  | .getmrl at_ port => okStamp at_ && okI3c port
  | .enthdr0 at_ port => okStamp at_ && okI3c port
  | .hdrExit at_ port => okStamp at_ && okI3c port
  | .setaasa at_ port => okStamp at_ && okI3c port
  | .rstact at_ port _ _ action => okStamp at_ && okI3c port && okByte action
  | .targetReset at_ port => okStamp at_ && okI3c port
  | .setdasa at_ port da => okStamp at_ && okI3c port && okAddr7 da
  | .setnewda at_ port da => okStamp at_ && okI3c port && okAddr7 da
  | .getpid at_ port => okStamp at_ && okI3c port
  | .getbcr at_ port => okStamp at_ && okI3c port
  | .getdcr at_ port => okStamp at_ && okI3c port
  | .getstatus at_ port => okStamp at_ && okI3c port
  | .getmxds at_ port => okStamp at_ && okI3c port
  | .getcaps at_ port => okStamp at_ && okI3c port
  | .hotJoin at_ port => okStamp at_ && okI3c port
  | .hmemAddrLoWrite at_ port value => okStamp at_ && okI3c port && okWord value
  | .hmemDataWrite at_ port i value => okStamp at_ && okI3c port && ok16 i && okWord value
  | .hmemDataRead at_ port i => okStamp at_ && okI3c port && ok16 i
  | .sensorSample at_ _ => okStamp at_
  | .sensorRestored at_ sensor => okStamp at_ && okSensor sensor
  | .throttleRise at_ group => okStamp at_ && okThermGroup group
  | .throttleRelax at_ group => okStamp at_ && okThermGroup group
  | .fastRateEnd at_ group => okStamp at_ && okThermGroup group
  | .thermalReset at_ => okStamp at_
  | .railSample at_ _ _ => okStamp at_
  | .powerOn at_ => okStamp at_
  | .pwrgdFall at_ => okStamp at_
  | .brownOut at_ => okStamp at_
  | .resetNAssert at_ => okStamp at_
  | .resetRelease at_ straps _ slotA slotB _ _ _ _ _ _ _ _ => okStamp at_ && okStraps straps && okSlotState slotA && okSlotState slotB
  | .bootDone at_ => okStamp at_
  | .bootLate at_ => okStamp at_
  | .bootUpdate at_ path => okStamp at_ && okPath path
  | .updateDone at_ _ => okStamp at_
  | .recoveryUpdate at_ path => okStamp at_ && okPath path
  | .bootCommit at_ path => okStamp at_ && okPath path
  | .saveCfg at_ path => okStamp at_ && okPath path
  | .evidence at_ path => okStamp at_ && okPath path
  | .evidenceReady at_ => okStamp at_
  | .owner at_ path => okStamp at_ && okPath path
  | .refclkLost at_ => okStamp at_
  | .refclkRestore at_ => okStamp at_
  | .laneTrainingFail at_ p k => okStamp at_ && okHport p && okLane k
  | .phyLock at_ p rate => okStamp at_ && okFrame p && okRate rate
  | .evtSet at_ path pg value => okStamp at_ && okPath path && okPage pg && okWord value
  | .txFrameEnd at_ q => okStamp at_ && okFrame q

/-- The offset in the tick at which a command comes. -/
def instant : Instr → Nat
  | .tickBoundary at_ => at_
  | .tickInEdge at_ .. => at_
  | .tickInMissing at_ => at_
  | .acquireTimeout at_ => at_
  | .txnBegin at_ .. => at_
  | .txnCommit at_ .. => at_
  | .txnAbort at_ .. => at_
  | .txnTimeout at_ .. => at_
  | .lockWrite at_ .. => at_
  | .registerWrite at_ .. => at_
  | .sysClear at_ .. => at_
  | .release at_ .. => at_
  | .softReset at_ .. => at_
  | .claim at_ .. => at_
  | .hclaim at_ .. => at_
  | .complete at_ .. => at_
  | .hcomplete at_ .. => at_
  | .swset at_ .. => at_
  | .ibiSend at_ .. => at_
  | .clrNAssert at_ => at_
  | .clrNDeassert at_ => at_
  | .optoffAssert at_ => at_
  | .optoffRelease at_ => at_
  | .planeLoad at_ .. => at_
  | .planeReady at_ .. => at_
  | .swapStrobe at_ .. => at_
  | .groupStrobe at_ .. => at_
  | .refresh at_ .. => at_
  | .loUnlock at_ .. => at_
  | .loRelock at_ .. => at_
  | .pilotWindowEnd at_ .. => at_
  | .passSetup at_ .. => at_
  | .passRun at_ .. => at_
  | .passEpilogue at_ .. => at_
  | .passDone at_ .. => at_
  | .qfitWindow at_ .. => at_
  | .cntClr at_ .. => at_
  | .tensorMaxabsWrite at_ .. => at_
  | .headDoorbell at_ .. => at_
  | .descIssue at_ .. => at_
  | .transferIssue at_ .. => at_
  | .transferComplete at_ .. => at_
  | .copy at_ .. => at_
  | .tile at_ .. => at_
  | .multicast at_ .. => at_
  | .scales at_ .. => at_
  | .gather at_ .. => at_
  | .scatter at_ .. => at_
  | .stats at_ .. => at_
  | .reduce at_ .. => at_
  | .queueHalted at_ .. => at_
  | .rearm at_ .. => at_
  | .barCfgWrite at_ .. => at_
  | .startSequenceDone at_ .. => at_
  | .startSequenceFail at_ .. => at_
  | .drainDone at_ .. => at_
  | .cisternAccess at_ .. => at_
  | .patrolScrub at_ .. => at_
  | .sgdMomentum at_ .. => at_
  | .adamw at_ .. => at_
  | .optDone at_ .. => at_
  | .rowsumBuild at_ .. => at_
  | .rowsumDone at_ .. => at_
  | .svcLoad at_ .. => at_
  | .planLoaded at_ => at_
  | .svcStart at_ .. => at_
  | .planRunStart at_ => at_
  | .svcStop at_ .. => at_
  | .planStopDone at_ => at_
  | .svcUnload at_ .. => at_
  | .moonPassWrite at_ .. => at_
  | .seqSlotTimeout at_ .. => at_
  | .lightSample at_ .. => at_
  | .cmdPrewarm at_ .. => at_
  | .cmdHandover at_ .. => at_
  | .spareReady at_ .. => at_
  | .warmingTimeout at_ .. => at_
  | .darkFence at_ .. => at_
  | .aprClose at_ .. => at_
  | .aprProbe at_ .. => at_
  | .aprOpen at_ .. => at_
  | .monitorRead at_ .. => at_
  | .trimDataWrite at_ .. => at_
  | .refcheck at_ .. => at_
  | .wellNow at_ .. => at_
  | .laneNow at_ .. => at_
  | .combNow at_ .. => at_
  | .calEligible at_ .. => at_
  | .calOverdue at_ .. => at_
  | .poolCopyDone at_ .. => at_
  | .calMeasurePass at_ .. => at_
  | .laneRecal at_ .. => at_
  | .laneCalResult at_ .. => at_
  | .combRecal at_ .. => at_
  | .repeatRun at_ .. => at_
  | .ftEligible at_ .. => at_
  | .fieldTestSession at_ .. => at_
  | .testNow at_ .. => at_
  | .returnNow at_ .. => at_
  | .fleetLoad at_ .. => at_
  | .fleetActive at_ => at_
  | .recPop at_ .. => at_
  | .watchdogMiss at_ .. => at_
  | .lockstepMismatch at_ .. => at_
  | .monitorMismatch at_ => at_
  | .serviceWatchdogReset at_ => at_
  | .laneTrained at_ .. => at_
  | .laneLockLoss at_ .. => at_
  | .linkFrame at_ .. => at_
  | .replayTimeout at_ .. => at_
  | .holadeWrite at_ .. => at_
  | .readReq at_ .. => at_
  | .readResp at_ .. => at_
  | .reduceAdd at_ .. => at_
  | .result at_ .. => at_
  | .digestContribution at_ .. => at_
  | .digestResult at_ .. => at_
  | .bcast at_ .. => at_
  | .tickSyncAnnounce at_ .. => at_
  | .delayMeasure at_ .. => at_
  | .delayReq at_ .. => at_
  | .delayResp at_ .. => at_
  | .tickSyncLoss at_ => at_
  | .memberAnnounce at_ .. => at_
  | .memberJoin at_ .. => at_
  | .memberTable at_ .. => at_
  | .memberLeave at_ .. => at_
  | .memberEpoch at_ .. => at_
  | .memberTimeout at_ .. => at_
  | .gmTimeout at_ => at_
  | .stopRx at_ .. => at_
  | .resumeRx at_ .. => at_
  | .fenceRx at_ .. => at_
  | .ctrlSendStop at_ .. => at_
  | .ctrlSendFence at_ .. => at_
  | .ctrlSendResume at_ .. => at_
  | .groupReload at_ .. => at_
  | .fabLeave at_ .. => at_
  | .hportDrainTimeout at_ .. => at_
  | .frameStart at_ .. => at_
  | .requestDescriptor at_ .. => at_
  | .tensorHeader at_ .. => at_
  | .payloadPacket at_ .. => at_
  | .rawLine at_ .. => at_
  | .loadHeader at_ .. => at_
  | .frameEnd at_ .. => at_
  | .frameTimeout at_ .. => at_
  | .slotRelease at_ .. => at_
  | .phyUnlock at_ .. => at_
  | .preambleWrite at_ .. => at_
  | .i3cWrite at_ .. => at_
  | .i3cRead at_ .. => at_
  | .responseRead at_ .. => at_
  | .enec at_ .. => at_
  | .disec at_ .. => at_
  | .rstdaa at_ .. => at_
  | .entdaa at_ .. => at_
  | .setmwl at_ .. => at_
  | .getmwl at_ .. => at_
  | .setmrl at_ .. => at_
  | .getmrl at_ .. => at_
  | .enthdr0 at_ .. => at_
  | .hdrExit at_ .. => at_
  | .setaasa at_ .. => at_
  | .rstact at_ .. => at_
  | .targetReset at_ .. => at_
  | .setdasa at_ .. => at_
  | .setnewda at_ .. => at_
  | .getpid at_ .. => at_
  | .getbcr at_ .. => at_
  | .getdcr at_ .. => at_
  | .getstatus at_ .. => at_
  | .getmxds at_ .. => at_
  | .getcaps at_ .. => at_
  | .hotJoin at_ .. => at_
  | .hmemAddrLoWrite at_ .. => at_
  | .hmemDataWrite at_ .. => at_
  | .hmemDataRead at_ .. => at_
  | .sensorSample at_ .. => at_
  | .sensorRestored at_ .. => at_
  | .throttleRise at_ .. => at_
  | .throttleRelax at_ .. => at_
  | .fastRateEnd at_ .. => at_
  | .thermalReset at_ => at_
  | .railSample at_ .. => at_
  | .powerOn at_ => at_
  | .pwrgdFall at_ => at_
  | .brownOut at_ => at_
  | .resetNAssert at_ => at_
  | .resetRelease at_ .. => at_
  | .bootDone at_ => at_
  | .bootLate at_ => at_
  | .bootUpdate at_ .. => at_
  | .updateDone at_ .. => at_
  | .recoveryUpdate at_ .. => at_
  | .bootCommit at_ .. => at_
  | .saveCfg at_ .. => at_
  | .evidence at_ .. => at_
  | .evidenceReady at_ => at_
  | .owner at_ .. => at_
  | .refclkLost at_ => at_
  | .refclkRestore at_ => at_
  | .laneTrainingFail at_ .. => at_
  | .phyLock at_ .. => at_
  | .evtSet at_ .. => at_
  | .txFrameEnd at_ .. => at_

/-- R60: the path and the page of a command that is an access to a register. -/
def access : Instr → Option (Nat × Nat)
  | .txnBegin _ path pg _ | .txnCommit _ path pg _ | .txnAbort _ path pg _ | .lockWrite _ path pg _ | .evtSet _ path pg _ => some (path, pg)
  | .registerWrite _ path addr _ => some (path, addr / 0x1000)
  | .sysClear _ path | .release _ path | .softReset _ path _ => some (path, 0)
  | .hmemAddrLoWrite _ port _ | .hmemDataWrite _ port _ _ | .hmemDataRead _ port _ => some (port + 1, 0)
  | .claim _ ctl => some (3, ctlPage ctl)
  | .hclaim _ port ctl => some (port + 1, ctlPage ctl)
  | .complete _ path ctl _ | .hcomplete _ path ctl _ | .swset _ path ctl _ => some (path, ctlPage ctl)
  | .cntClr _ path w | .tensorMaxabsWrite _ path w _ => some (path, 0x100 + w)
  | .headDoorbell _ path q _ | .rearm _ path q _ _ => some (path, 0x1000 + q)
  | .barCfgWrite _ path die _ _ => some (path, 0x70 + die)
  | .trimDataWrite _ path c _ => some (path, 0x80 + c)
  | .svcLoad _ path | .svcStart _ path | .svcStop _ path | .svcUnload _ path | .bootUpdate _ path | .recoveryUpdate _ path
  | .bootCommit _ path | .saveCfg _ path => some (path, 0x66)
  | .cmdPrewarm _ path src | .cmdHandover _ path src => some (path, 0x50 + src)
  | .wellNow _ path | .refcheck _ path _ _ _ _ | .laneNow _ path | .combNow _ path => some (path, 0x62)
  | .testNow _ path | .returnNow _ path | .fleetLoad _ path | .recPop _ path => some (path, 0x64)
  | .ctrlSendStop _ path _ _ | .ctrlSendFence _ path _ _ | .ctrlSendResume _ path _ _ | .groupReload _ path | .fabLeave _ path => some (path, 0x20)
  | .slotRelease _ path p _ _ => some (path, 0x10 + p)
  | .evidence _ path | .owner _ path => some (path, 0x65)
  | .i3cWrite _ port _ _ payload _ _ | .i3cRead _ port _ payload _ => some (port + 1, ((payload.getD 1 0).toNat / 16 + (payload.getD 2 0).toNat * 16 + (payload.getD 3 0).toNat * 4096))
  | _ => none
where
  /-- R84: page of an event controller. -/
  ctlPage (c : Nat) : Nat := if c < 52 then 0x80 + c else if c < 68 then 0x70 + (c - 64) else 2

/-- R95: a command that ends a service or clears bits of an EVT_STAT: of the happenings of one cycle it comes first. -/
def clears : Instr → Bool
  | .complete .. | .hcomplete .. => true
  | .registerWrite _ _ addr _ => addr % 0x1000 == 0x018
  | .i3cWrite _ _ _ _ payload _ _ => decide (payOff payload ≤ 0x018) && decide (0x018 < payOff payload + (payload.length - 4))
  | _ => false
where
  /-- R500: offset in its page of the address that a transfer's payload begins with. -/
  payOff (payload : List Byte) : Nat := (payload.getD 0 0).toNat + (payload.getD 1 0).toNat % 16 * 256

/-- R60: firmware, I3C port 0, I3C port 1. -/
def pathRank (path : Nat) : Nat := if path = 3 then 0 else path

/-- R60, R95: `c` may come before `d` in one cycle of the management bus: of two accesses by two paths to one page the path decides; else what
clears a bit comes before what may set it. -/
def cycleOrder (c d : Instr) : Bool :=
  match c.access, d.access with
  | some x, some y => if x.2 == y.2 && x.1 != y.1 then decide (pathRank x.1 ≤ pathRank y.1) else c.clears || !d.clears
  | _, _ => c.clears || !d.clears

/-- Two commands fall in one cycle of the 100 MHz management bus. -/
def sameCycle (c d : Instr) : Bool := c.instant / 10 == d.instant / 10

/-- R60, R95: the commands of each cycle come in the order in which the module takes them. -/
def cyclesOrdered : List Instr → Bool
  | [] => true
  | c :: rest => (rest.takeWhile c.sameCycle).all c.cycleOrder && cyclesOrdered rest

end Instr

end Sys2Proof
end

