-- ==== Sys2Proof/Safety.lean ====
section
/-! DEFINITION. What a safe run is: the states that the spec allows the module to be in whatever the commands, the fail-safe output of
R419, and the conditions under which commands act at all (R58, R61, R522, R561). -/

namespace Sys2Proof

open Sys2Proof.Machine

/-- The sparse lists of a state are in their one canonical form: keys strictly rising, no entry at its default. -/
def sparseForm (s : Machine.State) : Bool :=
  sparseWf resetWord s.regs && sparseWf (fun _ => (0 : Byte)) s.mem && sparseWf (fun _ => ({} : Seal)) s.seals

/-- R419: FAULT_N is low while the module is SAFE, and while it is DEGRADED with FAULT_PIN.ON_DEGRADED set. -/
def failSafe (s : Machine.State) : Bool := !s.pins.faultN || s.faultLevel

/-- R80, R528: between commands MODULE_STATE tells READY from DEGRADED by the wells left to stand in, and PWR.STATE shows the power state. -/
def modesAgree (s : Machine.State) : Bool :=
  let ms := s.rd pgSYS Reg.SYS.MODULE_STATE_MS
  (ms != 2 || s.standInsLeft != 0) && (ms != 3 || s.standInsLeft == 0) && s.rd pgPWR Reg.PWR.STATE_PS == s.powerState

/-- Waiting commands are well-formed, and those of one cycle stand in the order of R60 and R95. -/
def queueWf (s : Machine.State) : Bool := s.pending.all Instr.wellFormed && Instr.cyclesOrdered s.pending

/-- R230: the queue whose descriptor a command moves. -/
def moves : Instr → Option Nat
  | .copy _ q | .tile _ q | .multicast _ q | .scales _ q | .gather _ q | .scatter _ q | .stats _ q | .reduce _ q => some q
  | _ => none

/-- R230: the place of a descriptor's next transfer: scale expansion, transposition and STATS are work of the base die, the rest link requests of
its CLASS. -/
def moveRank (d : List Byte) : Nat :=
  if Qd.op d = 4 ∨ Qd.op d = 7 ∨ (Qd.op d = 2 ∧ Qd.transpose d) then 3 else Qd.cls d

/-- R230: the cistern whose base die does the work of a command, and its place in the order of precedence: a link request by its class, then
work of the base die, then patrol scrub. -/
def baseWork (s : Machine.State) : Instr → Option (Nat × Nat)
  | .cisternAccess _ r .. => (s.cisternAt r.addr).map fun c => (c, r.cls)
  | .rowsumBuild _ a => (s.cisternAt a).map fun c => (c, 3)
  | .rowsumDone _ a => (s.cisternAt a).map fun c => (c, 3)
  | .optDone _ c => some (c, 3)
  | .sgdMomentum _ c => some (c, 3)
  | .adamw _ c => some (c, 3)
  | .patrolScrub _ c _ => some (c, 4)
  | i => (moves i).bind fun q => (s.exec? q).bind fun e => (s.linkCisterns e).head?.map fun c => (c, moveRank e.desc)

/-- R230: the die at whose link port a command asks. -/
def linkPort : Instr → Option Nat
  | .cisternAccess _ d .. => some d.die
  | i => (moves i).map Machine.State.queueDie

/-- R230: of two link requests of one class, the first is at the port that the round robin comes to first. -/
def turnOk (s : Machine.State) (c cls : Nat) (f g : Instr) : Bool :=
  match linkPort f, linkPort g with
  | some d, some e => decide ((d + 4 - s.portTurn c cls) % 4 ≤ (e + 4 - s.portTurn c cls) % 4)
  | _, _ => true

/-- R230: the front command is what the base die of its cistern serves first of the work that waits at that instant. -/
def servesInOrder (s : Machine.State) : Bool :=
  match s.pending with
  | [] => true
  | f :: rest => rest.all fun d => decide (f.instant ≠ d.instant) || match baseWork s f, baseWork s d with
    | some (c, r), some (c', r') => c != c' || decide (r < r') || (r == r' && turnOk s c r f d)
    | _, _ => true

/-- Commands that act while reset is held (R103, R534, R561): those of power and reset themselves, and the changes of the input pins, which
only show on the pins. -/
def actsInReset : Instr → Bool
  | .powerOn .. | .pwrgdFall .. | .brownOut .. | .resetNAssert .. | .resetRelease .. | .clrNAssert .. | .clrNDeassert .. | .optoffAssert ..
  | .optoffRelease .. | .tickInEdge .. | .refclkLost .. | .refclkRestore .. => true
  | _ => false

/-- Commands that act during the shutdown of R522: those of the time base, the pins, the sensors, power and reset, the I3C ports and the
registers that the ports reach. Every other command is one of the core, whose clocks have stopped. -/
def actsInShutdown : Instr → Bool
  | .tickBoundary .. | .tickInEdge .. | .tickInMissing .. | .acquireTimeout .. | .txnBegin .. | .txnCommit .. | .txnAbort ..
  | .lockWrite .. | .registerWrite .. | .sysClear .. | .release .. | .softReset .. | .claim .. | .hclaim .. | .complete .. | .hcomplete ..
  | .swset .. | .ibiSend .. | .clrNAssert .. | .clrNDeassert .. | .optoffAssert .. | .optoffRelease .. | .cntClr ..
  | .tensorMaxabsWrite .. | .headDoorbell .. | .rearm .. | .barCfgWrite .. | .svcLoad .. | .svcStart .. | .svcStop .. | .svcUnload ..
  | .cmdPrewarm .. | .cmdHandover .. | .trimDataWrite .. | .refcheck .. | .wellNow .. | .laneNow .. | .combNow .. | .testNow ..
  | .returnNow .. | .fleetLoad .. | .recPop .. | .ctrlSendStop .. | .ctrlSendFence .. | .ctrlSendResume .. | .groupReload ..
  | .fabLeave .. | .slotRelease .. | .i3cWrite .. | .i3cRead .. | .responseRead .. | .enec .. | .disec .. | .rstdaa .. | .entdaa ..
  | .setmwl .. | .getmwl .. | .setmrl .. | .getmrl .. | .enthdr0 .. | .hdrExit .. | .setaasa .. | .rstact .. | .targetReset ..
  | .setdasa .. | .setnewda .. | .getpid .. | .getbcr .. | .getdcr .. | .getstatus .. | .getmxds .. | .getcaps .. | .hotJoin ..
  | .hmemAddrLoWrite .. | .hmemDataWrite .. | .hmemDataRead .. | .sensorSample .. | .sensorRestored .. | .fastRateEnd ..
  | .thermalReset .. | .railSample .. | .powerOn .. | .pwrgdFall .. | .brownOut .. | .resetNAssert .. | .resetRelease .. | .bootUpdate ..
  | .recoveryUpdate .. | .bootCommit .. | .saveCfg .. | .evidence .. | .owner .. | .refclkLost .. | .refclkRestore .. | .evtSet .. => true
  | _ => false

namespace Machine.State

/-- The state that a command leaves behind, when `u` is its own effect: what follows from `u` by itself, and the queue as it was. -/
def left (s u : Machine.State) : Machine.State := { State.settle s u with pending := s.pending }

/-- The core's commands act: reset is not held (R561) and no critical temperature has stopped its clocks (R522). -/
def coreUp (s : Machine.State) : Bool := !s.boot.held && !s.therm.shutdown

/-- Register commands of a path act on a page: the path runs (R58, R522, R561) and no other path holds the page's lock (R61). -/
def pathUp (s : Machine.State) (path pg : Nat) : Bool := !s.boot.held && s.pathRuns path && !s.lockedOut path pg

/-- The registers that follow from the state by themselves (R78, R80, R98, R102, R528): MODULE_STATE, EVT_RAW of SYS, EVT and PWR,
the two IBI drop counters, and PWR.STATE. -/
def followers : List Nat :=
  [regAddr pgSYS Reg.SYS.MODULE_STATE_MS.off, regAddr pgSYS 0x010, regAddr pgEVT 0x010, regAddr pgPWR 0x010,
   regAddr pgEVT Reg.EVT.IBI_DROP0.off, regAddr pgEVT Reg.EVT.IBI_DROP1.off, regAddr pgPWR Reg.PWR.STATE_PS.off]

/-- R433 to R438: the state in which a message frame of a port is handled: its acknowledgements and credits applied, its place taken. -/
def handled (s : Machine.State) (p : Nat) (h : LinkHdr) : Machine.State := ((s.applyHdr p h).inSequence p h).1

/-- R433 to R438: a message frame of an operation arrives in sequence, its CRC right, over a link that is up or isolated. -/
def inTurn (s : Machine.State) (p : Nat) (h : LinkHdr) (m : Msg) (op : Nat) : Bool :=
  s.runs (pgHport p) && decide (2 ≤ s.linkState p) && m.op == op && h.crcOk && ((s.applyHdr p h).inSequence p h).2

/-- R433 to R438, R453: a message frame of an operation arrives in sequence over a link that is UP. -/
def arrives (s : Machine.State) (p : Nat) (h : LinkHdr) (m : Msg) (op : Nat) : Bool :=
  s.inTurn p h m op && (s.handled p h).linkState p == 2

/-- R451, R458: a data or control message is for this module, of an accepted epoch, and not from a fenced module. -/
def accepts (s : Machine.State) (m : Msg) : Bool :=
  (m.dst == 0xFFFF || m.dst == s.ownRank) && s.epochOk m && !(m.isData && s.fabric.fences.contains m.src)

/-- R484: a packet with a good header arrives on an enabled channel of a receive port that runs. -/
def takes (s : Machine.State) (p v : Nat) : Bool := s.runs (pgFrameIn p) && s.vcEn p v

/-- Two states hold the same memory, seals and registers but for those that follow from the state, and one more list. -/
def sameBut (extra : List Nat) (s t : Machine.State) : Prop :=
  t.mem = s.mem ∧ t.seals = s.seals ∧ ∀ a, a ∉ extra → a ∉ followers → t.word a = s.word a

end Machine.State

end Sys2Proof
end

