-- ==== Sys2Proof/Certificates/Slice0/Obligations.lean ====
section
/-! DEFINITION. The statements for the provers: each is a claim about the module that the spec's numbered rules make. -/

open Sys2Proof Sys2Proof.Machine

/-- A step runs the command at the front of the queue on the state with the queue's rest. On an empty queue the block idles: the model's
choice (log entry 1). -/
def Obligations.StepRunsFrontCommand : Prop :=
  (∀ (s : State) (c : Instr) (rest : List Instr),
    Machine.step { s with pending := c :: rest } = Machine.exec c { s with pending := rest }) ∧
  (∀ s : State, s.pending = [] → Machine.step s = .next s)

/-- Every command ends in a next state, and no command touches the queue: some update of the state, with what follows from it. -/
def Obligations.EveryCommandEnds : Prop :=
  ∀ (c : Instr) (s : State), ∃ u : State, Machine.exec c s = .next (s.left u) ∧ (s.left u).pending = s.pending

/-- R419: whatever the command, FAULT_N stays low while the module is SAFE, or DEGRADED with ON_DEGRADED set: every step keeps it. -/
def Obligations.FailSafeKept : Prop :=
  ∀ s t : State, failSafe s = true → Machine.step s = .next t → failSafe t = true

/-- R80, R528: every step keeps MODULE_STATE in agreement with the wells left to stand in, and PWR.STATE with the power state. -/
def Obligations.ModesAgreeKept : Prop :=
  ∀ s t : State, modesAgree s = true → Machine.step s = .next t → modesAgree t = true

/-- R30, R534, R535, R561: right after power-on reset tick 0 runs, memory and every block seal read zero, the only register away from its
reset value is RESET_CAUSE, which reads POWER_ON, FAULT_N is low, and no command waits. The two invariants and the canonical form of
registers, memory and seals hold right after reset. -/
def Obligations.ResetState : Prop :=
  (State.reset.tick.number = 0 ∧ State.reset.tick.off = 0 ∧ (∀ k, State.reset.byte k = 0) ∧ (∀ b, State.reset.blockSeal b = {}) ∧
  (∀ a, a ≠ 0x05C → State.reset.word a = resetWord a) ∧ State.reset.rd pgSYS Reg.SYS.RESET_CAUSE_POWER_ON = 1 ∧
  State.reset.pins.faultN = false ∧ State.reset.clearActive = true ∧ State.reset.pending = []) ∧
  (failSafe State.reset = true ∧ modesAgree State.reset = true ∧ sparseForm State.reset = true ∧ queueWf State.reset = true)

/-- R561, R534: while reset is held, no command but those of power and reset changes anything. R522: during the shutdown no command of the
core changes anything. R103, R561: while reset is held a change of an input pin shows on the pin, and does nothing else. -/
def Obligations.StoppedClocks : Prop :=
  (∀ (c : Instr) (s : State), s.boot.held = true → actsInReset c = false → Machine.exec c s = .next (s.left s)) ∧
  (∀ (c : Instr) (s : State), s.boot.held = false → s.therm.shutdown = true → actsInShutdown c = false →
    Machine.exec c s = .next (s.left s)) ∧
  (∀ (s : State) (at_ : Nat), s.boot.held = true →
    Machine.exec (.clrNAssert at_) s = .next (s.left { s with pins := { s.pins with clrN := false } }) ∧
    Machine.exec (.clrNDeassert at_) s = .next (s.left { s with pins := { s.pins with clrN := true } }) ∧
    Machine.exec (.optoffAssert at_) s = .next (s.left { s with pins := { s.pins with optoffN := false } }) ∧
    Machine.exec (.optoffRelease at_) s = .next (s.left { s with pins := { s.pins with optoffN := true } }) ∧
    (∀ rising, Machine.exec (.tickInEdge at_ rising) s = .next (s.left { s with pins := { s.pins with tickIn := rising } })) ∧
    Machine.exec (.refclkLost at_) s = .next (s.left { s with pins := { s.pins with refclk := false } }) ∧
    Machine.exec (.refclkRestore at_) s = .next (s.left { s with pins := { s.pins with refclk := true } }))

/-- What follows from a state by itself is confined: beyond the command's own effect only the follower registers, the event controllers,
FAULT_N and the queue can differ. -/
def Obligations.DerivedEffectsConfined : Prop :=
  ∀ (s u : State), State.sameBut [] u (s.left u) ∧ (s.left u).tick = u.tick ∧ (s.left u).txn = u.txn ∧ (s.left u).wells = u.wells ∧
    (s.left u).pump = u.pump ∧ (s.left u).cist = u.cist ∧ (s.left u).plan = u.plan ∧ (s.left u).light = u.light ∧
    (s.left u).conv = u.conv ∧ (s.left u).cal = u.cal ∧ (s.left u).integ = u.integ ∧ (s.left u).fault = u.fault ∧
    (s.left u).fabric = u.fabric ∧ (s.left u).frames = u.frames ∧ (s.left u).i3c = u.i3c ∧ (s.left u).therm = u.therm ∧
    (s.left u).boot = u.boot ∧ (s.left u).free = u.free ∧
    (s.left u).pins = { u.pins with faultN := u.pins.faultN && (s.left u).faultLevel }

/-- R52: a write of one word to an unmapped page, or to an unassigned offset of a page that no other path has locked, changes nothing; one
that is no aligned word is an access fault of the firmware's core, and changes nothing on another path. R61: while another path holds a
page's lock, a write to any offset of the page but LOCK and TXN_CTL, assigned or not, is discarded and raises LOCK_VIOLATION. -/
def Obligations.WritesRefused : Prop :=
  (∀ (s : State) (at_ path addr v bytes : Nat), s.boot.held = false → s.pathRuns path = true →
    (addr % 4 = 0 → (pageKind (addr / 0x1000) = none ∨ (ctlAt addr = none ∧ s.lockedOut path (addr / 0x1000) = false ∧
        ∀ k, pageKind (addr / 0x1000) = some k → State.assigned k (addr % 0x1000) = false)) →
      Machine.exec (.registerWrite at_ path addr ⟨v, 4⟩) s = .next (s.left (s.advance at_))) ∧
    ((bytes ≠ 4 ∨ addr % 4 ≠ 0) → Machine.exec (.registerWrite at_ path addr ⟨v, bytes⟩) s =
      .next (s.left (if path = 3 then (s.advance at_).accessFault addr else s.advance at_)))) ∧
  (∀ (s : State) (at_ path pg off v : Nat) (k : PageKind), s.boot.held = false → s.pathRuns path = true →
    s.lockedOut path pg = true → pageKind pg = some k → off < 0x1000 → off % 4 = 0 → ctlAt (pg * 0x1000 + off) = none →
    off ≠ 0x020 → off ≠ 0x028 →
    Machine.exec (.registerWrite at_ path (pg * 0x1000 + off) ⟨v, 4⟩) s = .next (s.left ((s.advance at_).raise pg 3)))

/-- R7: a write to a register without an effect of its own and without fields that wait for a boundary: bit by bit, RW bits take the value
written, W1C bits written 1 clear, and every other bit of it and every other register stays. -/
def Obligations.PlainWriteByAccess : Prop :=
  ∀ (s : State) (at_ path pg off v : Nat) (k : PageKind), s.pathUp path pg = true → pageKind pg = some k → off < 0x1000 → off % 4 = 0 →
    ctlAt (pg * 0x1000 + off) = none → State.assigned k off = true → State.otherWindow k path off = false → off ≠ 0x028 →
    (s.advance at_).effectWrite path k pg off (BitVec.ofNat 32 v) = none → accMask k .rws off = 0 → regAddr pg off ∉ State.followers →
    ∃ t, Machine.exec (.registerWrite at_ path (pg * 0x1000 + off) ⟨v, 4⟩) s = .next t ∧ State.sameBut [regAddr pg off] s t ∧
      ∀ i, i < 32 → (t.word (regAddr pg off)).getLsbD i =
        ((if (accMask k .rw off).testBit i then v.testBit i else (s.word (regAddr pg off)).getLsbD i) &&
          !((accMask k .w1c off).testBit i && v.testBit i))

/-- R61: taking a page's lock, releasing it, and any other write of LOCK. -/
def Obligations.LockCommands : Prop :=
  ∀ (s : State) (at_ path pg v : Nat) (k : PageKind), s.boot.held = false → s.pathRuns path = true → pageKind pg = some k →
    let take := v % 4 = path ∧ s.holder pg = 0 ∧ (pg = pgSYS ∨ s.holder pgSYS = 0 ∨ s.holder pgSYS = path)
    let release := v % 4 = 0 ∧ s.holder pg = path
    (take → Machine.exec (.lockWrite at_ path pg v) s = .next (s.left ((s.advance at_).wr pg Reg.HDR.LOCK_HOLDER path))) ∧
    (release → Machine.exec (.lockWrite at_ path pg v) s = .next (s.left ((s.advance at_).wr pg Reg.HDR.LOCK_HOLDER 0))) ∧
    (¬take → ¬release → Machine.exec (.lockWrite at_ path pg v) s = .next (s.left ((s.advance at_).raise pg 3)))

/-- R64: BEGIN opens a group: the page joins it with its shadows loaded with its live values, under the path that wrote it and with the
timeout of the moment, and reports OPEN; a page joins an open group of its path; a BEGIN of the group that the page is in changes nothing.
R66: COMMIT stamps the whole group: it is commit-pending from now on, and its pages report it. R70: a group whose timeout has run out with
no COMMIT stamped rolls back with status TIMEOUT. R64, R66, R67, R72: refusals name their status and raise TXN_REFUSED, and leave every
group: BEGIN of group 0 or of a commit-pending group, of a page in another group; COMMIT and ABORT of a group that is not open or that the
page is not in. An ABORT of a commit-pending group is refused as COMMIT_PENDING. -/
def Obligations.TransactionLifeCycle : Prop :=
  (∀ (s : State) (at_ path pg g : Nat) (k : PageKind), s.pathUp path pg = true → pageKind pg = some k → 0 < g → g < 256 →
    (∀ x ∈ s.txn.groups, s.overdue x = false) →
    let u := s.advance at_
    let v : State := { u with txn :=
      { s.txn with shadow := s.txn.shadow ++ u.snapshot pg true, seen := s.txn.seen ++ u.snapshot pg false } }
    (s.groupOf pg = none → s.groupById g = none → Machine.exec (.txnBegin at_ path pg g) s = .next (s.left
      ((v.putGroup ⟨g, path, [pg], s.tick.number, s.rd pgSYS Reg.SYS.TXN_TIMEOUT_TICKS, none, u.tick.off⟩).setStatus pg 1))) ∧
    (∀ x, s.groupOf pg = none → s.groupById g = some x → x.owner = path → x.commit = none → Machine.exec (.txnBegin at_ path pg g) s =
      .next (s.left ((v.putGroup { x with pages := x.pages ++ [pg] }).setStatus pg 1))) ∧
    (∀ x, s.groupOf pg = some x → x.id = g → s.foreign path g = false →
      Machine.exec (.txnBegin at_ path pg g) s = .next (s.left u))) ∧
  (∀ (s : State) (at_ path pg g : Nat) (k : PageKind) (x : TxnGroup), s.pathUp path pg = true → pageKind pg = some k → g < 256 →
    (∀ y ∈ s.txn.groups, s.overdue y = false) → s.groupById g = some x → x.owner = path → x.pages.contains pg = true → x.commit = none →
    Machine.exec (.txnCommit at_ path pg g) s =
      .next (s.left (((s.advance at_).putGroup { x with commit := some (s.advance at_).now }).each x.pages fun u p => u.setStatus p 2))) ∧
  (∀ (s : State) (at_ g : Nat) (x : TxnGroup), s.coreUp = true → s.groupById g = some x → x.commit = none →
    x.opened + x.timeout ≤ s.tick.number →
    Machine.exec (.txnTimeout at_ g) s = .next (s.left ((s.advance at_).rollback x 4))) ∧
  (∀ (s : State) (at_ path pg g : Nat) (k : PageKind), s.pathUp path pg = true → pageKind pg = some k → g < 256 →
    (∀ y ∈ s.txn.groups, s.overdue y = false) →
    let refused (code : Nat) : State := ((s.advance at_).setStatus pg code).raise pg 2
    (g = 0 → Machine.exec (.txnBegin at_ path pg g) s = .next (s.left (refused 8))) ∧
    (∀ x, g ≠ 0 → s.foreign path g = false → s.groupOf pg = some x → x.id ≠ g →
      Machine.exec (.txnBegin at_ path pg g) s = .next (s.left (refused 7))) ∧
    (∀ x, g ≠ 0 → s.groupOf pg = none → s.groupById g = some x → x.owner = path → x.commit.isSome = true →
      Machine.exec (.txnBegin at_ path pg g) s = .next (s.left (refused 8))) ∧
    (s.groupById g = none → Machine.exec (.txnCommit at_ path pg g) s = .next (s.left (refused 8)) ∧
      Machine.exec (.txnAbort at_ path pg g) s = .next (s.left (refused 8))) ∧
    (∀ x, s.groupById g = some x → x.owner = path → x.pages.contains pg = false →
      Machine.exec (.txnCommit at_ path pg g) s = .next (s.left (refused 8)) ∧
      Machine.exec (.txnAbort at_ path pg g) s = .next (s.left (refused 8))) ∧
    (∀ x, s.groupById g = some x → x.owner = path → x.pages.contains pg = true → x.commit.isSome = true →
      Machine.exec (.txnAbort at_ path pg g) s = .next (s.left (refused 2)) ∧
      Machine.exec (.txnCommit at_ path pg g) s = .next (s.left (s.advance at_))))

/-- R63: BEGIN, COMMIT and ABORT for a group from a path that did not open it are refused with status LOCKED, and the groups stay as they
are. -/
def Obligations.ForeignGroupRefused : Prop :=
  ∀ (s : State) (at_ path pg g : Nat) (k : PageKind) (x : TxnGroup), s.pathUp path pg = true → pageKind pg = some k → 0 < g → g < 256 →
    (∀ y ∈ s.txn.groups, s.overdue y = false) → s.groupById g = some x → x.owner ≠ path →
    let refused (t : State) : Prop := t.rd pg Reg.HDR.TXN_STAT_STATUS = 9 ∧ t.txn = s.txn
    (∃ t, Machine.exec (.txnBegin at_ path pg g) s = .next t ∧ refused t) ∧
    (∃ t, Machine.exec (.txnCommit at_ path pg g) s = .next t ∧ refused t) ∧
    (∃ t, Machine.exec (.txnAbort at_ path pg g) s = .next t ∧ refused t)

/-- R71: ABORT of an open group discards its shadows at once; every page of the group reports ABORTED and raises TXN_ROLLBACK, and the ID
is free again. -/
def Obligations.AbortRollsBack : Prop :=
  ∀ (s : State) (at_ path pg g : Nat) (k : PageKind) (x : TxnGroup), s.pathUp path pg = true → pageKind pg = some k → g < 256 →
    (∀ y ∈ s.txn.groups, s.overdue y = false) → s.groupById g = some x → x.owner = path → x.pages.contains pg = true → x.commit = none →
    let u := (s.advance at_).rollback x 5
    Machine.exec (.txnAbort at_ path pg g) s = .next (s.left u) ∧ u.groupById g = none ∧
      (∀ e ∈ u.txn.shadow, e ∈ s.txn.shadow ∧ x.pages.contains (e.1 / 0x1000) = false) ∧
      (∀ p ∈ x.pages, u.rd p Reg.HDR.TXN_STAT_STATUS = 5 ∧ u.rdBit p Reg.HDR.EVT_RAW 1 = true)

/-- R55: EVT_SET sets the bits of EVT_RAW written 1 on a page. R91: a claim on either side takes the best claimable source: it is in
service on that side, its pending edge is gone, and the word read names it with its priority; with nothing to claim the word is 8000_0000H
and nothing else changes. R92: completion by the side that claimed ends a source's service; any other completion leaves the sources alone,
sets STATUS.BAD_COMPLETE and raises the EVT page's event. -/
def Obligations.ClaimAndComplete : Prop :=
  (∀ (s : State) (at_ path pg v : Nat) (k : PageKind), s.pathUp path pg = true → pageKind pg = some k →
    let u := (s.advance at_).wr pg Reg.HDR.EVT_RAW (s.rd pg Reg.HDR.EVT_RAW ||| v % 2 ^ 32)
    Machine.exec (.evtSet at_ path pg v) s = .next (s.left u) ∧
      ∀ b, b < 32 → u.rdBit pg Reg.HDR.EVT_RAW b = (s.rdBit pg Reg.HDR.EVT_RAW b || v.testBit b)) ∧
  (∀ (s : State) (at_ ctl port : Nat), s.boot.held = false → isController ctl = true →
    let claimed (id : Nat) (host : Bool) : State := { s.advance at_ with
      txn := { s.txn with answer := BitVec.ofNat 32 (id + s.srcPrio ctl id * 2 ^ 16) }
      evt := { s.evt with
        edges := s.evt.edges.filter (fun e => decide (e ≠ (ctl, id))), inService := s.evt.inService ++ [⟨ctl, id, host, s.srcPrio ctl id⟩] } }
    let nothing : State := { s.advance at_ with txn := { s.txn with answer := 0x80000000 } }
    (s.pathRuns 3 = true →
      (∀ id, s.bestSource ctl false = some id → Machine.exec (.claim at_ ctl) s = .next (s.left (claimed id false))) ∧
      (s.bestSource ctl false = none → Machine.exec (.claim at_ ctl) s = .next (s.left nothing))) ∧
    (port < 2 → s.pathRuns (port + 1) = true →
      (∀ id, s.bestSource ctl true = some id → Machine.exec (.hclaim at_ port ctl) s = .next (s.left (claimed id true))) ∧
      (s.bestSource ctl true = none → Machine.exec (.hclaim at_ port ctl) s = .next (s.left nothing)))) ∧
  (∀ (s : State) (at_ path ctl id : Nat), s.boot.held = false → s.pathRuns path = true → isController ctl = true → id < 1024 →
    let serves (host : Bool) : Prop := ∃ e ∈ s.evt.inService, e.serves ctl id host = true
    let ended (host : Bool) : State := { s.advance at_ with
      evt := { s.evt with inService := s.evt.inService.filter fun e => !e.serves ctl id host } }
    let bad := ((s.advance at_).setWord (ctlBase ctl + 0x1C) (s.word (ctlBase ctl + 0x1C) ||| 1)).raise pgEVT 8
    (serves false → Machine.exec (.complete at_ path ctl id) s = .next (s.left (ended false))) ∧
    (¬serves false → Machine.exec (.complete at_ path ctl id) s = .next (s.left bad)) ∧
    (serves true → Machine.exec (.hcomplete at_ path ctl id) s = .next (s.left (ended true))) ∧
    (¬serves true → Machine.exec (.hcomplete at_ path ctl id) s = .next (s.left bad)))

/-- R91: what a claim can return: a claimable source that no other claimable source of the side exceeds in priority, and that no other of
the same priority precedes. -/
def Obligations.BestSourceIsBest : Prop :=
  ∀ (s : State) (ctl : Nat) (host : Bool),
    (∀ id, s.bestSource ctl host = some id →
      id < ctlSources ctl ∧ s.claimable ctl id host = true ∧
      ∀ j, j < ctlSources ctl → s.claimable ctl j host = true →
        s.srcPrio ctl j ≤ s.srcPrio ctl id ∧ (s.srcPrio ctl j = s.srcPrio ctl id → id ≤ j)) ∧
    (s.bestSource ctl host = none → ∀ j, j < ctlSources ctl → s.claimable ctl j host = false)

/-- R88: software sources are edge sources; SWSET of one makes it pending; any other ID is ignored and sets STATUS.BAD_SWSET. -/
def Obligations.SwsetPends : Prop :=
  ∀ (s : State) (at_ path ctl id : Nat), s.boot.held = false → s.pathRuns path = true → isController ctl = true → id < 1024 →
    (isSoftware ctl id = true → isEdge ctl id = true ∧
      let u : State := { s.advance at_ with evt := { s.evt with edges := addOnce (ctl, id) s.evt.edges } }
      Machine.exec (.swset at_ path ctl id) s = .next (s.left u) ∧ u.srcPending ctl id = true) ∧
    (isSoftware ctl id = false → Machine.exec (.swset at_ path ctl id) s =
      .next (s.left ((s.advance at_).setWord (ctlBase ctl + 0x1C) (s.word (ctlBase ctl + 0x1C) ||| 2))))

/-- R101, R102, R508: an in-band interrupt that the controller accepts leaves its queue, is counted, and its payload is what the port
answers; one that it does not accept stays. -/
def Obligations.IbiSendDequeues : Prop :=
  ∀ (s : State) (at_ port : Nat) (r : IbiReq), s.boot.held = false → (s.advance at_).portReady port = true → s.hasDa port = true →
    s.flag pgSYS Reg.SYS.I3C_STAT_ENINT port = true → State.ibiNext (if port = 0 then s.evt.ibi0 else s.evt.ibi1) = some r →
    Machine.exec (.ibiSend at_ port false) s = .next (s.left (s.advance at_)) ∧
    (let q := if port = 0 then s.evt.ibi0 else s.evt.ibi1
     let e := if port = 0 then { s.evt with ibi0 := q.erase r } else { s.evt with ibi1 := q.erase r }
     Machine.exec (.ibiSend at_ port true) s =
      .next (s.left ((({ s.advance at_ with evt := e }).bumpWrap pgSYS Reg.SYS.I3C_IBI_SENT 1 port).answerBytes port
        (some ((State.ibiPayload r).take (min 17 (s.i3cPort port).ibiMax))))))

/-- R78, R79: SYS_CLEAR puts the clear codes of a SYS clear in force, forcing the banks when none was; RELEASE asks for their end, which
comes at a boundary; without a SYS clear it changes nothing. R78, R535: SOFT_RESET with the key clears every register, memory and counter:
reset is held with cause SOFT, and flash, pins and the waiting commands stay; an image that was being written leaves its slot without a
whole image. With another key the write is discarded and raises TXN_REFUSED. -/
def Obligations.ModuleControl : Prop :=
  (∀ (s : State) (at_ path : Nat), s.pathUp path pgSYS = true →
    (let v : State := { s.advance at_ with conv := { s.conv with clrSoft := true, release := false } }
     Machine.exec (.sysClear at_ path) s = .next (s.left (if s.clearActive then v else v.forceClear))) ∧
    (s.conv.clrSoft = true →
      Machine.exec (.release at_ path) s = .next (s.left { s.advance at_ with conv := { s.conv with release := true } })) ∧
    (s.conv.clrSoft = false → Machine.exec (.release at_ path) s = .next (s.left (s.advance at_)))) ∧
  (∀ (s : State) (at_ path wkey : Nat), s.pathUp path pgSYS = true → wkey < 2 ^ 16 →
    (wkey = 0xA5C3 → Machine.exec (.softReset at_ path wkey) s = .next (s.left { State.reset with
      regs := [(0x05C, 4)], pins := { s.pins with faultN := false }
      boot := { flash := (if s.boot.writing.isSome then s.onSlot (1 - s.boot.flash.active) fun x => { x with ok := false } else s).boot.flash
                held := true }
      pending := s.pending, free := s.free })) ∧
    (wkey ≠ 0xA5C3 → Machine.exec (.softReset at_ path wkey) s = .next (s.left ((s.advance at_).raise pgSYS 2))))

/-- R509: a write of a window's low address moves its address and its start S. R509: window data words: a served address is written, under
a generated seal, or read; another sets BAD_ADDR and reads zero; the last word of the window moves its address on by 64 bytes. -/
def Obligations.HostWindow : Prop :=
  (∀ (s : State) (at_ port value : Nat), s.pathUp (port + 1) pgSYS = true → port < 2 →
    ∃ t, Machine.exec (.hmemAddrLoWrite at_ port value) s = .next t ∧
      t.winAddr port = value % 2 ^ 32 / 64 * 64 + s.rd pgSYS Reg.SYS.HMEM_ADDR_HI_ADDR port * 2 ^ 32 ∧
      (t.i3cPort port).winStart = t.winAddr port ∧ State.sameBut [regAddr pgSYS (Reg.SYS.HMEM_ADDR_LO_ADDR.at port)] s t) ∧
  (∀ (s : State) (at_ port i value : Nat), s.pathUp (port + 1) pgSYS = true → port < 2 → i < 16 →
    let u := s.advance at_
    let a := s.winAddr port + 4 * i
    let bad := u.wr pgSYS Reg.SYS.HMEM_STAT_BAD_ADDR 1 port
    let on (t : State) : State := if i = 15 then t.winAdvance port else t
    (s.winServed a = true → Machine.exec (.hmemDataWrite at_ port i value) s =
      .next (s.left (on (u.write u.mapNow a (bytesOf 4 (value % 2 ^ 32)) (u.winSeal port)).1))) ∧
    (s.winServed a = false → Machine.exec (.hmemDataWrite at_ port i value) s = .next (s.left (on bad))) ∧
    (s.winServed a = true →
      let r := u.read u.mapNow a 4
      let v := on (if r.2.withheld || r.2.sealFail then r.1.wr pgSYS Reg.SYS.HMEM_STAT_SEAL_FAIL 1 port else r.1)
      Machine.exec (.hmemDataRead at_ port i) s =
        .next (s.left { v with txn := { v.txn with answer := BitVec.ofNat 32 (numOf r.2.bytes) } })) ∧
    (s.winServed a = false → Machine.exec (.hmemDataRead at_ port i) s =
      .next (s.left { on bad with txn := { s.txn with answer := 0 } })))

/-- R328, R329, R96 to R98: a filtered assertion of CLR_N puts clear codes in force at once; its deassertion leaves them to the next
boundary, where they end; the pin event follows SENSE; an assertion or a deassertion of a pin that has that level already changes nothing.
R313: a filtered assertion of OPTOFF_N turns every source that carries light DARK, closes every shutter and puts the module in SAFE; its
deassertion relights the sources, and, unless another cause of SAFE is in force, lets boot go on in CALIBRATING or, after boot, begins the
return to READY, which the boundaries end; an assertion or deassertion of a pin that has that level already changes nothing. -/
def Obligations.PinsForce : Prop :=
  (∀ (s : State) (at_ : Nat), s.boot.held = false →
    let u := s.advance at_
    (s.pins.clrN = true →
      let v : State := { u with pins := { s.pins with clrN := false }, conv := { s.conv with clrPin := true } }
      Machine.exec (.clrNAssert at_) s =
        .next (s.left ((if s.clearActive then v else v.forceClear).pinEdge Reg.EVT.FILT_CLR_SENSE 4 true)) ∧
      ∃ t, Machine.exec (.clrNAssert at_) s = .next t ∧ t.pins.clrN = false ∧ t.conv.clrPin = true ∧ t.clearActive = true) ∧
    (s.pins.clrN = false → ∃ t, Machine.exec (.clrNDeassert at_) s = .next t ∧
      t = s.left (({ u with pins := { s.pins with clrN := true } }).pinEdge Reg.EVT.FILT_CLR_SENSE 4 false) ∧
      t.pins.clrN = true ∧ t.conv = s.conv ∧ State.sameBut [] s t) ∧
    (s.pins.clrN = false → Machine.exec (.clrNAssert at_) s = .next (s.left u)) ∧
    (s.pins.clrN = true → Machine.exec (.clrNDeassert at_) s = .next (s.left u)) ∧
    ∀ pending applied, s.pins.clrN = true → (s.endClear pending applied).conv.clrPin = false) ∧
  (∀ (s : State) (at_ : Nat), s.boot.held = false →
    let u := s.advance at_
    (s.pins.optoffN = true → ∃ t, Machine.exec (.optoffAssert at_) s = .next t ∧ t.pins.optoffN = false ∧ t.light.closed = 0xFFFFFFFF ∧
      t.light.reopen = [] ∧ t.light.probing = [] ∧ t.light.returning = 0 ∧ t.rd pgSYS Reg.SYS.MODULE_STATE_MS = 4 ∧ t.pins.faultN = false ∧
      ∀ i, i < 6 → litCs (t.source i).cs = false) ∧
    (s.pins.optoffN = false →
      let v := ({ u with pins := { s.pins with optoffN := true } }).pinEdge Reg.EVT.FILT_OPTOFF_SENSE 5 false
      let r := (if s.clearActive then v else v.relightSources).raise (pgComb 0) 14
      ((s.fault.safeHard = true ∨ s.rd pgSYS Reg.SYS.MODULE_STATE_MS ≠ 4) → Machine.exec (.optoffRelease at_) s = .next (s.left r)) ∧
      (s.fault.safeHard = false → s.rd pgSYS Reg.SYS.MODULE_STATE_MS = 4 → Machine.exec (.optoffRelease at_) s = .next (s.left
        (if s.boot.ended then { r with light := { r.light with returning := 1 } }
        else r.recheckWells.wr pgSYS Reg.SYS.MODULE_STATE_MS 1))) ∧
      ∃ t, Machine.exec (.optoffRelease at_) s = .next t ∧ t.pins.optoffN = true) ∧
    (s.pins.optoffN = false → Machine.exec (.optoffAssert at_) s = .next (s.left u)) ∧
    (s.pins.optoffN = true → Machine.exec (.optoffRelease at_) s = .next (s.left u)))

/-- R120, R125, R219: PLANE_LOAD takes the next tile of the pass whose turn it is into the idle plane, which is LOADING from then on, with
the tile's scale items, its row sums among them where the pass asks for them; a tile and an item that do not pair, or a record that shows
that the item does not come, stop the pair of queues; without a tile to take, or while its items are still to come, nothing happens. R120,
R125, R219: PLANE_READY ends the load: the plane is READY and the tile leaves staging; a later block that did not fit its tile stops the
pair of queues instead; with no plane LOADING nothing happens. -/
def Obligations.PlaneLoading : Prop :=
  (∀ (s : State) (at_ w : Nat), s.coreUp = true →
    let u := s.advance at_
    let b := s.idlePlane w
    let item (d : List Byte) (k : Nat) := State.scaleItem (s.well w) d k
    (u.nextLoad w = none → Machine.exec (.planeLoad at_ w) s = .next (s.left u)) ∧
    ∀ (p : PassRun) (t : StagedTile), u.nextLoad w = some (p, t) →
      (∀ i x r, item p.desc 1 = (some i, x) → State.tagMatches p.wbits i t = true →
        (Pd.xzp p.desc = false ∧ r = none ∨ Pd.xzp p.desc = true ∧ ∃ y z, item p.desc 2 = (some y, z) ∧ State.tagMatches p.wbits y t = true ∧ r = some y) →
        ∃ n, Machine.exec (.planeLoad at_ w) s = .next n ∧ n = s.left (u.writePlane w p b t i r) ∧
          ((n.well w).plane b).st = .loading ∧ ((n.well w).plane b).pass = p.slot ∧ ((n.well w).plane b).tile = p.loaded ∧
          ((n.well w).plane (!b)) = ((s.well w).plane (!b)) ∧ n.mem = s.mem ∧ ∀ v, v ≠ w → n.well v = s.well v) ∧
      (item p.desc 1 = (none, none) → Machine.exec (.planeLoad at_ w) s = .next (s.left u)) ∧
      (∀ r, item p.desc 1 = (none, some r) → Machine.exec (.planeLoad at_ w) s = .next (s.left (u.mispaired w p.desc p.wbits r t))) ∧
      (∀ i x, item p.desc 1 = (some i, x) → State.tagMatches p.wbits i t = false →
        Machine.exec (.planeLoad at_ w) s = .next (s.left (u.mispaired w p.desc p.wbits i t))) ∧
      (∀ i x, item p.desc 1 = (some i, x) → State.tagMatches p.wbits i t = true → Pd.xzp p.desc = true →
        (item p.desc 2 = (none, none) → Machine.exec (.planeLoad at_ w) s = .next (s.left u)) ∧
        (∀ r, item p.desc 2 = (none, some r) → Machine.exec (.planeLoad at_ w) s = .next (s.left (u.mispaired w p.desc p.wbits r t))) ∧
        (∀ r z, item p.desc 2 = (some r, z) → State.tagMatches p.wbits r t = false →
          Machine.exec (.planeLoad at_ w) s = .next (s.left (u.mispaired w p.desc p.wbits r t))))) ∧
  (∀ (s : State) (at_ w : Nat), s.coreUp = true →
    let u := s.advance at_
    let b := s.idlePlane w
    let pl := (s.well w).plane b
    (pl.st ≠ .loading → Machine.exec (.planeReady at_ w) s = .next (s.left u)) ∧
    ∀ (p : PassRun) (t : StagedTile), pl.st = .loading → (s.well w).passes.find? (fun p => p.slot = pl.pass) = some p →
      (s.well w).staged.find? (fun t => t.queue = Pd.wq p.desc) = some t →
      (t.skewed = none → Machine.exec (.planeReady at_ w) s = .next (s.left (u.onWell w fun x =>
        { x.setPlane b { pl with st := .ready } with staged := x.staged.erase t }))) ∧
      (∀ k, t.skewed = some k → Machine.exec (.planeReady at_ w) s =
        .next (s.left (u.pairSkew w (Pd.wq p.desc) (Pd.sq p.desc) (k.1, k.2.1) k.2.2.1 k.2.2.2))))

/-- R122, R125: the swap strobe of a well outside any group: the READY idle plane becomes ACTIVE with its codes, the plane that was active
becomes EMPTY, SWAP_COUNT counts, and no other well and no memory changes; a well that may not swap, or of a group, does not. R123, R216:
a group strobe swaps every member of a group of its number, in one instant, when every member waits for it; when one of each group of the
number does not, none swaps. The members are those that the queue of the waiting pass targets, so of two groups of one number only the one
whose members all wait swaps. -/
def Obligations.PlaneSwaps : Prop :=
  (∀ (s : State) (at_ w : Nat), s.coreUp = true →
    ((s.maySwap w = false ∨ s.readyGroup w ≠ 0) → Machine.exec (.swapStrobe at_ w) s = .next (s.left (s.advance at_))) ∧
    (s.maySwap w = true → s.readyGroup w = 0 →
    let b := s.idlePlane w
    ∃ t, Machine.exec (.swapStrobe at_ w) s = .next t ∧ ((t.well w).plane b).st = .active ∧
      ((t.well w).plane b).rows = ((s.well w).plane b).rows ∧ (t.well w).plane (!b) = {} ∧ (t.well w).activeB = b ∧
      (t.well w).tileDone = false ∧
      t.rd (pgWell w) Reg.WELL.SWAP_COUNT = (s.rd (pgWell w) Reg.WELL.SWAP_COUNT + 1) % 2 ^ 32 ∧
      (∀ v, v ≠ w → t.well v = s.well v) ∧ State.sameBut [regAddr (pgWell w) Reg.WELL.SWAP_COUNT.off] s t)) ∧
  (∀ (s : State) (at_ g : Nat), s.coreUp = true →
    let u := s.advance at_
    let ready (ms : List Nat) : Prop := ms ≠ [] ∧ ∀ w ∈ ms, s.maySwap w = true ∧ s.readyGroup w = g
    (g = 0 → Machine.exec (.groupStrobe at_ g) s = .next (s.left u)) ∧
    ((∀ w ∈ s.wells.map (·.1), s.readyGroup w = g → ¬ready (s.groupMembers w)) → Machine.exec (.groupStrobe at_ g) s = .next (s.left u)) ∧
    (∀ v, g ≠ 0 → s.readyGroup v = g → ready (s.groupMembers v) →
      (∀ w ∈ s.wells.map (·.1), s.readyGroup w = g → ready (s.groupMembers w) → s.groupMembers w = s.groupMembers v) →
      Machine.exec (.groupStrobe at_ g) s = .next (s.left (u.each (s.groupMembers v) fun t w => t.swap w))))

/-- R124, R125: a refresh begins on an ACTIVE plane whose 40,000 symbols have passed while no load is in progress or possible, and its end
makes the plane ACTIVE again from then on and counts; in any other state nothing happens. R129: a row beyond 0.02 rad ends the lock:
LO_LOCKED clears and the worst row and its error are shown; beyond 0.05 rad the well is dark. Within 0.02 rad it is locked again, and lit
unless it was moved to another source in this tick. -/
def Obligations.RefreshAndLock : Prop :=
  (∀ (s : State) (at_ w : Nat), s.coreUp = true →
    let u := s.advance at_
    let b := (s.well w).activeB
    let pl := (s.well w).plane b
    let due := pl.st = .active ∧ s.flag (pgWell w) Reg.WELL.OPT_CTL_REFRESH_EN = true ∧ ((s.well w).plane (!b)).st ≠ .loading ∧
      pl.since + 40000 ≤ u.symbolNow w ∧ u.loadPossible w = false
    (due → Machine.exec (.refresh at_ w false) s = .next (s.left (u.onWell w fun x => x.setPlane b { pl with st := .refreshing }))) ∧
    (¬due → Machine.exec (.refresh at_ w false) s = .next (s.left u)) ∧
    (pl.st = .refreshing → Machine.exec (.refresh at_ w true) s =
      .next (s.left ((u.onWell w fun x => x.setPlane b { pl with st := .active, since := u.symbolNow w }).bump (pgWell w) Reg.WELL.REFRESH_COUNT))) ∧
    (pl.st ≠ .refreshing → Machine.exec (.refresh at_ w true) s = .next (s.left u))) ∧
  (∀ (s : State) (at_ w row err : Nat), s.coreUp = true → w < 832 → row < 256 → err < 65536 →
    let shown (t : State) (locked : Nat) := t.rd (pgWell w) Reg.WELL.LO_STAT_LO_LOCKED = locked ∧
      t.rd (pgWell w) Reg.WELL.LO_STAT_WORST_ROW = row ∧ t.rd (pgWell w) Reg.WELL.LO_STAT_WORST_ERR = err ∧ t.mem = s.mem
    (err ≤ 200 → Machine.exec (.loUnlock at_ w row err) s = .next (s.left (s.advance at_))) ∧
    (200 < err → ∃ t, Machine.exec (.loUnlock at_ w row err) s = .next t ∧ shown t 0 ∧
      (t.well w).darkLo = ((s.well w).darkLo || decide (500 < err)) ∧ (500 < err → t.wellDark w = true)) ∧
    (200 < err → Machine.exec (.loRelock at_ w row err) s = .next (s.left (s.advance at_))) ∧
    (err ≤ 200 → ∃ t, Machine.exec (.loRelock at_ w row err) s = .next t ∧ shown t 1 ∧
      (t.well w).darkLo = ((s.well w).darkLo && (s.well w).moved)))

/-- R131, R379: a completed pilot window is solved: PILOT_PHASE and PILOT_GAIN show it, an overflow of its float32 work counts a clip,
tracking moves the LO's trim, and beyond a threshold it raises PILOT_DRIFT and counts; one that cannot be solved is skipped and counted;
without a completed window nothing happens. R193 to R195: in the last tick of a window of a well that is ON with EN 1 and has counted the
window whole, the fractions are shown, 0 for one whose denominator is below 2^MIN_LOG2; one beyond its limit sets its QFIT_STAT bit,
raises QFIT and counts once; in any other tick nothing happens. -/
def Obligations.WindowsEvaluated : Prop :=
  (∀ (s : State) (at_ w : Nat), s.coreUp = true →
    ((s.well w).pilotDone = [] → Machine.exec (.pilotWindowEnd at_ w) s = .next (s.left (s.advance at_))) ∧
    ∀ (p : PilotSums) (rest : List PilotSums), (s.well w).pilotDone = p :: rest →
      let u := (s.advance at_).onWell w fun x => { x with pilotDone := rest }
      (State.pilotSolve p (s.well w).phiRef (s.well w).gRef = none →
        Machine.exec (.pilotWindowEnd at_ w) s = .next (s.left (u.bump (pgWell w) Reg.WELL.PILOT_SKIP))) ∧
      (∀ r, State.pilotSolve p (s.well w).phiRef (s.well w).gRef = some r →
        let v := ((u.wr (pgWell w) Reg.WELL.PILOT_PHASE r.1).wr (pgWell w) Reg.WELL.PILOT_GAIN r.2.1).countWell w 0 r.2.2 0 0 0
        let v := if s.flag (pgWell w) Reg.WELL.OPT_CTL_PILOT_TRACK then v.onWell w fun x => { x with loTrim := State.trackMove x.loTrim r.1 } else v
        let beyond := State.pilotExceeds r.1 r.2.1 (s.rd (pgWell w) Reg.WELL.PILOT_CTL_PHASE_THR) (s.rd (pgWell w) Reg.WELL.PILOT_CTL_GAIN_THR)
        (beyond = false → Machine.exec (.pilotWindowEnd at_ w) s = .next (s.left (v.onWellCal w fun c => { c with pilotArmed := false }))) ∧
        (beyond = true → Machine.exec (.pilotWindowEnd at_ w) s = .next (s.left (v.pilotDrift w p r.1 r.2.1)) ∧
          (v.pilotDrift w p r.1 r.2.1).rdBit (pgWell w) Reg.HDR.EVT_RAW 4 = true))) ∧
  (∀ (s : State) (at_ w : Nat), s.coreUp = true → w < 832 →
    let pg := pgWell w
    let b := s.nextTickNo
    let q := (s.well w).qfit
    let closes := s.qfitCloses w s.tick.number b = true ∧ s.isOn pg = true ∧ s.flag pg Reg.WELL.QFIT_CTL_EN = true ∧
      (s.well w).qfitWait = false ∧ (s.well w).qfitDone ≠ b
    let counted (n : Nat) : Bool := qfitEvaluated n (s.rd pg Reg.WELL.QFIT_CTL_MIN_LOG2)
    let fraction (n d : Nat) : Nat := if counted d then qfitFrac n d else 0
    let beyond (n d thr : Nat) : Bool := counted d && qfitExceeds n d thr
    let a := beyond q.clips q.samples (s.rd pg Reg.WELL.QFIT_ADC_PPM)
    let r := beyond q.req q.outputs (s.rd pg Reg.WELL.QFIT_REQ_PPM)
    let f := beyond q.ufl q.outputs (s.rd pg Reg.WELL.QFIT_UFL_PPM)
    (¬closes → Machine.exec (.qfitWindow at_ w) s = .next (s.left (s.advance at_))) ∧
    (closes → ∃ t, Machine.exec (.qfitWindow at_ w) s = .next t ∧ (t.well w).qfitDone = b ∧ t.mem = s.mem ∧
      (∀ v, v ≠ w → t.well v = s.well v) ∧
      t.rd pg Reg.WELL.QFIT_FRAC_ADC = fraction q.clips q.samples % 2 ^ Reg.WELL.QFIT_FRAC_ADC.width ∧
      t.rd pg Reg.WELL.QFIT_FRAC_REQ = fraction q.req q.outputs % 2 ^ Reg.WELL.QFIT_FRAC_REQ.width ∧
      t.rd pg Reg.WELL.QFIT_FRAC_UFL = fraction q.ufl q.outputs % 2 ^ Reg.WELL.QFIT_FRAC_UFL.width ∧
      ((a || r || f) = true → t.rdBit pg Reg.HDR.EVT_RAW 15 = true ∧ t.rd pg Reg.WELL.QFIT_STAT_ADC = b2n a ∧
        t.rd pg Reg.WELL.QFIT_STAT_REQ = b2n r ∧ t.rd pg Reg.WELL.QFIT_STAT_UFL = b2n f ∧
        t.rd pg Reg.WELL.QFIT_COUNT = satAdd Reg.WELL.QFIT_COUNT.width (s.rd pg Reg.WELL.QFIT_COUNT) 1) ∧
      ((a || r || f) = false → t.rd pg Reg.WELL.QFIT_COUNT = s.rd pg Reg.WELL.QFIT_COUNT)))

/-- R160, R162: a descriptor that is not refused enters SETUP behind the passes in progress; a refused one reports its reason and raises
PASS_REFUSED, and the ring moves on; without a descriptor that may enter nothing happens. R160, R378: PASS_RUN modulates the active tile
of a pass in RUN, which then has it behind it; with no tile ready it takes the oldest pass in SETUP on, a vector-only one with its residue
mismatch when there is one; EPILOGUE follows the last tile, with the residue mismatch found in it; while the page does not run nothing
runs. R160, R165: PASS_DONE ends the oldest pass in EPILOGUE: it leaves the well's passes, the well's event is raised, and no other well
changes; with no pass there, or the oldest in another state, nothing happens. -/
def Obligations.PassLifeCycle : Prop :=
  (∀ (s : State) (at_ w : Nat), s.coreUp = true →
    let slot := (s.passTail w + (s.well w).passes.length + (s.well w).stale) % 16
    let d := s.bytesAt (s.passKey w slot) 64
    (s.mayEnter w d = true → s.refuseReason w d = 0 → Machine.exec (.passSetup at_ w) s = .next (s.left ((s.advance at_).onWell w fun x =>
      { x with passes := x.passes ++ [{ slot := slot, desc := d, tick := s.tick.number }] }))) ∧
    (s.mayEnter w d = true → s.refuseReason w d ≠ 0 →
      Machine.exec (.passSetup at_ w) s = .next (s.left ((s.advance at_).refusePass w d (s.refuseReason w d)))) ∧
    (s.mayEnter w d = false → Machine.exec (.passSetup at_ w) s = .next (s.left (s.advance at_)))) ∧
  (∀ (s : State) (at_ w : Nat) (errs : List (List Int)) (fault : Option (Nat × Nat)), s.coreUp = true →
    let u := s.advance at_
    let runs := s.runs (pgWell w) = true
    let setup := (s.well w).passes.find? fun p => p.st = 1
    (∀ e, runs → s.readyTile w = some e → ∃ t, Machine.exec (.passRun at_ w errs fault) s = .next t ∧
      t = s.left ((u.onWell w fun x => { x with cleared := false }).runTile w e.1 e.2 errs fault) ∧ (t.well w).tileDone = true) ∧
    (∀ p, runs → s.readyTile w = none → setup = some p → (Pd.optical p.desc = true ∨ fault = none) →
      Machine.exec (.passRun at_ w errs fault) s = .next (s.left (u.promote w p))) ∧
    (∀ p f, runs → s.readyTile w = none → setup = some p → Pd.optical p.desc = false → fault = some f →
      Machine.exec (.passRun at_ w errs fault) s = .next (s.left (u.vectorOnlyFault w { p with st := 3 } f))) ∧
    ((¬runs ∨ s.readyTile w = none ∧ setup = none) → Machine.exec (.passRun at_ w errs fault) s = .next (s.left u)) ∧
    (∀ p, (s.well w).passes.find? (fun p => p.st = 2 ∧ p.tile = Pd.kt p.desc) = some p →
      (fault = none → Machine.exec (.passEpilogue at_ w fault) s = .next (s.left (u.putPass w { p with st := 3 }))) ∧
      (∀ f, fault = some f →
        let r := u.residueFail w p p.codes p.blocks p.act f.1 f.2
        Machine.exec (.passEpilogue at_ w fault) s = .next (s.left (r.1.putPass w { r.2 with st := 3 })))) ∧
    ((s.well w).passes.find? (fun p => p.st = 2 ∧ p.tile = Pd.kt p.desc) = none →
      Machine.exec (.passEpilogue at_ w fault) s = .next (s.left u))) ∧
  (∀ (s : State) (at_ w : Nat), s.coreUp = true →
    (∀ p rest, (s.well w).passes = p :: rest → p.st = 3 →
      ∃ t, Machine.exec (.passDone at_ w) s = .next t ∧ (t.well w).passes = rest ∧ t.rdBit (pgWell w) Reg.HDR.EVT_RAW 9 = true ∧
        ∀ v, v ≠ w → t.well v = s.well v) ∧
    ((∀ p ∈ (s.well w).passes.head?, p.st ≠ 3) → Machine.exec (.passDone at_ w) s = .next (s.left (s.advance at_))))

/-- R203, R204, R206, R227: a write of HEAD is taken modulo the ring size and the queue fetches; a waiting descriptor whose tick and wait
are met issues, one with nothing to move completes, and one whose tick or wait is not met waits on; a queue without a descriptor fetches.
R220: QUEUE_HALTED halts a queue whose skew was found and its partner, once none of their transfers is in flight. R221: a re-arm of a slot
that the rules refuse or that is behind a dark memory link (log entry 75), or of another generation, is rejected and counted; one that an
idle queue takes begins its descriptor; another waits in the shadow slot. -/
def Obligations.QueueCommands : Prop :=
  (∀ (s : State) (at_ path q head : Nat),
    let u := s.advance at_
    (s.pathUp path (pgPumpq q) = true → q < 4096 → Machine.exec (.headDoorbell at_ path q head) s = .next (s.left
      (((u.wr (pgPumpq q) Reg.PUMPQ.HEAD_INDEX (head % 2 ^ 16 % s.ringSize q)).fetch q).drainQueue q))) ∧
    (s.coreUp = true → s.exec? q = none → Machine.exec (.descIssue at_ q) s = .next (s.left (u.fetch q))) ∧
    (∀ e, s.coreUp = true → s.exec? q = some e →
      let may := s.qst q = 2 ∧ s.isOn (pgPumpq q) = true ∧ u.mayIssue e.desc = true
      (may → e.more = true → Machine.exec (.descIssue at_ q) s = .next (s.left (u.setQst q .issue))) ∧
      (may → e.more = false → Machine.exec (.descIssue at_ q) s = .next (s.left (u.completeExec q))) ∧
      (¬may → Machine.exec (.descIssue at_ q) s = .next (s.left u)))) ∧
  (∀ (s : State) (at_ path q slot gen : Nat),
    let u := s.advance at_
    (s.coreUp = true → Machine.exec (.queueHalted at_ q) s = .next (s.left
      (((u.haltQueue q).haltQueue (s.rd (pgPumpq q) Reg.PUMPQ.PAIR_QUEUE)).drainQueue q)) ∧
      ((s.queue q).skew = true → (s.queue q).inflight = [] → (u.haltQueue q).qst q = 5 ∧ ((u.haltQueue q).queue q).skew = false)) ∧
    (s.pathUp path (pgPumpq q) = true → q < 4096 → slot < 2 ^ 16 → gen < 256 →
      let r := u.readSlot q slot
      let idle := r.1.exec? q = none ∧ r.1.head q = r.1.tail q ∧ (r.1.queue q).skew = false
      let allowed := slot < s.ringSize q ∧ s.qst q ≠ 5 ∧ s.qst q ≠ 6 ∧ s.isOn (pgPumpq q) = true ∧ s.slotDark q slot = false
      (¬allowed → Machine.exec (.rearm at_ path q slot gen) s = .next (s.left ((u.rejectRearm q).drainQueue q))) ∧
      (allowed → r.2.1 ≠ 0 → Machine.exec (.rearm at_ path q slot gen) s = .next (s.left (((r.1.lastErr q r.2.1 slot 0).setQst q .halted).drainQueue q))) ∧
      (allowed → r.2.1 = 0 → Qd.gen r.2.2 ≠ gen → Machine.exec (.rearm at_ path q slot gen) s = .next (s.left ((r.1.rejectRearm q).drainQueue q))) ∧
      (allowed → r.2.1 = 0 → Qd.gen r.2.2 = gen → idle →
        let b := r.1.beginDesc q slot r.2.2 []
        Machine.exec (.rearm at_ path q slot gen) s = .next (s.left ((if b.2 then b.1.fetch q else b.1).drainQueue q))) ∧
      (allowed → r.2.1 = 0 → Qd.gen r.2.2 = gen → ¬idle → (r.1.queue q).shadow.isSome = true →
        Machine.exec (.rearm at_ path q slot gen) s = .next (s.left ((r.1.rejectRearm q).drainQueue q))) ∧
      (allowed → r.2.1 = 0 → Qd.gen r.2.2 = gen → ¬idle → (r.1.queue q).shadow = none →
        Machine.exec (.rearm at_ path q slot gen) s = .next (s.left ((((r.1.onQueue q fun x => { x with shadow := some (slot, r.2.2) }).wr (pgPumpq q)
          Reg.PUMPQ.REARM_STAT_SHADOW_FULL 1).fetch q).drainQueue q)))))

/-- R211, R214, R575: at TRANSFER_ISSUE every queue of the pump asks the buffers it needs, and they grant; then one queue that may issue,
of the highest PRIO among those that may, has the turn and starts its next transfer; with none nothing else happens. R208, R247, R442: an
acknowledgement takes the oldest transfer out of flight and counts it; the descriptor completes with the last one. It waits while an
answer to one of its reads, or a build that it asked for, is outstanding. -/
def Obligations.TransfersCounted : Prop :=
  (∀ (s : State) (at_ p : Nat), s.coreUp = true →
    let v := (s.advance at_).askAll ((s.pump.queues.map (·.1)).filter fun q => q / 256 == p)
    (v.arbitrate p = none → Machine.exec (.transferIssue at_ p) s = .next (s.left v)) ∧
    ∀ (q : Nat) (defs : List (Nat × Nat)), v.arbitrate p = some (q, defs) →
      let x := v.each defs fun t y => t.onQueue y.1 fun z => { z with deficit := y.2 }
      Machine.exec (.transferIssue at_ p) s =
        .next (s.left ({ x with pump := { x.pump with turn := sparsePut (fun _ => 0) x.pump.turn p (q + 1) } }.issueOne q)) ∧
      (v.issuable q).isSome = true ∧ q / 256 = p ∧
      ∀ r, r / 256 = p → (v.issuable r).isSome = true → v.rd (pgPumpq r) Reg.PUMPQ.SCHED_PRIO ≤ v.rd (pgPumpq q) Reg.PUMPQ.SCHED_PRIO) ∧
  (∀ (s : State) (at_ q : Nat) (x : Transfer) (rest : List Transfer) (e : Exec), s.coreUp = true → (s.queue q).inflight = x :: rest →
    s.exec? q = some e →
    let u := s.advance at_
    let v := u.deliverAnswers q
    let after (t : State) : State := (((t.drainQueue q).writeEmissions).releaseIngested false)
    ((s.unanswered x = true ∨ u.awaitsBuild e.desc = true) → Machine.exec (.transferComplete at_ q) s = .next (s.left (after u))) ∧
    (s.unanswered x = false → u.awaitsBuild e.desc = false →
      Machine.exec (.transferComplete at_ q) s = .next (s.left (after ((v.acknowledge q).completeIf q))) ∧
      (v.unanswered x = false → ((v.acknowledge q).queue q).inflight = rest ∧
        ((v.acknowledge q).queue q).exec.map (·.acked) = some (e.acked + 1))))

/-- R200 to R202, R216, R230, R245 to R250, R189: each data command issues the transfers of a descriptor of its own opcode, as far as
buffers and credits reach: the next transfer takes its turn at the link ports, its data moves as the opcode says, its credits are taken,
and the others follow; a descriptor that may not move anything completes with the reason; without credits, or with a descriptor of another
opcode, nothing moves. -/
def Obligations.DataCommandsMove : Prop :=
  ∀ (s : State) (at_ q : Nat), s.coreUp = true →
    let u := s.advance at_
    let v := u.askAll [q]
    ((∀ e, s.exec? q = some e → Qd.op e.desc ≠ 1) → Machine.exec (.copy at_ q) s = .next (s.left u)) ∧
    ((∀ e, s.exec? q = some e → Qd.op e.desc ≠ 2) → Machine.exec (.tile at_ q) s = .next (s.left u)) ∧
    ((∀ e, s.exec? q = some e → Qd.op e.desc ≠ 3) → Machine.exec (.multicast at_ q) s = .next (s.left u)) ∧
    ((∀ e, s.exec? q = some e → Qd.op e.desc ≠ 4) → Machine.exec (.scales at_ q) s = .next (s.left u)) ∧
    ((∀ e, s.exec? q = some e → Qd.op e.desc ≠ 5) → Machine.exec (.gather at_ q) s = .next (s.left u)) ∧
    ((∀ e, s.exec? q = some e → Qd.op e.desc ≠ 6) → Machine.exec (.scatter at_ q) s = .next (s.left u)) ∧
    ((∀ e, s.exec? q = some e → Qd.op e.desc ≠ 7) → Machine.exec (.stats at_ q) s = .next (s.left u)) ∧
    ((∀ e, s.exec? q = some e → Qd.op e.desc ≠ 8) → Machine.exec (.reduce at_ q) s = .next (s.left u)) ∧
    ∀ e, s.exec? q = some e →
      (Qd.op e.desc = 1 → v.issuable q = none → Machine.exec (.copy at_ q) s = .next (s.left v)) ∧
      (Qd.op e.desc = 2 → v.issuable q = none → Machine.exec (.tile at_ q) s = .next (s.left v)) ∧
      (Qd.op e.desc = 3 → v.issuable q = none → Machine.exec (.multicast at_ q) s = .next (s.left v)) ∧
      (Qd.op e.desc = 4 → v.issuable q = none → Machine.exec (.scales at_ q) s = .next (s.left v)) ∧
      (Qd.op e.desc = 5 → v.issuable q = none → Machine.exec (.gather at_ q) s = .next (s.left v)) ∧
      (Qd.op e.desc = 6 → v.issuable q = none → Machine.exec (.scatter at_ q) s = .next (s.left v)) ∧
      (Qd.op e.desc = 7 → v.issuable q = none → Machine.exec (.stats at_ q) s = .next (s.left v)) ∧
      (Qd.op e.desc = 8 → v.issuable q = none → Machine.exec (.reduce at_ q) s = .next (s.left v)) ∧
      ∀ n, v.issuable q = some n →
        let f := v.startFault q e
        let x := f.1.each (f.1.linkCisterns e) fun t c => t.takeTurn c (Qd.cls e.desc) (State.queueDie q)
        let failed := (f.1.onQueue q fun y => { y with exec := some { e with code := f.2 } }).completeExec q
        let moved (m : State × State.Moved) : State :=
          let started := m.2.bytes != 0 || !m.2.codes.isEmpty
          let t := m.1.onQueue q fun y => { y with exec := y.exec.map fun z => { f.1.afterMove e m.2 started with got := z.got } }
          (if started then t.startTransfer q m.2.bytes (ceilDiv (f.1.fetchBytes e) 512) m.2 else t.dropAsked q).flushOrEnd q
        (Qd.op e.desc = 1 → 3 ≤ f.2 → Machine.exec (.copy at_ q) s = .next (s.left (failed.issueAll q 1 64))) ∧
        (Qd.op e.desc = 2 → 3 ≤ f.2 → Machine.exec (.tile at_ q) s = .next (s.left (failed.issueAll q 2 64))) ∧
        (Qd.op e.desc = 3 → 3 ≤ f.2 → Machine.exec (.multicast at_ q) s = .next (s.left (failed.issueAll q 3 64))) ∧
        (Qd.op e.desc = 4 → 3 ≤ f.2 → Machine.exec (.scales at_ q) s = .next (s.left (failed.issueAll q 4 64))) ∧
        (Qd.op e.desc = 5 → 3 ≤ f.2 → Machine.exec (.gather at_ q) s = .next (s.left (failed.issueAll q 5 64))) ∧
        (Qd.op e.desc = 6 → 3 ≤ f.2 → Machine.exec (.scatter at_ q) s = .next (s.left (failed.issueAll q 6 64))) ∧
        (Qd.op e.desc = 7 → 3 ≤ f.2 → Machine.exec (.stats at_ q) s = .next (s.left (failed.issueAll q 7 64))) ∧
        (Qd.op e.desc = 8 → 3 ≤ f.2 → Machine.exec (.reduce at_ q) s = .next (s.left (failed.issueAll q 8 64))) ∧
        (Qd.op e.desc = 1 → f.2 < 3 → Machine.exec (.copy at_ q) s = .next (s.left ((moved (x.moveCopy q e)).issueAll q 1 64))) ∧
        (Qd.op e.desc = 2 → f.2 < 3 → Machine.exec (.tile at_ q) s = .next (s.left ((moved (x.moveTile q e n)).issueAll q 2 64))) ∧
        (Qd.op e.desc = 3 → f.2 < 3 → Machine.exec (.multicast at_ q) s = .next (s.left ((moved (x.moveMulticast q e)).issueAll q 3 64))) ∧
        (Qd.op e.desc = 4 → f.2 < 3 → Machine.exec (.scales at_ q) s = .next (s.left ((moved (x.moveScales q e)).issueAll q 4 64))) ∧
        (Qd.op e.desc = 5 → f.2 < 3 → Machine.exec (.gather at_ q) s = .next (s.left ((moved (x.moveItems q e)).issueAll q 5 64))) ∧
        (Qd.op e.desc = 6 → f.2 < 3 → Machine.exec (.scatter at_ q) s = .next (s.left ((moved (x.moveItems q e)).issueAll q 6 64))) ∧
        (Qd.op e.desc = 7 → f.2 < 3 → Machine.exec (.stats at_ q) s = .next (s.left ((moved (x.moveStats e.desc)).issueAll q 7 64))) ∧
        (Qd.op e.desc = 8 → f.2 < 3 → Machine.exec (.reduce at_ q) s = .next (s.left ((moved (x.moveReduce e.desc e.issued)).issueAll q 8 64)))

/-- R207: a write of a barrier's target; a barrier whose count has reached it is released at once: its generation counts and its count is
0. R165, R154, R339: CNT_CLR clears the ten counter words of a well; the tracked maximum takes the value written; a trim of an unmapped
well takes it too, of a mapped one is refused as BUSY, and of an address without a trim as BAD_ADDR. -/
def Obligations.UnitRegisterCommands : Prop :=
  (∀ (s : State) (at_ path die i target : Nat), s.pathUp path (pgWdie die) = true → die < 4 → i < 16 → target < 2 ^ 16 →
    (target = 0 ∨ s.rd (pgWdie die) Reg.WDIE.BAR_STAT_COUNT i < target →
      Machine.exec (.barCfgWrite at_ path die i target) s = .next (s.left ((s.advance at_).wr (pgWdie die) Reg.WDIE.BAR_CFG_TARGET target i))) ∧
    (0 < target → target ≤ s.rd (pgWdie die) Reg.WDIE.BAR_STAT_COUNT i →
      ∃ t, Machine.exec (.barCfgWrite at_ path die i target) s = .next t ∧ t.rd (pgWdie die) Reg.WDIE.BAR_STAT_COUNT i = 0 ∧
        t.rd (pgWdie die) Reg.WDIE.BAR_STAT_GEN i =
          (s.rd (pgWdie die) Reg.WDIE.BAR_STAT_GEN i + 1) % 2 ^ Reg.WDIE.BAR_STAT_GEN.width ∧
        State.sameBut [regAddr (pgWdie die) (Reg.WDIE.BAR_CFG_TARGET.at i), regAddr (pgWdie die) (Reg.WDIE.BAR_STAT_COUNT.at i)] s t)) ∧
  (∀ (s : State) (at_ path w c v : Nat),
    let u := s.advance at_
    (s.pathUp path (pgWell w) = true → w < 832 →
      (∃ t, Machine.exec (.cntClr at_ path w) s = .next t ∧ (∀ i, i < 10 → t.word (regAddr (pgWell w) (0x120 + 4 * i)) = 0) ∧
        State.sameBut ((List.range 10).map fun i => regAddr (pgWell w) (0x120 + 4 * i)) s t) ∧
      (∃ t, Machine.exec (.tensorMaxabsWrite at_ path w v) s = .next t ∧
        t.rd (pgWell w) Reg.WELL.TENSOR_MAXABS = v % 2 ^ Reg.WELL.TENSOR_MAXABS.width ∧
        State.sameBut [regAddr (pgWell w) Reg.WELL.TENSOR_MAXABS.off] s t)) ∧
    (s.pathUp path (pgCluster c) = true → c < 52 →
      (trimWidth (s.trimSel c).2 = none →
        Machine.exec (.trimDataWrite at_ path c v) s = .next (s.left (u.wr (pgCluster c) Reg.CLUSTER.TRIM_STAT_BAD_ADDR 1))) ∧
      ∀ n, trimWidth (s.trimSel c).2 = some n →
        ((s.logicalOf (s.trimSel c).1).isSome = true →
          Machine.exec (.trimDataWrite at_ path c v) s = .next (s.left (u.wr (pgCluster c) Reg.CLUSTER.TRIM_STAT_BUSY 1))) ∧
        (s.logicalOf (s.trimSel c).1 = none → Machine.exec (.trimDataWrite at_ path c v) s =
          .next (s.left (u.putTrim (s.trimSel c).1 (s.trimSel c).2 n (v % 2 ^ 16))))))

/-- R11, R230, R231, R237 to R243: at a link port that has light, a block of a cistern is read, with what ECC and the seal find, or
written under the incoming seal; data whose incoming CRC fails is stored withheld, and its failure is counted and given with code 7 to the
descriptors that write there; a part of a block that ECC cannot correct is not written, and those descriptors have code 8. The round robin
goes on. Without light, and at an address outside the cisterns, nothing happens. R240: the scrub of an enabled cistern reads the blocks of
its quota and debt, block after block. R252 to R256: the running command of an optimiser updates its master blocks in the row of its OP,
once, and keeps the code 4 where operands fail and 0 else; OPT_DONE ends it with that code, or with the code of a command that cannot run:
the next one moves up, the code is reported, the end is counted, raised and, where the command says so, arrives at its barrier. R247: a
build starts where a header asks for it, and its end writes the row sums and the header. -/
def Obligations.CisternCommands : Prop :=
  (∀ (s : State) (at_ cls die a ecc tid blk gen fmt : Nat) (wh dl damaged crcOk : Bool) (data : List Byte), s.coreUp = true →
    let u := s.advance at_
    let d := data.take (4096 - a % 4096)
    (∀ key c, s.resolve s.mapNow a = .mem key → unitOf key = .cistern c → s.linkLit die = true →
      let v := u.takeTurn c cls die
      (data = [] → Machine.exec (.cisternAccess at_ ⟨cls, die, a⟩ ecc damaged data tid blk gen fmt wh dl crcOk) s =
        .next (s.left (((v.eccFinds c key ecc).damage key damaged).readBlock (a / 4096 * 4096) (key / 4096 * 4096) 4096).1)) ∧
      (data ≠ [] → key / 4096 ∈ s.cist.eccBad → d.length ≠ 4096 →
        Machine.exec (.cisternAccess at_ ⟨cls, die, a⟩ ecc damaged data tid blk gen fmt wh dl crcOk) s = .next (s.left (v.failWriters a 8))) ∧
      (data ≠ [] → (key / 4096 ∉ s.cist.eccBad ∨ d.length = 4096) → crcOk = true →
        Machine.exec (.cisternAccess at_ ⟨cls, die, a⟩ ecc damaged data tid blk gen fmt wh dl crcOk) s =
          .next (s.left (v.store key d ⟨tid, blk, gen, fmt, wh, dl, false, false⟩).1)) ∧
      (data ≠ [] → (key / 4096 ∉ s.cist.eccBad ∨ d.length = 4096) → crcOk = false →
        Machine.exec (.cisternAccess at_ ⟨cls, die, a⟩ ecc damaged data tid blk gen fmt wh dl crcOk) s =
          .next (s.left ((((v.sealFailure (.cistern c) a ⟨tid, blk, gen, fmt, wh, dl, true, false⟩).failWriters a 7).store key d
            ⟨tid, blk, gen, fmt, true, dl, false, false⟩).1)))) ∧
    ((∀ key c, s.resolve s.mapNow a = .mem key → unitOf key = .cistern c → s.linkLit die = false) →
      Machine.exec (.cisternAccess at_ ⟨cls, die, a⟩ ecc damaged data tid blk gen fmt wh dl crcOk) s = .next (s.left u))) ∧
  (∀ (s : State) (at_ c a : Nat) (finds : List Nat), s.coreUp = true → c < 12 →
    let u := s.advance at_
    (s.isOn (pgCistern c) = true → s.flag (pgCistern c) Reg.CISTERN.SCRUB_EN = true →
      Machine.exec (.patrolScrub at_ c finds) s =
        .next (s.left (u.each (finds.take (s.rd (pgCistern c) Reg.CISTERN.SCRUB_DEBT + u.scrubQuota c)) fun t e => t.scrubOne c e))) ∧
    (¬(s.isOn (pgCistern c) = true ∧ s.flag (pgCistern c) Reg.CISTERN.SCRUB_EN = true) →
      Machine.exec (.patrolScrub at_ c finds) s = .next (s.left u)) ∧
    (s.optOf c = [] → Machine.exec (.sgdMomentum at_ c) s = .next (s.left u) ∧ Machine.exec (.adamw at_ c) s = .next (s.left u) ∧
      Machine.exec (.optDone at_ c) s = .next (s.left u)) ∧
    (∀ x rest, s.optOf c = x :: rest →
      let ran := u.ownWork fun v => let r := v.optBlocks c x; r.1.setOpt c ({ x with done := some (if r.2 then 4 else 0) } :: rest)
      (x.done = none → u.optErrorAt x.words = 0 → Oc.op x.words = 1 →
        Machine.exec (.sgdMomentum at_ c) s = .next (s.left ran) ∧ Machine.exec (.adamw at_ c) s = .next (s.left u)) ∧
      (x.done = none → u.optErrorAt x.words = 0 → Oc.op x.words = 2 →
        Machine.exec (.adamw at_ c) s = .next (s.left ran) ∧ Machine.exec (.sgdMomentum at_ c) s = .next (s.left u)) ∧
      (x.done ≠ none ∨ u.optErrorAt x.words ≠ 0 →
        Machine.exec (.sgdMomentum at_ c) s = .next (s.left u) ∧ Machine.exec (.adamw at_ c) s = .next (s.left u)) ∧
      (x.done = none → u.optErrorAt x.words = 0 → Machine.exec (.optDone at_ c) s = .next (s.left u)) ∧
      (∀ e, (x.done = some e ∨ x.done = none ∧ e = u.optErrorAt x.words ∧ e ≠ 0) →
        let t := (((u.setOpt c rest).wr (pgCistern c) Reg.CISTERN.OPT_STAT_ERR e).bumpWrap (pgCistern c) Reg.CISTERN.OPT_DONE).raise (pgCistern c) 8
        let v := if Oc.arrive x.words = true ∧ Oc.bar x.words < 64 then t.arriveAt (Oc.bar x.words) else t
        Machine.exec (.optDone at_ c) s = .next (s.left (if e = 0 then v else v.raise (pgCistern c) 10)))) ∧
    (u.buildAsked a = true → Machine.exec (.rowsumBuild at_ a) s =
      .next (s.left { u with cist := { s.cist with builds := addOnce a s.cist.builds } })) ∧
    (u.buildAsked a = false → Machine.exec (.rowsumBuild at_ a) s = .next (s.left u)) ∧
    (a ∈ s.cist.builds → Machine.exec (.rowsumDone at_ a) s =
      .next (s.left ((({ u with cist := { s.cist with builds := dropAll a s.cist.builds } } : State).ownWork fun v => v.buildSums a).raise
        (pgCistern (cisternOf (s.rd (pgCistern 0) Reg.CISTERN.MAP_LINEAR_GIB) (a / 2 ^ 36) (a % 2 ^ 36))) 11))) ∧
    (a ∉ s.cist.builds → Machine.exec (.rowsumDone at_ a) s = .next (s.left u)))

/-- R272 to R274, R276: LOAD from EMPTY checks the image, stays CHECKING when every check made at once passes, and refuses it with the
code of the first that fails; START from LOADED asks for the check of the next tick and notes RESUME; STOP of a running plan notes its
tick; UNLOAD of a loaded plan leaves EMPTY; a second START or STOP changes nothing; each of them in another state is refused. -/
def Obligations.ServiceCommands : Prop :=
  ∀ (s : State) (at_ path : Nat), s.pathUp path pgBOOT = true →
    let u := s.advance at_
    let t := (u.setSvc 1).readTables (s.rd pgBOOT Reg.BOOT.SVC_ADDR_LO_ADDR * 4096 + s.rd pgBOOT Reg.BOOT.SVC_ADDR_HI_ADDR * 2 ^ 32)
    (s.svcSt = 0 → Machine.exec (.svcLoad at_ path) s = .next (s.left (if t.loadReason = 0 then t else u.svcRefuse t.loadReason))) ∧
    (s.svcSt = 2 → s.plan.startAt = none → s.plan.firstTick = none →
      Machine.exec (.svcStart at_ path) s = .next (s.left { u with plan := { s.plan with
        startAt := some s.tick.number, startOff := u.tick.off
        resume := s.flag pgBOOT Reg.BOOT.SVC_CTL_RESUME && Ph.resumable s.plan.header } })) ∧
    (s.svcSt = 2 → (s.plan.startAt.isSome = true ∨ s.plan.firstTick.isSome = true) →
      Machine.exec (.svcStart at_ path) s = .next (s.left u)) ∧
    (s.svcSt = 3 → s.plan.stopAt = none → Machine.exec (.svcStop at_ path) s =
      .next (s.left { u with plan := { s.plan with stopAt := some s.tick.number, stopOff := u.tick.off } })) ∧
    (s.svcSt = 3 → s.plan.stopAt.isSome = true → Machine.exec (.svcStop at_ path) s = .next (s.left u)) ∧
    (s.svcSt = 2 → Machine.exec (.svcUnload at_ path) s = .next (s.left u.svcEmpty)) ∧
    (s.svcSt ≠ 0 → Machine.exec (.svcLoad at_ path) s = .next (s.left (u.svcRefuse 9))) ∧
    (s.svcSt ≠ 2 → Machine.exec (.svcStart at_ path) s = .next (s.left (u.svcRefuse 9))) ∧
    (s.svcSt ≠ 3 → Machine.exec (.svcStop at_ path) s = .next (s.left (u.svcRefuse 9))) ∧
    (s.svcSt ≠ 2 → Machine.exec (.svcUnload at_ path) s = .next (s.left (u.svcRefuse 9)))

/-- R265, R270, R273, R274: the checks end in LOADED with the plan's identity and wells shown; at its first tick a plan pins the tick and
every program starts at its first record, a plan without programs and requests simply running; a stopping plan is LOADED again at boundary
n + 2, with nothing of it left. None of this happens in another state of the service. R280, R287: a moon's due entry is written, with
those behind it that wait for nothing; one whose condition does not hold, or whose ring is full, waits; a sequence without a request for
SEQ_TIMEOUT ticks gives its slot back. -/
def Obligations.PlanLifeCycle : Prop :=
  (∀ (s : State) (at_ : Nat), s.coreUp = true →
    let u := s.advance at_
    let starts := s.svcSt = 2 ∧ s.plan.firstTick = some s.tick.number
    let stopped := s.svcSt = 4 ∧ ∀ n, s.plan.stopAt = some n → n + 2 ≤ s.tick.number
    (s.svcSt = 1 → ∃ t, Machine.exec (.planLoaded at_) s = .next t ∧ t.svcSt = 2 ∧
      t.rd pgBOOT Reg.BOOT.WELLS_REQ = Ph.reqWells s.plan.header % 2 ^ Reg.BOOT.WELLS_REQ.width) ∧
    (s.svcSt ≠ 1 → Machine.exec (.planLoaded at_) s = .next (s.left u)) ∧
    (starts →
      let a : State := { u with plan := { s.plan with firstTick := none, stopAt := none, stopForced := false } }
      let resumed := (List.range s.plan.programs.length).any fun i =>
        Prog.autostart (s.plan.programs.getD i []) && a.startRecord i != 0
      let b := ((a.setSvc 3).wr pgTICK Reg.TICK.STATUS_PINNED 1).wr pgBOOT Reg.BOOT.SVC_STAT_RESUMED (b2n resumed)
      let c := b.each (s.plan.programs.filter Prog.request) fun t p => t.barTarget (Prog.ingBar p / 16) (Prog.ingBar p % 16) 1
      Machine.exec (.planRunStart at_) s = .next (s.left (c.each c.programOrder fun t i => match t.firstRecord i with
        | some r => t.startInstance i r []
        | none => t).planAhead)) ∧
    (starts → s.plan.programs = [] → s.programOrder = [] → s.plan.instances = [] →
      ∃ t, Machine.exec (.planRunStart at_) s = .next t ∧ t.svcSt = 3 ∧ t.planRunning = true ∧ t.plan.firstTick = none ∧
        t.rd pgTICK Reg.TICK.STATUS_PINNED = 1 ∧ t.rd pgBOOT Reg.BOOT.SVC_STAT_RESUMED = 0 ∧ t.mem = s.mem) ∧
    (¬starts → Machine.exec (.planRunStart at_) s = .next (s.left u)) ∧
    (stopped → ∃ t, Machine.exec (.planStopDone at_) s = .next t ∧ t.svcSt = 2 ∧ t.plan.instances = [] ∧ t.plan.requests = [] ∧
      t.plan.waiting = [] ∧ t.plan.entries = [] ∧ t.plan.stopAt = none) ∧
    (¬stopped → Machine.exec (.planStopDone at_) s = .next (s.left u))) ∧
  (∀ (s : State) (at_ n prog slot : Nat), s.coreUp = true →
    let u := s.advance at_
    ((u.passWrite n).2 = true → Machine.exec (.moonPassWrite at_ n) s = .next (s.left ((u.passWrite n).1.passFlush n 16))) ∧
    ((u.passWrite n).2 = false → Machine.exec (.moonPassWrite at_ n) s = .next (s.left u)) ∧
    (∀ e w, s.plan.entries.find? (fun e => e.work.at_ == n) = some e → s.physOf n = some w →
      ((u.passWrite n).2 = true ↔ u.waitMet e.kind e.ref e.val = true ∧ u.passDepth w < 15) ∧
      ((u.passWrite n).2 = true → (u.passWrite n).1.plan.entries = s.plan.entries.erase e ∧
        (u.passWrite n).1.rd (pgWell w) Reg.WELL.PASSQ_HEAD_INDEX = (s.rd (pgWell w) Reg.WELL.PASSQ_HEAD_INDEX + 1) % 16)) ∧
    ∃ t, Machine.exec (.seqSlotTimeout at_ prog slot) s = .next t ∧ State.sameBut [] s t ∧
      ∀ x, x ∈ t.plan.seqs ↔ x ∈ s.plan.seqs ∧
        ¬(x.prog = prog ∧ x.slot = slot ∧ x.last + s.rd pgBOOT Reg.BOOT.SEQ_TIMEOUT_TICKS ≤ s.tick.number))

/-- R298: PREWARM and HANDOVER are noted for a source that is IN SERVICE, and have no effect on another. R294, R295, R308: a warming
source whose lines are on target and stable is READY, or IN SERVICE when boot warmed it; one not locked after 3 s is dark and FAILED for
good; light samples are taken source by source and well by well; a well dark for ten ticks that no forced handover has moved is asked to
be fenced with cause 6. Without its condition each of them does nothing. -/
def Obligations.LightSources : Prop :=
  (∀ (s : State) (at_ path i : Nat), s.pathUp path (pgComb i) = true → i < 6 →
    ((s.source i).cs = 3 →
      Machine.exec (.cmdPrewarm at_ path i) s = .next (s.left ((s.advance at_).onSource i fun x => { x with cmdPrewarm := true })) ∧
      Machine.exec (.cmdHandover at_ path i) s = .next (s.left ((s.advance at_).onSource i fun x => { x with cmdHandover := true }))) ∧
    ((s.source i).cs ≠ 3 → Machine.exec (.cmdPrewarm at_ path i) s = .next (s.left (s.advance at_)) ∧
      Machine.exec (.cmdHandover at_ path i) s = .next (s.left (s.advance at_)))) ∧
  (∀ (s : State) (at_ i w : Nat) (taps rx : List (Nat × List Int)), s.coreUp = true → i < 6 →
    let u := s.advance at_
    let x := s.source i
    let target := toSigned (s.rd (pgComb i) Reg.COMB.LOOP_TARGET) 16
    let stable := x.cs = 1 ∧ x.heldClear = false ∧ x.taps ≠ [] ∧ (∀ t ∈ x.taps, target - 20 ≤ t ∧ t ≤ target + 20) ∧
      max x.warmAt x.offAt + 100000000 ≤ u.ns
    let late := x.cs = 1 ∧ x.heldClear = false ∧ x.warmAt + 3000000000 ≤ u.ns
    let starved := (s.well w).darkLight = true ∧ 10 ≤ (s.well w).darkTicks ∧ (s.well w).saved = false ∧ s.lightSuspended = false ∧
      s.st (pgWell w) ≠ 4
    (stable → x.warmBoot = false → Machine.exec (.spareReady at_ i) s = .next (s.left ((u.setCs i 2).raise (pgComb i) 5))) ∧
    (stable → x.warmBoot = true →
      Machine.exec (.spareReady at_ i) s = .next (s.left ((u.setCs i 3).onSource i fun x => { x with warmBoot := false, relit := false }))) ∧
    (¬stable → Machine.exec (.spareReady at_ i) s = .next (s.left u)) ∧
    (let v := (u.darken i 7 (u.biasClr i)).onFlash fun f => { f with failed := addOnce i f.failed }
     (late → x.warmBoot = true → x.region < 4 → Machine.exec (.warmingTimeout at_ i) s =
       .next (s.left { v with light := { v.light with forceNext := addOnce x.region v.light.forceNext } })) ∧
     (late → ¬(x.warmBoot = true ∧ x.region < 4) →
       Machine.exec (.warmingTimeout at_ i) s = .next (s.left (v.onSource i fun y => { y with region := 7 }))) ∧
     i ∈ v.boot.flash.failed ∧ (v.source i).cs = 7) ∧
    (¬late → Machine.exec (.warmingTimeout at_ i) s = .next (s.left u)) ∧
    Machine.exec (.lightSample at_ taps rx) s = .next (s.left ((u.each (taps.filter fun e => decide (e.1 < 6)) fun t e => t.sampleTaps e).each
      (rx.filter fun e => decide (e.1 < 832)) fun t e => t.sampleWell e)) ∧
    (starved → Machine.exec (.darkFence at_ w) s = .next (s.left (u.askFence w 6)) ∧ ∃ e ∈ (u.askFence w 6).fault.fences, e.1 = w ∧ e.2.1 ≤ 6) ∧
    (¬starved → Machine.exec (.darkFence at_ w) s = .next (s.left u)))

/-- R315: a port's open shutter closes, counting and raising its event; a closed one of a port that is ON, while OPTOFF_N is high, is
probed and waits for its opening at the boundary; the end of a probe ends it. Without its condition each of them does nothing. R335, R336,
R318: a monitor read of a column, input or heater channel, or of a comb bias, that agrees with its code ends the run of misses; one that
does not counts as a miss, and a run that has come to FAIL_N is a failure, answered once: of a well's channel it asks for a fence with
cause 5, of a comb's bias it fails the lit source. A read of an output that is moving does nothing. -/
def Obligations.ShuttersAndMonitors : Prop :=
  (∀ (s : State) (at_ p : Nat), s.coreUp = true → p < 32 →
    let u := s.advance at_
    let may := bitAt s.light.closed p = true ∧ s.isOn (pgHport p) = true ∧ s.pins.optoffN = true
    (bitAt s.light.closed p = false → Machine.exec (.aprClose at_ p) s = .next (s.left
      ((({ u with light := { s.light with closed := setBit s.light.closed p } }).bump (pgComb 0) Reg.COMB.APR_COUNT).raise (pgComb 0) 12))) ∧
    (bitAt s.light.closed p = true → Machine.exec (.aprClose at_ p) s = .next (s.left u)) ∧
    (may → Machine.exec (.aprProbe at_ p false) s =
        .next (s.left { u with light := { s.light with probing := addOnce p s.light.probing } })) ∧
    (may → Machine.exec (.aprOpen at_ p) s = .next (s.left { u with light := { s.light with reopen := addOnce p s.light.reopen } })) ∧
    (¬may → Machine.exec (.aprProbe at_ p false) s = .next (s.left u)) ∧
    (¬may → Machine.exec (.aprOpen at_ p) s = .next (s.left u)) ∧
    Machine.exec (.aprProbe at_ p true) s = .next (s.left { u with light := { s.light with probing := dropAll p s.light.probing } })) ∧
  (∀ (s : State) (at_ bank w ch : Nat) (value m : Int), s.coreUp = true → ch < State.bankChannels bank →
    let u := s.advance at_
    let pg := pgWdie (dieOf w)
    let out := if bank = 2 then u.heaterOut w ch else u.dataOut bank w ch value
    let key := (w * 4 + bank) * 1024 + ch
    let run := sparseGet (fun _ => 0) s.conv.monRuns key
    let still := ¬(bank = 2 ∧ u.heaterMoving w ch = true)
    let runs (t : State) (n : Nat) : State := { t with conv := { t.conv with monRuns := sparsePut (fun _ => 0) t.conv.monRuns key n } }
    let missed := u.bump pg Reg.WDIE.MON_MISS
    let fails := run ≠ 16 ∧ s.rd pg Reg.WDIE.MON_CTL_FAIL_N ≤ run + 1
    (bank < 3 → w < 832 → ¬still → Machine.exec (.monitorRead at_ bank w ch value m) s = .next (s.left u)) ∧
    (bank < 3 → w < 832 → still → u.monPasses bank w (s.rd pg Reg.WDIE.MON_CTL_WIN) out m = true → Machine.exec (.monitorRead at_ bank w ch value m) s = .next (s.left (runs u 0))) ∧
    (bank < 3 → w < 832 → still → u.monPasses bank w (s.rd pg Reg.WDIE.MON_CTL_WIN) out m = false → ¬fails →
      Machine.exec (.monitorRead at_ bank w ch value m) s = .next (s.left (runs missed (min 16 (run + 1))))) ∧
    (bank < 3 → w < 832 → still → u.monPasses bank w (s.rd pg Reg.WDIE.MON_CTL_WIN) out m = false → fails →
      Machine.exec (.monitorRead at_ bank w ch value m) s = .next (s.left (((((((runs missed 16).wr pg Reg.WDIE.MON_LAST_WELL (w % 208)).wr pg
        Reg.WDIE.MON_LAST_BANK bank).wr pg Reg.WDIE.MON_LAST_CH ch).bump pg Reg.WDIE.MON_FAILS).raise pg 4).askFence w 5))) ∧
    (let n := min 15 ((s.source w).monRun + 1)
     let low := u.onSource w fun x => { x with monRun := n, monSwept := false }
     let dies := s.rd pgSYS Reg.SYS.BIAS_MON_FAIL_N ≤ n ∧ litCs (s.source w).cs = true
     let agrees := u.monPasses 3 w (s.rd pgSYS Reg.SYS.BIAS_MON_WIN) (u.biasOut w) m
     (bank = 3 → w < 6 → u.biasMoving w = true → Machine.exec (.monitorRead at_ bank w ch value m) s = .next (s.left u)) ∧
     (bank = 3 → w < 6 → u.biasMoving w = false → agrees = true →
       Machine.exec (.monitorRead at_ bank w ch value m) s = .next (s.left (u.onSource w fun x => { x with monRun := 0, monSwept := true }))) ∧
     (bank = 3 → w < 6 → u.biasMoving w = false → agrees = false → dies → Machine.exec (.monitorRead at_ bank w ch value m) s = .next (s.left (low.sourceFail w 0 0))) ∧
     (bank = 3 → w < 6 → u.biasMoving w = false → agrees = false → ¬dies → Machine.exec (.monitorRead at_ bank w ch value m) s = .next (s.left low))))

/-- R344, R345, R351, R367: while no plan runs a reference check shows the three deviations and its result, and raises the event of a
result 2, 3 or 4, the last of which enters SAFE; WELL_NOW, LANE_NOW and COMB_NOW make the selected recalibration due, a selection outside
the wells or sources nothing. R351, R354, R357, R403: a well becomes eligible EARLY before its interval ends, for its recalibration and
for its field test; a mapped well past its due time by OVERDUE is overdue, counted and reported once; the pool of a well that waits for
its stand-in is copied. Before its time, or without such a stand-in, each of them does nothing. -/
def Obligations.CalibrationDemands : Prop :=
  (∀ (s : State) (at_ path : Nat) (fault : Bool) (iref hspan mon : Int), s.pathUp path pgCAL = true →
    let u := s.advance at_
    let r := State.refResult fault [iref, hspan, mon]
    (s.planRunning = true → Machine.exec (.refcheck at_ path fault iref hspan mon) s = .next (s.left u)) ∧
    (s.planRunning = false → ∃ t, Machine.exec (.refcheck at_ path fault iref hspan mon) s = .next t ∧
      t.rd pgCAL Reg.CAL.REF_DEV_IREF = ofSigned iref 32 ∧ t.rd pgCAL Reg.CAL.REF_DEV_HSPAN = ofSigned hspan 32 ∧
      t.rd pgCAL Reg.CAL.REF_DEV_MON = ofSigned mon 32 ∧ t.rd pgCAL Reg.CAL.REF_STAT_RESULT = r ∧
      (2 ≤ r → t.rdBit pgCAL Reg.HDR.EVT_RAW (r + 2) = true) ∧ (r = 4 → t.rd pgSYS Reg.SYS.MODULE_STATE_MS = 4)) ∧
    (s.rd pgCAL Reg.CAL.WSEL_WELL < 832 → Machine.exec (.wellNow at_ path) s =
      .next (s.left (u.onWellCal (s.rd pgCAL Reg.CAL.WSEL_WELL) fun c => { c with dueNow := true }))) ∧
    (832 ≤ s.rd pgCAL Reg.CAL.WSEL_WELL → Machine.exec (.wellNow at_ path) s = .next (s.left u)) ∧
    Machine.exec (.laneNow at_ path) s =
      .next (s.left (u.onLaneCal (s.rd pgCAL Reg.CAL.LSEL_PORT) (s.rd pgCAL Reg.CAL.LSEL_LANE) fun c => { c with now := true })) ∧
    (s.rd pgCAL Reg.CAL.CSEL_SOURCE < 6 → Machine.exec (.combNow at_ path) s =
      .next (s.left (u.onCombCal (s.rd pgCAL Reg.CAL.CSEL_SOURCE) fun c => { c with now := true }))) ∧
    (6 ≤ s.rd pgCAL Reg.CAL.CSEL_SOURCE → Machine.exec (.combNow at_ path) s = .next (s.left u))) ∧
  (∀ (s : State) (at_ w : Nat), s.coreUp = true → w < 832 →
    let u := s.advance at_
    let eligible := (s.wellCal w).tick + s.calTicks Reg.CAL.INTERVAL_MS ≤ s.tick.number + s.calTicks Reg.CAL.EARLY_MS
    let overdue := (s.logicalOf w).isSome = true ∧ (s.wellCal w).overdue = false ∧ s.calDue w + s.calTicks Reg.CAL.OVERDUE_MS < s.tick.number
    let testable := (s.ftRec w).tick + s.ftTicks Reg.TEST.FT_INTERVAL_S ≤ s.tick.number + s.ftTicks Reg.TEST.FT_EARLY_S
    let waiting := s.cal.standins.find? fun y => y.orig == w && !y.begun && !y.copied
    (eligible → Machine.exec (.calEligible at_ w) s = .next (s.left (u.onWellCal w fun c => { c with eligible := true }))) ∧
    (¬eligible → Machine.exec (.calEligible at_ w) s = .next (s.left u)) ∧
    (overdue → Machine.exec (.calOverdue at_ w) s =
        .next (s.left (((u.onWellCal w fun c => { c with overdue := true }).bump pgCAL Reg.CAL.OVERDUE_COUNT).raise pgCAL 10))) ∧
    (¬overdue → Machine.exec (.calOverdue at_ w) s = .next (s.left u)) ∧
    (∀ x, waiting = some x →
      ∃ t, Machine.exec (.poolCopyDone at_ w) s = .next t ∧ t.mem = (u.copyPool x.orig x.relief).mem ∧
        t.cal.standins = s.cal.standins.map fun y => if y == x then { y with copied := true } else y) ∧
    (waiting = none → Machine.exec (.poolCopyDone at_ w) s = .next (s.left u)) ∧
    (testable → Machine.exec (.ftEligible at_ w) s = .next (s.left (u.onFt w fun f => { f with eligible := true }))) ∧
    (¬testable → Machine.exec (.ftEligible at_ w) s = .next (s.left u)))

/-- R302, R347, R348, R363 to R365, R367: a measurement pass ends at its instant, once a moved well is locked; the first is kept, and each
later one is tested against the one before: agreement with strong rows ends the sequence with the means of the two, weak rows fail it,
disagreement repeats it, and a fourth disagreement fails it. A lane whose turn it is leaves the stripe set to be calibrated; its new
values are taken as it is released where each is within its limits and the margin kept, else rejected. A comb recalibration that is due is
staged, corrections and frequency trims, an implausible line with its old values, rejected and counted. -/
def Obligations.CalibrationSteps : Prop :=
  ∀ (s : State) (at_ w p k i : Nat) (ps : CalPass) (lines : List (Int × Int × Int)) (values : List Int) (mo mn : Nat), s.coreUp = true →
    let u := s.advance at_
    let seq := s.cal.seqs.find? fun y => y.well == w && y.result == 0
    (seq = none → Machine.exec (.calMeasurePass at_ w ps) s = .next (s.left u)) ∧
    (∀ q, seq = some q →
      let ends := q.start + passEndNs (q.passes + 1) ≤ u.ns ∧
        ((s.well w).moved = false ∨ s.flag (pgWell w) Reg.WELL.LO_STAT_LO_LOCKED = true)
      let v := u.onWellCal w fun c => { c with retries := q.retries }
      let next := { q with
        passes := q.passes + 1, gains := ps.gains, phases := ps.phases, sigma := ps.sigma, trims := ps.trims, heat := ps.heat, phi := ps.phi, g := ps.g }
      let agree := passesAgree q.gains ps.gains q.phases ps.phases
      let weak := v.weakRows w q.gains ps.gains (State.meanTrims q.trims ps.trims)
      let failed := v.putSeq { next with result := 2 }
      (¬ends → Machine.exec (.calMeasurePass at_ w ps) s = .next (s.left u)) ∧
      (ends → q.passes = 0 → Machine.exec (.calMeasurePass at_ w ps) s = .next (s.left (v.putSeq next))) ∧
      (ends → q.passes ≠ 0 → agree = true → weak = [] → ∃ r : CalSeq, Machine.exec (.calMeasurePass at_ w ps) s = .next (s.left (v.putSeq r)) ∧
        r.well = q.well ∧ r.result = 1 ∧ r.passes = q.passes + 1 ∧ r.phi = State.meanF32 q.phi ps.phi ∧ r.g = State.meanF32 q.g ps.g ∧
        r.trims = State.meanTrims q.trims ps.trims ∧ r.heat = State.meanHeat q.heat ps.heat) ∧
      (ends → q.passes ≠ 0 → agree = true → weak ≠ [] →
        Machine.exec (.calMeasurePass at_ w ps) s = .next (s.left ((v.putSeq { next with result := 2, weak := weak }).weakFence w weak q.forReturn))) ∧
      (ends → q.passes ≠ 0 → agree = false → q.retries < 3 →
        Machine.exec (.calMeasurePass at_ w ps) s = .next (s.left ((((v.putSeq { next with retries := q.retries + 1 }).onWellCal w fun c =>
          { c with retries := q.retries + 1 }).bump pgCAL Reg.CAL.WELL_RETRIES).raise pgCAL 7))) ∧
      (ends → q.passes ≠ 0 → agree = false → 3 ≤ q.retries → q.forReturn = true →
        Machine.exec (.calMeasurePass at_ w ps) s = .next (s.left (((failed.onFt w fun f => { f with weakReturn := false }).bump pgCAL Reg.CAL.DRIFT_FENCES).raise pgCAL 8))) ∧
      (ends → q.passes ≠ 0 → agree = false → 3 ≤ q.retries → q.forReturn = false →
        Machine.exec (.calMeasurePass at_ w ps) s = .next (s.left (failed.driftFence w s.fault.seq)))) ∧
    (let may := p < 32 ∧ s.isOn pgCAL = true ∧ s.flag pgCAL Reg.CAL.ENABLES_LANE = true ∧ 4 ≤ s.rd (pgHport p) Reg.HPORT.LINK_STAT_LANES ∧
       ∀ j, j < 16 → (s.laneCal p j).out = false
     (∀ k, may → u.laneTurn p = some k → Machine.exec (.laneRecal at_ p) s = .next (s.left (((u.passTurn p k).onLaneCal p k fun c =>
        { c with out := true, now := false, last := s.tick.number }).onPort p fun x => { x with drops := addOnce k x.drops }))) ∧
     (¬(may ∧ (u.laneTurn p).isSome = true) → Machine.exec (.laneRecal at_ p) s = .next (s.left u))) ∧
    (let good := State.laneWithin p k values = true ∧ 9 * mo ≤ 10 * mn
     let t := u.onPort p fun x => { x with trained := addOnce k x.trained }
     let v := ((t.onLaneCal p k fun c => { c with
        out := false, consec := min 255 ((s.laneCal p k).consec + 1), rejects := satAdd 16 c.rejects 1 }).bump pgCAL Reg.CAL.LANE_REJECTS).raise pgCAL 11
     ((s.laneCal p k).out = false → Machine.exec (.laneCalResult at_ p k values mo mn) s = .next (s.left u)) ∧
     ((s.laneCal p k).out = true → good →
       Machine.exec (.laneCalResult at_ p k values mo mn) s = .next (s.left (t.onLaneCal p k fun c => { c with out := false, measured := true, consec := 0, values := values }))) ∧
     ((s.laneCal p k).out = true → ¬good → (s.laneCal p k).consec ≠ 2 → Machine.exec (.laneCalResult at_ p k values mo mn) s = .next (s.left v)) ∧
     ((s.laneCal p k).out = true → ¬good → (s.laneCal p k).consec = 2 → Machine.exec (.laneCalResult at_ p k values mo mn) s = .next (s.left (v.raise pgCAL 12)))) ∧
    (let c := s.combCal i
     let due := i < 6 ∧ s.isOn pgCAL = true ∧ s.flag pgCAL Reg.CAL.ENABLES_COMB = true ∧ litCs (s.source i).cs = true ∧
       (s.source i).cs ≠ 4 ∧ (s.source i).cs ≠ 5 ∧
       (c.now = true ∨ c.last + s.calTicks Reg.CAL.COMB_INTERVAL_MS ≤ s.tick.number) ∧ lines.length = 16
     let ok (e : (Int × Int × Int) × Nat) : Bool := State.linePlausible (c.corr.getD e.2 0) (lines.map (·.2.1)) e.2 e.1.1 e.1.2.2
     (due → ∃ t, Machine.exec (.combRecal at_ i lines) s = .next t ∧ (t.combCal i).now = false ∧ (t.combCal i).last = s.tick.number ∧
        (t.combCal i).staged = lines.zipIdx.map (fun e => if ok e then e.1.1 else c.corr.getD e.2 0) ∧
        (t.combCal i).stagedFreq = lines.zipIdx.map (fun e => c.freq.getD e.2 0 + if ok e then e.1.2.2 else 0) ∧
        ((∀ e ∈ lines.zipIdx, ok e = true) → (t.combCal i).linesRej = 0 ∧ State.sameBut [] s t) ∧
        ((∃ e ∈ lines.zipIdx, ok e = false) → t.rdBit pgCAL Reg.HDR.EVT_RAW 13 = true ∧
          t.rd pgCAL Reg.CAL.COMB_REJECTS =
            satAdd Reg.CAL.COMB_REJECTS.width (s.rd pgCAL Reg.CAL.COMB_REJECTS) (lines.zipIdx.filter fun e => !ok e).length)) ∧
     (¬due → Machine.exec (.combRecal at_ i lines) s = .next (s.left u)))

/-- R382, R406: the repeat of a captured failure runs once, counts, and ends its session: passed or permanent; without a repeat session
and a capture that waits for it nothing happens. R404, R405, R410: a session ends 1.92 ms after its start: before that, or with none in
progress, nothing happens. Then the reference runs of the cross-checks of its die count where local patterns are enabled, the well's
record shows the tick and the outcome, and the session passes, or fails at its step. -/
def Obligations.FieldTests : Prop :=
  (∀ (s : State) (at_ w : Nat) (errs : List (List Int)) (residue : Bool), s.coreUp = true →
    let capture := s.integ.captures.find? fun c => c.well == w && c.state == 1
    let u := ((s.advance at_).bump pgINTEG Reg.INTEG.REPEATS).wr (pgWell w) Reg.WELL.REPEAT_STAT_ST 0
    (∀ x c, s.sessionOn w [3] = some x → capture = some c → Machine.exec (.repeatRun at_ w errs residue) s = .next (s.left
      ((if u.repeatFails w c errs residue then u.repeatPermanent w c else u.repeatPasses w c).endSession x (!u.repeatFails w c errs residue)))) ∧
    ((s.sessionOn w [3] = none ∨ capture = none) → Machine.exec (.repeatRun at_ w errs residue) s = .next (s.left (s.advance at_)))) ∧
  (∀ (s : State) (at_ w : Nat) (r : SessionRun), s.coreUp = true →
    let u := s.advance at_
    (s.sessionOn w [1, 2] = none → Machine.exec (.fieldTestSession at_ w r) s = .next (s.left u)) ∧
    ∀ x, s.sessionOn w [1, 2] = some x →
      (u.ns < x.start + 1920000 → Machine.exec (.fieldTestSession at_ w r) s = .next (s.left u)) ∧
      (x.start + 1920000 ≤ u.ns →
        let v := if s.flag pgTEST Reg.TEST.FT_CTL_LOCAL_EN then u.crossCheck w r.reference else u
        let n := State.fleetCount x.package
        let shown (last : Nat) : State := (v.onFt w fun f => { f with
          tick := v.tick.number, count := satAdd 32 f.count 1, host := v.hostNow, last := last
          nextFleet := if x.kind = 1 ∧ v.flag pgTEST Reg.TEST.FT_CTL_FLEET_EN ∧ n ≠ 0 then (f.nextFleet + min r.fleetRun 256) % n
            else f.nextFleet }).bump pgTEST Reg.TEST.FT_SESSIONS
        (v.sessionFailure x r = none → Machine.exec (.fieldTestSession at_ w r) s = .next (s.left ((shown 1).sessionPasses x))) ∧
        ∀ e, v.sessionFailure x r = some e → Machine.exec (.fieldTestSession at_ w r) s = .next (s.left ((shown (e.1 + 1)).sessionFails x e.1 e.2))))

/-- R401, R408, R421, R423: TEST_NOW and RETURN_NOW note their demand for the selected well, the latter of a fenced well that may still
return; FLEET_LOAD accepts or refuses a package while the TEST page is ON; REC_POP takes the oldest record off the ring and shows page 0
of the next. Without its condition each of them does nothing. R408: a package written becomes active at a boundary while the TEST page is
ON: flash keeps it, its version shows, and FLEET_ACTIVE is raised; without one, within a tick, or while the page is not ON, nothing
happens. -/
def Obligations.TestCommands : Prop :=
  (∀ (s : State) (at_ path : Nat), s.pathUp path pgTEST = true →
    let u := s.advance at_
    let w := s.rd pgTEST Reg.TEST.WSEL_WELL
    let a := s.rd pgTEST Reg.TEST.FLEET_ADDR_LO_ADDR * 4096 + s.rd pgTEST Reg.TEST.FLEET_ADDR_HI_ADDR * 2 ^ 32
    let returns := w < 832 ∧ s.returnable w = true ∧ (s.ftRec w).returns < s.rd pgTEST Reg.TEST.FT_CTL_RET_MAX ∧ s.st (pgWell w) = 4
    (w < 832 → Machine.exec (.testNow at_ path) s = .next (s.left (u.onFt w fun f => { f with dueNow := true }))) ∧
    (832 ≤ w → Machine.exec (.testNow at_ path) s = .next (s.left u)) ∧
    (returns → Machine.exec (.returnNow at_ path) s = .next (s.left (u.onFt w fun f => { f with returnDemand := true }))) ∧
    (¬returns → Machine.exec (.returnNow at_ path) s = .next (s.left u)) ∧
    (s.isOn pgTEST = true → ∃ t, Machine.exec (.fleetLoad at_ path) s = .next t ∧
      t.rd pgTEST Reg.TEST.FLEET_STAT_REASON = (s.fleetReason a).1 % 2 ^ Reg.TEST.FLEET_STAT_REASON.width ∧
      t.rd pgTEST Reg.TEST.FLEET_STAT_ST = (if (s.fleetReason a).1 = 0 then 1 else 3) ∧
      t.fault.fleetNext = (if (s.fleetReason a).1 = 0 then (s.fleetReason a).2 else s.fault.fleetNext)) ∧
    (s.isOn pgTEST = false → Machine.exec (.fleetLoad at_ path) s = .next (s.left u)) ∧
    (∀ x rest, s.fault.ring = x :: rest → ∃ t, Machine.exec (.recPop at_ path) s = .next t ∧ t.fault.ring = rest ∧
      t.rd pgTEST Reg.TEST.REC_PAGE_PAGE = 0 ∧ t.mem = s.mem) ∧
    (s.fault.ring = [] → Machine.exec (.recPop at_ path) s = .next (s.left u))) ∧
  (∀ (s : State) (at_ : Nat), s.coreUp = true →
    ((s.advance at_).tick.off = 0 → s.fault.fleetNext ≠ [] → s.isOn pgTEST = true →
      ∃ t, Machine.exec (.fleetActive at_) s = .next t ∧ t.boot.flash.fleet = s.fault.fleetNext ∧ t.fault.fleetNext = [] ∧
        t.rd pgTEST Reg.TEST.FLEET_STAT_ST = 2 ∧ t.rdBit pgTEST Reg.HDR.EVT_RAW 7 = true ∧
        t.rd pgTEST Reg.TEST.FLEET_VERSION = fieldOf s.fault.fleetNext 8 4 % 2 ^ Reg.TEST.FLEET_VERSION.width) ∧
    (((s.advance at_).tick.off ≠ 0 ∨ s.fault.fleetNext = [] ∨ s.isOn pgTEST = false) →
      Machine.exec (.fleetActive at_) s = .next (s.left (s.advance at_))))

/-- R417, R418: a missed watchdog or a lockstep mismatch of a die's pair is an edge of its safety input and is remembered with its tick,
and a second one of the die within 1,000 ticks enters SAFE; a miss of the service planets holds safety input 128 and enters SAFE; a
monitor mismatch, and a service miss that lasts 1 s, reset the module with cause WATCHDOG. -/
def Obligations.SafetyReactions : Prop :=
  ∀ (s : State) (at_ die : Nat), s.coreUp = true → die < 4 →
    let u := s.advance at_
    Machine.exec (.watchdogMiss at_ die) s = .next (s.left (u.dieEvent die (133 + die))) ∧
    Machine.exec (.lockstepMismatch at_ die) s = .next (s.left (u.dieEvent die (129 + die))) ∧
    (∀ n, let t := s.left (u.dieEvent die n)
      (97, n) ∈ t.evt.edges ∧ (die, s.tick.number) ∈ t.fault.dieEvents ∧
        ((∃ e ∈ s.fault.dieEvents, e.1 = die ∧ s.tick.number < e.2 + 1000) → t.rd pgSYS Reg.SYS.MODULE_STATE_MS = 4)) ∧
    (s.fault.svcMiss = none → ∃ t, Machine.exec (.watchdogMiss at_ 4) s = .next t ∧ t.rd pgSYS Reg.SYS.MODULE_STATE_MS = 4 ∧
      t.fault.safeHard = true ∧ t.fault.svcMiss = some u.ns ∧ t.pins.faultN = false) ∧
    (s.fault.svcMiss.isSome = true → Machine.exec (.watchdogMiss at_ 4) s = .next (s.left u)) ∧
    Machine.exec (.monitorMismatch at_) s = .next (s.left (u.resetState causeWatchdog)) ∧
    (∀ t0, s.fault.svcMiss = some t0 →
      (t0 + 1000000000 ≤ u.ns → Machine.exec (.serviceWatchdogReset at_) s = .next (s.left (u.resetState causeWatchdog))) ∧
      (u.ns < t0 + 1000000000 → Machine.exec (.serviceWatchdogReset at_) s = .next (s.left u))) ∧
    (s.fault.svcMiss = none → Machine.exec (.serviceWatchdogReset at_) s = .next (s.left u))

/-- R522, R534, R535, R561: every reset leaves a held module in the reset state with its cause, with flash, pins and waiting commands kept
and FAULT_N low; an image that was being written leaves its slot without a whole image. RESET_N in a reset under way only moves the pin,
PWRGD that is high does not rise, and the thermal reset waits for 10 s of cool sensors in a shutdown. -/
def Obligations.ResetsHold : Prop :=
  ∀ (s : State) (at_ : Nat),
    let u := s.advance at_
    let flash := (if s.boot.writing.isSome then s.onSlot (1 - s.boot.flash.active) fun x => { x with ok := false } else s).boot.flash
    let after (cause : Nat) (p : PinUnit) : State := { State.reset with
      regs := [(0x05C, BitVec.ofNat 32 (2 ^ cause))], pins := { p with faultN := false }, boot := { flash := flash, held := true },
      pending := s.pending, free := s.free }
    let cool := s.therm.shutdown = true ∧ ∃ t0, s.therm.coolSince = some t0 ∧ t0 + 10000000000 ≤ u.ns
    (s.pins.pwrgd = false → Machine.exec (.powerOn at_) s = .next (s.left (after 0 { s.pins with pwrgd := true }))) ∧
    (s.pins.pwrgd = true → Machine.exec (.powerOn at_) s = .next (s.left u)) ∧
    Machine.exec (.pwrgdFall at_) s = .next (s.left (after 0 { s.pins with pwrgd := false })) ∧
    Machine.exec (.brownOut at_) s = .next (s.left (after 0 { s.pins with pwrgd := false })) ∧
    (s.pins.pwrgd = true → s.boot.held = false →
      Machine.exec (.resetNAssert at_) s = .next (s.left (after 1 { s.pins with resetN := false }))) ∧
    ((s.pins.pwrgd = false ∨ s.boot.held = true) →
      Machine.exec (.resetNAssert at_) s = .next (s.left { u with pins := { s.pins with resetN := false } })) ∧
    (s.boot.held = false → cool → Machine.exec (.thermalReset at_) s = .next (s.left (after 4 s.pins))) ∧
    (s.boot.held = false → ¬cool → Machine.exec (.thermalReset at_) s = .next (s.left u))

/-- R30, R328, R542, R543: the release of reset with power good begins tick 0 and the boot sequence, counts the boot in flash, samples the
straps, and puts clear codes in force while CLR_N is low; with a PUF that fails, the boot ROM is left in RECOVERY. Without power good, or
when the module runs already, nothing happens. R545: boot ends: PHASE is DONE, the keys are ready, BOOT_DONE is raised, and the module is
READY, or DEGRADED without a relief well; a module in SAFE stays there. A boot that may not end yet goes on. R546: a boot not ended 45 s
after the release of reset raises BOOT_LATE once, and resets the module when it is a trial; before that, and again, nothing happens. -/
def Obligations.BootLifeCycle : Prop :=
  (∀ (s : State) (at_ straps a b ca cb : Nat) (puf rows src ref : Bool) (i h m : Int),
    let may := s.pins.pwrgd = true ∧ (s.boot.begun = false ∨ s.boot.held = true)
    let c := Instr.resetRelease at_ straps puf a b ca cb rows src ref i h m
    (may → ∃ t, Machine.exec c s = .next t ∧ t.boot.begun = true ∧ t.boot.held = false ∧ t.tick.number = 0 ∧ t.tick.off = 0 ∧
      t.pins.addrSel = straps % 8 ∧ t.pins.resetN = true ∧ t.boot.flash.bootCount = (s.boot.flash.bootCount + 1) % 2 ^ 32 ∧
      (puf = false → t.rd pgBOOT Reg.BOOT.BOOT_STAT_PHASE = 5)) ∧
    (¬may → Machine.exec c s = .next (s.left (s.advance at_)))) ∧
  (∀ (s : State) (at_ : Nat), s.coreUp = true →
    ((s.advance at_).mayEndBoot = true →
      ∃ t, Machine.exec (.bootDone at_) s = .next t ∧ t.boot.ended = true ∧ t.rd pgBOOT Reg.BOOT.BOOT_STAT_PHASE = 4 ∧
        t.rd pgSEC Reg.SEC.SEC_STAT_KEYS_READY = 1 ∧ t.rdBit pgBOOT Reg.HDR.EVT_RAW 4 = true ∧
        (s.rd pgSYS Reg.SYS.MODULE_STATE_MS ≠ 4 →
          t.rd pgSYS Reg.SYS.MODULE_STATE_MS = 2 ∨ t.rd pgSYS Reg.SYS.MODULE_STATE_MS = 3)) ∧
    ((s.advance at_).mayEndBoot = false → Machine.exec (.bootDone at_) s = .next (s.left (s.advance at_)))) ∧
  (∀ (s : State) (at_ : Nat), s.coreUp = true →
    let late := s.boot.begun = true ∧ s.boot.ended = false ∧ s.boot.late = false ∧ 45000000000 ≤ (s.advance at_).ns
    let u : State := ({ s.advance at_ with boot := { s.boot with late := true } }).raise pgBOOT 6
    (late → s.flag pgBOOT Reg.BOOT.BOOT_STAT_TRIAL = false → Machine.exec (.bootLate at_) s = .next (s.left u)) ∧
    (late → s.flag pgBOOT Reg.BOOT.BOOT_STAT_TRIAL = true → Machine.exec (.bootLate at_) s = .next (s.left (u.resetState causeWatchdog))) ∧
    (¬late → Machine.exec (.bootLate at_) s = .next (s.left (s.advance at_))))

/-- R543, R547, R548, R555: a firmware update is taken when its image is good, none is being written and no trial runs, and else refused
with the first reason that holds; its end makes the other slot the trial, or leaves that slot without a whole image; COMMIT makes the
running trial ACTIVE and raises MIN_SVN when the image asks; SAVE_CFG keeps FABRIC_AUTO. In RECOVERY a good image goes to slot A and the
module resets, and the other commands do nothing. -/
def Obligations.FirmwareUpdate : Prop :=
  ∀ (s : State) (at_ path : Nat) (img : List Byte), s.pathUp path pgBOOT = true → s.therm.shutdown = false →
    let u := s.advance at_
    let phase := s.rd pgBOOT Reg.BOOT.BOOT_STAT_PHASE
    let r := s.imageReason s.updAddr false
    let why := if r.1 ≠ 0 then r.1 else if s.boot.writing.isSome then 6 else if s.trialRunning then 7 else 0
    let q := s.imageReason s.updAddr true
    let recovered := if q.1 = 0 then ((u.onSlot 0 fun _ => State.slotOf q.2).onFlash fun f => { f with active := 0 }).resetState causeSoft
      else u.rejectUpdate q.1
    (phase ≠ 5 → Machine.exec (.bootUpdate at_ path) s = .next (s.left (if why = 0 then (({ u with boot :=
        { s.boot with writing := some r.2 } }).wr pgBOOT Reg.BOOT.UPD_STAT_ST 2).wr pgBOOT Reg.BOOT.UPD_STAT_REASON 0 else u.rejectUpdate why))) ∧
    (s.boot.writing = some img →
      (∃ t, Machine.exec (.updateDone at_ true) s = .next t ∧ t.boot.writing = none ∧
        t.boot.flash.trial = some (1 - s.boot.flash.active) ∧ t.slot (1 - s.boot.flash.active) = State.slotOf img ∧
        t.rd pgBOOT Reg.BOOT.UPD_STAT_ST = 3) ∧
      (∃ t, Machine.exec (.updateDone at_ false) s = .next t ∧ t.boot.writing = none ∧ (t.slot (1 - s.boot.flash.active)).ok = false)) ∧
    (s.boot.writing = none → ∀ ok, Machine.exec (.updateDone at_ ok) s = .next (s.left u)) ∧
    (phase ≠ 5 → s.trialRunning = true →
      ∃ t, Machine.exec (.bootCommit at_ path) s = .next t ∧ t.boot.flash.active = s.rd pgBOOT Reg.BOOT.BOOT_STAT_SLOT ∧
        let x := s.slot (s.rd pgBOOT Reg.BOOT.BOOT_STAT_SLOT)
        t.boot.flash.minSvn = (if x.raiseSvn then max s.boot.flash.minSvn x.svn else s.boot.flash.minSvn)) ∧
    (phase ≠ 5 → s.trialRunning = false → Machine.exec (.bootCommit at_ path) s = .next (s.left u)) ∧
    (phase ≠ 5 → Machine.exec (.saveCfg at_ path) s =
      .next (s.left (u.onFlash fun f => { f with fabricAuto := s.flag pgBOOT Reg.BOOT.CFG_FABRIC_AUTO }))) ∧
    (phase = 5 → Machine.exec (.recoveryUpdate at_ path) s = .next (s.left recovered)) ∧
    (phase = 5 → Machine.exec (.bootUpdate at_ path) s = .next (s.left recovered)) ∧
    (phase = 5 → Machine.exec (.bootCommit at_ path) s = .next (s.left u)) ∧
    (phase = 5 → Machine.exec (.saveCfg at_ path) s = .next (s.left u)) ∧
    (phase ≠ 5 → Machine.exec (.recoveryUpdate at_ path) s = .next (s.left u))

/-- R552, R553: a good evidence request is taken with its nonce, and the signed record is placed with its length; one outside the free hub
SRAM, without its magic, or with a bad nonce is refused with reason 1, one while another waits with reason 2, and one before the keys are
ready with reason 3. Without a nonce no record is placed. R554: an owner request is refused by its first failing reason and then changes
no key: 1 for its place or form, 2 for the signature of the owner in force, 3 for its sequence, 4 while a plan runs; accepted, it leaves
the owner key and sequence of the record in flash, or no owner. -/
def Obligations.SecurityRequests : Prop :=
  (∀ (s : State) (at_ path : Nat) (n : List Byte), s.pathUp path pgSEC = true → s.therm.shutdown = false →
    (let q := s.peek s.reqAddr 72
     let k := fieldOf q 4 1
     let good := State.inFreeHub s.reqAddr 72 = true ∧ fieldOf q 0 4 = 0x51414247 ∧ 0 < k ∧ k ≤ 64 ∧ zeroAt q (8 + k) (64 - k) = true
     let refused (t : State) (why : Nat) : Prop := t.rd pgSEC Reg.SEC.EV_STAT_REASON = why ∧
       t.rd pgSEC Reg.SEC.EV_STAT_ST = 3 ∧ t.rdBit pgSEC Reg.HDR.EVT_RAW 5 = true ∧ t.boot = s.boot
     (¬good → ∃ t, Machine.exec (.evidence at_ path) s = .next t ∧ refused t 1) ∧
     (good → s.boot.nonce.isSome = true → ∃ t, Machine.exec (.evidence at_ path) s = .next t ∧ refused t 2) ∧
     (good → s.boot.nonce = none → s.flag pgSEC Reg.SEC.SEC_STAT_KEYS_READY = false →
       ∃ t, Machine.exec (.evidence at_ path) s = .next t ∧ refused t 3) ∧
     (good → s.boot.nonce = none → s.flag pgSEC Reg.SEC.SEC_STAT_KEYS_READY = true →
      ∃ t, Machine.exec (.evidence at_ path) s = .next t ∧ t.boot.nonce = some ((q.drop 8).take k) ∧ t.rd pgSEC Reg.SEC.EV_STAT_ST = 1 ∧
        t.rd pgSEC Reg.SEC.EV_STAT_REASON = 0 ∧ t.boot.flash = s.boot.flash)) ∧
    (s.boot.nonce = none → Machine.exec (.evidenceReady at_) s = .next (s.left (s.advance at_))) ∧
    (s.boot.nonce = some n → ∃ t, Machine.exec (.evidenceReady at_) s = .next t ∧ t.boot.nonce = none ∧
      t.rd pgSEC Reg.SEC.EV_STAT_ST = 2 ∧ t.rd pgSEC Reg.SEC.EV_LEN = t.boot.evidence.length % 2 ^ Reg.SEC.EV_LEN.width ∧
      t.boot.flash = s.boot.flash)) ∧
  (∀ (s : State) (at_ path : Nat), s.pathUp path pgSEC = true →
    let r := s.peek s.reqAddr (452 + sigBytes)
    let op := fieldOf r 4 1
    let form := State.inFreeHub s.reqAddr (452 + sigBytes) = true ∧ fieldOf r 0 4 = 0x4B4F4247 ∧ (op = 1 ∨ op = 2)
    let signed := s.boot.flash.ownerKey = [] ∨ sigOk s.boot.flash.ownerKey (Config.sha384 (r.take 452)) (r.drop 452) = true
    let newer := s.boot.flash.ownerSeq < fieldOf r 8 4
    let refused (t : State) (why : Nat) : Prop := t.rd pgSEC Reg.SEC.OWN_STAT_REASON = why ∧ t.rd pgSEC Reg.SEC.OWN_STAT_ST = 3 ∧ t.boot = s.boot
    (¬form → ∃ t, Machine.exec (.owner at_ path) s = .next t ∧ refused t 1) ∧
    (form → ¬signed → ∃ t, Machine.exec (.owner at_ path) s = .next t ∧ refused t 2) ∧
    (form → signed → ¬newer → ∃ t, Machine.exec (.owner at_ path) s = .next t ∧ refused t 3) ∧
    (form → signed → newer → s.planRunning = true → ∃ t, Machine.exec (.owner at_ path) s = .next t ∧ refused t 4) ∧
    (form → signed → newer → s.planRunning = false →
      ∃ t, Machine.exec (.owner at_ path) s = .next t ∧
        t.boot.flash.ownerKey = (if op = 1 then (r.drop 16).take pairBytes else []) ∧
        t.boot.flash.ownerSeq = fieldOf r 8 4 ∧ t.rd pgSEC Reg.SEC.OWN_STAT_ST = 2 ∧ t.rd pgSEC Reg.SEC.SEC_STAT_OWNER = b2n (op == 1)))

/-- R24, R29, R30, R34: on the internal counter or the fabric the boundary falls where the tick's length ends, and not before; while
TICK_IN is missed it falls there too, and twice the length less 10 ns ends an acquisition's tick. TICK_OUT rises with each. R30, R31: the
new tick takes the next number, and the offset counts from the boundary on. -/
def Obligations.BoundariesFall : Prop :=
  (∀ (s : State) (at_ : Nat), s.boot.held = false →
    let u := s.advance at_
    let missed := s.tick.src = 1 ∧ s.tick.acquiring = false ∧ s.tick.len ≤ u.tick.off
    let lost := s.tick.src = 1 ∧ s.tick.acquiring = true ∧ 2 * s.tick.len - 10 ≤ u.tick.off
    (s.tick.src ≠ 1 → s.tick.len ≤ u.tick.off →
      Machine.exec (.tickBoundary at_) s = .next (s.left ((u.boundaryAt s.tick.len).riseTickOut 0))) ∧
    ((s.tick.src = 1 ∨ u.tick.off < s.tick.len) → Machine.exec (.tickBoundary at_) s = .next (s.left u)) ∧
    (missed →
      let v := (u.boundaryAt s.tick.len).riseTickOut 0
      Machine.exec (.tickInMissing at_) s = .next (s.left
        (if v.tick.src = 1 ∧ v.tick.acquiring = false then ({ v with tick := { v.tick with accepted := 0 } }).holdover else v))) ∧
    (¬missed → Machine.exec (.tickInMissing at_) s = .next (s.left u)) ∧
    (lost →
      let v := (u.boundaryAt (2 * s.tick.len - 10)).riseTickOut 0
      Machine.exec (.acquireTimeout at_) s = .next (s.left
        (if v.tick.src = 1 ∧ v.tick.acquiring = true ∧ v.tick.acqLost = false
          then ({ v with tick := { v.tick with acqLost := true } }).holdover else v))) ∧
    (¬lost → Machine.exec (.acquireTimeout at_) s = .next (s.left u))) ∧
  (∀ (s : State) (b : Nat), s.tick.syncNumber = none →
    (s.newTick b).tick.number = s.tick.number + 1 ∧ (s.newTick b).tick.off = s.tick.off - b ∧
    (b ≤ s.tick.off → (s.newTick b).ns = s.ns) ∧ (s.newTick b).mem = s.mem)

/-- R24, R98, R573: an edge of TICK_IN is a boundary only when it rises within the window: 1,000 ns either side of the period while
tracking, and from the period on while acquiring; a falling edge only changes the pin. An edge exactly at twice the period less 10 ns into
an acquiring tick is not accepted: the model's choice (log entry 44). R562: the loss of REFCLK is noted and raised, and holds the internal
source over; its return is noted, and counts from the next boundary. -/
def Obligations.TickInEdges : Prop :=
  (∀ (s : State) (at_ : Nat), s.boot.held = false →
    let u := s.advance at_
    let edge (level : Bool) : State := ({ u with pins := { s.pins with tickIn := level } }).pinEdge Reg.EVT.FILT_TICK_SENSE 6 level
    let e := u.tick.off - s.edgeDelay
    let accepted := s.tick.src = 1 ∧ s.edgeDelay ≤ u.tick.off ∧ (s.tick.acquiring = false → s.tick.len - 1000 ≤ e ∧ e ≤ s.tick.len + 1000) ∧
      (s.tick.acquiring = true → s.tick.len ≤ e ∧ e ≤ 2 * s.tick.len - 11)
    Machine.exec (.tickInEdge at_ false) s = .next (s.left (edge false)) ∧
    (accepted → Machine.exec (.tickInEdge at_ true) s = .next (s.left ((edge true).acceptEdge e))) ∧
    (¬accepted → Machine.exec (.tickInEdge at_ true) s = .next (s.left (edge true)))) ∧
  (∀ (s : State) (at_ : Nat), s.boot.held = false →
    (s.pins.refclk = true → s.tick.src ≠ 0 → Machine.exec (.refclkLost at_) s =
      .next (s.left (({ s.advance at_ with pins := { s.pins with refclk := false } }).raise pgSYS 10))) ∧
    (s.pins.refclk = true → s.tick.src = 0 → Machine.exec (.refclkLost at_) s =
      .next (s.left (({ s.advance at_ with pins := { s.pins with refclk := false } }).raise pgSYS 10).holdover)) ∧
    (s.pins.refclk = false → Machine.exec (.refclkLost at_) s = .next (s.left (s.advance at_))) ∧
    Machine.exec (.refclkRestore at_) s = .next (s.left { s.advance at_ with pins := { s.pins with refclk := true } }))

/-- R75, R136, R235, R318, R468, R494: the report of a start is counted for a page in STARTING that is ready for it and within its limit,
and the report of a failure for one whose limit has been reached; the report of a drain for a page in STOPPING that is drained, which
empties the planes of a well; they take effect at the next boundary. A failure reported of a block that starts, runs or stops, is no
well's, and has not reached its limit, is its block fault: the model's choice (log entry 50). -/
def Obligations.PageReports : Prop :=
  ∀ (s : State) (at_ pg : Nat), s.coreUp = true →
    let u := s.advance at_
    let ready := s.st pg = 1 ∧ u.mayStart pg = true ∧ ∀ l, State.startLimit pg = some l → u.startAge pg ≤ l
    let late := s.st pg = 1 ∧ u.startLate pg = true
    let fault := 1 ≤ s.st pg ∧ s.st pg ≤ 3 ∧ ∃ k, pageKind pg = some k ∧ k.alwaysOn = false ∧ k ≠ .well
    (ready → Machine.exec (.startSequenceDone at_ pg) s =
      .next (s.left { u with txn := { s.txn with startDone := addOnce pg s.txn.startDone } })) ∧
    (¬ready → Machine.exec (.startSequenceDone at_ pg) s = .next (s.left u)) ∧
    (late → Machine.exec (.startSequenceFail at_ pg) s =
      .next (s.left { u with txn := { s.txn with startFail := addOnce pg s.txn.startFail } })) ∧
    (¬late → fault → Machine.exec (.startSequenceFail at_ pg) s =
      .next (s.left { u with txn := { s.txn with blockFault := addOnce pg s.txn.blockFault } })) ∧
    (¬late → ¬fault → Machine.exec (.startSequenceFail at_ pg) s = .next (s.left u)) ∧
    (s.st pg = 3 → u.drained pg = true → (∀ w, w < 832 → pg ≠ pgWell w) → Machine.exec (.drainDone at_ pg) s =
      .next (s.left { u with txn := { s.txn with drainDone := addOnce pg s.txn.drainDone } })) ∧
    (∀ w, w < 832 → s.st (pgWell w) = 3 → u.drained (pgWell w) = true → let v := u.emptyPlanes w
      Machine.exec (.drainDone at_ (pgWell w)) s =
        .next (s.left { v with txn := { v.txn with drainDone := addOnce (pgWell w) v.txn.drainDone } })) ∧
    ((s.st pg ≠ 3 ∨ u.drained pg = false) → Machine.exec (.drainDone at_ pg) s = .next (s.left u))

/-- R515, R516, R520: the ladder rises by one level after RISE above THROTTLE and falls by one after RELAX below it; a group that has been
calm for 10 ms leaves the fast rate; a broken sensor without a fault for 1 s is whole again. Before its time each of them does nothing.
R515, R522, R527: a sample of one sensor is held with it, and one below CRIT_C ends its run of critical samples and starts no shutdown; a
sample of the rails shows each rail and the power. -/
def Obligations.TemperatureAndPower : Prop :=
  (∀ (s : State) (at_ g i : Nat), s.coreUp = true → g ≤ 16 →
    let u := s.advance at_
    let rises := ∃ t0, (s.group g).above = some t0 ∧ t0 + s.rd pgTHERM Reg.THERM.THR_CTL_RISE_10US * 10000 ≤ u.ns
    let falls := ∃ t0, (s.group g).below = some t0 ∧ t0 + s.rd pgTHERM Reg.THERM.THR_CTL_RELAX_MS * 1000000 ≤ u.ns
    let calm := (s.group g).fast = true ∧ (s.group g).fastAt + 10000000 ≤ u.ns
    let whole := (s.sensor i).broken = true ∧ ∃ t0, (s.sensor i).cleanSince = some t0 ∧ t0 + 1000000000 ≤ u.ns
    (rises → Machine.exec (.throttleRise at_ g) s =
      .next (s.left (u.onGroup g fun x => { x with level := min s.maxLevel (x.level + 1), above := some u.ns }).raiseLevels)) ∧
    (¬rises → Machine.exec (.throttleRise at_ g) s = .next (s.left u)) ∧
    (falls → Machine.exec (.throttleRelax at_ g) s =
      .next (s.left (u.onGroup g fun x => { x with level := x.level - 1, below := some u.ns }))) ∧
    (¬falls → Machine.exec (.throttleRelax at_ g) s = .next (s.left u)) ∧
    (calm → ∃ t, Machine.exec (.fastRateEnd at_ g) s = .next t ∧ (t.group g).fast = false ∧ t.mem = s.mem) ∧
    (¬calm → Machine.exec (.fastRateEnd at_ g) s = .next (s.left u)) ∧
    (whole → ∃ t, Machine.exec (.sensorRestored at_ i) s = .next t ∧ (t.sensor i).broken = false ∧ (t.sensor i).cause = 0) ∧
    (¬whole → Machine.exec (.sensorRestored at_ i) s = .next (s.left u))) ∧
  (∀ (s : State) (at_ i rail : Nat) (v : Int) (rails : List (Nat × Nat)) (combs : List Nat), s.boot.held = false →
    let u := s.advance at_
    (s.coreUp = true → i < 2560 → ∃ t, Machine.exec (.sensorSample at_ [(i, rail, v)]) s = .next t ∧ (t.sensor i).t = v ∧
      (t.sensor i).seen = true ∧
      (v < s.rd pgTHERM Reg.THERM.LIMITS_CRIT_C * 100 → (t.sensor i).crit = 0 ∧ t.therm.shutdown = false)) ∧
    Machine.exec (.railSample at_ rails combs) s = .next (s.left (((u.each (rails.take 7).zipIdx fun t e => t.railOne e.2 e.1.1 e.1.2).each
      (combs.take 6).zipIdx fun t e => t.wr (pgComb e.2) Reg.COMB.POWER_W e.1).powerSample
        (((rails.take 7).map fun e => e.1 * e.2).foldl (· + ·) 0))))

/-- R433 to R438, R453, R459: a message command acts only where its operation arrives over a running port with its link up; a bad CRC is
counted and asks for the frame again, a frame out of sequence and a message over a link that is not UP go no further. -/
def Obligations.MessageReception : Prop :=
  ∀ (s : State) (at_ p arrival residence n e period : Nat) (h : LinkHdr) (m : Msg) (a : Announce) (joins : List (Nat × Nat))
    (leaves : List Nat), s.coreUp = true →
    let u := s.advance at_
    let v := u.handled p h
    ∀ c ∈ ([(1, .holadeWrite at_ p h m), (2, .readReq at_ p h m), (3, .readResp at_ p h m), (4, .reduceAdd at_ p h m),
        (5, .result at_ p h m), (6, .digestContribution at_ p h m), (6, .digestResult at_ p h m), (7, .bcast at_ p h m),
        (8, .tickSyncAnnounce at_ p h m arrival), (8, .delayReq at_ p h m residence), (8, .delayResp at_ p h m),
        (9, .memberAnnounce at_ p h m a), (9, .memberJoin at_ p h m), (9, .memberTable at_ p h m), (9, .memberLeave at_ p h m),
        (9, .memberEpoch at_ p h m n e period joins leaves), (10, .stopRx at_ p h m), (10, .fenceRx at_ p h m),
        (10, .resumeRx at_ p h m)] : List (Nat × Instr)),
      (u.runs (pgHport p) = false ∨ u.linkState p < 2 ∨ m.op ≠ c.1 → Machine.exec c.2 s = .next (s.left u)) ∧
      (u.runs (pgHport p) = true → 2 ≤ u.linkState p → m.op = c.1 → h.crcOk = false → p < 32 →
        ∃ t, Machine.exec c.2 s = .next t ∧
          t.rd (pgHport p) Reg.HPORT.CRC_FAILS = satAdd 32 (u.rd (pgHport p) Reg.HPORT.CRC_FAILS) 1 ∧
          (t.port p).nakD = (decide (h.space = 0) || (u.port p).nakD) ∧ (t.port p).nakC = (decide (h.space = 1) || (u.port p).nakC)) ∧
      (u.runs (pgHport p) = true → 2 ≤ u.linkState p → m.op = c.1 → h.crcOk = true →
        ((u.applyHdr p h).inSequence p h).2 = false ∨ v.linkState p ≠ 2 ∧ ¬(m.op = 9 ∧ m.subop = 1) →
        Machine.exec c.2 s = .next (s.left v))

/-- R443, R442: a write for this module is stored under the message's seal, and a request to read is answered with the bytes and the seal
read, or withheld zeroes where peers may not reach; a response is written where its read asked, marked as it came. R434, R451, R458, R459:
a data or control message for another module goes on by its route, one hop less to live; one of an epoch that is not accepted is counted
and discarded; data from a fenced module does nothing. -/
def Obligations.PeerMessages : Prop :=
  (∀ (s : State) (at_ p : Nat) (h : LinkHdr) (m : Msg), s.coreUp = true →
    let u := s.advance at_
    let v := u.handled p h
    let k := min m.operand 4096
    (u.arrives p h m 1 = true → v.accepts m = true → State.peerForbidden m.addr m.payload.length = false →
      Machine.exec (.holadeWrite at_ p h m) s = .next (s.left (v.write v.mapNow m.addr m.payload fun _ => msgSeal m).1)) ∧
    (u.arrives p h m 1 = true → v.accepts m = true → State.peerForbidden m.addr m.payload.length = true →
      Machine.exec (.holadeWrite at_ p h m) s = .next (s.left v)) ∧
    (u.arrives p h m 2 = true → v.accepts m = true → State.peerForbidden m.addr k = false → v.inMemory v.mapNow m.addr k = true →
      let r := v.read v.mapNow m.addr k
      Machine.exec (.readReq at_ p h m) s = .next (s.left (r.1.reply p m { r.1.newMsg 3 0 m.cls m.src with
        addr := m.addr, tag := m.tag, payload := r.2.bytes, tid := r.2.tid, blk := r.2.blk, fmt := r.2.fmt, withheld := r.2.withheld
        delayed := r.2.delayed, last := true, gen := v.tick.number % 256 }))) ∧
    (u.arrives p h m 2 = true → v.accepts m = true → State.peerForbidden m.addr k = true ∨ v.inMemory v.mapNow m.addr k = false →
      Machine.exec (.readReq at_ p h m) s = .next (s.left (v.reply p m { v.newMsg 3 0 m.cls m.src with
        addr := m.addr, tag := m.tag, payload := List.replicate k 0, tid := 0, blk := 0, fmt := 0, withheld := true
        delayed := false, last := true, gen := 0 }))) ∧
    (u.arrives p h m 3 = true → v.accepts m = true → (v.fabric.reads.find? fun r => r.tag == m.tag) = none →
      Machine.exec (.readResp at_ p h m) s = .next (s.left v)) ∧
    (∀ x, u.arrives p h m 3 = true → v.accepts m = true → (v.fabric.reads.find? fun r => r.tag == m.tag) = some x →
      let f := { v with fabric := { v.fabric with reads := v.fabric.reads.erase x } }
      let a := Qd.dst x.desc + x.off
      let sl (b : Nat) : Seal :=
        { f.genSeal (Qd.tid x.desc) (Qd.blk0 x.desc) (Qd.dst x.desc) m.fmt (m.withheld || f.badStep x.desc) b with
          delayed := f.delayedWork x.desc }
      let code (fault : Bool) (o : Nat) : Nat := if fault then 8 else if m.withheld && o == 1 then 2 else o
      (f.inMemory f.mapNow a x.len = true →
        let w := f.write f.mapNow a (m.payload.take x.len) sl
        Machine.exec (.readResp at_ p h m) s = .next (s.left (w.1.onQueue x.queue fun q =>
          { q with exec := q.exec.map fun d => { d with code := code w.2 d.code } }))) ∧
      (f.inMemory f.mapNow a x.len = false →
        Machine.exec (.readResp at_ p h m) s = .next (s.left (f.onQueue x.queue fun q =>
          { q with exec := q.exec.map fun d =>
              { d with got := d.got ++ [(m.tag, a, m.payload.take x.len, m.withheld, m.fmt)], code := code false d.code } }))))) ∧
  (∀ (s : State) (at_ p : Nat) (h : LinkHdr) (m : Msg), s.coreUp = true →
    let u := s.advance at_
    let v := u.handled p h
    ∀ c ∈ ([(1, .holadeWrite at_ p h m), (2, .readReq at_ p h m), (3, .readResp at_ p h m), (4, .reduceAdd at_ p h m),
        (5, .result at_ p h m), (6, .digestContribution at_ p h m), (6, .digestResult at_ p h m), (7, .bcast at_ p h m),
        (10, .stopRx at_ p h m), (10, .fenceRx at_ p h m), (10, .resumeRx at_ p h m)] : List (Nat × Instr)),
      u.arrives p h m c.1 = true →
      (m.dst ≠ 0xFFFF → m.dst ≠ v.ownRank →
        (m.ttl ≤ 1 → Machine.exec c.2 s = .next (s.left (v.bump (pgHport p) Reg.HPORT.STALE_EPOCH))) ∧
        (1 < m.ttl → Machine.exec c.2 s = .next (s.left (v.routeMsg p { m with ttl := m.ttl - 1 })))) ∧
      (m.dst = 0xFFFF ∨ m.dst = v.ownRank →
        (v.epochOk m = false → Machine.exec c.2 s = .next (s.left (v.bump (pgHport p) Reg.HPORT.STALE_EPOCH))) ∧
        (v.epochOk m = true → m.isData = true → v.fabric.fences.contains m.src = true → Machine.exec c.2 s = .next (s.left v))))

/-- R36, R442, R447, R449, R393: a collective message acts on the collective of its tick, its tag and its sender: contributions, digests,
results and broadcasts are kept with it, by block and by sender, and a shard whose blocks and digest list are all there is checked. One of
an earlier tick is late and counted, one of a later tick waits for it, and one that no collective expects is counted and discarded. R393:
the digest that comes with a shard's results is held against the results, against the sum of the digests it lists, and against this
module's own contribution, in that order, once the last of its blocks and that list are there; a shard out of range is not checked, and
one that fails a check is counted, recorded and marked WITHHELD. Each list is checked once. -/
def Obligations.CollectiveMessages : Prop :=
  (∀ (s : State) (at_ p : Nat) (h : LinkHdr) (m : Msg), s.coreUp = true →
    let u := s.advance at_
    let v := u.handled p h
    let b := m.addr / 4096
    let early : State := { v with fabric := { v.fabric with early := v.fabric.early ++ [(p, m)] } }
    let found (op ahead : Nat) := v.plan.collsRunning.find? fun x => Ce.dst (v.collEntry x) == m.tag && Ce.op (v.collEntry x) == op &&
      x.tick + ahead == m.stamp.tick && Ce.id (v.collEntry x) == m.collId && Ce.nelem (v.collEntry x) == m.nelem && x.ranks.contains (some m.src)
    let sender (x : Coll) : Nat := x.ranks.findIdx (· == some m.src)
    let inside (x : Coll) : Prop := b < Ce.blocks (v.collEntry x)
    let kept (x : Coll) : Coll := { x with results := (x.results.filter fun y => y.1 != b) ++ [(b, padTo 4096 m.payload, collMarked m)] }
    let listed (x : Coll) : Coll := { x with
      listed := addOnce (sender x) x.listed, lists := (x.lists.filter fun y => y.1 != sender x) ++ [(sender x, p, m.payload)] }
    v.accepts m = true →
    (u.arrives p h m 4 = true → m.stamp.tick < v.tick.number → Machine.exec (.reduceAdd at_ p h m) s = .next (s.left (v.lateMsg p))) ∧
    (u.arrives p h m 4 = true → v.tick.number < m.stamp.tick → Machine.exec (.reduceAdd at_ p h m) s = .next (s.left early)) ∧
    (u.arrives p h m 4 = true → m.stamp.tick = v.tick.number → found 1 0 = none → Machine.exec (.reduceAdd at_ p h m) s = .next (s.left (v.stale p))) ∧
    (u.arrives p h m 5 = true → m.stamp.tick < v.tick.number → Machine.exec (.result at_ p h m) s = .next (s.left (v.lateMsg p))) ∧
    (u.arrives p h m 5 = true → v.tick.number < m.stamp.tick → Machine.exec (.result at_ p h m) s = .next (s.left early)) ∧
    (u.arrives p h m 5 = true → m.stamp.tick = v.tick.number → found 1 1 = none → Machine.exec (.result at_ p h m) s = .next (s.left (v.stale p))) ∧
    (u.arrives p h m 6 = true → m.subop = 0 → m.stamp.tick < v.tick.number → Machine.exec (.digestContribution at_ p h m) s = .next (s.left (v.lateMsg p))) ∧
    (u.arrives p h m 6 = true → m.subop = 0 → v.tick.number < m.stamp.tick → Machine.exec (.digestContribution at_ p h m) s = .next (s.left early)) ∧
    (u.arrives p h m 6 = true → m.subop = 0 → m.stamp.tick = v.tick.number → found 1 0 = none → Machine.exec (.digestContribution at_ p h m) s = .next (s.left (v.stale p))) ∧
    (u.arrives p h m 6 = true → m.subop = 1 → m.stamp.tick < v.tick.number → Machine.exec (.digestResult at_ p h m) s = .next (s.left (v.lateMsg p))) ∧
    (u.arrives p h m 6 = true → m.subop = 1 → v.tick.number < m.stamp.tick → Machine.exec (.digestResult at_ p h m) s = .next (s.left early)) ∧
    (u.arrives p h m 6 = true → m.subop = 1 → m.stamp.tick = v.tick.number → found 1 1 = none → Machine.exec (.digestResult at_ p h m) s = .next (s.left (v.stale p))) ∧
    (u.arrives p h m 7 = true → State.peerForbidden m.addr 1 = false → m.stamp.tick < v.tick.number → Machine.exec (.bcast at_ p h m) s = .next (s.left (v.lateMsg p))) ∧
    (u.arrives p h m 7 = true → State.peerForbidden m.addr 1 = false → v.tick.number < m.stamp.tick → Machine.exec (.bcast at_ p h m) s = .next (s.left early)) ∧
    (u.arrives p h m 7 = true → State.peerForbidden m.addr 1 = false → m.stamp.tick = v.tick.number → found 2 0 = none → Machine.exec (.bcast at_ p h m) s = .next (s.left (v.stale p))) ∧
    (u.arrives p h m 6 = true → m.subop ≠ 0 → Machine.exec (.digestContribution at_ p h m) s = .next (s.left v)) ∧
    (u.arrives p h m 6 = true → m.subop ≠ 1 → Machine.exec (.digestResult at_ p h m) s = .next (s.left v)) ∧
    (u.arrives p h m 7 = true → State.peerForbidden m.addr 1 = true → Machine.exec (.bcast at_ p h m) s = .next (s.left v)) ∧
    ∀ x, m.stamp.tick = v.tick.number →
      (u.arrives p h m 4 = true → found 1 0 = some x → ¬(State.reducer x b = x.own ∧ inside x) → Machine.exec (.reduceAdd at_ p h m) s = .next (s.left (v.stale p))) ∧
      (u.arrives p h m 4 = true → found 1 0 = some x → State.reducer x b = x.own → inside x → Machine.exec (.reduceAdd at_ p h m) s = .next (s.left (v.putColl { x with
        cls := m.cls
        parts := (x.parts.filter fun y => !(y.1 == sender x && y.2.1 == b)) ++ [(sender x, b, padTo 4096 m.payload, collMarked m)] }))) ∧
      (u.arrives p h m 5 = true → found 1 1 = some x → ¬(State.reducer x b = sender x ∧ inside x) → Machine.exec (.result at_ p h m) s = .next (s.left (v.stale p))) ∧
      (u.arrives p h m 5 = true → found 1 1 = some x → State.reducer x b = sender x → inside x → Machine.exec (.result at_ p h m) s = .next (s.left (((v.putColl (kept x)).writeDst
        (v.collEntry x) b (padTo 4096 m.payload) { msgSeal m with withheld := collMarked m }).checkShard (kept x) (sender x)))) ∧
      (u.arrives p h m 6 = true → m.subop = 0 → found 1 0 = some x → Machine.exec (.digestContribution at_ p h m) s = .next (s.left (v.putColl { x with
        digests := (x.digests.filter fun y => y.1 != sender x) ++ [(sender x, m.operand % 2 ^ 64)] }))) ∧
      (u.arrives p h m 6 = true → m.subop = 1 → found 1 1 = some x →
        Machine.exec (.digestResult at_ p h m) s = .next (s.left ((v.putColl (listed x)).checkShard (listed x) (sender x)))) ∧
      (u.arrives p h m 7 = true → State.peerForbidden m.addr 1 = false → found 2 0 = some x → sender x ≠ 0 → Machine.exec (.bcast at_ p h m) s = .next (s.left (v.stale p))) ∧
      (u.arrives p h m 7 = true → State.peerForbidden m.addr 1 = false → found 2 0 = some x → sender x = 0 →
        Machine.exec (.bcast at_ p h m) s = .next (s.left ((v.putColl { x with
          results := (x.results.filter fun y => y.1 != b) ++ [(b, m.payload, m.withheld)] }).writeDst (v.collEntry x) b m.payload (msgSeal m))))) ∧
  (∀ (s : State) (x : Coll) (g p : Nat) (payload : List Byte), (x.lists.find? fun y => y.1 == g) = some (g, p, payload) →
    let e := s.collEntry x
    let blocks := (List.range (Ce.blocks e)).filter fun b => State.reducer x b == g
    let got := blocks.filterMap fun b => x.results.find? fun y => y.1 == b
    let sum := (got.map fun y => digestBlock (s.collSeed x) y.1 y.2.1).foldl (· + ·) 0 % digestP
    let claimed := fieldOf payload 0 8
    let listed := (List.range x.ranks.length).map fun k => fieldOf payload (8 + 8 * k) 8
    let rest : Coll := { x with lists := x.lists.filter fun y => y.1 != g }
    let w := s.putColl rest
    let fails (n : Nat) : State := (w.digestFail p n (Ce.id e)).markDst e blocks false
    (got.length < blocks.length → s.checkShard x g = s) ∧
    (got.length = blocks.length → got.any (fun y => blockOvf y.2.1) = true → s.checkShard x g = w) ∧
    (got.length = blocks.length → got.any (fun y => blockOvf y.2.1) = false →
      (sum ≠ claimed → s.checkShard x g = fails 1) ∧
      (sum = claimed → listed.foldl (· + ·) 0 % digestP ≠ claimed % digestP → s.checkShard x g = fails 2) ∧
      (sum = claimed → listed.foldl (· + ·) 0 % digestP = claimed % digestP →
        (listed.getD x.own 0 ≠ sparseGet (fun _ => 0) x.ownDigest g → s.checkShard x g = fails 3) ∧
        (listed.getD x.own 0 = sparseGet (fun _ => 0) x.ownDigest g → s.checkShard x g = w))) ∧
    (∀ n t, t = w.digestFail p n (Ce.id e) → t.rd pgINTEG Reg.INTEG.DIGEST_FAILS =
        satAdd Reg.INTEG.DIGEST_FAILS.width (s.rd pgINTEG Reg.INTEG.DIGEST_FAILS) 1 ∧ t.rdBit pgINTEG Reg.HDR.EVT_RAW 9 = true) ∧
    (rest.lists.find? fun y => y.1 == g) = none)

/-- R450, R451: a newer STOP, FENCE or RESUME from a module sets, completes or takes from the classes it stops; an older one, and a
message of another kind than the command's, does nothing. R446, R450, R451, R456: the control register sends a numbered control message, a
FENCE besides fences the rank; GROUP_RELOAD waits for the boundary; LEAVE of the grandmaster is noted for its next epoch, that of another
member goes to the grandmaster, and a module that is no member does nothing. -/
def Obligations.FabricControl : Prop :=
  (∀ (s : State) (at_ p : Nat) (h : LinkHdr) (m : Msg), s.coreUp = true → (s.advance at_).arrives p h m 10 = true →
    let v := (s.advance at_).handled p h
    v.accepts m = true →
    let old := sparseGet (fun _ => 0) v.fabric.stops m.src
    let mask := bits m.operand 32 3
    let taken (t : State) (stops : Nat) : Prop :=
      sparseGet (fun _ => 0) t.fabric.seen m.src = m.operand % 2 ^ 32 ∧ sparseGet (fun _ => 0) t.fabric.stops m.src = stops
    (m.subop ≠ 1 ∨ v.newerControl m = false → Machine.exec (.stopRx at_ p h m) s = .next (s.left v)) ∧
    (m.subop ≠ 2 ∨ v.newerControl m = false → Machine.exec (.fenceRx at_ p h m) s = .next (s.left v)) ∧
    (m.subop ≠ 3 ∨ v.newerControl m = false → Machine.exec (.resumeRx at_ p h m) s = .next (s.left v)) ∧
    (m.subop = 1 → v.newerControl m = true → ∃ t, Machine.exec (.stopRx at_ p h m) s = .next t ∧ taken t (old ||| mask)) ∧
    (m.subop = 2 → v.newerControl m = true → ∃ t, Machine.exec (.fenceRx at_ p h m) s = .next t ∧ taken t 7) ∧
    (m.subop = 3 → v.newerControl m = true → ∃ t, Machine.exec (.resumeRx at_ p h m) s = .next t ∧ taken t (old - (old &&& mask)))) ∧
  (∀ (s : State) (at_ path mask rank : Nat), s.pathUp path (pgHport 0) = true → mask < 8 → rank < 2 ^ 16 →
    let u := s.advance at_
    Machine.exec (.ctrlSendStop at_ path mask rank) s = .next (s.left (u.ctrlSend 1 mask rank)) ∧
    Machine.exec (.ctrlSendFence at_ path mask rank) s = .next (s.left (u.ctrlSend 2 mask rank)) ∧
    Machine.exec (.ctrlSendResume at_ path mask rank) s = .next (s.left (u.ctrlSend 3 mask rank)) ∧
    (∀ op, 1 ≤ op → op ≤ 3 → (u.ctrlSend op mask rank).fabric.cseq = s.fabric.cseq + 1) ∧
    rank ∈ (u.ctrlSend 2 mask rank).fabric.fences ∧
    Machine.exec (.groupReload at_ path) s = .next (s.left { u with fabric := { s.fabric with reload := true } }) ∧
    (s.ownRank = 0xFFFF → Machine.exec (.fabLeave at_ path) s = .next (s.left u)) ∧
    (s.ownRank ≠ 0xFFFF → s.fabric.gm = some s.ownId →
      Machine.exec (.fabLeave at_ path) s =
        .next (s.left { u with fabric := { s.fabric with wantLeave := addOnce s.ownRank s.fabric.wantLeave } })) ∧
    (s.ownRank ≠ 0xFFFF → s.fabric.gm ≠ some s.ownId →
      Machine.exec (.fabLeave at_ path) s = .next (s.left (u.originate
        (u.newMsg 9 4 3 (((s.fabric.members.find? fun e => some e.2 == s.fabric.gm).map (·.1)).getD 0xFFFF))))))

/-- R453 to R457: an announcement from an isolated far end isolates the link, and another one ends the isolation and is taken into the
election; a joiner gets the member table and is noted by the grandmaster or passed toward it; a member table gives identities by rank; a
leave is noted or passed on; an epoch not known yet is scheduled and passed on. R454, R455, R463: a neighbour not heard for MEMBER_TIMEOUT
ticks leaves every route; a grandmaster no longer announced is elected anew; a follower without an announcement for two boundaries holds
over; each command does nothing before its time. -/
def Obligations.Membership : Prop :=
  (∀ (s : State) (at_ p n e period : Nat) (h : LinkHdr) (m : Msg) (a : Announce) (joins : List (Nat × Nat)) (leaves : List Nat),
    s.coreUp = true →
    let u := s.advance at_
    let v := u.handled p h
    (∀ c ∈ ([(1, .memberAnnounce at_ p h m a), (2, .memberJoin at_ p h m), (3, .memberTable at_ p h m), (4, .memberLeave at_ p h m),
        (5, .memberEpoch at_ p h m n e period joins leaves)] : List (Nat × Instr)),
      u.arrives p h m 9 = true → m.subop ≠ c.1 → Machine.exec c.2 s = .next (s.left v)) ∧
    (u.inTurn p h m 9 = true → m.subop = 1 →
      let w := v.showPeer p a
      let x := if w.linkState p = 3 then (w.wr (pgHport p) Reg.HPORT.LINK_STAT_LS 2).flushPort p else w
      (w.isolates a = true → Machine.exec (.memberAnnounce at_ p h m a) s = .next (s.left (w.wr (pgHport p) Reg.HPORT.LINK_STAT_LS 3))) ∧
      (w.isolates a = false → Machine.exec (.memberAnnounce at_ p h m a) s =
        .next (s.left ((x.memberHeard.takeExclusions a.exclude).missedEpoch a.epoch)))) ∧
    (u.arrives p h m 9 = true → m.subop = 2 →
      let w := v.each v.tableMsgs fun s t => s.accept p t
      (w.fabric.gm = some w.ownId → Machine.exec (.memberJoin at_ p h m) s =
        .next (s.left { w with fabric := { w.fabric with wantJoin := addOnce m.operand w.fabric.wantJoin } })) ∧
      (w.fabric.gm ≠ some w.ownId → ∀ q, w.parentPort = some q →
        (m.ttl ≤ 1 → Machine.exec (.memberJoin at_ p h m) s = .next (s.left (w.stale p))) ∧
        (1 < m.ttl → Machine.exec (.memberJoin at_ p h m) s = .next (s.left (w.accept q { m with ttl := m.ttl - 1 })))) ∧
      (w.fabric.gm ≠ some w.ownId → w.parentPort = none → Machine.exec (.memberJoin at_ p h m) s = .next (s.left w))) ∧
    (u.arrives p h m 9 = true → m.subop = 3 → ∃ t, Machine.exec (.memberTable at_ p h m) s = .next t ∧ State.sameBut [] v t ∧
      ∀ r id, (r, id) ∈ t.fabric.members ↔
        if m.addr / 8 ≤ r ∧ r < m.addr / 8 + m.payload.length / 8 then id ≠ 0 ∧ id = fieldOf m.payload (8 * (r - m.addr / 8)) 8
        else (r, id) ∈ v.fabric.members) ∧
    (u.arrives p h m 9 = true → m.subop = 4 →
      (m.dst ≠ 0xFFFF → m.dst ≠ v.ownRank → Machine.exec (.memberLeave at_ p h m) s = .next (s.left (v.forward p m))) ∧
      (m.dst = 0xFFFF ∨ m.dst = v.ownRank →
        (v.fabric.gm = some v.ownId → Machine.exec (.memberLeave at_ p h m) s =
          .next (s.left { v with fabric := { v.fabric with wantLeave := addOnce m.src v.fabric.wantLeave } })) ∧
        (v.fabric.gm ≠ some v.ownId → Machine.exec (.memberLeave at_ p h m) s = .next (s.left v)))) ∧
    (u.arrives p h m 9 = true → m.subop = 5 →
      (n ≤ v.rd (pgHport 0) Reg.HPORT.EPOCH ∨ v.fabric.epochs.any (fun x => x.number == n) = true →
        Machine.exec (.memberEpoch at_ p h m n e period joins leaves) s = .next (s.left v)) ∧
      (v.rd (pgHport 0) Reg.HPORT.EPOCH < n → v.fabric.epochs.any (fun x => x.number == n) = false →
        ∃ t, Machine.exec (.memberEpoch at_ p h m n e period joins leaves) s = .next t ∧
          t.fabric.epochs = v.fabric.epochs ++ [⟨n, e, period, joins.take 1024, leaves.take 1024⟩] ∧
          t.tick.epochPeriod = if v.tick.src = 2 then some (e, period) else v.tick.epochPeriod))) ∧
  (∀ (s : State) (at_ p : Nat), s.coreUp = true →
    let u := s.advance at_
    let t0 := s.rd (pgHport 0) Reg.HPORT.EPOCH_CFG_MEMBER_TIMEOUT
    let fresh := s.neighbours.any fun e =>
      some e.2.ann.gmId == s.fabric.gm && decide (s.tick.number < e.2.tick + s.rd (pgHport 0) Reg.HPORT.EPOCH_CFG_GM_TIMEOUT)
    ((s.port p).heard = none → Machine.exec (.memberTimeout at_ p) s = .next (s.left u)) ∧
    (∀ x, (s.port p).heard = some x →
      (s.tick.number < x.tick + t0 → Machine.exec (.memberTimeout at_ p) s = .next (s.left u)) ∧
      (x.tick + t0 ≤ s.tick.number →
        ∃ t, Machine.exec (.memberTimeout at_ p) s = .next t ∧ (t.port p).heard = none ∧ t.fabric.report = true ∧
          t.fabric.routes = s.fabric.routes.map fun r => (r.1, r.2.1, r.2.2.filter fun q => q ≠ p))) ∧
    (s.fabric.gm = none ∨ s.fabric.gm = some s.ownId ∨ fresh = true → Machine.exec (.gmTimeout at_) s = .next (s.left u)) ∧
    (s.fabric.gm ≠ none → s.fabric.gm ≠ some s.ownId → fresh = false →
      let forget (x : Heard) : Heard := { x with ann := { x.ann with gmPrio := 255, gmId := 2 ^ 64 } }
      let w := (u.each u.neighbours fun t e => t.onPort e.1 fun x =>
        if some e.2.ann.gmId == t.fabric.gm then { x with heard := x.heard.map forget } else x).elect
      Machine.exec (.gmTimeout at_) s = .next (s.left (if w.fabric.gm = some (2 ^ 64) then w.setGm none else w))) ∧
    (s.tick.src ≠ 2 ∨ s.fabric.gm = some s.ownId → Machine.exec (.tickSyncLoss at_) s = .next (s.left u)) ∧
    (s.tick.src = 2 → s.fabric.gm ≠ some s.ownId →
      (s.parentPort = none → Machine.exec (.tickSyncLoss at_) s = .next (s.left u.holdover)) ∧
      (∀ q, s.parentPort = some q → Machine.exec (.tickSyncLoss at_) s =
        .next (s.left (if (s.port q).syncTick + 2 ≤ s.tick.number then u.holdover else u)))))

/-- R38, R462: the tick follows the parent's announcements: the offset of its boundary, in whole nanoseconds, and the phase from which the
next tick is corrected; delays are measured every 64 ticks, answered, and kept as half the round trip less the residence. -/
def Obligations.TickSynchronisation : Prop :=
  ∀ (s : State) (at_ p arrival residence : Nat) (h : LinkHdr) (m : Msg), s.coreUp = true →
    let u := s.advance at_
    let v := u.handled p h
    let w := v.onPort p fun x => { x with syncTick := v.tick.number }
    let off : Int := rnaDiv ((arrival : Int) - (m.operand : Int) - (v.port p).delay) 16
    let near := State.nearest off (v.tick.periodUs * 1000)
    let phased := { w with tick := { w.tick with gmPhase := some (v.tick.elapsed + off) } }
    (∀ c ∈ ([(1, .tickSyncAnnounce at_ p h m arrival), (2, .delayReq at_ p h m residence), (3, .delayResp at_ p h m)] :
        List (Nat × Instr)), u.arrives p h m 8 = true → m.subop ≠ c.1 → Machine.exec c.2 s = .next (s.left v)) ∧
    (u.arrives p h m 8 = true → m.subop = 1 →
      (w.parentPort ≠ some p ∨ v.tick.planHold = true → Machine.exec (.tickSyncAnnounce at_ p h m arrival) s = .next (s.left w)) ∧
      (w.parentPort = some p → v.tick.planHold = false →
        (v.tick.src ≠ 2 → Machine.exec (.tickSyncAnnounce at_ p h m arrival) s = .next (s.left phased)) ∧
        (v.tick.src = 2 → ∃ t, Machine.exec (.tickSyncAnnounce at_ p h m arrival) s = .next t ∧
          t.tick.gmPhase = some (v.tick.elapsed + off) ∧ t.rd pgTICK Reg.TICK.SYNC_OFFSET_NS = ofSigned near 32 % 2 ^ 32 ∧
          t.rd pgTICK Reg.TICK.STATUS_HOLDOVER = 0 ∧ t.rd pgTICK Reg.TICK.STATUS_ACTIVE_SRC = 2 ∧
          t.rd pgTICK Reg.TICK.STATUS_LOCKED = b2n (decide (near.natAbs ≤ 2 * v.rd pgTICK Reg.TICK.HOPS_COUNT))))) ∧
    (s.tick.number % 64 = 0 → s.linkState p = 2 → Machine.exec (.delayMeasure at_ p) s =
      .next (s.left ((u.onPort p fun x => { x with delayReq := some (16 * u.ns) }).accept p (u.newMsg 8 2 3 0xFFFF)))) ∧
    (s.tick.number % 64 ≠ 0 ∨ s.linkState p ≠ 2 → Machine.exec (.delayMeasure at_ p) s = .next (s.left u)) ∧
    (u.arrives p h m 8 = true → m.subop = 2 → Machine.exec (.delayReq at_ p h m residence) s =
      .next (s.left (v.accept p { v.newMsg 8 3 3 0xFFFF with operand := residence }))) ∧
    (u.arrives p h m 8 = true → m.subop = 3 → (v.port p).delayReq = none → Machine.exec (.delayResp at_ p h m) s = .next (s.left v)) ∧
    (∀ t0, u.arrives p h m 8 = true → m.subop = 3 → (v.port p).delayReq = some t0 → Machine.exec (.delayResp at_ p h m) s =
      .next (s.left (v.onPort p fun x =>
        { x with delayReq := none, delay := ((16 * v.ns : Nat) - (t0 : Int) - (m.operand : Int)) / 2 })))

/-- R429, R432, R433, R437, R468: a lane trained or lost waits for the boundary; the third failure in a row leaves it FAILED; a frame with
a bad CRC is counted; a replay sends its frames again, or takes the link down; a drain that does not end is cut; and none of them does
anything where its lane, link or port is in another state. -/
def Obligations.LinkEvents : Prop :=
  ∀ (s : State) (at_ p k : Nat) (h : LinkHdr) (fec : List (Nat × Nat × Nat)), s.coreUp = true →
    let u := s.advance at_
    let x := s.port p
    let trains := s.isOn (pgHport p) && (s.laneSt p k == 1 || s.laneSt p k == 3) &&
      !(sparseGet (fun _ => ({} : CalRec)) s.cal.lanes (16 * p + k)).out
    let n := sparseGet (fun _ => 0) x.fails k + 1
    let failed := u.onPort p fun x => { x with fails := sparsePut (fun _ => 0) x.fails k n, trained := dropAll k x.trained }
    let counted := u.each fec fun t e =>
      ((t.bump64 (pgHport p) Reg.HPORT.FEC_CORR_LO e.2.1).bump (pgHport p) Reg.HPORT.FEC_UNCORR e.2.2).onPort p fun x =>
        { x with
          corr := sparsePut (fun _ => 0) x.corr e.1 (sparseGet (fun _ => 0) x.corr e.1 + e.2.1)
          uncorr := if e.2.2 = 0 then x.uncorr else addOnce e.1 x.uncorr }
    (trains = true → Machine.exec (.laneTrained at_ p k) s = .next (s.left (u.onPort p fun x =>
      { x with trained := addOnce k x.trained, fails := sparsePut (fun _ => 0) x.fails k 0 }))) ∧
    (trains = false → Machine.exec (.laneTrained at_ p k) s = .next (s.left u)) ∧
    (bitAt (s.rd (pgHport p) Reg.HPORT.LANE_UP) k = true → Machine.exec (.laneLockLoss at_ p k) s =
      .next (s.left (u.onPort p fun x => { x with lost := addOnce k x.lost, trained := dropAll k x.trained }))) ∧
    (bitAt (s.rd (pgHport p) Reg.HPORT.LANE_UP) k = false → Machine.exec (.laneLockLoss at_ p k) s = .next (s.left u)) ∧
    (s.isOn (pgHport p) = false ∨ s.laneSt p k ≠ 1 → Machine.exec (.laneTrainingFail at_ p k) s = .next (s.left u)) ∧
    (s.isOn (pgHport p) = true → s.laneSt p k = 1 →
      Machine.exec (.laneTrainingFail at_ p k) s = .next (s.left (if 3 ≤ n then failed.setLane p k 4 else failed))) ∧
    (s.runs (pgHport p) = false ∨ s.linkState p < 2 → Machine.exec (.linkFrame at_ p h fec) s = .next (s.left u)) ∧
    (s.runs (pgHport p) = true → 2 ≤ s.linkState p →
      (h.crcOk = false → Machine.exec (.linkFrame at_ p h fec) s = .next (s.left (counted.bump (pgHport p) Reg.HPORT.CRC_FAILS))) ∧
      (h.crcOk = true → Machine.exec (.linkFrame at_ p h fec) s = .next (s.left (counted.applyHdr p h)))) ∧
    (∀ space, let l := if space = 1 then x.replayC else x.replayD
      (l = [] → Machine.exec (.replayTimeout at_ p space) s = .next (s.left u)) ∧
      (l ≠ [] → (∃ f ∈ l, 8 ≤ f.sends) → Machine.exec (.replayTimeout at_ p space) s = .next (s.left (u.linkDown p))) ∧
      (l ≠ [] → (∀ f ∈ l, f.sends < 8) → ∃ t, Machine.exec (.replayTimeout at_ p space) s = .next t ∧
        let l' := if space = 1 then (t.port p).replayC else (t.port p).replayD
        l'.map (fun f => (f.seq, f.sends, f.msg)) = l.map (fun f => (f.seq, f.sends + 1, f.msg)) ∧
        (t.port p).units = x.units + (l.map fun f => f.msg.units).foldl (· + ·) 0)) ∧
    (s.st (pgHport p) ≠ 3 → Machine.exec (.hportDrainTimeout at_ p) s = .next (s.left u)) ∧
    (s.st (pgHport p) = 3 → ∃ t, Machine.exec (.hportDrainTimeout at_ p) s = .next t ∧ (t.port p).replayD = [] ∧
      (t.port p).replayC = [] ∧ (t.port p).waiting = [])

/-- R484: a packet reaches its frame only over a receive port that runs: a corrected header is counted, a bad one is error 1, and a packet
on a channel that is not enabled is an orphan. R475, R484, R494: a frame that starts on an enabled channel of a port that is ON takes the
next free slot, stamped now; with no slot free it is dropped, counted and reported; a load frame takes no slot; a frame still open closes
first with error 5, and a port that is not ON starts none. R478 to R484: the long packets of a frame: one outside any frame is an orphan,
one with a bad CRC is error 2 and is stored all the same; one of another kind of frame is error 3, one out of its order error 4, and what
does not fit is error 8; each good one is kept with the open frame of its channel and moves the frame on. A dropped frame keeps its
request only. R475, R477, R484: a Frame End closes the open frame, with error 7 for another frame number and error 4 where the frame is
not whole; one outside any frame is an orphan. A frame without its end by its last tick is closed with error 6. A slot of a tensor
channel's ended frame is released, once its transfers have ended. -/
def Obligations.FramesReceived : Prop :=
  (∀ (s : State) (at_ p v num dt : Nat) (bs : List Byte) (k : PacketCheck), s.coreUp = true →
    let u := s.advance at_
    let x := if k.corrected then u.bump (pgFrameIn p) Reg.FRAME_IN.HDR_CORR else u
    ∀ c ∈ ([.frameStart at_ p v num k, .requestDescriptor at_ p v bs k, .tensorHeader at_ p v bs k, .payloadPacket at_ p v bs k,
        .rawLine at_ p v dt bs k, .loadHeader at_ p v bs k, .frameEnd at_ p v num k] : List Instr),
      (s.runs (pgFrameIn p) = false → Machine.exec c s = .next (s.left u)) ∧
      (s.runs (pgFrameIn p) = true → k.badHeader = true → Machine.exec c s = .next (s.left (x.frameError p v 1))) ∧
      (s.runs (pgFrameIn p) = true → k.badHeader = false → x.vcEn p v = false →
        Machine.exec c s = .next (s.left (x.bump (pgFrameIn p) Reg.FRAME_IN.ORPHANS)))) ∧
  (∀ (s : State) (at_ p v num : Nat) (c : PacketCheck), s.coreUp = true → c.badHeader = false →
    let u := s.advance at_
    let x := if c.corrected then u.bump (pgFrameIn p) Reg.FRAME_IN.HDR_CORR else u
    let w := if (x.rxOpen p v).isSome then (x.frameError p v 5).closeFrame p v else x
    let f : RxFrame := { port := p, vc := v, slot := 0, kind := w.vcKind p v, start := w.now, number := num }
    let add (t : State) (f : RxFrame) : State := { t with frames := { t.frames with rx := t.frames.rx ++ [f] } }
    x.takes p v = true →
    (x.isOn (pgFrameIn p) = false → Machine.exec (.frameStart at_ p v num c) s = .next (s.left x)) ∧
    (x.isOn (pgFrameIn p) = true →
      (w.vcKind p v = 2 → Machine.exec (.frameStart at_ p v num c) s = .next (s.left (add w f))) ∧
      (w.vcKind p v ≠ 2 → ∀ k, w.nextSlot p v = some k → Machine.exec (.frameStart at_ p v num c) s = .next (s.left
        (add (w.wr (pgFrameIn p) Reg.FRAME_IN.VC_STAT_NEXT ((k + 1) % max 1 (w.rd (pgFrameIn p) Reg.FRAME_IN.VC_CFG_SLOTS v)) v)
          { f with slot := k }))) ∧
      (w.vcKind p v ≠ 2 → w.nextSlot p v = none → Machine.exec (.frameStart at_ p v num c) s = .next (s.left
        (add ((w.bump (pgFrameIn p) Reg.FRAME_IN.DROPS).raise (pgFrameIn p) 5) { f with dropped := true }))))) ∧
  (∀ (s : State) (at_ p v dt : Nat) (bs : List Byte) (k : PacketCheck), s.coreUp = true → k.badHeader = false →
    let u := s.advance at_
    let x := if k.corrected then u.bump (pgFrameIn p) Reg.FRAME_IN.HDR_CORR else u
    let y := if k.badCrc then x.frameError p v 2 else x
    let cap := slotPayload (s.rd (pgFrameIn p) Reg.FRAME_IN.VC_CFG_SLOT_4K v)
    let width := s.rd (pgFrameIn p) Reg.FRAME_IN.VC_WIDTH_WIDTH v
    let fits : Bool := bs.length % 256 == 0 && decide (0 < bs.length ∧ bs.length ≤ 65280)
    let orphan := x.bump (pgFrameIn p) Reg.FRAME_IN.ORPHANS
    x.takes p v = true →
    (x.rxOpen p v = none → Machine.exec (.requestDescriptor at_ p v bs k) s = .next (s.left orphan) ∧
      Machine.exec (.tensorHeader at_ p v bs k) s = .next (s.left orphan) ∧ Machine.exec (.payloadPacket at_ p v bs k) s = .next (s.left orphan) ∧
      Machine.exec (.rawLine at_ p v dt bs k) s = .next (s.left orphan) ∧ Machine.exec (.loadHeader at_ p v bs k) s = .next (s.left orphan)) ∧
    (∀ f, x.rxOpen p v = some f → f.dropped = true →
      Machine.exec (.tensorHeader at_ p v bs k) s = .next (s.left x) ∧ Machine.exec (.payloadPacket at_ p v bs k) s = .next (s.left x) ∧
      Machine.exec (.rawLine at_ p v dt bs k) s = .next (s.left x) ∧ Machine.exec (.loadHeader at_ p v bs k) s = .next (s.left x) ∧
      Machine.exec (.requestDescriptor at_ p v bs k) s = .next (s.left (x.onOpen p v fun g =>
        if g.stage = 0 then { g with desc := bs, descOk := !k.badCrc && bs.length == 32, stage := 1 } else g))) ∧
    (∀ f, y.rxOpen p v = some f → f.dropped = false →
      (f.kind ≠ 0 → Machine.exec (.requestDescriptor at_ p v bs k) s = .next (s.left (y.frameError p v 3)) ∧
        Machine.exec (.tensorHeader at_ p v bs k) s = .next (s.left (y.frameError p v 3))) ∧
      (f.kind ≠ 1 → Machine.exec (.rawLine at_ p v dt bs k) s = .next (s.left (y.frameError p v 3))) ∧
      (f.kind ≠ 2 → Machine.exec (.loadHeader at_ p v bs k) s = .next (s.left (y.frameError p v 3))) ∧
      (f.kind = 0 → Machine.exec (.requestDescriptor at_ p v bs k) s =
        .next (s.left ((y.inOrder f 1 (bs.length == 32 && bits (fieldOf bs 2 1) 0 2 != 3)).onOpen p v fun g =>
          if f.stage = 0 then { g with desc := bs, descOk := !k.badCrc && bs.length == 32 } else g))) ∧
      (f.kind = 0 → Machine.exec (.tensorHeader at_ p v bs k) s =
        .next (s.left ((y.inOrder f 2 (bs.length == 16 && tensorHeaderOk bs)).onOpen p v fun g =>
          if f.stage ≤ 1 then { g with thdr := bs } else g))) ∧
      (f.kind = 0 → Machine.exec (.payloadPacket at_ p v bs k) s = .next (s.left ((y.inOrder f 3 fits).storePayload p v cap
        (if isActFmt (fieldOf f.thdr 0 1) then fieldOf f.thdr 0 1 else 9) (toSigned (fieldOf f.thdr 2 2) 16)
        (bs.take (bs.length / 256 * 256))))) ∧
      (f.kind = 1 → Machine.exec (.payloadPacket at_ p v bs k) s = .next (s.left (y.frameError p v 3))) ∧
      (f.kind = 2 → f.stage = 0 → Machine.exec (.payloadPacket at_ p v bs k) s = .next (s.left (y.frameError p v 4))) ∧
      (f.kind = 2 → f.stage ≠ 0 →
        let room := fieldOf f.desc 16 4 - f.taken - f.payload.length
        let z := if fits then y else y.frameError p v 4
        let z := if f.refused = false ∧ room < bs.length then z.frameError p v 8 else z
        Machine.exec (.payloadPacket at_ p v bs k) s =
          .next (s.left ((z.onOpen p v fun g => { g with stage := 2, payload := g.payload ++ bs.take room }).loadWrite p v false))) ∧
      (f.kind = 1 → dt ∉ [0x2A, 0x2B, 0x2C, 0x2E] ∨ f.lines ≠ 0 ∧ f.rawType ≠ dt →
        Machine.exec (.rawLine at_ p v dt bs k) s = .next (s.left (y.frameError p v 3))) ∧
      (f.kind = 1 → dt ∈ [0x2A, 0x2B, 0x2C, 0x2E] → f.lines = 0 ∨ f.rawType = dt →
        let z := if (rawPixels dt bs).length = width then y else y.frameError p v 8
        Machine.exec (.rawLine at_ p v dt bs k) s = .next (s.left ((z.onOpen p v fun g =>
          { g with rawType := dt, lines := g.lines + 1, stage := 3 }).storePayload p v cap 9 0 (rawLineBytes dt width bs)))) ∧
      (f.kind = 2 → f.stage ≠ 0 ∨ bs.length ≠ 32 → Machine.exec (.loadHeader at_ p v bs k) s = .next (s.left (y.frameError p v 4))) ∧
      (f.kind = 2 → f.stage = 0 → bs.length = 32 → Machine.exec (.loadHeader at_ p v bs k) s = .next (s.left (y.onOpen p v fun g =>
        { g with
          desc := bs, descOk := !k.badCrc, stage := 1
          refused := !(State.loadHeaderOk bs && y.loadRegionOk (fieldOf bs 0 6) (fieldOf bs 16 4)) }))))) ∧
  (∀ (s : State) (at_ p v num path : Nat) (k : PacketCheck), s.coreUp = true →
    let u := s.advance at_
    let x := if k.corrected then u.bump (pgFrameIn p) Reg.FRAME_IN.HDR_CORR else u
    (k.badHeader = false → x.takes p v = true →
      (x.rxOpen p v = none →
        Machine.exec (.frameEnd at_ p v num k) s = .next (s.left (x.bump (pgFrameIn p) Reg.FRAME_IN.ORPHANS))) ∧
      (∀ f, x.rxOpen p v = some f →
        let y := if f.dropped = false ∧ num ≠ 0 ∧ f.number ≠ 0 ∧ num ≠ f.number then x.frameError p v 7 else x
        let whole := f.dropped = true ∨ f.kind = 0 ∧ f.stage = 3 ∧ fieldOf f.thdr 4 4 * 256 = f.taken ∨ f.kind = 1 ∨
          f.kind = 2 ∧ f.stage = 2
        (whole → Machine.exec (.frameEnd at_ p v num k) s = .next (s.left (y.closeFrame p v))) ∧
        (¬whole → Machine.exec (.frameEnd at_ p v num k) s = .next (s.left ((y.frameError p v 4).closeFrame p v))))) ∧
    (s.rxOpen p v = none → Machine.exec (.frameTimeout at_ p v) s = .next (s.left u)) ∧
    (∀ f, s.rxOpen p v = some f →
      let due := f.start.tick + s.rd (pgFrameIn p) Reg.FRAME_IN.MAX_TICKS_TICKS ≤ s.tick.number
      (¬due → Machine.exec (.frameTimeout at_ p v) s = .next (s.left u)) ∧
      (due → f.dropped = false → Machine.exec (.frameTimeout at_ p v) s = .next (s.left ((u.frameError p v 6).closeFrame p v))) ∧
      (due → f.dropped = true → Machine.exec (.frameTimeout at_ p v) s = .next (s.left (u.closeFrame p v)))) ∧
    (∀ slot, s.pathUp path (pgFrameIn p) = true → p < 8 → v < 16 → slot < 16 →
      let held := s.frames.rx.find? fun f => f.port == p && f.vc == v && f.slot == slot && f.kind == 0 && State.holdsSlot f && f.ended.isSome
      (held = none → Machine.exec (.slotRelease at_ path p v slot) s = .next (s.left u)) ∧
      (∀ f, held = some f →
        (s.slotInFlight f = false → Machine.exec (.slotRelease at_ path p v slot) s =
          .next (s.left { u with frames := { s.frames with rx := s.frames.rx.erase f } })) ∧
        (s.slotInFlight f = true → Machine.exec (.slotRelease at_ path p v slot) s =
          .next (s.left { u with frames := { s.frames with rx := s.frames.rx.map fun g => if g == f then { g with release := true } else g } })))))

/-- R492: the receiver's lock and the rate it measures are shown; losing it inside a frame is reported. R486, R488, R489: a good preamble
opens a frame of its channel on a port that is ON, in place of one still open there, complete at once when its length is 0; a bad one, or
one to a port that is not ON, does nothing. The end of a frame is counted, that of a status frame besides, and the next complete one goes
out. -/
def Obligations.FramesSent : Prop :=
  (∀ (s : State) (at_ p rate : Nat), s.coreUp = true → p < 8 →
    (∃ t, Machine.exec (.phyLock at_ p rate) s = .next t ∧ t.rd (pgFrameIn p) Reg.FRAME_IN.PHY_STAT_LOCK = 1 ∧
      t.rd (pgFrameIn p) Reg.FRAME_IN.PHY_STAT_RATE = rate % 2 ^ Reg.FRAME_IN.PHY_STAT_RATE.width) ∧
    (∃ t, Machine.exec (.phyUnlock at_ p) s = .next t ∧ t.rd (pgFrameIn p) Reg.FRAME_IN.PHY_STAT_LOCK = 0 ∧ t.mem = s.mem ∧
      (s.flag (pgFrameIn p) Reg.FRAME_IN.PHY_STAT_LOCK = true → s.frames.rx.any (fun f => f.port == p && f.ended.isNone) = true →
        bitAt (t.word (regAddr (pgFrameIn p) 0x010)).toNat 7 = true))) ∧
  (∀ (s : State) (at_ q v : Nat) (bs : List Byte), s.coreUp = true →
    let u := s.advance at_
    let a : Assembly := { vc := v, kind := fieldOf bs 52 1, desc := bs.take 32, thdr := (bs.drop 32).take 16, length := fieldOf bs 48 4 }
    let x := if (s.txPort q).assembling.any (fun b => b.vc == v) then
        ((u.bump (pgFrameOut q) Reg.FRAME_OUT.TX_ABANDON).raise (pgFrameOut q) 5).onTxPort q fun t =>
          { t with assembling := t.assembling.filter fun b => b.vc != v }
      else u
    (s.isOn (pgFrameOut q) = false ∨ bs.length ≠ 64 ∨ preambleOk bs = false →
      Machine.exec (.preambleWrite at_ q v bs) s = .next (s.left u)) ∧
    (s.isOn (pgFrameOut q) = true → bs.length = 64 → preambleOk bs = true →
      Machine.exec (.preambleWrite at_ q v bs) s = .next (s.left
        (if Assembly.full a then x.readyFrame q a s.tick.number else x.onTxPort q fun t => { t with assembling := t.assembling ++ [a] }))) ∧
    ((s.txPort q).sending = none → Machine.exec (.txFrameEnd at_ q) s = .next (s.left u)) ∧
    (∀ f, (s.txPort q).sending = some f →
      let y := (u.onTxPort q fun t => { t with sending := none }).bumpWrap (pgFrameOut q) Reg.FRAME_OUT.TX_FRAMES
      (f.kind ≠ 2 → Machine.exec (.txFrameEnd at_ q) s = .next (s.left (y.sendNext q))) ∧
      (f.kind = 2 → Machine.exec (.txFrameEnd at_ q) s = .next (s.left ((y.bump (pgFrameOut q) Reg.FRAME_OUT.STATUS_FRAMES).sendNext q)))))

/-- R498, R500, R501, R507: a port that is not ready takes no command; without a dynamic address it takes broadcasts only; and one outside
its HDR mode takes no transfer of the other mode. R496, R497, R501, R502: the direct reads of a port with a dynamic address answer its
PID, BCR, DCR, capabilities, maximum data speed, maximum lengths, reset action and status; without an address the port does not answer.
R497, R498, R501: dynamic addresses: the assignments give a port without one its address, an ENTDAA where its arbitration wins, and one
with an address keeps it; SETNEWDA changes it, RSTDAA takes it. R498, R501, R507: settings of a port that is ready, broadcast or, where it
has an address, direct: event enables, lengths, HDR mode, the reset action and the reset it causes; another reset action does nothing.
R499: a port that came out of reset without an address sends one Hot-Join, 1 ms after it is ready, unless DISEC disabled it. -/
def Obligations.I3cSettings : Prop :=
  (∀ (s : State) (at_ k da e len ibi code : Nat) (direct hdr won early bad acc : Bool) (bs : List Byte), s.boot.held = false →
    let u := s.advance at_
    (u.portReady k = false → ∀ c ∈ [Instr.i3cWrite at_ k hdr code bs early bad, .i3cRead at_ k hdr bs bad, .enec at_ k direct e,
        .disec at_ k direct e, .rstdaa at_ k, .entdaa at_ k da won, .setmwl at_ k direct len, .setmrl at_ k direct len ibi, .enthdr0 at_ k,
        .hdrExit at_ k, .setaasa at_ k, .rstact at_ k direct false e, .setdasa at_ k da, .setnewda at_ k da, .ibiSend at_ k acc],
      Machine.exec c s = .next (s.left u)) ∧
    (s.hasDa k = false → ∀ c ∈ [Instr.i3cWrite at_ k hdr code bs early bad, .i3cRead at_ k hdr bs bad, .enec at_ k true e,
        .disec at_ k true e, .setmwl at_ k true len, .setmrl at_ k true len ibi, .rstact at_ k true false e, .setnewda at_ k da,
        .ibiSend at_ k acc],
      Machine.exec c s = .next (s.left u)) ∧
    (s.flag pgSYS Reg.SYS.I3C_STAT_HDR k ≠ hdr → ∀ c ∈ [Instr.i3cWrite at_ k hdr code bs early bad, .i3cRead at_ k hdr bs bad],
      Machine.exec c s = .next (s.left u)) ∧
    (s.flag pgSYS Reg.SYS.I3C_STAT_ENINT k = false ∨ (if k = 0 then s.evt.ibi0 else s.evt.ibi1) = [] →
      Machine.exec (.ibiSend at_ k acc) s = .next (s.left u)) ∧
    (∀ c ∈ [Instr.getpid at_ k, .getbcr at_ k, .getdcr at_ k, .getcaps at_ k, .getmxds at_ k, .getmwl at_ k, .getmrl at_ k,
        .rstact at_ k direct true e, .getstatus at_ k, .responseRead at_ k hdr code],
      (2 ≤ k → Machine.exec c s = .next (s.left u)) ∧
      (k < 2 → u.portReady k = false ∨ s.hasDa k = false → Machine.exec c s = .next (s.left (u.answerBytes k none)))) ∧
    (2 ≤ k ∨ (s.i3cPort k).rstact ≠ 1 → Machine.exec (.targetReset at_ k) s = .next (s.left u)) ∧
    (2 ≤ k → Machine.exec (.hotJoin at_ k) s = .next (s.left u))) ∧
  (∀ (s : State) (at_ k action : Nat) (direct : Bool), s.boot.held = false → k < 2 → (s.advance at_).portReady k = true →
    let u := s.advance at_
    let answer (bs : List Byte) : State := s.left (u.answerBytes k (some bs))
    let silent : State := s.left (u.answerBytes k none)
    (s.hasDa k = true → Machine.exec (.getpid at_ k) s = .next (answer (State.bigBytes 6 (s.pid k)))) ∧
    (s.hasDa k = true → Machine.exec (.getbcr at_ k) s = .next (answer ([0x26]))) ∧
    (s.hasDa k = true → Machine.exec (.getdcr at_ k) s = .next (answer ([0x00]))) ∧
    (s.hasDa k = true → Machine.exec (.getcaps at_ k) s = .next (answer ([0x01, 0x01]))) ∧
    (s.hasDa k = true → Machine.exec (.getmxds at_ k) s = .next (answer ([0x00, 0x00, 0x02, 0x00, 0x00]))) ∧
    (s.hasDa k = true → Machine.exec (.getmwl at_ k) s = .next (answer (State.bigBytes 2 (s.mwl k)))) ∧
    (s.hasDa k = true → Machine.exec (.getmrl at_ k) s = .next (answer (State.bigBytes 2 (s.mrl k) ++ bytesOf 1 (s.i3cPort k).ibiMax))) ∧
    (s.hasDa k = true → Machine.exec (.rstact at_ k direct true action) s = .next (answer ([0x01, 0x01]))) ∧
    (s.hasDa k = false → Machine.exec (.getpid at_ k) s = .next silent) ∧
    (s.hasDa k = false → Machine.exec (.getbcr at_ k) s = .next silent) ∧
    (s.hasDa k = false → Machine.exec (.getdcr at_ k) s = .next silent) ∧
    (s.hasDa k = false → Machine.exec (.getcaps at_ k) s = .next silent) ∧
    (s.hasDa k = false → Machine.exec (.getmxds at_ k) s = .next silent) ∧
    (s.hasDa k = false → Machine.exec (.getmwl at_ k) s = .next silent) ∧
    (s.hasDa k = false → Machine.exec (.getmrl at_ k) s = .next silent) ∧
    (s.hasDa k = false → Machine.exec (.rstact at_ k direct true action) s = .next silent)) ∧
  (∀ (s : State) (at_ k da : Nat) (won : Bool), s.boot.held = false → k < 2 → (s.advance at_).portReady k = true →
    let u := s.advance at_
    (s.hasDa k = false →
      Machine.exec (.setdasa at_ k da) s = .next (s.left (u.setDa k (some da))) ∧
      Machine.exec (.setaasa at_ k) s = .next (s.left (u.setDa k (some (s.staticAddr k)))) ∧
      Machine.exec (.entdaa at_ k da true) s = .next (s.left ((u.answerBytes k
        (some (State.bigBytes 6 (s.pid k) ++ [0x26, 0x00]))).setDa k (some da)))) ∧
    Machine.exec (.entdaa at_ k da false) s = .next (s.left u) ∧
    (s.hasDa k = true → Machine.exec (.setnewda at_ k da) s = .next (s.left (u.setDa k (some da))) ∧
      Machine.exec (.setdasa at_ k da) s = .next (s.left u) ∧ Machine.exec (.setaasa at_ k) s = .next (s.left u) ∧
      Machine.exec (.entdaa at_ k da won) s = .next (s.left u)) ∧
    Machine.exec (.rstdaa at_ k) s = .next (s.left (u.setDa k none)) ∧
    (u.setDa k (some da)).rd pgSYS Reg.SYS.I3C_STAT_DA k = da % 128 ∧ (u.setDa k (some da)).hasDa k = true ∧
    (u.setDa k none).hasDa k = false) ∧
  (∀ (s : State) (at_ k e len ibi : Nat) (direct : Bool), s.boot.held = false → k < 2 → (s.advance at_).portReady k = true →
    (direct = true → s.hasDa k = true) →
    let u := s.advance at_
    Machine.exec (.enec at_ k direct e) s = .next (s.left (u.eventControl k e 1)) ∧
    Machine.exec (.disec at_ k direct e) s = .next (s.left (u.eventControl k e 0)) ∧
    (bitAt e 0 = true → (u.eventControl k e 0).flag pgSYS Reg.SYS.I3C_STAT_ENINT k = false ∧
      (u.eventControl k e 1).flag pgSYS Reg.SYS.I3C_STAT_ENINT k = true) ∧
    (bitAt e 3 = true → (u.eventControl k e 0).flag pgSYS Reg.SYS.I3C_STAT_ENHJ k = false ∧
      (u.eventControl k e 1).flag pgSYS Reg.SYS.I3C_STAT_ENHJ k = true) ∧
    Machine.exec (.setmwl at_ k direct len) s = .next (s.left (u.setMwl k len)) ∧ (u.setMwl k len).mwl k = len % 2 ^ 16 ∧
    Machine.exec (.setmrl at_ k direct len ibi) s = .next (s.left ((u.setMrl k len).onI3c k fun p => { p with ibiMax := ibi % 256 })) ∧
    (u.setMrl k len).mrl k = len % 2 ^ 16 ∧
    Machine.exec (.enthdr0 at_ k) s = .next (s.left (u.wr pgSYS Reg.SYS.I3C_STAT_HDR 1 k)) ∧
    Machine.exec (.hdrExit at_ k) s = .next (s.left (u.wr pgSYS Reg.SYS.I3C_STAT_HDR 0 k)) ∧
    (e < 2 → Machine.exec (.rstact at_ k direct false e) s = .next (s.left (u.onI3c k fun p => { p with rstact := e }))) ∧
    (2 ≤ e → Machine.exec (.rstact at_ k direct false e) s = .next (s.left u)) ∧
    ((s.i3cPort k).rstact = 1 → Machine.exec (.targetReset at_ k) s = .next (s.left (u.resetPeripheral k)))) ∧
  (∀ (s : State) (at_ k : Nat), s.boot.held = false → k < 2 →
    let u := s.advance at_
    let may := s.hasDa k = false ∧ s.flag pgSYS Reg.SYS.I3C_STAT_ENHJ k = true ∧ (s.i3cPort k).hotJoined = false ∧
      (s.i3cPort k).readyAt + 1000000 ≤ u.ns
    (may → ∃ t, Machine.exec (.hotJoin at_ k) s = .next t ∧ (t.i3cPort k).hotJoined = true ∧ State.sameBut [] s t) ∧
    (¬may → Machine.exec (.hotJoin at_ k) s = .next (s.left u)))

/-- R502: GETSTATUS returns the number of queued requests up to 15, the protocol error since the last GETSTATUS in bit 5, and the status
of the last command in bits 15 to 8. -/
def Obligations.GetStatusWord : Prop :=
  ∀ (s : State) (at_ k : Nat), s.boot.held = false → k < 2 → (s.advance at_).portReady k = true → s.hasDa k = true →
    (s.i3cPort k).status < 256 →
    ∃ t w, Machine.exec (.getstatus at_ k) s = .next t ∧ (t.i3cPort k).reply = some (State.bigBytes 2 w) ∧ w < 2 ^ 16 ∧
      bits w 0 4 = min 15 (if k = 0 then s.evt.ibi0.length else s.evt.ibi1.length) ∧ bits w 4 1 = 0 ∧
      bits w 5 1 = b2n (s.i3cPort k).perr ∧ bits w 6 2 = 0 ∧ bits w 8 8 = (s.i3cPort k).status ∧ (t.i3cPort k).perr = false

/-- R503 to R507: a WRITE puts its words into consecutive registers, and a READ fetches its words, each leaving its outcome as the port's
response; a command that cannot be performed leaves its status alone, the first that applies of PARITY, BAD_CMD, BAD_LEN, MISALIGNED and
PAGE_CROSS; a WRITE that the controller ends early applies its whole words; the response is what a private read answers once it is ready.
-/
def Obligations.I3cTransfers : Prop :=
  ∀ (s : State) (at_ k code : Nat) (bs : List Byte) (hdr early : Bool), s.boot.held = false → k < 2 → (s.advance at_).portReady k = true →
    s.hasDa k = true → s.flag pgSYS Reg.SYS.I3C_STAT_HDR k = hdr →
    let u := s.advance at_
    let a := fieldOf bs 0 4
    let refused (e : Nat) : State := s.left (u.respond k e 0 300 [])
    (let n := (bs.length - 4) / 4
     let badLen := s.mwl k < 1 + bs.length ∨ early = false ∧ (bs.length % 4 ≠ 0 ∨ n = 0) ∨ bs.length < 4 ∨ 16 < n
     let w := u.busWords (k + 1) a ((List.range n).map fun i => BitVec.ofNat 32 (fieldOf bs (4 + 4 * i) 4))
     let o := State.firstOutcome w.2
     (code ≠ 0x10 → Machine.exec (.i3cWrite at_ k hdr code bs early false) s = .next (refused 3)) ∧
     (badLen → Machine.exec (.i3cWrite at_ k hdr 0x10 bs early false) s = .next (refused 4)) ∧
     (¬badLen → a % 4 ≠ 0 → Machine.exec (.i3cWrite at_ k hdr 0x10 bs early false) s = .next (refused 8)) ∧
     (¬badLen → a % 4 = 0 → 0x1000 < a % 0x1000 + 4 * n → Machine.exec (.i3cWrite at_ k hdr 0x10 bs early false) s = .next (refused 5)) ∧
     (¬badLen → a % 4 = 0 → a % 0x1000 + 4 * n ≤ 0x1000 → Machine.exec (.i3cWrite at_ k hdr 0x10 bs early false) s = .next (s.left
       (if w.1.halted then w.1
        else if early then w.1.respond k 4 n (300 + 100 * n) []
        else w.1.respond k o.1 o.2 (300 + 100 * n) [])))) ∧
    (let m := fieldOf bs 4 1
     let need := if hdr then 6 else 5
     let badLen := need < bs.length ∨ m = 0 ∨ 16 < m ∨ s.mrl k < 4 + 4 * m
     let r := u.busReads (k + 1) m a
     let o := State.firstOutcome (r.2.map (·.2))
     (bs.length < need → Machine.exec (.i3cRead at_ k hdr bs false) s = .next (s.left u)) ∧
     (need ≤ bs.length → badLen → Machine.exec (.i3cRead at_ k hdr bs false) s = .next (refused 4)) ∧
     (need ≤ bs.length → ¬badLen → a % 4 ≠ 0 → Machine.exec (.i3cRead at_ k hdr bs false) s = .next (refused 8)) ∧
     (need ≤ bs.length → ¬badLen → a % 4 = 0 → 0x1000 < a % 0x1000 + 4 * m → Machine.exec (.i3cRead at_ k hdr bs false) s = .next (refused 5)) ∧
     (need ≤ bs.length → ¬badLen → a % 4 = 0 → a % 0x1000 + 4 * m ≤ 0x1000 →
       Machine.exec (.i3cRead at_ k hdr bs false) s = .next (s.left (r.1.respond k o.1 o.2 (300 + 100 * m + State.windowWait k a m) (r.2.map (·.1)))))) ∧
    (hdr = true → code ≠ 0xA0 → Machine.exec (.responseRead at_ k hdr code) s =
      .next (s.left ((u.respond k 3 0 300 []).answerBytes k none))) ∧
    (hdr = false ∨ code = 0xA0 →
      (u.ns < (s.i3cPort k).ready → Machine.exec (.responseRead at_ k hdr code) s = .next (s.left (u.answerBytes k none))) ∧
      ((s.i3cPort k).ready ≤ u.ns →
        Machine.exec (.responseRead at_ k hdr code) s = .next (s.left (u.answerBytes k (some (s.response k)))))) ∧
    (let parity := (((u.bump pgSYS Reg.SYS.I3C_PERR 1 k).raise pgSYS 9).onI3c k fun p => { p with perr := true }).respond k 6 0 300 []
     Machine.exec (.i3cWrite at_ k hdr code bs early true) s = .next (s.left parity) ∧
     Machine.exec (.i3cRead at_ k hdr bs true) s = .next (s.left parity)) ∧
    (Machine.exec (.responseRead at_ k (!hdr) code) s = .next (s.left (u.answerBytes k none)))

/-- R115, R116: the check row of a tile of 128 by 128 drive codes: each column's sum is 128 times its check code plus its residual, the
code within 511 and the residual within 64, ties away from zero; so, for every input, 128 times the check row's sum is the sum over the
rows less that of the residuals. -/
def Obligations.CheckRowIdentity : Prop :=
  ∀ (rows : List (List Int)) (us : List Int), rows.length = 128 → us.length = 128 →
    (∀ r ∈ rows, r.length = 128 ∧ ∀ d ∈ r, -511 ≤ d ∧ d ≤ 511) →
    let chk := (checkRow rows).1
    let rho := (checkRow rows).2
    let dot (a : List Int) : Int := (a.zipWith (· * ·) us).sum
    chk.length = 128 ∧ rho.length = 128 ∧
    (∀ c, c < 128 →
      let sum := (rows.map fun r => r.getD c 0).sum
      128 * chk.getD c 0 + rho.getD c 0 = sum ∧ -511 ≤ chk.getD c 0 ∧ chk.getD c 0 ≤ 511 ∧ -64 ≤ rho.getD c 0 ∧ rho.getD c 0 ≤ 64 ∧
        (0 ≤ sum → rho.getD c 0 < 64) ∧ (sum ≤ 0 → -64 < rho.getD c 0)) ∧
    128 * dot chk = (rows.map dot).sum - dot rho
end

