-- ==== Sys2Proof/Laws/Exec.lean ====
section
/-! SUPPORT. Laws of `exec`: the meaning that each command runs, one lemma per constructor. -/

namespace Sys2Proof.Machine

variable (s : State)

@[simp] theorem exec_tickBoundary (at_ : Nat) : exec (.tickBoundary at_) s = execTickBoundary at_ s := rfl
@[simp] theorem exec_tickInEdge (at_ : Nat) (rising : Bool) : exec (.tickInEdge at_ rising) s = execTickInEdge at_ rising s := rfl
@[simp] theorem exec_tickInMissing (at_ : Nat) : exec (.tickInMissing at_) s = execTickInMissing at_ s := rfl
@[simp] theorem exec_acquireTimeout (at_ : Nat) : exec (.acquireTimeout at_) s = execAcquireTimeout at_ s := rfl
@[simp] theorem exec_txnBegin (at_ : Nat) (path : Nat) (pg : Nat) (group : Nat) : exec (.txnBegin at_ path pg group) s = execTxnBegin at_ path pg group s := rfl
@[simp] theorem exec_txnCommit (at_ : Nat) (path : Nat) (pg : Nat) (group : Nat) : exec (.txnCommit at_ path pg group) s = execTxnCommit at_ path pg group s := rfl
@[simp] theorem exec_txnAbort (at_ : Nat) (path : Nat) (pg : Nat) (group : Nat) : exec (.txnAbort at_ path pg group) s = execTxnAbort at_ path pg group s := rfl
@[simp] theorem exec_txnTimeout (at_ : Nat) (group : Nat) : exec (.txnTimeout at_ group) s = execTxnTimeout at_ group s := rfl
@[simp] theorem exec_lockWrite (at_ : Nat) (path : Nat) (pg : Nat) (value : Nat) : exec (.lockWrite at_ path pg value) s = execLockWrite at_ path pg value s := rfl
@[simp] theorem exec_registerWrite (at_ : Nat) (path : Nat) (addr : Nat) (value : BusData) : exec (.registerWrite at_ path addr value) s = execRegisterWrite at_ path addr value s := rfl
@[simp] theorem exec_sysClear (at_ : Nat) (path : Nat) : exec (.sysClear at_ path) s = execSysClear at_ path s := rfl
@[simp] theorem exec_release (at_ : Nat) (path : Nat) : exec (.release at_ path) s = execRelease at_ path s := rfl
@[simp] theorem exec_softReset (at_ : Nat) (path : Nat) (wkey : Nat) : exec (.softReset at_ path wkey) s = execSoftReset at_ path wkey s := rfl
@[simp] theorem exec_claim (at_ : Nat) (ctl : Nat) : exec (.claim at_ ctl) s = execClaim at_ ctl s := rfl
@[simp] theorem exec_hclaim (at_ : Nat) (port : Nat) (ctl : Nat) : exec (.hclaim at_ port ctl) s = execHclaim at_ port ctl s := rfl
@[simp] theorem exec_complete (at_ : Nat) (path : Nat) (ctl : Nat) (id : Nat) : exec (.complete at_ path ctl id) s = execComplete at_ path ctl id s := rfl
@[simp] theorem exec_hcomplete (at_ : Nat) (path : Nat) (ctl : Nat) (id : Nat) : exec (.hcomplete at_ path ctl id) s = execHcomplete at_ path ctl id s := rfl
@[simp] theorem exec_swset (at_ : Nat) (path : Nat) (ctl : Nat) (id : Nat) : exec (.swset at_ path ctl id) s = execSwset at_ path ctl id s := rfl
@[simp] theorem exec_ibiSend (at_ : Nat) (port : Nat) (accepted : Bool) : exec (.ibiSend at_ port accepted) s = execIbiSend at_ port accepted s := rfl
@[simp] theorem exec_clrNAssert (at_ : Nat) : exec (.clrNAssert at_) s = execClrNAssert at_ s := rfl
@[simp] theorem exec_clrNDeassert (at_ : Nat) : exec (.clrNDeassert at_) s = execClrNDeassert at_ s := rfl
@[simp] theorem exec_optoffAssert (at_ : Nat) : exec (.optoffAssert at_) s = execOptoffAssert at_ s := rfl
@[simp] theorem exec_optoffRelease (at_ : Nat) : exec (.optoffRelease at_) s = execOptoffRelease at_ s := rfl
@[simp] theorem exec_planeLoad (at_ : Nat) (w : Nat) : exec (.planeLoad at_ w) s = execPlaneLoad at_ w s := rfl
@[simp] theorem exec_planeReady (at_ : Nat) (w : Nat) : exec (.planeReady at_ w) s = execPlaneReady at_ w s := rfl
@[simp] theorem exec_swapStrobe (at_ : Nat) (w : Nat) : exec (.swapStrobe at_ w) s = execSwapStrobe at_ w s := rfl
@[simp] theorem exec_groupStrobe (at_ : Nat) (g : Nat) : exec (.groupStrobe at_ g) s = execGroupStrobe at_ g s := rfl
@[simp] theorem exec_refresh (at_ : Nat) (w : Nat) (ends : Bool) : exec (.refresh at_ w ends) s = execRefresh at_ w ends s := rfl
@[simp] theorem exec_loUnlock (at_ : Nat) (w : Nat) (row : Nat) (err : Nat) : exec (.loUnlock at_ w row err) s = execLoUnlock at_ w row err s := rfl
@[simp] theorem exec_loRelock (at_ : Nat) (w : Nat) (row : Nat) (err : Nat) : exec (.loRelock at_ w row err) s = execLoRelock at_ w row err s := rfl
@[simp] theorem exec_pilotWindowEnd (at_ : Nat) (w : Nat) : exec (.pilotWindowEnd at_ w) s = execPilotWindowEnd at_ w s := rfl
@[simp] theorem exec_passSetup (at_ : Nat) (w : Nat) : exec (.passSetup at_ w) s = execPassSetup at_ w s := rfl
@[simp] theorem exec_passRun (at_ : Nat) (w : Nat) (errs : List (List Int)) (fault : Option (Nat × Nat)) : exec (.passRun at_ w errs fault) s = execPassRun at_ w errs fault s := rfl
@[simp] theorem exec_passEpilogue (at_ : Nat) (w : Nat) (fault : Option (Nat × Nat)) : exec (.passEpilogue at_ w fault) s = execPassEpilogue at_ w fault s := rfl
@[simp] theorem exec_passDone (at_ : Nat) (w : Nat) : exec (.passDone at_ w) s = execPassDone at_ w s := rfl
@[simp] theorem exec_qfitWindow (at_ : Nat) (w : Nat) : exec (.qfitWindow at_ w) s = execQfitWindow at_ w s := rfl
@[simp] theorem exec_cntClr (at_ : Nat) (path : Nat) (w : Nat) : exec (.cntClr at_ path w) s = execCntClr at_ path w s := rfl
@[simp] theorem exec_tensorMaxabsWrite (at_ : Nat) (path : Nat) (w : Nat) (value : Nat) : exec (.tensorMaxabsWrite at_ path w value) s = execTensorMaxabsWrite at_ path w value s := rfl
@[simp] theorem exec_headDoorbell (at_ : Nat) (path : Nat) (q : Nat) (head : Nat) : exec (.headDoorbell at_ path q head) s = execHeadDoorbell at_ path q head s := rfl
@[simp] theorem exec_descIssue (at_ : Nat) (q : Nat) : exec (.descIssue at_ q) s = execDescIssue at_ q s := rfl
@[simp] theorem exec_transferIssue (at_ : Nat) (p : Nat) : exec (.transferIssue at_ p) s = execTransferIssue at_ p s := rfl
@[simp] theorem exec_transferComplete (at_ : Nat) (q : Nat) : exec (.transferComplete at_ q) s = execTransferComplete at_ q s := rfl
@[simp] theorem exec_copy (at_ : Nat) (q : Nat) : exec (.copy at_ q) s = execCopy at_ q s := rfl
@[simp] theorem exec_tile (at_ : Nat) (q : Nat) : exec (.tile at_ q) s = execTile at_ q s := rfl
@[simp] theorem exec_multicast (at_ : Nat) (q : Nat) : exec (.multicast at_ q) s = execMulticast at_ q s := rfl
@[simp] theorem exec_scales (at_ : Nat) (q : Nat) : exec (.scales at_ q) s = execScales at_ q s := rfl
@[simp] theorem exec_gather (at_ : Nat) (q : Nat) : exec (.gather at_ q) s = execGather at_ q s := rfl
@[simp] theorem exec_scatter (at_ : Nat) (q : Nat) : exec (.scatter at_ q) s = execScatter at_ q s := rfl
@[simp] theorem exec_stats (at_ : Nat) (q : Nat) : exec (.stats at_ q) s = execStats at_ q s := rfl
@[simp] theorem exec_reduce (at_ : Nat) (q : Nat) : exec (.reduce at_ q) s = execReduce at_ q s := rfl
@[simp] theorem exec_queueHalted (at_ : Nat) (q : Nat) : exec (.queueHalted at_ q) s = execQueueHalted at_ q s := rfl
@[simp] theorem exec_rearm (at_ : Nat) (path : Nat) (q : Nat) (slot : Nat) (gen : Nat) : exec (.rearm at_ path q slot gen) s = execRearm at_ path q slot gen s := rfl
@[simp] theorem exec_barCfgWrite (at_ : Nat) (path : Nat) (die : Nat) (i : Nat) (target : Nat) : exec (.barCfgWrite at_ path die i target) s = execBarCfgWrite at_ path die i target s := rfl
@[simp] theorem exec_startSequenceDone (at_ : Nat) (pg : Nat) : exec (.startSequenceDone at_ pg) s = execStartSequenceDone at_ pg s := rfl
@[simp] theorem exec_startSequenceFail (at_ : Nat) (pg : Nat) : exec (.startSequenceFail at_ pg) s = execStartSequenceFail at_ pg s := rfl
@[simp] theorem exec_drainDone (at_ : Nat) (pg : Nat) : exec (.drainDone at_ pg) s = execDrainDone at_ pg s := rfl
@[simp] theorem exec_cisternAccess (at_ : Nat) (req : CisternReq) (ecc : Nat) (damaged : Bool) (data : List Byte) (tid : Nat) (blk : Nat) (gen : Nat) (fmt : Nat) (withheld : Bool) (delayed : Bool) (crcOk : Bool) : exec (.cisternAccess at_ req ecc damaged data tid blk gen fmt withheld delayed crcOk) s = execCisternAccess at_ req ecc damaged data tid blk gen fmt withheld delayed crcOk s := rfl
@[simp] theorem exec_patrolScrub (at_ : Nat) (cis : Nat) (finds : List Nat) : exec (.patrolScrub at_ cis finds) s = execPatrolScrub at_ cis finds s := rfl
@[simp] theorem exec_sgdMomentum (at_ : Nat) (cis : Nat) : exec (.sgdMomentum at_ cis) s = execSgdMomentum at_ cis s := rfl
@[simp] theorem exec_adamw (at_ : Nat) (cis : Nat) : exec (.adamw at_ cis) s = execAdamw at_ cis s := rfl
@[simp] theorem exec_optDone (at_ : Nat) (cis : Nat) : exec (.optDone at_ cis) s = execOptDone at_ cis s := rfl
@[simp] theorem exec_rowsumBuild (at_ : Nat) (addr : Nat) : exec (.rowsumBuild at_ addr) s = execRowsumBuild at_ addr s := rfl
@[simp] theorem exec_rowsumDone (at_ : Nat) (addr : Nat) : exec (.rowsumDone at_ addr) s = execRowsumDone at_ addr s := rfl
@[simp] theorem exec_svcLoad (at_ : Nat) (path : Nat) : exec (.svcLoad at_ path) s = execSvcLoad at_ path s := rfl
@[simp] theorem exec_planLoaded (at_ : Nat) : exec (.planLoaded at_) s = execPlanLoaded at_ s := rfl
@[simp] theorem exec_svcStart (at_ : Nat) (path : Nat) : exec (.svcStart at_ path) s = execSvcStart at_ path s := rfl
@[simp] theorem exec_planRunStart (at_ : Nat) : exec (.planRunStart at_) s = execPlanRunStart at_ s := rfl
@[simp] theorem exec_svcStop (at_ : Nat) (path : Nat) : exec (.svcStop at_ path) s = execSvcStop at_ path s := rfl
@[simp] theorem exec_planStopDone (at_ : Nat) : exec (.planStopDone at_) s = execPlanStopDone at_ s := rfl
@[simp] theorem exec_svcUnload (at_ : Nat) (path : Nat) : exec (.svcUnload at_ path) s = execSvcUnload at_ path s := rfl
@[simp] theorem exec_moonPassWrite (at_ : Nat) (n : Nat) : exec (.moonPassWrite at_ n) s = execMoonPassWrite at_ n s := rfl
@[simp] theorem exec_seqSlotTimeout (at_ : Nat) (prog : Nat) (slot : Nat) : exec (.seqSlotTimeout at_ prog slot) s = execSeqSlotTimeout at_ prog slot s := rfl
@[simp] theorem exec_lightSample (at_ : Nat) (taps : List (Nat × List Int)) (rx : List (Nat × List Int)) : exec (.lightSample at_ taps rx) s = execLightSample at_ taps rx s := rfl
@[simp] theorem exec_cmdPrewarm (at_ : Nat) (path : Nat) (src : Nat) : exec (.cmdPrewarm at_ path src) s = execCmdPrewarm at_ path src s := rfl
@[simp] theorem exec_cmdHandover (at_ : Nat) (path : Nat) (src : Nat) : exec (.cmdHandover at_ path src) s = execCmdHandover at_ path src s := rfl
@[simp] theorem exec_spareReady (at_ : Nat) (src : Nat) : exec (.spareReady at_ src) s = execSpareReady at_ src s := rfl
@[simp] theorem exec_warmingTimeout (at_ : Nat) (src : Nat) : exec (.warmingTimeout at_ src) s = execWarmingTimeout at_ src s := rfl
@[simp] theorem exec_darkFence (at_ : Nat) (w : Nat) : exec (.darkFence at_ w) s = execDarkFence at_ w s := rfl
@[simp] theorem exec_aprClose (at_ : Nat) (p : Nat) : exec (.aprClose at_ p) s = execAprClose at_ p s := rfl
@[simp] theorem exec_aprProbe (at_ : Nat) (p : Nat) (ends : Bool) : exec (.aprProbe at_ p ends) s = execAprProbe at_ p ends s := rfl
@[simp] theorem exec_aprOpen (at_ : Nat) (p : Nat) : exec (.aprOpen at_ p) s = execAprOpen at_ p s := rfl
@[simp] theorem exec_monitorRead (at_ : Nat) (bank : Nat) (inst : Nat) (channel : Nat) (value : Int) (m : Int) : exec (.monitorRead at_ bank inst channel value m) s = execMonitorRead at_ bank inst channel value m s := rfl
@[simp] theorem exec_trimDataWrite (at_ : Nat) (path : Nat) (c : Nat) (value : Nat) : exec (.trimDataWrite at_ path c value) s = execTrimDataWrite at_ path c value s := rfl
@[simp] theorem exec_refcheck (at_ : Nat) (path : Nat) (fault : Bool) (iref : Int) (hspan : Int) (mon : Int) : exec (.refcheck at_ path fault iref hspan mon) s = execRefcheck at_ path fault iref hspan mon s := rfl
@[simp] theorem exec_wellNow (at_ : Nat) (path : Nat) : exec (.wellNow at_ path) s = execWellNow at_ path s := rfl
@[simp] theorem exec_laneNow (at_ : Nat) (path : Nat) : exec (.laneNow at_ path) s = execLaneNow at_ path s := rfl
@[simp] theorem exec_combNow (at_ : Nat) (path : Nat) : exec (.combNow at_ path) s = execCombNow at_ path s := rfl
@[simp] theorem exec_calEligible (at_ : Nat) (w : Nat) : exec (.calEligible at_ w) s = execCalEligible at_ w s := rfl
@[simp] theorem exec_calOverdue (at_ : Nat) (w : Nat) : exec (.calOverdue at_ w) s = execCalOverdue at_ w s := rfl
@[simp] theorem exec_poolCopyDone (at_ : Nat) (orig : Nat) : exec (.poolCopyDone at_ orig) s = execPoolCopyDone at_ orig s := rfl
@[simp] theorem exec_calMeasurePass (at_ : Nat) (w : Nat) (pass : CalPass) : exec (.calMeasurePass at_ w pass) s = execCalMeasurePass at_ w pass s := rfl
@[simp] theorem exec_laneRecal (at_ : Nat) (port : Nat) : exec (.laneRecal at_ port) s = execLaneRecal at_ port s := rfl
@[simp] theorem exec_laneCalResult (at_ : Nat) (port : Nat) (lane : Nat) (values : List Int) (marginOld : Nat) (marginNew : Nat) : exec (.laneCalResult at_ port lane values marginOld marginNew) s = execLaneCalResult at_ port lane values marginOld marginNew s := rfl
@[simp] theorem exec_combRecal (at_ : Nat) (src : Nat) (lines : List (Int × Int × Int)) : exec (.combRecal at_ src lines) s = execCombRecal at_ src lines s := rfl
@[simp] theorem exec_repeatRun (at_ : Nat) (w : Nat) (errs : List (List Int)) (residue : Bool) : exec (.repeatRun at_ w errs residue) s = execRepeat at_ w errs residue s := rfl
@[simp] theorem exec_ftEligible (at_ : Nat) (w : Nat) : exec (.ftEligible at_ w) s = execFtEligible at_ w s := rfl
@[simp] theorem exec_fieldTestSession (at_ : Nat) (w : Nat) (run : SessionRun) : exec (.fieldTestSession at_ w run) s = execFieldTestSession at_ w run s := rfl
@[simp] theorem exec_testNow (at_ : Nat) (path : Nat) : exec (.testNow at_ path) s = execTestNow at_ path s := rfl
@[simp] theorem exec_returnNow (at_ : Nat) (path : Nat) : exec (.returnNow at_ path) s = execReturnNow at_ path s := rfl
@[simp] theorem exec_fleetLoad (at_ : Nat) (path : Nat) : exec (.fleetLoad at_ path) s = execFleetLoad at_ path s := rfl
@[simp] theorem exec_fleetActive (at_ : Nat) : exec (.fleetActive at_) s = execFleetActive at_ s := rfl
@[simp] theorem exec_recPop (at_ : Nat) (path : Nat) : exec (.recPop at_ path) s = execRecPop at_ path s := rfl
@[simp] theorem exec_watchdogMiss (at_ : Nat) (core : Nat) : exec (.watchdogMiss at_ core) s = execWatchdogMiss at_ core s := rfl
@[simp] theorem exec_lockstepMismatch (at_ : Nat) (die : Nat) : exec (.lockstepMismatch at_ die) s = execLockstepMismatch at_ die s := rfl
@[simp] theorem exec_monitorMismatch (at_ : Nat) : exec (.monitorMismatch at_) s = execMonitorMismatch at_ s := rfl
@[simp] theorem exec_serviceWatchdogReset (at_ : Nat) : exec (.serviceWatchdogReset at_) s = execServiceWatchdogReset at_ s := rfl
@[simp] theorem exec_laneTrained (at_ : Nat) (p : Nat) (k : Nat) : exec (.laneTrained at_ p k) s = execLaneTrained at_ p k s := rfl
@[simp] theorem exec_laneLockLoss (at_ : Nat) (p : Nat) (k : Nat) : exec (.laneLockLoss at_ p k) s = execLaneLockLoss at_ p k s := rfl
@[simp] theorem exec_linkFrame (at_ : Nat) (p : Nat) (h : LinkHdr) (fec : List (Nat × Nat × Nat)) : exec (.linkFrame at_ p h fec) s = execLinkFrame at_ p h fec s := rfl
@[simp] theorem exec_replayTimeout (at_ : Nat) (p : Nat) (space : Nat) : exec (.replayTimeout at_ p space) s = execReplayTimeout at_ p space s := rfl
@[simp] theorem exec_holadeWrite (at_ : Nat) (p : Nat) (h : LinkHdr) (m : Msg) : exec (.holadeWrite at_ p h m) s = execHoladeWrite at_ p h m s := rfl
@[simp] theorem exec_readReq (at_ : Nat) (p : Nat) (h : LinkHdr) (m : Msg) : exec (.readReq at_ p h m) s = execReadReq at_ p h m s := rfl
@[simp] theorem exec_readResp (at_ : Nat) (p : Nat) (h : LinkHdr) (m : Msg) : exec (.readResp at_ p h m) s = execReadResp at_ p h m s := rfl
@[simp] theorem exec_reduceAdd (at_ : Nat) (p : Nat) (h : LinkHdr) (m : Msg) : exec (.reduceAdd at_ p h m) s = execReduceAdd at_ p h m s := rfl
@[simp] theorem exec_result (at_ : Nat) (p : Nat) (h : LinkHdr) (m : Msg) : exec (.result at_ p h m) s = execResult at_ p h m s := rfl
@[simp] theorem exec_digestContribution (at_ : Nat) (p : Nat) (h : LinkHdr) (m : Msg) : exec (.digestContribution at_ p h m) s = execDigestContribution at_ p h m s := rfl
@[simp] theorem exec_digestResult (at_ : Nat) (p : Nat) (h : LinkHdr) (m : Msg) : exec (.digestResult at_ p h m) s = execDigestResult at_ p h m s := rfl
@[simp] theorem exec_bcast (at_ : Nat) (p : Nat) (h : LinkHdr) (m : Msg) : exec (.bcast at_ p h m) s = execBcast at_ p h m s := rfl
@[simp] theorem exec_tickSyncAnnounce (at_ : Nat) (p : Nat) (h : LinkHdr) (m : Msg) (arrival : Nat) : exec (.tickSyncAnnounce at_ p h m arrival) s = execTickSyncAnnounce at_ p h m arrival s := rfl
@[simp] theorem exec_delayMeasure (at_ : Nat) (p : Nat) : exec (.delayMeasure at_ p) s = execDelayMeasure at_ p s := rfl
@[simp] theorem exec_delayReq (at_ : Nat) (p : Nat) (h : LinkHdr) (m : Msg) (residence : Nat) : exec (.delayReq at_ p h m residence) s = execDelayReq at_ p h m residence s := rfl
@[simp] theorem exec_delayResp (at_ : Nat) (p : Nat) (h : LinkHdr) (m : Msg) : exec (.delayResp at_ p h m) s = execDelayResp at_ p h m s := rfl
@[simp] theorem exec_tickSyncLoss (at_ : Nat) : exec (.tickSyncLoss at_) s = execTickSyncLoss at_ s := rfl
@[simp] theorem exec_memberAnnounce (at_ : Nat) (p : Nat) (h : LinkHdr) (m : Msg) (a : Announce) : exec (.memberAnnounce at_ p h m a) s = execMemberAnnounce at_ p h m a s := rfl
@[simp] theorem exec_memberJoin (at_ : Nat) (p : Nat) (h : LinkHdr) (m : Msg) : exec (.memberJoin at_ p h m) s = execMemberJoin at_ p h m s := rfl
@[simp] theorem exec_memberTable (at_ : Nat) (p : Nat) (h : LinkHdr) (m : Msg) : exec (.memberTable at_ p h m) s = execMemberTable at_ p h m s := rfl
@[simp] theorem exec_memberLeave (at_ : Nat) (p : Nat) (h : LinkHdr) (m : Msg) : exec (.memberLeave at_ p h m) s = execMemberLeave at_ p h m s := rfl
@[simp] theorem exec_memberEpoch (at_ : Nat) (p : Nat) (h : LinkHdr) (m : Msg) (number : Nat) (tick : Nat) (period : Nat) (joins : List (Nat × Nat)) (leaves : List Nat) : exec (.memberEpoch at_ p h m number tick period joins leaves) s = execMemberEpoch at_ p h m number tick period joins leaves s := rfl
@[simp] theorem exec_memberTimeout (at_ : Nat) (p : Nat) : exec (.memberTimeout at_ p) s = execMemberTimeout at_ p s := rfl
@[simp] theorem exec_gmTimeout (at_ : Nat) : exec (.gmTimeout at_) s = execGmTimeout at_ s := rfl
@[simp] theorem exec_stopRx (at_ : Nat) (p : Nat) (h : LinkHdr) (m : Msg) : exec (.stopRx at_ p h m) s = execStopRx at_ p h m s := rfl
@[simp] theorem exec_resumeRx (at_ : Nat) (p : Nat) (h : LinkHdr) (m : Msg) : exec (.resumeRx at_ p h m) s = execResumeRx at_ p h m s := rfl
@[simp] theorem exec_fenceRx (at_ : Nat) (p : Nat) (h : LinkHdr) (m : Msg) : exec (.fenceRx at_ p h m) s = execFenceRx at_ p h m s := rfl
@[simp] theorem exec_ctrlSendStop (at_ : Nat) (path : Nat) (mask : Nat) (rank : Nat) : exec (.ctrlSendStop at_ path mask rank) s = execCtrlSendStop at_ path mask rank s := rfl
@[simp] theorem exec_ctrlSendFence (at_ : Nat) (path : Nat) (mask : Nat) (rank : Nat) : exec (.ctrlSendFence at_ path mask rank) s = execCtrlSendFence at_ path mask rank s := rfl
@[simp] theorem exec_ctrlSendResume (at_ : Nat) (path : Nat) (mask : Nat) (rank : Nat) : exec (.ctrlSendResume at_ path mask rank) s = execCtrlSendResume at_ path mask rank s := rfl
@[simp] theorem exec_groupReload (at_ : Nat) (path : Nat) : exec (.groupReload at_ path) s = execGroupReload at_ path s := rfl
@[simp] theorem exec_fabLeave (at_ : Nat) (path : Nat) : exec (.fabLeave at_ path) s = execFabLeave at_ path s := rfl
@[simp] theorem exec_hportDrainTimeout (at_ : Nat) (p : Nat) : exec (.hportDrainTimeout at_ p) s = execHportDrainTimeout at_ p s := rfl
@[simp] theorem exec_frameStart (at_ : Nat) (p : Nat) (v : Nat) (num : Nat) (c : PacketCheck) : exec (.frameStart at_ p v num c) s = execFrameStart at_ p v num c s := rfl
@[simp] theorem exec_requestDescriptor (at_ : Nat) (p : Nat) (v : Nat) (bytes : List Byte) (c : PacketCheck) : exec (.requestDescriptor at_ p v bytes c) s = execRequestDescriptor at_ p v bytes c s := rfl
@[simp] theorem exec_tensorHeader (at_ : Nat) (p : Nat) (v : Nat) (bytes : List Byte) (c : PacketCheck) : exec (.tensorHeader at_ p v bytes c) s = execTensorHeader at_ p v bytes c s := rfl
@[simp] theorem exec_payloadPacket (at_ : Nat) (p : Nat) (v : Nat) (bytes : List Byte) (c : PacketCheck) : exec (.payloadPacket at_ p v bytes c) s = execPayloadPacket at_ p v bytes c s := rfl
@[simp] theorem exec_rawLine (at_ : Nat) (p : Nat) (v : Nat) (dt : Nat) (bytes : List Byte) (c : PacketCheck) : exec (.rawLine at_ p v dt bytes c) s = execRawLine at_ p v dt bytes c s := rfl
@[simp] theorem exec_loadHeader (at_ : Nat) (p : Nat) (v : Nat) (bytes : List Byte) (c : PacketCheck) : exec (.loadHeader at_ p v bytes c) s = execLoadHeader at_ p v bytes c s := rfl
@[simp] theorem exec_frameEnd (at_ : Nat) (p : Nat) (v : Nat) (num : Nat) (c : PacketCheck) : exec (.frameEnd at_ p v num c) s = execFrameEnd at_ p v num c s := rfl
@[simp] theorem exec_frameTimeout (at_ : Nat) (p : Nat) (v : Nat) : exec (.frameTimeout at_ p v) s = execFrameTimeout at_ p v s := rfl
@[simp] theorem exec_slotRelease (at_ : Nat) (path : Nat) (p : Nat) (v : Nat) (slot : Nat) : exec (.slotRelease at_ path p v slot) s = execSlotRelease at_ path p v slot s := rfl
@[simp] theorem exec_phyUnlock (at_ : Nat) (p : Nat) : exec (.phyUnlock at_ p) s = execPhyUnlock at_ p s := rfl
@[simp] theorem exec_preambleWrite (at_ : Nat) (q : Nat) (v : Nat) (bytes : List Byte) : exec (.preambleWrite at_ q v bytes) s = execPreambleWrite at_ q v bytes s := rfl
@[simp] theorem exec_i3cWrite (at_ : Nat) (port : Nat) (hdr : Bool) (code : Nat) (payload : List Byte) (early : Bool) (bad : Bool) : exec (.i3cWrite at_ port hdr code payload early bad) s = execI3cWrite at_ port hdr code payload early bad s := rfl
@[simp] theorem exec_i3cRead (at_ : Nat) (port : Nat) (hdr : Bool) (payload : List Byte) (bad : Bool) : exec (.i3cRead at_ port hdr payload bad) s = execI3cRead at_ port hdr payload bad s := rfl
@[simp] theorem exec_responseRead (at_ : Nat) (port : Nat) (hdr : Bool) (code : Nat) : exec (.responseRead at_ port hdr code) s = execResponseRead at_ port hdr code s := rfl
@[simp] theorem exec_enec (at_ : Nat) (port : Nat) (direct : Bool) (events : Nat) : exec (.enec at_ port direct events) s = execEnec at_ port direct events s := rfl
@[simp] theorem exec_disec (at_ : Nat) (port : Nat) (direct : Bool) (events : Nat) : exec (.disec at_ port direct events) s = execDisec at_ port direct events s := rfl
@[simp] theorem exec_rstdaa (at_ : Nat) (port : Nat) : exec (.rstdaa at_ port) s = execRstdaa at_ port s := rfl
@[simp] theorem exec_entdaa (at_ : Nat) (port : Nat) (da : Nat) (won : Bool) : exec (.entdaa at_ port da won) s = execEntdaa at_ port da won s := rfl
@[simp] theorem exec_setmwl (at_ : Nat) (port : Nat) (direct : Bool) (len : Nat) : exec (.setmwl at_ port direct len) s = execSetmwl at_ port direct len s := rfl
@[simp] theorem exec_getmwl (at_ : Nat) (port : Nat) : exec (.getmwl at_ port) s = execGetmwl at_ port s := rfl
@[simp] theorem exec_setmrl (at_ : Nat) (port : Nat) (direct : Bool) (len : Nat) (ibi : Nat) : exec (.setmrl at_ port direct len ibi) s = execSetmrl at_ port direct len ibi s := rfl
@[simp] theorem exec_getmrl (at_ : Nat) (port : Nat) : exec (.getmrl at_ port) s = execGetmrl at_ port s := rfl
@[simp] theorem exec_enthdr0 (at_ : Nat) (port : Nat) : exec (.enthdr0 at_ port) s = execEnthdr0 at_ port s := rfl
@[simp] theorem exec_hdrExit (at_ : Nat) (port : Nat) : exec (.hdrExit at_ port) s = execHdrExit at_ port s := rfl
@[simp] theorem exec_setaasa (at_ : Nat) (port : Nat) : exec (.setaasa at_ port) s = execSetaasa at_ port s := rfl
@[simp] theorem exec_rstact (at_ : Nat) (port : Nat) (direct : Bool) (get : Bool) (action : Nat) : exec (.rstact at_ port direct get action) s = execRstact at_ port direct get action s := rfl
@[simp] theorem exec_targetReset (at_ : Nat) (port : Nat) : exec (.targetReset at_ port) s = execTargetReset at_ port s := rfl
@[simp] theorem exec_setdasa (at_ : Nat) (port : Nat) (da : Nat) : exec (.setdasa at_ port da) s = execSetdasa at_ port da s := rfl
@[simp] theorem exec_setnewda (at_ : Nat) (port : Nat) (da : Nat) : exec (.setnewda at_ port da) s = execSetnewda at_ port da s := rfl
@[simp] theorem exec_getpid (at_ : Nat) (port : Nat) : exec (.getpid at_ port) s = execGetpid at_ port s := rfl
@[simp] theorem exec_getbcr (at_ : Nat) (port : Nat) : exec (.getbcr at_ port) s = execGetbcr at_ port s := rfl
@[simp] theorem exec_getdcr (at_ : Nat) (port : Nat) : exec (.getdcr at_ port) s = execGetdcr at_ port s := rfl
@[simp] theorem exec_getstatus (at_ : Nat) (port : Nat) : exec (.getstatus at_ port) s = execGetstatus at_ port s := rfl
@[simp] theorem exec_getmxds (at_ : Nat) (port : Nat) : exec (.getmxds at_ port) s = execGetmxds at_ port s := rfl
@[simp] theorem exec_getcaps (at_ : Nat) (port : Nat) : exec (.getcaps at_ port) s = execGetcaps at_ port s := rfl
@[simp] theorem exec_hotJoin (at_ : Nat) (port : Nat) : exec (.hotJoin at_ port) s = execHotJoin at_ port s := rfl
@[simp] theorem exec_hmemAddrLoWrite (at_ : Nat) (port : Nat) (value : Nat) : exec (.hmemAddrLoWrite at_ port value) s = execHmemAddrLoWrite at_ port value s := rfl
@[simp] theorem exec_hmemDataWrite (at_ : Nat) (port : Nat) (i : Nat) (value : Nat) : exec (.hmemDataWrite at_ port i value) s = execHmemDataWrite at_ port i value s := rfl
@[simp] theorem exec_hmemDataRead (at_ : Nat) (port : Nat) (i : Nat) : exec (.hmemDataRead at_ port i) s = execHmemDataRead at_ port i s := rfl
@[simp] theorem exec_sensorSample (at_ : Nat) (readings : List (Nat × Nat × Int)) : exec (.sensorSample at_ readings) s = execSensorSample at_ readings s := rfl
@[simp] theorem exec_sensorRestored (at_ : Nat) (sensor : Nat) : exec (.sensorRestored at_ sensor) s = execSensorRestored at_ sensor s := rfl
@[simp] theorem exec_throttleRise (at_ : Nat) (group : Nat) : exec (.throttleRise at_ group) s = execThrottleRise at_ group s := rfl
@[simp] theorem exec_throttleRelax (at_ : Nat) (group : Nat) : exec (.throttleRelax at_ group) s = execThrottleRelax at_ group s := rfl
@[simp] theorem exec_fastRateEnd (at_ : Nat) (group : Nat) : exec (.fastRateEnd at_ group) s = execFastRateEnd at_ group s := rfl
@[simp] theorem exec_thermalReset (at_ : Nat) : exec (.thermalReset at_) s = execThermalReset at_ s := rfl
@[simp] theorem exec_railSample (at_ : Nat) (rails : List (Nat × Nat)) (combs : List Nat) : exec (.railSample at_ rails combs) s = execRailSample at_ rails combs s := rfl
@[simp] theorem exec_powerOn (at_ : Nat) : exec (.powerOn at_) s = execPowerOn at_ s := rfl
@[simp] theorem exec_pwrgdFall (at_ : Nat) : exec (.pwrgdFall at_) s = execPwrgdFall at_ s := rfl
@[simp] theorem exec_brownOut (at_ : Nat) : exec (.brownOut at_) s = execBrownOut at_ s := rfl
@[simp] theorem exec_resetNAssert (at_ : Nat) : exec (.resetNAssert at_) s = execResetNAssert at_ s := rfl
@[simp] theorem exec_resetRelease (at_ : Nat) (straps : Nat) (puf : Bool) (slotA : Nat) (slotB : Nat) (calA : Nat) (calB : Nat) (badRows : Bool) (badSource : Bool) (refFault : Bool) (iref : Int) (hspan : Int) (mon : Int) : exec (.resetRelease at_ straps puf slotA slotB calA calB badRows badSource refFault iref hspan mon) s = execResetRelease at_ straps puf slotA slotB calA calB badRows badSource refFault iref hspan mon s := rfl
@[simp] theorem exec_bootDone (at_ : Nat) : exec (.bootDone at_) s = execBootDone at_ s := rfl
@[simp] theorem exec_bootLate (at_ : Nat) : exec (.bootLate at_) s = execBootLate at_ s := rfl
@[simp] theorem exec_bootUpdate (at_ : Nat) (path : Nat) : exec (.bootUpdate at_ path) s = execBootUpdate at_ path s := rfl
@[simp] theorem exec_updateDone (at_ : Nat) (ok : Bool) : exec (.updateDone at_ ok) s = execUpdateDone at_ ok s := rfl
@[simp] theorem exec_recoveryUpdate (at_ : Nat) (path : Nat) : exec (.recoveryUpdate at_ path) s = execRecoveryUpdate at_ path s := rfl
@[simp] theorem exec_bootCommit (at_ : Nat) (path : Nat) : exec (.bootCommit at_ path) s = execBootCommit at_ path s := rfl
@[simp] theorem exec_saveCfg (at_ : Nat) (path : Nat) : exec (.saveCfg at_ path) s = execSaveCfg at_ path s := rfl
@[simp] theorem exec_evidence (at_ : Nat) (path : Nat) : exec (.evidence at_ path) s = execEvidence at_ path s := rfl
@[simp] theorem exec_evidenceReady (at_ : Nat) : exec (.evidenceReady at_) s = execEvidenceReady at_ s := rfl
@[simp] theorem exec_owner (at_ : Nat) (path : Nat) : exec (.owner at_ path) s = execOwner at_ path s := rfl
@[simp] theorem exec_refclkLost (at_ : Nat) : exec (.refclkLost at_) s = execRefclkLost at_ s := rfl
@[simp] theorem exec_refclkRestore (at_ : Nat) : exec (.refclkRestore at_) s = execRefclkRestore at_ s := rfl
@[simp] theorem exec_laneTrainingFail (at_ : Nat) (p : Nat) (k : Nat) : exec (.laneTrainingFail at_ p k) s = execLaneTrainingFail at_ p k s := rfl
@[simp] theorem exec_phyLock (at_ : Nat) (p : Nat) (rate : Nat) : exec (.phyLock at_ p rate) s = execPhyLock at_ p rate s := rfl
@[simp] theorem exec_evtSet (at_ : Nat) (path : Nat) (pg : Nat) (value : Nat) : exec (.evtSet at_ path pg value) s = execEvtSet at_ path pg value s := rfl
@[simp] theorem exec_txFrameEnd (at_ : Nat) (q : Nat) : exec (.txFrameEnd at_ q) s = execTxFrameEnd at_ q s := rfl

end Sys2Proof.Machine
end

