-- ==== Sys2Proof/Laws/Sparse.lean ====
section
/-! SUPPORT. Laws of sparse tables: reading after a write, and the canonical form kept by every operation. -/

namespace Sys2Proof.Machine

variable {α : Type}

theorem sparseAbove_mono {a b : Nat} (h : a ≤ b) {l : List (Nat × α)} (hl : sparseAbove b l = true) : sparseAbove a l = true := by
  simp only [sparseAbove, List.all_eq_true, decide_eq_true_eq] at *
  intro e he
  have := hl e he
  omega

theorem sparseFind_above {b : Nat} {l : List (Nat × α)} (h : sparseAbove b l = true) {k : Nat} (hk : k ≤ b) : sparseFind l k = none := by
  induction l with
  | nil => rfl
  | cons e rest ih =>
    obtain ⟨k', v⟩ := e
    simp only [sparseAbove, List.all_cons, Bool.and_eq_true, decide_eq_true_eq] at h
    have hne : k' ≠ k := by omega
    simp only [sparseFind, if_neg hne]
    exact ih (by simpa [sparseAbove] using h.2)

theorem sparseFind_insert (l : List (Nat × α)) (key k : Nat) (x : α) :
    sparseFind (sparseInsert l key x) k = if k = key then some x else sparseFind l k := by
  induction l with
  | nil => by_cases h : key = k <;> simp [sparseInsert, sparseFind, h, eq_comm]
  | cons e rest ih =>
    obtain ⟨k', v⟩ := e
    unfold sparseInsert
    split
    · by_cases h : key = k
      · simp [sparseFind, h]
      · simp [sparseFind, h, Ne.symm h]
    · split
      · rename_i h2
        subst h2
        by_cases h : key = k
        · simp [sparseFind, h]
        · simp [sparseFind, h, Ne.symm h]
      · rename_i h2
        by_cases h3 : k' = k
        · subst h3
          simp [sparseFind, Ne.symm h2]
        · simp [sparseFind, h3, ih]

theorem sparseAbove_insert {b key : Nat} {l : List (Nat × α)} (x : α) (hb : b < key) (h : sparseAbove b l = true) :
    sparseAbove b (sparseInsert l key x) = true := by
  induction l with
  | nil => simp [sparseInsert, sparseAbove, hb]
  | cons e rest ih =>
    obtain ⟨k', v⟩ := e
    simp only [sparseAbove, List.all_cons, Bool.and_eq_true, decide_eq_true_eq] at h ih ⊢
    unfold sparseInsert
    split
    · simp [hb, h]
    · split
      · simpa [hb] using h.2
      · simpa [h.1] using ih h.2

/-- What a key reads as once the keys that a test refuses are gone. -/
theorem sparseFind_filter (p : Nat → Bool) (l : List (Nat × α)) (k : Nat) :
    sparseFind (l.filter fun e => p e.1) k = if p k then sparseFind l k else none := by
  induction l with
  | nil => simp [sparseFind]
  | cons e rest ih =>
    obtain ⟨k', v⟩ := e
    cases hp : p k' with
    | true =>
      rw [List.filter_cons_of_pos (by simpa using hp)]
      by_cases hk : k' = k
      · subst hk
        simp [sparseFind, hp]
      · simp only [sparseFind, if_neg hk, ih]
    | false =>
      rw [List.filter_cons_of_neg (by simp [hp]), ih]
      by_cases hk : k' = k
      · subst hk
        simp [hp]
      · simp [sparseFind, hk]

theorem sparseFind_erase (l : List (Nat × α)) (key k : Nat) :
    sparseFind (sparseErase l key) k = if k = key then none else sparseFind l k := by
  unfold sparseErase
  rw [sparseFind_filter (fun x => decide (x ≠ key))]
  by_cases h : k = key <;> simp [h]

/-- Filtering keeps the canonical form. -/
theorem sparseFilter_wf [DecidableEq α] {dflt : Nat → α} {l : List (Nat × α)} (p : Nat × α → Bool) (h : sparseWf dflt l = true) :
    sparseWf dflt (l.filter p) = true := by
  have above : ∀ (b : Nat) (r : List (Nat × α)), sparseAbove b r = true → sparseAbove b (r.filter p) = true := by
    intro b r hr
    simp only [sparseAbove, List.all_eq_true, decide_eq_true_eq] at *
    intro e he
    exact hr e (List.mem_of_mem_filter he)
  induction l with
  | nil => rfl
  | cons e rest ih =>
    obtain ⟨k', v⟩ := e
    simp only [sparseWf, Bool.and_eq_true, decide_eq_true_eq] at h
    rw [List.filter_cons]
    split
    · simp [sparseWf, h.1.1, above _ _ h.1.2, ih h.2]
    · exact ih h.2

/-- A write keeps the canonical form. -/
theorem sparsePut_wf [DecidableEq α] {dflt : Nat → α} {l : List (Nat × α)} (h : sparseWf dflt l = true) (key : Nat) (x : α) :
    sparseWf dflt (sparsePut dflt l key x) = true := by
  unfold sparsePut
  split
  · exact sparseFilter_wf _ h
  · rename_i hx
    induction l with
    | nil => simp [sparseInsert, sparseWf, sparseAbove, hx]
    | cons e rest ih =>
      obtain ⟨k', v⟩ := e
      simp only [sparseWf, Bool.and_eq_true, decide_eq_true_eq] at h
      unfold sparseInsert
      split
      · rename_i hlt
        have ha : sparseAbove key rest = true := sparseAbove_mono (Nat.le_of_lt hlt) h.1.2
        have hb : sparseAbove key ((k', v) :: rest) = true := by
          simp only [sparseAbove, List.all_cons, Bool.and_eq_true, decide_eq_true_eq] at ha ⊢
          exact ⟨hlt, ha⟩
        simp [sparseWf, hx, hb, h.1.1, h.1.2, h.2]
      · split
        · rename_i heq
          subst heq
          simp [sparseWf, hx, h.1.2, h.2]
        · rename_i h1 h2
          have hlt : k' < key := by omega
          simp [sparseWf, h.1.1, sparseAbove_insert x hlt h.1.2, ih h.2]

/-- Reading after a write: the value written at its key, every other key as before. -/
theorem sparseGet_put [DecidableEq α] (dflt : Nat → α) (l : List (Nat × α)) (key k : Nat) (x : α) :
    sparseGet dflt (sparsePut dflt l key x) k = if k = key then x else sparseGet dflt l k := by
  unfold sparseGet sparsePut
  split
  · rename_i hx
    rw [sparseFind_erase]
    split
    · rename_i hk
      simp [hk, hx]
    · rfl
  · rw [sparseFind_insert]
    split <;> rfl

end Sys2Proof.Machine
end

