-- ==== Sys2Proof/Laws/State.lean ====
section
/-! SUPPORT. What each named update of the state leaves alone: one lemma per field and update, true by unfolding once, so that no proof
unfolds a record update. -/

namespace Sys2Proof.Machine

variable (s : State)

/-! ### setWord -/

@[simp] theorem State.setWord_mem (a : Nat) (w : Word) : (s.setWord a w).mem = s.mem := rfl
@[simp] theorem State.setWord_seals (a : Nat) (w : Word) : (s.setWord a w).seals = s.seals := rfl
@[simp] theorem State.setWord_tick (a : Nat) (w : Word) : (s.setWord a w).tick = s.tick := rfl
@[simp] theorem State.setWord_txn (a : Nat) (w : Word) : (s.setWord a w).txn = s.txn := rfl
@[simp] theorem State.setWord_evt (a : Nat) (w : Word) : (s.setWord a w).evt = s.evt := rfl
@[simp] theorem State.setWord_pins (a : Nat) (w : Word) : (s.setWord a w).pins = s.pins := rfl
@[simp] theorem State.setWord_wells (a : Nat) (w : Word) : (s.setWord a w).wells = s.wells := rfl
@[simp] theorem State.setWord_pump (a : Nat) (w : Word) : (s.setWord a w).pump = s.pump := rfl
@[simp] theorem State.setWord_cist (a : Nat) (w : Word) : (s.setWord a w).cist = s.cist := rfl
@[simp] theorem State.setWord_plan (a : Nat) (w : Word) : (s.setWord a w).plan = s.plan := rfl
@[simp] theorem State.setWord_light (a : Nat) (w : Word) : (s.setWord a w).light = s.light := rfl
@[simp] theorem State.setWord_conv (a : Nat) (w : Word) : (s.setWord a w).conv = s.conv := rfl
@[simp] theorem State.setWord_cal (a : Nat) (w : Word) : (s.setWord a w).cal = s.cal := rfl
@[simp] theorem State.setWord_integ (a : Nat) (w : Word) : (s.setWord a w).integ = s.integ := rfl
@[simp] theorem State.setWord_fault (a : Nat) (w : Word) : (s.setWord a w).fault = s.fault := rfl
@[simp] theorem State.setWord_fabric (a : Nat) (w : Word) : (s.setWord a w).fabric = s.fabric := rfl
@[simp] theorem State.setWord_frames (a : Nat) (w : Word) : (s.setWord a w).frames = s.frames := rfl
@[simp] theorem State.setWord_i3c (a : Nat) (w : Word) : (s.setWord a w).i3c = s.i3c := rfl
@[simp] theorem State.setWord_therm (a : Nat) (w : Word) : (s.setWord a w).therm = s.therm := rfl
@[simp] theorem State.setWord_boot (a : Nat) (w : Word) : (s.setWord a w).boot = s.boot := rfl
@[simp] theorem State.setWord_pending (a : Nat) (w : Word) : (s.setWord a w).pending = s.pending := rfl
@[simp] theorem State.setWord_free (a : Nat) (w : Word) : (s.setWord a w).free = s.free := rfl

/-! ### wr -/

@[simp] theorem State.wr_mem (pg : Nat) (f : Field) (v i : Nat) : (s.wr pg f v i).mem = s.mem := rfl
@[simp] theorem State.wr_seals (pg : Nat) (f : Field) (v i : Nat) : (s.wr pg f v i).seals = s.seals := rfl
@[simp] theorem State.wr_tick (pg : Nat) (f : Field) (v i : Nat) : (s.wr pg f v i).tick = s.tick := rfl
@[simp] theorem State.wr_txn (pg : Nat) (f : Field) (v i : Nat) : (s.wr pg f v i).txn = s.txn := rfl
@[simp] theorem State.wr_evt (pg : Nat) (f : Field) (v i : Nat) : (s.wr pg f v i).evt = s.evt := rfl
@[simp] theorem State.wr_pins (pg : Nat) (f : Field) (v i : Nat) : (s.wr pg f v i).pins = s.pins := rfl
@[simp] theorem State.wr_wells (pg : Nat) (f : Field) (v i : Nat) : (s.wr pg f v i).wells = s.wells := rfl
@[simp] theorem State.wr_pump (pg : Nat) (f : Field) (v i : Nat) : (s.wr pg f v i).pump = s.pump := rfl
@[simp] theorem State.wr_cist (pg : Nat) (f : Field) (v i : Nat) : (s.wr pg f v i).cist = s.cist := rfl
@[simp] theorem State.wr_plan (pg : Nat) (f : Field) (v i : Nat) : (s.wr pg f v i).plan = s.plan := rfl
@[simp] theorem State.wr_light (pg : Nat) (f : Field) (v i : Nat) : (s.wr pg f v i).light = s.light := rfl
@[simp] theorem State.wr_conv (pg : Nat) (f : Field) (v i : Nat) : (s.wr pg f v i).conv = s.conv := rfl
@[simp] theorem State.wr_cal (pg : Nat) (f : Field) (v i : Nat) : (s.wr pg f v i).cal = s.cal := rfl
@[simp] theorem State.wr_integ (pg : Nat) (f : Field) (v i : Nat) : (s.wr pg f v i).integ = s.integ := rfl
@[simp] theorem State.wr_fault (pg : Nat) (f : Field) (v i : Nat) : (s.wr pg f v i).fault = s.fault := rfl
@[simp] theorem State.wr_fabric (pg : Nat) (f : Field) (v i : Nat) : (s.wr pg f v i).fabric = s.fabric := rfl
@[simp] theorem State.wr_frames (pg : Nat) (f : Field) (v i : Nat) : (s.wr pg f v i).frames = s.frames := rfl
@[simp] theorem State.wr_i3c (pg : Nat) (f : Field) (v i : Nat) : (s.wr pg f v i).i3c = s.i3c := rfl
@[simp] theorem State.wr_therm (pg : Nat) (f : Field) (v i : Nat) : (s.wr pg f v i).therm = s.therm := rfl
@[simp] theorem State.wr_boot (pg : Nat) (f : Field) (v i : Nat) : (s.wr pg f v i).boot = s.boot := rfl
@[simp] theorem State.wr_pending (pg : Nat) (f : Field) (v i : Nat) : (s.wr pg f v i).pending = s.pending := rfl
@[simp] theorem State.wr_free (pg : Nat) (f : Field) (v i : Nat) : (s.wr pg f v i).free = s.free := rfl

/-! ### wrBit -/

@[simp] theorem State.wrBit_mem (pg : Nat) (f : Field) (b : Nat) (v : Bool) : (s.wrBit pg f b v).mem = s.mem := rfl
@[simp] theorem State.wrBit_seals (pg : Nat) (f : Field) (b : Nat) (v : Bool) : (s.wrBit pg f b v).seals = s.seals := rfl
@[simp] theorem State.wrBit_tick (pg : Nat) (f : Field) (b : Nat) (v : Bool) : (s.wrBit pg f b v).tick = s.tick := rfl
@[simp] theorem State.wrBit_txn (pg : Nat) (f : Field) (b : Nat) (v : Bool) : (s.wrBit pg f b v).txn = s.txn := rfl
@[simp] theorem State.wrBit_evt (pg : Nat) (f : Field) (b : Nat) (v : Bool) : (s.wrBit pg f b v).evt = s.evt := rfl
@[simp] theorem State.wrBit_pins (pg : Nat) (f : Field) (b : Nat) (v : Bool) : (s.wrBit pg f b v).pins = s.pins := rfl
@[simp] theorem State.wrBit_wells (pg : Nat) (f : Field) (b : Nat) (v : Bool) : (s.wrBit pg f b v).wells = s.wells := rfl
@[simp] theorem State.wrBit_pump (pg : Nat) (f : Field) (b : Nat) (v : Bool) : (s.wrBit pg f b v).pump = s.pump := rfl
@[simp] theorem State.wrBit_cist (pg : Nat) (f : Field) (b : Nat) (v : Bool) : (s.wrBit pg f b v).cist = s.cist := rfl
@[simp] theorem State.wrBit_plan (pg : Nat) (f : Field) (b : Nat) (v : Bool) : (s.wrBit pg f b v).plan = s.plan := rfl
@[simp] theorem State.wrBit_light (pg : Nat) (f : Field) (b : Nat) (v : Bool) : (s.wrBit pg f b v).light = s.light := rfl
@[simp] theorem State.wrBit_conv (pg : Nat) (f : Field) (b : Nat) (v : Bool) : (s.wrBit pg f b v).conv = s.conv := rfl
@[simp] theorem State.wrBit_cal (pg : Nat) (f : Field) (b : Nat) (v : Bool) : (s.wrBit pg f b v).cal = s.cal := rfl
@[simp] theorem State.wrBit_integ (pg : Nat) (f : Field) (b : Nat) (v : Bool) : (s.wrBit pg f b v).integ = s.integ := rfl
@[simp] theorem State.wrBit_fault (pg : Nat) (f : Field) (b : Nat) (v : Bool) : (s.wrBit pg f b v).fault = s.fault := rfl
@[simp] theorem State.wrBit_fabric (pg : Nat) (f : Field) (b : Nat) (v : Bool) : (s.wrBit pg f b v).fabric = s.fabric := rfl
@[simp] theorem State.wrBit_frames (pg : Nat) (f : Field) (b : Nat) (v : Bool) : (s.wrBit pg f b v).frames = s.frames := rfl
@[simp] theorem State.wrBit_i3c (pg : Nat) (f : Field) (b : Nat) (v : Bool) : (s.wrBit pg f b v).i3c = s.i3c := rfl
@[simp] theorem State.wrBit_therm (pg : Nat) (f : Field) (b : Nat) (v : Bool) : (s.wrBit pg f b v).therm = s.therm := rfl
@[simp] theorem State.wrBit_boot (pg : Nat) (f : Field) (b : Nat) (v : Bool) : (s.wrBit pg f b v).boot = s.boot := rfl
@[simp] theorem State.wrBit_pending (pg : Nat) (f : Field) (b : Nat) (v : Bool) : (s.wrBit pg f b v).pending = s.pending := rfl
@[simp] theorem State.wrBit_free (pg : Nat) (f : Field) (b : Nat) (v : Bool) : (s.wrBit pg f b v).free = s.free := rfl

/-! ### raise -/

@[simp] theorem State.raise_mem (pg b : Nat) : (s.raise pg b).mem = s.mem := rfl
@[simp] theorem State.raise_seals (pg b : Nat) : (s.raise pg b).seals = s.seals := rfl
@[simp] theorem State.raise_tick (pg b : Nat) : (s.raise pg b).tick = s.tick := rfl
@[simp] theorem State.raise_txn (pg b : Nat) : (s.raise pg b).txn = s.txn := rfl
@[simp] theorem State.raise_evt (pg b : Nat) : (s.raise pg b).evt = s.evt := rfl
@[simp] theorem State.raise_pins (pg b : Nat) : (s.raise pg b).pins = s.pins := rfl
@[simp] theorem State.raise_wells (pg b : Nat) : (s.raise pg b).wells = s.wells := rfl
@[simp] theorem State.raise_pump (pg b : Nat) : (s.raise pg b).pump = s.pump := rfl
@[simp] theorem State.raise_cist (pg b : Nat) : (s.raise pg b).cist = s.cist := rfl
@[simp] theorem State.raise_plan (pg b : Nat) : (s.raise pg b).plan = s.plan := rfl
@[simp] theorem State.raise_light (pg b : Nat) : (s.raise pg b).light = s.light := rfl
@[simp] theorem State.raise_conv (pg b : Nat) : (s.raise pg b).conv = s.conv := rfl
@[simp] theorem State.raise_cal (pg b : Nat) : (s.raise pg b).cal = s.cal := rfl
@[simp] theorem State.raise_integ (pg b : Nat) : (s.raise pg b).integ = s.integ := rfl
@[simp] theorem State.raise_fault (pg b : Nat) : (s.raise pg b).fault = s.fault := rfl
@[simp] theorem State.raise_fabric (pg b : Nat) : (s.raise pg b).fabric = s.fabric := rfl
@[simp] theorem State.raise_frames (pg b : Nat) : (s.raise pg b).frames = s.frames := rfl
@[simp] theorem State.raise_i3c (pg b : Nat) : (s.raise pg b).i3c = s.i3c := rfl
@[simp] theorem State.raise_therm (pg b : Nat) : (s.raise pg b).therm = s.therm := rfl
@[simp] theorem State.raise_boot (pg b : Nat) : (s.raise pg b).boot = s.boot := rfl
@[simp] theorem State.raise_pending (pg b : Nat) : (s.raise pg b).pending = s.pending := rfl
@[simp] theorem State.raise_free (pg b : Nat) : (s.raise pg b).free = s.free := rfl

/-! ### bump -/

@[simp] theorem State.bump_mem (pg : Nat) (f : Field) (n i : Nat) : (s.bump pg f n i).mem = s.mem := rfl
@[simp] theorem State.bump_seals (pg : Nat) (f : Field) (n i : Nat) : (s.bump pg f n i).seals = s.seals := rfl
@[simp] theorem State.bump_tick (pg : Nat) (f : Field) (n i : Nat) : (s.bump pg f n i).tick = s.tick := rfl
@[simp] theorem State.bump_txn (pg : Nat) (f : Field) (n i : Nat) : (s.bump pg f n i).txn = s.txn := rfl
@[simp] theorem State.bump_evt (pg : Nat) (f : Field) (n i : Nat) : (s.bump pg f n i).evt = s.evt := rfl
@[simp] theorem State.bump_pins (pg : Nat) (f : Field) (n i : Nat) : (s.bump pg f n i).pins = s.pins := rfl
@[simp] theorem State.bump_wells (pg : Nat) (f : Field) (n i : Nat) : (s.bump pg f n i).wells = s.wells := rfl
@[simp] theorem State.bump_pump (pg : Nat) (f : Field) (n i : Nat) : (s.bump pg f n i).pump = s.pump := rfl
@[simp] theorem State.bump_cist (pg : Nat) (f : Field) (n i : Nat) : (s.bump pg f n i).cist = s.cist := rfl
@[simp] theorem State.bump_plan (pg : Nat) (f : Field) (n i : Nat) : (s.bump pg f n i).plan = s.plan := rfl
@[simp] theorem State.bump_light (pg : Nat) (f : Field) (n i : Nat) : (s.bump pg f n i).light = s.light := rfl
@[simp] theorem State.bump_conv (pg : Nat) (f : Field) (n i : Nat) : (s.bump pg f n i).conv = s.conv := rfl
@[simp] theorem State.bump_cal (pg : Nat) (f : Field) (n i : Nat) : (s.bump pg f n i).cal = s.cal := rfl
@[simp] theorem State.bump_integ (pg : Nat) (f : Field) (n i : Nat) : (s.bump pg f n i).integ = s.integ := rfl
@[simp] theorem State.bump_fault (pg : Nat) (f : Field) (n i : Nat) : (s.bump pg f n i).fault = s.fault := rfl
@[simp] theorem State.bump_fabric (pg : Nat) (f : Field) (n i : Nat) : (s.bump pg f n i).fabric = s.fabric := rfl
@[simp] theorem State.bump_frames (pg : Nat) (f : Field) (n i : Nat) : (s.bump pg f n i).frames = s.frames := rfl
@[simp] theorem State.bump_i3c (pg : Nat) (f : Field) (n i : Nat) : (s.bump pg f n i).i3c = s.i3c := rfl
@[simp] theorem State.bump_therm (pg : Nat) (f : Field) (n i : Nat) : (s.bump pg f n i).therm = s.therm := rfl
@[simp] theorem State.bump_boot (pg : Nat) (f : Field) (n i : Nat) : (s.bump pg f n i).boot = s.boot := rfl
@[simp] theorem State.bump_pending (pg : Nat) (f : Field) (n i : Nat) : (s.bump pg f n i).pending = s.pending := rfl
@[simp] theorem State.bump_free (pg : Nat) (f : Field) (n i : Nat) : (s.bump pg f n i).free = s.free := rfl

/-! ### bumpWrap -/

@[simp] theorem State.bumpWrap_mem (pg : Nat) (f : Field) (n i : Nat) : (s.bumpWrap pg f n i).mem = s.mem := rfl
@[simp] theorem State.bumpWrap_seals (pg : Nat) (f : Field) (n i : Nat) : (s.bumpWrap pg f n i).seals = s.seals := rfl
@[simp] theorem State.bumpWrap_tick (pg : Nat) (f : Field) (n i : Nat) : (s.bumpWrap pg f n i).tick = s.tick := rfl
@[simp] theorem State.bumpWrap_txn (pg : Nat) (f : Field) (n i : Nat) : (s.bumpWrap pg f n i).txn = s.txn := rfl
@[simp] theorem State.bumpWrap_evt (pg : Nat) (f : Field) (n i : Nat) : (s.bumpWrap pg f n i).evt = s.evt := rfl
@[simp] theorem State.bumpWrap_pins (pg : Nat) (f : Field) (n i : Nat) : (s.bumpWrap pg f n i).pins = s.pins := rfl
@[simp] theorem State.bumpWrap_wells (pg : Nat) (f : Field) (n i : Nat) : (s.bumpWrap pg f n i).wells = s.wells := rfl
@[simp] theorem State.bumpWrap_pump (pg : Nat) (f : Field) (n i : Nat) : (s.bumpWrap pg f n i).pump = s.pump := rfl
@[simp] theorem State.bumpWrap_cist (pg : Nat) (f : Field) (n i : Nat) : (s.bumpWrap pg f n i).cist = s.cist := rfl
@[simp] theorem State.bumpWrap_plan (pg : Nat) (f : Field) (n i : Nat) : (s.bumpWrap pg f n i).plan = s.plan := rfl
@[simp] theorem State.bumpWrap_light (pg : Nat) (f : Field) (n i : Nat) : (s.bumpWrap pg f n i).light = s.light := rfl
@[simp] theorem State.bumpWrap_conv (pg : Nat) (f : Field) (n i : Nat) : (s.bumpWrap pg f n i).conv = s.conv := rfl
@[simp] theorem State.bumpWrap_cal (pg : Nat) (f : Field) (n i : Nat) : (s.bumpWrap pg f n i).cal = s.cal := rfl
@[simp] theorem State.bumpWrap_integ (pg : Nat) (f : Field) (n i : Nat) : (s.bumpWrap pg f n i).integ = s.integ := rfl
@[simp] theorem State.bumpWrap_fault (pg : Nat) (f : Field) (n i : Nat) : (s.bumpWrap pg f n i).fault = s.fault := rfl
@[simp] theorem State.bumpWrap_fabric (pg : Nat) (f : Field) (n i : Nat) : (s.bumpWrap pg f n i).fabric = s.fabric := rfl
@[simp] theorem State.bumpWrap_frames (pg : Nat) (f : Field) (n i : Nat) : (s.bumpWrap pg f n i).frames = s.frames := rfl
@[simp] theorem State.bumpWrap_i3c (pg : Nat) (f : Field) (n i : Nat) : (s.bumpWrap pg f n i).i3c = s.i3c := rfl
@[simp] theorem State.bumpWrap_therm (pg : Nat) (f : Field) (n i : Nat) : (s.bumpWrap pg f n i).therm = s.therm := rfl
@[simp] theorem State.bumpWrap_boot (pg : Nat) (f : Field) (n i : Nat) : (s.bumpWrap pg f n i).boot = s.boot := rfl
@[simp] theorem State.bumpWrap_pending (pg : Nat) (f : Field) (n i : Nat) : (s.bumpWrap pg f n i).pending = s.pending := rfl
@[simp] theorem State.bumpWrap_free (pg : Nat) (f : Field) (n i : Nat) : (s.bumpWrap pg f n i).free = s.free := rfl

/-! ### wr64 -/

@[simp] theorem State.wr64_mem (pg : Nat) (f : Field) (v i : Nat) : (s.wr64 pg f v i).mem = s.mem := rfl
@[simp] theorem State.wr64_seals (pg : Nat) (f : Field) (v i : Nat) : (s.wr64 pg f v i).seals = s.seals := rfl
@[simp] theorem State.wr64_tick (pg : Nat) (f : Field) (v i : Nat) : (s.wr64 pg f v i).tick = s.tick := rfl
@[simp] theorem State.wr64_txn (pg : Nat) (f : Field) (v i : Nat) : (s.wr64 pg f v i).txn = s.txn := rfl
@[simp] theorem State.wr64_evt (pg : Nat) (f : Field) (v i : Nat) : (s.wr64 pg f v i).evt = s.evt := rfl
@[simp] theorem State.wr64_pins (pg : Nat) (f : Field) (v i : Nat) : (s.wr64 pg f v i).pins = s.pins := rfl
@[simp] theorem State.wr64_wells (pg : Nat) (f : Field) (v i : Nat) : (s.wr64 pg f v i).wells = s.wells := rfl
@[simp] theorem State.wr64_pump (pg : Nat) (f : Field) (v i : Nat) : (s.wr64 pg f v i).pump = s.pump := rfl
@[simp] theorem State.wr64_cist (pg : Nat) (f : Field) (v i : Nat) : (s.wr64 pg f v i).cist = s.cist := rfl
@[simp] theorem State.wr64_plan (pg : Nat) (f : Field) (v i : Nat) : (s.wr64 pg f v i).plan = s.plan := rfl
@[simp] theorem State.wr64_light (pg : Nat) (f : Field) (v i : Nat) : (s.wr64 pg f v i).light = s.light := rfl
@[simp] theorem State.wr64_conv (pg : Nat) (f : Field) (v i : Nat) : (s.wr64 pg f v i).conv = s.conv := rfl
@[simp] theorem State.wr64_cal (pg : Nat) (f : Field) (v i : Nat) : (s.wr64 pg f v i).cal = s.cal := rfl
@[simp] theorem State.wr64_integ (pg : Nat) (f : Field) (v i : Nat) : (s.wr64 pg f v i).integ = s.integ := rfl
@[simp] theorem State.wr64_fault (pg : Nat) (f : Field) (v i : Nat) : (s.wr64 pg f v i).fault = s.fault := rfl
@[simp] theorem State.wr64_fabric (pg : Nat) (f : Field) (v i : Nat) : (s.wr64 pg f v i).fabric = s.fabric := rfl
@[simp] theorem State.wr64_frames (pg : Nat) (f : Field) (v i : Nat) : (s.wr64 pg f v i).frames = s.frames := rfl
@[simp] theorem State.wr64_i3c (pg : Nat) (f : Field) (v i : Nat) : (s.wr64 pg f v i).i3c = s.i3c := rfl
@[simp] theorem State.wr64_therm (pg : Nat) (f : Field) (v i : Nat) : (s.wr64 pg f v i).therm = s.therm := rfl
@[simp] theorem State.wr64_boot (pg : Nat) (f : Field) (v i : Nat) : (s.wr64 pg f v i).boot = s.boot := rfl
@[simp] theorem State.wr64_pending (pg : Nat) (f : Field) (v i : Nat) : (s.wr64 pg f v i).pending = s.pending := rfl
@[simp] theorem State.wr64_free (pg : Nat) (f : Field) (v i : Nat) : (s.wr64 pg f v i).free = s.free := rfl

/-! ### bump64 -/

@[simp] theorem State.bump64_mem (pg : Nat) (f : Field) (n i : Nat) : (s.bump64 pg f n i).mem = s.mem := rfl
@[simp] theorem State.bump64_seals (pg : Nat) (f : Field) (n i : Nat) : (s.bump64 pg f n i).seals = s.seals := rfl
@[simp] theorem State.bump64_tick (pg : Nat) (f : Field) (n i : Nat) : (s.bump64 pg f n i).tick = s.tick := rfl
@[simp] theorem State.bump64_txn (pg : Nat) (f : Field) (n i : Nat) : (s.bump64 pg f n i).txn = s.txn := rfl
@[simp] theorem State.bump64_evt (pg : Nat) (f : Field) (n i : Nat) : (s.bump64 pg f n i).evt = s.evt := rfl
@[simp] theorem State.bump64_pins (pg : Nat) (f : Field) (n i : Nat) : (s.bump64 pg f n i).pins = s.pins := rfl
@[simp] theorem State.bump64_wells (pg : Nat) (f : Field) (n i : Nat) : (s.bump64 pg f n i).wells = s.wells := rfl
@[simp] theorem State.bump64_pump (pg : Nat) (f : Field) (n i : Nat) : (s.bump64 pg f n i).pump = s.pump := rfl
@[simp] theorem State.bump64_cist (pg : Nat) (f : Field) (n i : Nat) : (s.bump64 pg f n i).cist = s.cist := rfl
@[simp] theorem State.bump64_plan (pg : Nat) (f : Field) (n i : Nat) : (s.bump64 pg f n i).plan = s.plan := rfl
@[simp] theorem State.bump64_light (pg : Nat) (f : Field) (n i : Nat) : (s.bump64 pg f n i).light = s.light := rfl
@[simp] theorem State.bump64_conv (pg : Nat) (f : Field) (n i : Nat) : (s.bump64 pg f n i).conv = s.conv := rfl
@[simp] theorem State.bump64_cal (pg : Nat) (f : Field) (n i : Nat) : (s.bump64 pg f n i).cal = s.cal := rfl
@[simp] theorem State.bump64_integ (pg : Nat) (f : Field) (n i : Nat) : (s.bump64 pg f n i).integ = s.integ := rfl
@[simp] theorem State.bump64_fault (pg : Nat) (f : Field) (n i : Nat) : (s.bump64 pg f n i).fault = s.fault := rfl
@[simp] theorem State.bump64_fabric (pg : Nat) (f : Field) (n i : Nat) : (s.bump64 pg f n i).fabric = s.fabric := rfl
@[simp] theorem State.bump64_frames (pg : Nat) (f : Field) (n i : Nat) : (s.bump64 pg f n i).frames = s.frames := rfl
@[simp] theorem State.bump64_i3c (pg : Nat) (f : Field) (n i : Nat) : (s.bump64 pg f n i).i3c = s.i3c := rfl
@[simp] theorem State.bump64_therm (pg : Nat) (f : Field) (n i : Nat) : (s.bump64 pg f n i).therm = s.therm := rfl
@[simp] theorem State.bump64_boot (pg : Nat) (f : Field) (n i : Nat) : (s.bump64 pg f n i).boot = s.boot := rfl
@[simp] theorem State.bump64_pending (pg : Nat) (f : Field) (n i : Nat) : (s.bump64 pg f n i).pending = s.pending := rfl
@[simp] theorem State.bump64_free (pg : Nat) (f : Field) (n i : Nat) : (s.bump64 pg f n i).free = s.free := rfl

/-! ### advance -/

@[simp] theorem State.advance_regs (t : Nat) : (s.advance t).regs = s.regs := rfl
@[simp] theorem State.advance_mem (t : Nat) : (s.advance t).mem = s.mem := rfl
@[simp] theorem State.advance_seals (t : Nat) : (s.advance t).seals = s.seals := rfl
@[simp] theorem State.advance_txn (t : Nat) : (s.advance t).txn = s.txn := rfl
@[simp] theorem State.advance_evt (t : Nat) : (s.advance t).evt = s.evt := rfl
@[simp] theorem State.advance_pins (t : Nat) : (s.advance t).pins = s.pins := rfl
@[simp] theorem State.advance_wells (t : Nat) : (s.advance t).wells = s.wells := rfl
@[simp] theorem State.advance_pump (t : Nat) : (s.advance t).pump = s.pump := rfl
@[simp] theorem State.advance_cist (t : Nat) : (s.advance t).cist = s.cist := rfl
@[simp] theorem State.advance_plan (t : Nat) : (s.advance t).plan = s.plan := rfl
@[simp] theorem State.advance_light (t : Nat) : (s.advance t).light = s.light := rfl
@[simp] theorem State.advance_conv (t : Nat) : (s.advance t).conv = s.conv := rfl
@[simp] theorem State.advance_cal (t : Nat) : (s.advance t).cal = s.cal := rfl
@[simp] theorem State.advance_integ (t : Nat) : (s.advance t).integ = s.integ := rfl
@[simp] theorem State.advance_fault (t : Nat) : (s.advance t).fault = s.fault := rfl
@[simp] theorem State.advance_fabric (t : Nat) : (s.advance t).fabric = s.fabric := rfl
@[simp] theorem State.advance_frames (t : Nat) : (s.advance t).frames = s.frames := rfl
@[simp] theorem State.advance_i3c (t : Nat) : (s.advance t).i3c = s.i3c := rfl
@[simp] theorem State.advance_therm (t : Nat) : (s.advance t).therm = s.therm := rfl
@[simp] theorem State.advance_boot (t : Nat) : (s.advance t).boot = s.boot := rfl
@[simp] theorem State.advance_pending (t : Nat) : (s.advance t).pending = s.pending := rfl
@[simp] theorem State.advance_free (t : Nat) : (s.advance t).free = s.free := rfl

/-! ### onWell -/

@[simp] theorem State.onWell_regs (w : Nat) (f : Well → Well) : (s.onWell w f).regs = s.regs := rfl
@[simp] theorem State.onWell_mem (w : Nat) (f : Well → Well) : (s.onWell w f).mem = s.mem := rfl
@[simp] theorem State.onWell_seals (w : Nat) (f : Well → Well) : (s.onWell w f).seals = s.seals := rfl
@[simp] theorem State.onWell_tick (w : Nat) (f : Well → Well) : (s.onWell w f).tick = s.tick := rfl
@[simp] theorem State.onWell_txn (w : Nat) (f : Well → Well) : (s.onWell w f).txn = s.txn := rfl
@[simp] theorem State.onWell_evt (w : Nat) (f : Well → Well) : (s.onWell w f).evt = s.evt := rfl
@[simp] theorem State.onWell_pins (w : Nat) (f : Well → Well) : (s.onWell w f).pins = s.pins := rfl
@[simp] theorem State.onWell_pump (w : Nat) (f : Well → Well) : (s.onWell w f).pump = s.pump := rfl
@[simp] theorem State.onWell_cist (w : Nat) (f : Well → Well) : (s.onWell w f).cist = s.cist := rfl
@[simp] theorem State.onWell_plan (w : Nat) (f : Well → Well) : (s.onWell w f).plan = s.plan := rfl
@[simp] theorem State.onWell_light (w : Nat) (f : Well → Well) : (s.onWell w f).light = s.light := rfl
@[simp] theorem State.onWell_conv (w : Nat) (f : Well → Well) : (s.onWell w f).conv = s.conv := rfl
@[simp] theorem State.onWell_cal (w : Nat) (f : Well → Well) : (s.onWell w f).cal = s.cal := rfl
@[simp] theorem State.onWell_integ (w : Nat) (f : Well → Well) : (s.onWell w f).integ = s.integ := rfl
@[simp] theorem State.onWell_fault (w : Nat) (f : Well → Well) : (s.onWell w f).fault = s.fault := rfl
@[simp] theorem State.onWell_fabric (w : Nat) (f : Well → Well) : (s.onWell w f).fabric = s.fabric := rfl
@[simp] theorem State.onWell_frames (w : Nat) (f : Well → Well) : (s.onWell w f).frames = s.frames := rfl
@[simp] theorem State.onWell_i3c (w : Nat) (f : Well → Well) : (s.onWell w f).i3c = s.i3c := rfl
@[simp] theorem State.onWell_therm (w : Nat) (f : Well → Well) : (s.onWell w f).therm = s.therm := rfl
@[simp] theorem State.onWell_boot (w : Nat) (f : Well → Well) : (s.onWell w f).boot = s.boot := rfl
@[simp] theorem State.onWell_pending (w : Nat) (f : Well → Well) : (s.onWell w f).pending = s.pending := rfl
@[simp] theorem State.onWell_free (w : Nat) (f : Well → Well) : (s.onWell w f).free = s.free := rfl

/-! ### onQueue -/

@[simp] theorem State.onQueue_regs (q : Nat) (f : Queue → Queue) : (s.onQueue q f).regs = s.regs := rfl
@[simp] theorem State.onQueue_mem (q : Nat) (f : Queue → Queue) : (s.onQueue q f).mem = s.mem := rfl
@[simp] theorem State.onQueue_seals (q : Nat) (f : Queue → Queue) : (s.onQueue q f).seals = s.seals := rfl
@[simp] theorem State.onQueue_tick (q : Nat) (f : Queue → Queue) : (s.onQueue q f).tick = s.tick := rfl
@[simp] theorem State.onQueue_txn (q : Nat) (f : Queue → Queue) : (s.onQueue q f).txn = s.txn := rfl
@[simp] theorem State.onQueue_evt (q : Nat) (f : Queue → Queue) : (s.onQueue q f).evt = s.evt := rfl
@[simp] theorem State.onQueue_pins (q : Nat) (f : Queue → Queue) : (s.onQueue q f).pins = s.pins := rfl
@[simp] theorem State.onQueue_wells (q : Nat) (f : Queue → Queue) : (s.onQueue q f).wells = s.wells := rfl
@[simp] theorem State.onQueue_cist (q : Nat) (f : Queue → Queue) : (s.onQueue q f).cist = s.cist := rfl
@[simp] theorem State.onQueue_plan (q : Nat) (f : Queue → Queue) : (s.onQueue q f).plan = s.plan := rfl
@[simp] theorem State.onQueue_light (q : Nat) (f : Queue → Queue) : (s.onQueue q f).light = s.light := rfl
@[simp] theorem State.onQueue_conv (q : Nat) (f : Queue → Queue) : (s.onQueue q f).conv = s.conv := rfl
@[simp] theorem State.onQueue_cal (q : Nat) (f : Queue → Queue) : (s.onQueue q f).cal = s.cal := rfl
@[simp] theorem State.onQueue_integ (q : Nat) (f : Queue → Queue) : (s.onQueue q f).integ = s.integ := rfl
@[simp] theorem State.onQueue_fault (q : Nat) (f : Queue → Queue) : (s.onQueue q f).fault = s.fault := rfl
@[simp] theorem State.onQueue_fabric (q : Nat) (f : Queue → Queue) : (s.onQueue q f).fabric = s.fabric := rfl
@[simp] theorem State.onQueue_frames (q : Nat) (f : Queue → Queue) : (s.onQueue q f).frames = s.frames := rfl
@[simp] theorem State.onQueue_i3c (q : Nat) (f : Queue → Queue) : (s.onQueue q f).i3c = s.i3c := rfl
@[simp] theorem State.onQueue_therm (q : Nat) (f : Queue → Queue) : (s.onQueue q f).therm = s.therm := rfl
@[simp] theorem State.onQueue_boot (q : Nat) (f : Queue → Queue) : (s.onQueue q f).boot = s.boot := rfl
@[simp] theorem State.onQueue_pending (q : Nat) (f : Queue → Queue) : (s.onQueue q f).pending = s.pending := rfl
@[simp] theorem State.onQueue_free (q : Nat) (f : Queue → Queue) : (s.onQueue q f).free = s.free := rfl

/-! ### onFt -/

@[simp] theorem State.onFt_regs (w : Nat) (f : FtRec → FtRec) : (s.onFt w f).regs = s.regs := rfl
@[simp] theorem State.onFt_mem (w : Nat) (f : FtRec → FtRec) : (s.onFt w f).mem = s.mem := rfl
@[simp] theorem State.onFt_seals (w : Nat) (f : FtRec → FtRec) : (s.onFt w f).seals = s.seals := rfl
@[simp] theorem State.onFt_tick (w : Nat) (f : FtRec → FtRec) : (s.onFt w f).tick = s.tick := rfl
@[simp] theorem State.onFt_txn (w : Nat) (f : FtRec → FtRec) : (s.onFt w f).txn = s.txn := rfl
@[simp] theorem State.onFt_evt (w : Nat) (f : FtRec → FtRec) : (s.onFt w f).evt = s.evt := rfl
@[simp] theorem State.onFt_pins (w : Nat) (f : FtRec → FtRec) : (s.onFt w f).pins = s.pins := rfl
@[simp] theorem State.onFt_wells (w : Nat) (f : FtRec → FtRec) : (s.onFt w f).wells = s.wells := rfl
@[simp] theorem State.onFt_pump (w : Nat) (f : FtRec → FtRec) : (s.onFt w f).pump = s.pump := rfl
@[simp] theorem State.onFt_cist (w : Nat) (f : FtRec → FtRec) : (s.onFt w f).cist = s.cist := rfl
@[simp] theorem State.onFt_plan (w : Nat) (f : FtRec → FtRec) : (s.onFt w f).plan = s.plan := rfl
@[simp] theorem State.onFt_light (w : Nat) (f : FtRec → FtRec) : (s.onFt w f).light = s.light := rfl
@[simp] theorem State.onFt_conv (w : Nat) (f : FtRec → FtRec) : (s.onFt w f).conv = s.conv := rfl
@[simp] theorem State.onFt_cal (w : Nat) (f : FtRec → FtRec) : (s.onFt w f).cal = s.cal := rfl
@[simp] theorem State.onFt_integ (w : Nat) (f : FtRec → FtRec) : (s.onFt w f).integ = s.integ := rfl
@[simp] theorem State.onFt_fabric (w : Nat) (f : FtRec → FtRec) : (s.onFt w f).fabric = s.fabric := rfl
@[simp] theorem State.onFt_frames (w : Nat) (f : FtRec → FtRec) : (s.onFt w f).frames = s.frames := rfl
@[simp] theorem State.onFt_i3c (w : Nat) (f : FtRec → FtRec) : (s.onFt w f).i3c = s.i3c := rfl
@[simp] theorem State.onFt_therm (w : Nat) (f : FtRec → FtRec) : (s.onFt w f).therm = s.therm := rfl
@[simp] theorem State.onFt_boot (w : Nat) (f : FtRec → FtRec) : (s.onFt w f).boot = s.boot := rfl
@[simp] theorem State.onFt_pending (w : Nat) (f : FtRec → FtRec) : (s.onFt w f).pending = s.pending := rfl
@[simp] theorem State.onFt_free (w : Nat) (f : FtRec → FtRec) : (s.onFt w f).free = s.free := rfl

/-! ### onPort -/

@[simp] theorem State.onPort_regs (p : Nat) (f : Port → Port) : (s.onPort p f).regs = s.regs := rfl
@[simp] theorem State.onPort_mem (p : Nat) (f : Port → Port) : (s.onPort p f).mem = s.mem := rfl
@[simp] theorem State.onPort_seals (p : Nat) (f : Port → Port) : (s.onPort p f).seals = s.seals := rfl
@[simp] theorem State.onPort_tick (p : Nat) (f : Port → Port) : (s.onPort p f).tick = s.tick := rfl
@[simp] theorem State.onPort_txn (p : Nat) (f : Port → Port) : (s.onPort p f).txn = s.txn := rfl
@[simp] theorem State.onPort_evt (p : Nat) (f : Port → Port) : (s.onPort p f).evt = s.evt := rfl
@[simp] theorem State.onPort_pins (p : Nat) (f : Port → Port) : (s.onPort p f).pins = s.pins := rfl
@[simp] theorem State.onPort_wells (p : Nat) (f : Port → Port) : (s.onPort p f).wells = s.wells := rfl
@[simp] theorem State.onPort_pump (p : Nat) (f : Port → Port) : (s.onPort p f).pump = s.pump := rfl
@[simp] theorem State.onPort_cist (p : Nat) (f : Port → Port) : (s.onPort p f).cist = s.cist := rfl
@[simp] theorem State.onPort_plan (p : Nat) (f : Port → Port) : (s.onPort p f).plan = s.plan := rfl
@[simp] theorem State.onPort_light (p : Nat) (f : Port → Port) : (s.onPort p f).light = s.light := rfl
@[simp] theorem State.onPort_conv (p : Nat) (f : Port → Port) : (s.onPort p f).conv = s.conv := rfl
@[simp] theorem State.onPort_cal (p : Nat) (f : Port → Port) : (s.onPort p f).cal = s.cal := rfl
@[simp] theorem State.onPort_integ (p : Nat) (f : Port → Port) : (s.onPort p f).integ = s.integ := rfl
@[simp] theorem State.onPort_fault (p : Nat) (f : Port → Port) : (s.onPort p f).fault = s.fault := rfl
@[simp] theorem State.onPort_frames (p : Nat) (f : Port → Port) : (s.onPort p f).frames = s.frames := rfl
@[simp] theorem State.onPort_i3c (p : Nat) (f : Port → Port) : (s.onPort p f).i3c = s.i3c := rfl
@[simp] theorem State.onPort_therm (p : Nat) (f : Port → Port) : (s.onPort p f).therm = s.therm := rfl
@[simp] theorem State.onPort_boot (p : Nat) (f : Port → Port) : (s.onPort p f).boot = s.boot := rfl
@[simp] theorem State.onPort_pending (p : Nat) (f : Port → Port) : (s.onPort p f).pending = s.pending := rfl
@[simp] theorem State.onPort_free (p : Nat) (f : Port → Port) : (s.onPort p f).free = s.free := rfl

/-! ### onTxPort -/

@[simp] theorem State.onTxPort_regs (q : Nat) (f : TxPort → TxPort) : (s.onTxPort q f).regs = s.regs := rfl
@[simp] theorem State.onTxPort_mem (q : Nat) (f : TxPort → TxPort) : (s.onTxPort q f).mem = s.mem := rfl
@[simp] theorem State.onTxPort_seals (q : Nat) (f : TxPort → TxPort) : (s.onTxPort q f).seals = s.seals := rfl
@[simp] theorem State.onTxPort_tick (q : Nat) (f : TxPort → TxPort) : (s.onTxPort q f).tick = s.tick := rfl
@[simp] theorem State.onTxPort_txn (q : Nat) (f : TxPort → TxPort) : (s.onTxPort q f).txn = s.txn := rfl
@[simp] theorem State.onTxPort_evt (q : Nat) (f : TxPort → TxPort) : (s.onTxPort q f).evt = s.evt := rfl
@[simp] theorem State.onTxPort_pins (q : Nat) (f : TxPort → TxPort) : (s.onTxPort q f).pins = s.pins := rfl
@[simp] theorem State.onTxPort_wells (q : Nat) (f : TxPort → TxPort) : (s.onTxPort q f).wells = s.wells := rfl
@[simp] theorem State.onTxPort_pump (q : Nat) (f : TxPort → TxPort) : (s.onTxPort q f).pump = s.pump := rfl
@[simp] theorem State.onTxPort_cist (q : Nat) (f : TxPort → TxPort) : (s.onTxPort q f).cist = s.cist := rfl
@[simp] theorem State.onTxPort_plan (q : Nat) (f : TxPort → TxPort) : (s.onTxPort q f).plan = s.plan := rfl
@[simp] theorem State.onTxPort_light (q : Nat) (f : TxPort → TxPort) : (s.onTxPort q f).light = s.light := rfl
@[simp] theorem State.onTxPort_conv (q : Nat) (f : TxPort → TxPort) : (s.onTxPort q f).conv = s.conv := rfl
@[simp] theorem State.onTxPort_cal (q : Nat) (f : TxPort → TxPort) : (s.onTxPort q f).cal = s.cal := rfl
@[simp] theorem State.onTxPort_integ (q : Nat) (f : TxPort → TxPort) : (s.onTxPort q f).integ = s.integ := rfl
@[simp] theorem State.onTxPort_fault (q : Nat) (f : TxPort → TxPort) : (s.onTxPort q f).fault = s.fault := rfl
@[simp] theorem State.onTxPort_fabric (q : Nat) (f : TxPort → TxPort) : (s.onTxPort q f).fabric = s.fabric := rfl
@[simp] theorem State.onTxPort_i3c (q : Nat) (f : TxPort → TxPort) : (s.onTxPort q f).i3c = s.i3c := rfl
@[simp] theorem State.onTxPort_therm (q : Nat) (f : TxPort → TxPort) : (s.onTxPort q f).therm = s.therm := rfl
@[simp] theorem State.onTxPort_boot (q : Nat) (f : TxPort → TxPort) : (s.onTxPort q f).boot = s.boot := rfl
@[simp] theorem State.onTxPort_pending (q : Nat) (f : TxPort → TxPort) : (s.onTxPort q f).pending = s.pending := rfl
@[simp] theorem State.onTxPort_free (q : Nat) (f : TxPort → TxPort) : (s.onTxPort q f).free = s.free := rfl

/-! ### onSensor -/

@[simp] theorem State.onSensor_regs (i : Nat) (f : Sensor → Sensor) : (s.onSensor i f).regs = s.regs := rfl
@[simp] theorem State.onSensor_mem (i : Nat) (f : Sensor → Sensor) : (s.onSensor i f).mem = s.mem := rfl
@[simp] theorem State.onSensor_seals (i : Nat) (f : Sensor → Sensor) : (s.onSensor i f).seals = s.seals := rfl
@[simp] theorem State.onSensor_tick (i : Nat) (f : Sensor → Sensor) : (s.onSensor i f).tick = s.tick := rfl
@[simp] theorem State.onSensor_txn (i : Nat) (f : Sensor → Sensor) : (s.onSensor i f).txn = s.txn := rfl
@[simp] theorem State.onSensor_evt (i : Nat) (f : Sensor → Sensor) : (s.onSensor i f).evt = s.evt := rfl
@[simp] theorem State.onSensor_pins (i : Nat) (f : Sensor → Sensor) : (s.onSensor i f).pins = s.pins := rfl
@[simp] theorem State.onSensor_wells (i : Nat) (f : Sensor → Sensor) : (s.onSensor i f).wells = s.wells := rfl
@[simp] theorem State.onSensor_pump (i : Nat) (f : Sensor → Sensor) : (s.onSensor i f).pump = s.pump := rfl
@[simp] theorem State.onSensor_cist (i : Nat) (f : Sensor → Sensor) : (s.onSensor i f).cist = s.cist := rfl
@[simp] theorem State.onSensor_plan (i : Nat) (f : Sensor → Sensor) : (s.onSensor i f).plan = s.plan := rfl
@[simp] theorem State.onSensor_light (i : Nat) (f : Sensor → Sensor) : (s.onSensor i f).light = s.light := rfl
@[simp] theorem State.onSensor_conv (i : Nat) (f : Sensor → Sensor) : (s.onSensor i f).conv = s.conv := rfl
@[simp] theorem State.onSensor_cal (i : Nat) (f : Sensor → Sensor) : (s.onSensor i f).cal = s.cal := rfl
@[simp] theorem State.onSensor_integ (i : Nat) (f : Sensor → Sensor) : (s.onSensor i f).integ = s.integ := rfl
@[simp] theorem State.onSensor_fault (i : Nat) (f : Sensor → Sensor) : (s.onSensor i f).fault = s.fault := rfl
@[simp] theorem State.onSensor_fabric (i : Nat) (f : Sensor → Sensor) : (s.onSensor i f).fabric = s.fabric := rfl
@[simp] theorem State.onSensor_frames (i : Nat) (f : Sensor → Sensor) : (s.onSensor i f).frames = s.frames := rfl
@[simp] theorem State.onSensor_i3c (i : Nat) (f : Sensor → Sensor) : (s.onSensor i f).i3c = s.i3c := rfl
@[simp] theorem State.onSensor_boot (i : Nat) (f : Sensor → Sensor) : (s.onSensor i f).boot = s.boot := rfl
@[simp] theorem State.onSensor_pending (i : Nat) (f : Sensor → Sensor) : (s.onSensor i f).pending = s.pending := rfl
@[simp] theorem State.onSensor_free (i : Nat) (f : Sensor → Sensor) : (s.onSensor i f).free = s.free := rfl

/-! ### onFlash -/

@[simp] theorem State.onFlash_regs (f : Flash → Flash) : (s.onFlash f).regs = s.regs := rfl
@[simp] theorem State.onFlash_mem (f : Flash → Flash) : (s.onFlash f).mem = s.mem := rfl
@[simp] theorem State.onFlash_seals (f : Flash → Flash) : (s.onFlash f).seals = s.seals := rfl
@[simp] theorem State.onFlash_tick (f : Flash → Flash) : (s.onFlash f).tick = s.tick := rfl
@[simp] theorem State.onFlash_txn (f : Flash → Flash) : (s.onFlash f).txn = s.txn := rfl
@[simp] theorem State.onFlash_evt (f : Flash → Flash) : (s.onFlash f).evt = s.evt := rfl
@[simp] theorem State.onFlash_pins (f : Flash → Flash) : (s.onFlash f).pins = s.pins := rfl
@[simp] theorem State.onFlash_wells (f : Flash → Flash) : (s.onFlash f).wells = s.wells := rfl
@[simp] theorem State.onFlash_pump (f : Flash → Flash) : (s.onFlash f).pump = s.pump := rfl
@[simp] theorem State.onFlash_cist (f : Flash → Flash) : (s.onFlash f).cist = s.cist := rfl
@[simp] theorem State.onFlash_plan (f : Flash → Flash) : (s.onFlash f).plan = s.plan := rfl
@[simp] theorem State.onFlash_light (f : Flash → Flash) : (s.onFlash f).light = s.light := rfl
@[simp] theorem State.onFlash_conv (f : Flash → Flash) : (s.onFlash f).conv = s.conv := rfl
@[simp] theorem State.onFlash_cal (f : Flash → Flash) : (s.onFlash f).cal = s.cal := rfl
@[simp] theorem State.onFlash_integ (f : Flash → Flash) : (s.onFlash f).integ = s.integ := rfl
@[simp] theorem State.onFlash_fault (f : Flash → Flash) : (s.onFlash f).fault = s.fault := rfl
@[simp] theorem State.onFlash_fabric (f : Flash → Flash) : (s.onFlash f).fabric = s.fabric := rfl
@[simp] theorem State.onFlash_frames (f : Flash → Flash) : (s.onFlash f).frames = s.frames := rfl
@[simp] theorem State.onFlash_i3c (f : Flash → Flash) : (s.onFlash f).i3c = s.i3c := rfl
@[simp] theorem State.onFlash_therm (f : Flash → Flash) : (s.onFlash f).therm = s.therm := rfl
@[simp] theorem State.onFlash_pending (f : Flash → Flash) : (s.onFlash f).pending = s.pending := rfl
@[simp] theorem State.onFlash_free (f : Flash → Flash) : (s.onFlash f).free = s.free := rfl

/-! ### onWellCal -/

@[simp] theorem State.onWellCal_regs (w : Nat) (f : WellCal → WellCal) : (s.onWellCal w f).regs = s.regs := rfl
@[simp] theorem State.onWellCal_mem (w : Nat) (f : WellCal → WellCal) : (s.onWellCal w f).mem = s.mem := rfl
@[simp] theorem State.onWellCal_seals (w : Nat) (f : WellCal → WellCal) : (s.onWellCal w f).seals = s.seals := rfl
@[simp] theorem State.onWellCal_tick (w : Nat) (f : WellCal → WellCal) : (s.onWellCal w f).tick = s.tick := rfl
@[simp] theorem State.onWellCal_txn (w : Nat) (f : WellCal → WellCal) : (s.onWellCal w f).txn = s.txn := rfl
@[simp] theorem State.onWellCal_evt (w : Nat) (f : WellCal → WellCal) : (s.onWellCal w f).evt = s.evt := rfl
@[simp] theorem State.onWellCal_pins (w : Nat) (f : WellCal → WellCal) : (s.onWellCal w f).pins = s.pins := rfl
@[simp] theorem State.onWellCal_wells (w : Nat) (f : WellCal → WellCal) : (s.onWellCal w f).wells = s.wells := rfl
@[simp] theorem State.onWellCal_pump (w : Nat) (f : WellCal → WellCal) : (s.onWellCal w f).pump = s.pump := rfl
@[simp] theorem State.onWellCal_cist (w : Nat) (f : WellCal → WellCal) : (s.onWellCal w f).cist = s.cist := rfl
@[simp] theorem State.onWellCal_plan (w : Nat) (f : WellCal → WellCal) : (s.onWellCal w f).plan = s.plan := rfl
@[simp] theorem State.onWellCal_light (w : Nat) (f : WellCal → WellCal) : (s.onWellCal w f).light = s.light := rfl
@[simp] theorem State.onWellCal_conv (w : Nat) (f : WellCal → WellCal) : (s.onWellCal w f).conv = s.conv := rfl
@[simp] theorem State.onWellCal_integ (w : Nat) (f : WellCal → WellCal) : (s.onWellCal w f).integ = s.integ := rfl
@[simp] theorem State.onWellCal_fault (w : Nat) (f : WellCal → WellCal) : (s.onWellCal w f).fault = s.fault := rfl
@[simp] theorem State.onWellCal_fabric (w : Nat) (f : WellCal → WellCal) : (s.onWellCal w f).fabric = s.fabric := rfl
@[simp] theorem State.onWellCal_frames (w : Nat) (f : WellCal → WellCal) : (s.onWellCal w f).frames = s.frames := rfl
@[simp] theorem State.onWellCal_i3c (w : Nat) (f : WellCal → WellCal) : (s.onWellCal w f).i3c = s.i3c := rfl
@[simp] theorem State.onWellCal_therm (w : Nat) (f : WellCal → WellCal) : (s.onWellCal w f).therm = s.therm := rfl
@[simp] theorem State.onWellCal_boot (w : Nat) (f : WellCal → WellCal) : (s.onWellCal w f).boot = s.boot := rfl
@[simp] theorem State.onWellCal_pending (w : Nat) (f : WellCal → WellCal) : (s.onWellCal w f).pending = s.pending := rfl
@[simp] theorem State.onWellCal_free (w : Nat) (f : WellCal → WellCal) : (s.onWellCal w f).free = s.free := rfl

/-! ### What an update does to its own field -/

@[simp] theorem State.setWord_regs (a : Nat) (w : Word) : (s.setWord a w).regs = sparsePut resetWord s.regs a w := rfl
@[simp] theorem State.advance_off (t : Nat) : (s.advance t).tick.off = max s.tick.off t := rfl
@[simp] theorem State.advance_number (t : Nat) : (s.advance t).tick.number = s.tick.number := rfl

/-- An update that is run over a list keeps what one run of it keeps. -/
theorem State.each_keeps {α β : Type} (g : State → β) (f : State → α → State) (h : ∀ t a, g (f t a) = g t) (l : List α) (t : State) :
    g (t.each l f) = g t := by
  unfold State.each
  induction l generalizing t with
  | nil => rfl
  | cons a rest ih => simp [List.foldl_cons, ih, h]

end Sys2Proof.Machine
end

