-- ==== Sys2Proof/Laws/Settle.lean ====
section
/-! SUPPORT. What every command ends with: `settle` leaves all but registers, event controllers and pins alone, and its FAULT_N output
follows R419. -/

namespace Sys2Proof.Machine

namespace State

/-- A conditional update keeps what both branches keep. -/
theorem ite_keeps {β : Type} (g : State → β) (c : Prop) [Decidable c] (a b s : State) (ha : g a = g s) (hb : g b = g s) :
    g (if c then a else b) = g s := by split <;> assumption

/-- What an in-band interrupt request leaves alone: all that its drop counters, its event and the request queues leave alone. -/
theorem ibiRequest_keeps {β : Type} (g : State → β) (he : ∀ t x, g { t with evt := x } = g t)
    (h7 : ∀ t, g (State.raise t pgEVT 7) = g t) (h0 : ∀ t, g (State.bump t pgEVT Reg.EVT.IBI_DROP0) = g t)
    (h1 : ∀ t, g (State.bump t pgEVT Reg.EVT.IBI_DROP1) = g t) (s : State) (c id : Nat) : g (s.ibiRequest c id) = g s := by
  unfold ibiRequest
  dsimp only
  repeat' split
  all_goals simp only [h7, h0, h1, he]

theorem ibiPass_keeps {β : Type} (g : State → β) (he : ∀ t x, g { t with evt := x } = g t)
    (h7 : ∀ t, g (State.raise t pgEVT 7) = g t) (h0 : ∀ t, g (State.bump t pgEVT Reg.EVT.IBI_DROP0) = g t)
    (h1 : ∀ t, g (State.bump t pgEVT Reg.EVT.IBI_DROP1) = g t) (s : State) : g (ibiPass s) = g s := by
  have step : ∀ (l : List (Nat × Nat)) (t : State), g (l.foldl (fun a e => a.ibiRequest e.1 e.2) t) = g t := by
    intro l
    induction l with
    | nil => intro t; rfl
    | cons e rest ih => intro t; rw [List.foldl_cons, ih]; exact ibiRequest_keeps g he h7 h0 h1 _ _ _
  exact (step _ _).trans (he s _)

/-- What follows from the state before the in-band interrupts leaves alone: all that MODULE_STATE, PWR.STATE and the events of SYS and PWR
leave alone. -/
theorem follow_keeps {β : Type} (g : State → β) (hS : ∀ t x, g (State.raise t pgSYS x) = g t) (hE : ∀ t x, g (State.raise t pgEVT x) = g t)
    (hP : ∀ t x, g (State.raise t pgPWR x) = g t)
    (hM : ∀ t v, g (State.wr t pgSYS Reg.SYS.MODULE_STATE_MS v) = g t) (hW : ∀ t v, g (State.wr t pgPWR Reg.PWR.STATE_PS v) = g t)
    (b s : State) : g (powerStep (pinLevels (sysChanges b (modeStep s)))) = g s := by
  have hmode : ∀ t, g (modeStep t) = g t := by
    intro t
    unfold modeStep
    dsimp only
    split
    · exact hM _ _
    · rfl
  have hsys : ∀ t, g (sysChanges b t) = g t := by
    intro t
    unfold sysChanges
    dsimp only
    repeat' split
    all_goals simp only [hS]
  have hpin : ∀ t, g (pinLevels t) = g t := by
    intro t
    unfold pinLevels
    dsimp only
    repeat' split
    all_goals simp only [hE]
  have hpow : ∀ t, g (powerStep t) = g t := by
    intro t
    unfold powerStep
    dsimp only
    split
    · rfl
    · rw [hP, hW]
  exact (hpow _).trans ((hpin _).trans ((hsys _).trans (hmode _)))

/-- What `derive` leaves alone: everything but registers and event controllers. -/
theorem derive_keeps {β : Type} (g : State → β) (hr : ∀ t l, g { t with regs := l } = g t) (he : ∀ t x, g { t with evt := x } = g t)
    (b s : State) : g (derive b s) = g s := by
  have hset : ∀ t a w, g (State.setWord t a w) = g t := fun t a w => hr t _
  have hwr : ∀ t pg f v i, g (State.wr t pg f v i) = g t := fun t pg f v i => hset t _ _
  have hraise : ∀ t pg x, g (State.raise t pg x) = g t := fun t pg x => hwr t _ _ _ _
  have hbump : ∀ t pg f n i, g (State.bump t pg f n i) = g t := fun t pg f n i => hwr t _ _ _ _
  unfold derive
  refine (ibiPass_keeps g he (fun t => hraise t _ _) (fun t => hbump t _ _ _ _) (fun t => hbump t _ _ _ _) _).trans ?_
  refine (ibiPass_keeps g he (fun t => hraise t _ _) (fun t => hbump t _ _ _ _) (fun t => hbump t _ _ _ _) _).trans ?_
  exact follow_keeps g (fun t x => hraise t _ _) (fun t x => hraise t _ _) (fun t x => hraise t _ _) (fun t v => hwr t _ _ _ _)
    (fun t v => hwr t _ _ _ _) b s

/-- What `settle` leaves alone: everything but registers, event controllers and pins. -/
theorem settle_keeps {β : Type} (g : State → β) (hr : ∀ t l, g { t with regs := l } = g t) (he : ∀ t x, g { t with evt := x } = g t)
    (hp : ∀ t x, g { t with pins := x } = g t) (b s : State) : g (settle b s) = g s := by
  unfold settle
  dsimp only
  rw [hp]
  split
  · rfl
  · exact derive_keeps g hr he b s

@[simp] theorem settle_mem (b s : State) : (settle b s).mem = s.mem := settle_keeps (State.mem) (fun _ _ => rfl) (fun _ _ => rfl) (fun _ _ => rfl) b s
@[simp] theorem settle_seals (b s : State) : (settle b s).seals = s.seals := settle_keeps (State.seals) (fun _ _ => rfl) (fun _ _ => rfl) (fun _ _ => rfl) b s
@[simp] theorem settle_tick (b s : State) : (settle b s).tick = s.tick := settle_keeps (State.tick) (fun _ _ => rfl) (fun _ _ => rfl) (fun _ _ => rfl) b s
@[simp] theorem settle_txn (b s : State) : (settle b s).txn = s.txn := settle_keeps (State.txn) (fun _ _ => rfl) (fun _ _ => rfl) (fun _ _ => rfl) b s
@[simp] theorem settle_wells (b s : State) : (settle b s).wells = s.wells := settle_keeps (State.wells) (fun _ _ => rfl) (fun _ _ => rfl) (fun _ _ => rfl) b s
@[simp] theorem settle_pump (b s : State) : (settle b s).pump = s.pump := settle_keeps (State.pump) (fun _ _ => rfl) (fun _ _ => rfl) (fun _ _ => rfl) b s
@[simp] theorem settle_cist (b s : State) : (settle b s).cist = s.cist := settle_keeps (State.cist) (fun _ _ => rfl) (fun _ _ => rfl) (fun _ _ => rfl) b s
@[simp] theorem settle_plan (b s : State) : (settle b s).plan = s.plan := settle_keeps (State.plan) (fun _ _ => rfl) (fun _ _ => rfl) (fun _ _ => rfl) b s
@[simp] theorem settle_light (b s : State) : (settle b s).light = s.light := settle_keeps (State.light) (fun _ _ => rfl) (fun _ _ => rfl) (fun _ _ => rfl) b s
@[simp] theorem settle_conv (b s : State) : (settle b s).conv = s.conv := settle_keeps (State.conv) (fun _ _ => rfl) (fun _ _ => rfl) (fun _ _ => rfl) b s
@[simp] theorem settle_cal (b s : State) : (settle b s).cal = s.cal := settle_keeps (State.cal) (fun _ _ => rfl) (fun _ _ => rfl) (fun _ _ => rfl) b s
@[simp] theorem settle_integ (b s : State) : (settle b s).integ = s.integ := settle_keeps (State.integ) (fun _ _ => rfl) (fun _ _ => rfl) (fun _ _ => rfl) b s
@[simp] theorem settle_fault (b s : State) : (settle b s).fault = s.fault := settle_keeps (State.fault) (fun _ _ => rfl) (fun _ _ => rfl) (fun _ _ => rfl) b s
@[simp] theorem settle_fabric (b s : State) : (settle b s).fabric = s.fabric := settle_keeps (State.fabric) (fun _ _ => rfl) (fun _ _ => rfl) (fun _ _ => rfl) b s
@[simp] theorem settle_frames (b s : State) : (settle b s).frames = s.frames := settle_keeps (State.frames) (fun _ _ => rfl) (fun _ _ => rfl) (fun _ _ => rfl) b s
@[simp] theorem settle_i3c (b s : State) : (settle b s).i3c = s.i3c := settle_keeps (State.i3c) (fun _ _ => rfl) (fun _ _ => rfl) (fun _ _ => rfl) b s
@[simp] theorem settle_therm (b s : State) : (settle b s).therm = s.therm := settle_keeps (State.therm) (fun _ _ => rfl) (fun _ _ => rfl) (fun _ _ => rfl) b s
@[simp] theorem settle_boot (b s : State) : (settle b s).boot = s.boot := settle_keeps (State.boot) (fun _ _ => rfl) (fun _ _ => rfl) (fun _ _ => rfl) b s
@[simp] theorem settle_pending (b s : State) : (settle b s).pending = s.pending := settle_keeps (State.pending) (fun _ _ => rfl) (fun _ _ => rfl) (fun _ _ => rfl) b s
@[simp] theorem settle_free (b s : State) : (settle b s).free = s.free := settle_keeps (State.free) (fun _ _ => rfl) (fun _ _ => rfl) (fun _ _ => rfl) b s

theorem faultLevel_pins (t : State) (p : PinUnit) : ({ t with pins := p } : State).faultLevel = t.faultLevel := rfl

/-- R419: after every command FAULT_N is high only where its level lets it be. -/
theorem settle_faultN (b s : State) : (settle b s).pins.faultN = true → (settle b s).faultLevel = true := by
  unfold settle
  generalize (if s.boot.held then s else derive b s) = t
  dsimp only
  rw [faultLevel_pins]
  intro h
  exact (Bool.and_eq_true_iff.mp h).2

end State

/-- Every command's meaning is `finish` of an update; `live` and `liveCore` say which. -/
theorem finish_next (s : State) (at_ : Nat) (f : State → State) :
    finish s at_ f = .next { State.settle s (f (s.advance at_)) with pending := s.pending } := rfl

theorem live_finish (s : State) (at_ : Nat) (f : State → State) : live s at_ f = finish s at_ fun t => if s.halted then s else f t := by
  unfold live
  with_reducible rfl

theorem liveCore_finish (s : State) (at_ : Nat) (f : State → State) :
    liveCore s at_ f = finish s at_ fun t => if s.halted then s else if s.therm.shutdown then s else f t := rfl

end Sys2Proof.Machine
end

