-- ==== Sys2Proof/Laws/Regs.lean ====
section
/-! SUPPORT. Laws of the register file: what a register or field reads as after a write, and which registers `settle` may change. -/

namespace Sys2Proof.Machine

theorem bits_lt (x l w : Nat) : bits x l w < 2 ^ w := Nat.mod_lt _ (by positivity)

theorem bits_eq (x l w : Nat) : bits x l w = x / 2 ^ l % 2 ^ w := by simp [bits, Nat.shiftRight_eq_div_pow]

/-- Bits of a number with a field replaced: those of the value inside the field, the others as before. -/
theorem testBit_setBits (x l w v i : Nat) :
    (setBits x l w v).testBit i = if l ≤ i ∧ i < l + w then (v % 2 ^ w).testBit (i - l) else x.testBit i := by
  have hx : x = 2 ^ (l + w) * (x / 2 ^ (l + w)) + (2 ^ l * (x / 2 ^ l % 2 ^ w) + x % 2 ^ l) := by
    have h1 := Nat.div_add_mod x (2 ^ l)
    have h2 := Nat.div_add_mod (x / 2 ^ l) (2 ^ w)
    rw [Nat.div_div_eq_div_mul, ← Nat.pow_add] at h2
    calc x = 2 ^ l * (x / 2 ^ l) + x % 2 ^ l := h1.symm
      _ = 2 ^ l * (2 ^ w * (x / 2 ^ (l + w)) + x / 2 ^ l % 2 ^ w) + x % 2 ^ l := by rw [h2]
      _ = _ := by rw [Nat.mul_add, ← Nat.mul_assoc, ← Nat.pow_add]; omega
  have hs : setBits x l w v = 2 ^ (l + w) * (x / 2 ^ (l + w)) + (2 ^ l * (v % 2 ^ w) + x % 2 ^ l) := by
    unfold setBits
    rw [bits_eq, Nat.shiftLeft_eq, Nat.shiftLeft_eq, Nat.mul_comm _ (2 ^ l), Nat.mul_comm _ (2 ^ l)]
    omega
  have hl : x % 2 ^ l < 2 ^ l := Nat.mod_lt _ (by positivity)
  have hb : ∀ y, 2 ^ l * (y % 2 ^ w) + x % 2 ^ l < 2 ^ (l + w) := by
    intro y
    have hy : y % 2 ^ w < 2 ^ w := Nat.mod_lt _ (by positivity)
    calc 2 ^ l * (y % 2 ^ w) + x % 2 ^ l < 2 ^ l * (y % 2 ^ w) + 2 ^ l := by omega
      _ = 2 ^ l * (y % 2 ^ w + 1) := by rw [Nat.mul_add, Nat.mul_one]
      _ ≤ 2 ^ l * 2 ^ w := Nat.mul_le_mul_left _ hy
      _ = 2 ^ (l + w) := (Nat.pow_add 2 l w).symm
  have key : ∀ y, (2 ^ (l + w) * (x / 2 ^ (l + w)) + (2 ^ l * (y % 2 ^ w) + x % 2 ^ l)).testBit i =
      if i < l then (x % 2 ^ l).testBit i else if i < l + w then (y % 2 ^ w).testBit (i - l) else (x / 2 ^ (l + w)).testBit (i - (l + w)) := by
    intro y
    rw [Nat.testBit_two_pow_mul_add _ (hb y), Nat.testBit_two_pow_mul_add _ hl]
    by_cases h1 : i < l
    · simp [h1, show i < l + w by omega]
    · simp [h1]
  rw [hs, key v]
  have k2 := key (x / 2 ^ l)
  rw [← hx] at k2
  by_cases h1 : i < l
  · simp only [if_pos h1] at k2 ⊢
    rw [if_neg (by omega), k2]
  · by_cases h2 : i < l + w
    · simp only [if_neg h1, if_pos h2]
      rw [if_pos (by omega)]
    · simp only [if_neg h1, if_neg h2] at k2 ⊢
      rw [if_neg (by omega), k2]

theorem testBit_bits (x l w i : Nat) : (bits x l w).testBit i = (decide (i < w) && x.testBit (i + l)) := by
  rw [bits, Nat.testBit_mod_two_pow, Nat.testBit_shiftRight, Nat.add_comm]

/-- A replaced field reads as the value written. -/
theorem bits_setBits (x l w v : Nat) : bits (setBits x l w v) l w = v % 2 ^ w := by
  apply Nat.eq_of_testBit_eq
  intro i
  rw [testBit_bits, testBit_setBits, Nat.testBit_mod_two_pow]
  by_cases h : i < w
  · simp [h]; omega
  · simp [h]

/-- A field that shares no bit with the replaced one reads as before. -/
theorem bits_setBits_apart (x l w v l' w' : Nat) (h : l' + w' ≤ l ∨ l + w ≤ l') : bits (setBits x l w v) l' w' = bits x l' w' := by
  apply Nat.eq_of_testBit_eq
  intro i
  rw [testBit_bits, testBit_bits, testBit_setBits]
  by_cases h1 : i < w'
  · rw [if_neg (by omega)]
  · simp [h1]

theorem setBits_lt (x l w v n : Nat) (hx : x < 2 ^ n) (h : l + w ≤ n) : setBits x l w v < 2 ^ n := by
  apply Nat.lt_pow_two_of_testBit
  intro i hi
  rw [testBit_setBits, if_neg (by omega)]
  exact Nat.testBit_lt_two_pow (Nat.lt_of_lt_of_le hx (Nat.pow_le_pow_right (by omega) hi))

namespace State

/-- A register reads the word stored last; a store leaves the others. -/
@[simp] theorem word_setWord (s : State) (a b : Nat) (w : Word) : (s.setWord a w).word b = if b = a then w else s.word b :=
  sparseGet_put _ _ _ _ _

theorem word_setWord_ne (s : State) (a b : Nat) (w : Word) (h : b ≠ a) : (s.setWord a w).word b = s.word b := by simp [h]

/-- A field write changes its own register only. -/
theorem word_wr_ne (s : State) (pg : Nat) (f : Field) (v i b : Nat) (h : b ≠ regAddr pg (f.at i)) : (s.wr pg f v i).word b = s.word b :=
  word_setWord_ne _ _ _ _ h

theorem toNat_wr (s : State) (pg : Nat) (f : Field) (v i : Nat) (h : f.lsb + f.width ≤ 32) :
    ((s.wr pg f v i).word (regAddr pg (f.at i))).toNat = setBits (s.word (regAddr pg (f.at i))).toNat f.lsb f.width v := by
  unfold wr
  rw [word_setWord, if_pos rfl, BitVec.toNat_ofNat]
  exact Nat.mod_eq_of_lt (setBits_lt _ _ _ _ 32 (BitVec.isLt _) h)

/-- A field reads the low bits of the value written last. -/
theorem rd_wr (s : State) (pg : Nat) (f : Field) (v i : Nat) (h : f.lsb + f.width ≤ 32) : (s.wr pg f v i).rd pg f i = v % 2 ^ f.width := by
  unfold rd
  rw [toNat_wr _ _ _ _ _ h, bits_setBits]

/-- A field of another register reads as before. -/
theorem rd_wr_ne (s : State) (pg pg' : Nat) (f g : Field) (v i j : Nat) (h : regAddr pg' (g.at j) ≠ regAddr pg (f.at i)) :
    (s.wr pg f v i).rd pg' g j = s.rd pg' g j := by
  unfold rd
  rw [word_wr_ne _ _ _ _ _ _ h]

/-- Another field of the same register reads as before. -/
theorem rd_wr_apart (s : State) (pg pg' : Nat) (f g : Field) (v i j : Nat) (ha : regAddr pg' (g.at j) = regAddr pg (f.at i))
    (hf : f.lsb + f.width ≤ 32) (h : g.lsb + g.width ≤ f.lsb ∨ f.lsb + f.width ≤ g.lsb) : (s.wr pg f v i).rd pg' g j = s.rd pg' g j := by
  unfold rd
  rw [ha, toNat_wr _ _ _ _ _ hf, bits_setBits_apart _ _ _ _ _ _ h]

theorem rd_raise_ne (s : State) (pg b pg' : Nat) (g : Field) (j : Nat) (h : regAddr pg' (g.at j) ≠ regAddr pg 0x010) :
    (s.raise pg b).rd pg' g j = s.rd pg' g j := rd_wr_ne _ _ _ _ _ _ _ _ h

theorem word_raise_ne (s : State) (pg b a : Nat) (h : a ≠ regAddr pg 0x010) : (s.raise pg b).word a = s.word a := word_wr_ne _ _ _ _ _ _ h

/-- EVT_RAW after an event: bit `b` is set, the others are as before. -/
theorem raised (s : State) (pg b c : Nat) (hb : b < 32) :
    (s.raise pg b).rdBit pg Reg.HDR.EVT_RAW c = (decide (c = b) || s.rdBit pg Reg.HDR.EVT_RAW c) := by
  have h : (s.raise pg b).rd pg Reg.HDR.EVT_RAW = setBits (s.rd pg Reg.HDR.EVT_RAW) b 1 1 % 2 ^ 32 := rd_wr _ _ _ _ _ (by decide)
  have hm : setBits (s.rd pg Reg.HDR.EVT_RAW) b 1 1 < 2 ^ 32 := setBits_lt _ _ _ _ 32 (bits_lt _ _ 32) (by omega)
  rw [Nat.mod_eq_of_lt hm] at h
  have tb : ∀ x : Nat, bitAt x c = x.testBit c := by
    intro x
    simp [bitAt, Nat.testBit, Nat.and_comm]
  unfold rdBit
  rw [h, tb, tb, testBit_setBits]
  by_cases hcb : c = b
  · subst hcb; simp
  · rw [if_neg (by omega)]; simp [hcb]

/-- Which registers `settle` may change: the followers only. -/
theorem settle_word (b s : State) (a : Nat) (h : a ∉ followers) : (settle b s).word a = s.word a := by
  simp only [followers, List.mem_cons, List.not_mem_nil, or_false, not_or] at h
  obtain ⟨hm, hs, he, hp, h0, h1, hw⟩ := h
  have kE : ∀ (t : State) x, (State.raise t pgEVT x).word a = t.word a := fun t x => word_raise_ne _ _ _ _ he
  have k0 : ∀ t : State, (State.bump t pgEVT Reg.EVT.IBI_DROP0).word a = t.word a := fun t => word_wr_ne _ _ _ _ _ _ h0
  have k1 : ∀ t : State, (State.bump t pgEVT Reg.EVT.IBI_DROP1).word a = t.word a := fun t => word_wr_ne _ _ _ _ _ _ h1
  have hd : (derive b s).word a = s.word a := by
    unfold derive
    refine (ibiPass_keeps (fun t => t.word a) (fun _ _ => rfl) (fun t => kE t 7) k0 k1 _).trans ?_
    refine (ibiPass_keeps (fun t => t.word a) (fun _ _ => rfl) (fun t => kE t 7) k0 k1 _).trans ?_
    exact follow_keeps (fun t => t.word a) (fun t x => word_raise_ne _ _ _ _ hs) kE (fun t x => word_raise_ne _ _ _ _ hp)
      (fun t v => word_wr_ne _ _ _ _ _ _ hm) (fun t v => word_wr_ne _ _ _ _ _ _ hw) b s
  have hs' : (if s.boot.held then s else derive b s).word a = s.word a := by split; rfl; exact hd
  rw [← hs']
  unfold settle
  generalize (if s.boot.held then s else derive b s) = t
  rfl

/-- The states `left` and `settle` differ in the queue only. -/
theorem left_eq (s u : State) : s.left u = { settle s u with pending := s.pending } := by
  unfold left
  with_reducible rfl

@[simp] theorem left_pending (s u : State) : (s.left u).pending = s.pending := by
  rw [left_eq]

/-- What a command leaves reads, in every register that does not follow from the state, as its own effect left it. -/
theorem left_word (s u : State) (a : Nat) (h : a ∉ followers) : (s.left u).word a = u.word a := by
  rw [← settle_word s u a h, left_eq]
  generalize settle s u = t
  rfl

/-- What `left` leaves alone: everything but registers, event controllers, pins and the queue. -/
theorem left_keeps {β : Type} (g : State → β) (hr : ∀ t l, g { t with regs := l } = g t) (he : ∀ t x, g { t with evt := x } = g t)
    (hp : ∀ t x, g { t with pins := x } = g t) (hq : ∀ t x, g { t with pending := x } = g t) (s u : State) : g (s.left u) = g u := by
  rw [left_eq, hq, settle_keeps g hr he hp]

@[simp] theorem left_mem (s u : State) : (s.left u).mem = u.mem := left_keeps State.mem (fun _ _ => rfl) (fun _ _ => rfl) (fun _ _ => rfl) (fun _ _ => rfl) s u
@[simp] theorem left_seals (s u : State) : (s.left u).seals = u.seals := left_keeps State.seals (fun _ _ => rfl) (fun _ _ => rfl) (fun _ _ => rfl) (fun _ _ => rfl) s u
@[simp] theorem left_tick (s u : State) : (s.left u).tick = u.tick := left_keeps State.tick (fun _ _ => rfl) (fun _ _ => rfl) (fun _ _ => rfl) (fun _ _ => rfl) s u
@[simp] theorem left_txn (s u : State) : (s.left u).txn = u.txn := left_keeps State.txn (fun _ _ => rfl) (fun _ _ => rfl) (fun _ _ => rfl) (fun _ _ => rfl) s u
@[simp] theorem left_wells (s u : State) : (s.left u).wells = u.wells := left_keeps State.wells (fun _ _ => rfl) (fun _ _ => rfl) (fun _ _ => rfl) (fun _ _ => rfl) s u
@[simp] theorem left_pump (s u : State) : (s.left u).pump = u.pump := left_keeps State.pump (fun _ _ => rfl) (fun _ _ => rfl) (fun _ _ => rfl) (fun _ _ => rfl) s u
@[simp] theorem left_cist (s u : State) : (s.left u).cist = u.cist := left_keeps State.cist (fun _ _ => rfl) (fun _ _ => rfl) (fun _ _ => rfl) (fun _ _ => rfl) s u
@[simp] theorem left_plan (s u : State) : (s.left u).plan = u.plan := left_keeps State.plan (fun _ _ => rfl) (fun _ _ => rfl) (fun _ _ => rfl) (fun _ _ => rfl) s u
@[simp] theorem left_light (s u : State) : (s.left u).light = u.light := left_keeps State.light (fun _ _ => rfl) (fun _ _ => rfl) (fun _ _ => rfl) (fun _ _ => rfl) s u
@[simp] theorem left_conv (s u : State) : (s.left u).conv = u.conv := left_keeps State.conv (fun _ _ => rfl) (fun _ _ => rfl) (fun _ _ => rfl) (fun _ _ => rfl) s u
@[simp] theorem left_cal (s u : State) : (s.left u).cal = u.cal := left_keeps State.cal (fun _ _ => rfl) (fun _ _ => rfl) (fun _ _ => rfl) (fun _ _ => rfl) s u
@[simp] theorem left_integ (s u : State) : (s.left u).integ = u.integ := left_keeps State.integ (fun _ _ => rfl) (fun _ _ => rfl) (fun _ _ => rfl) (fun _ _ => rfl) s u
@[simp] theorem left_fault (s u : State) : (s.left u).fault = u.fault := left_keeps State.fault (fun _ _ => rfl) (fun _ _ => rfl) (fun _ _ => rfl) (fun _ _ => rfl) s u
@[simp] theorem left_fabric (s u : State) : (s.left u).fabric = u.fabric := left_keeps State.fabric (fun _ _ => rfl) (fun _ _ => rfl) (fun _ _ => rfl) (fun _ _ => rfl) s u
@[simp] theorem left_frames (s u : State) : (s.left u).frames = u.frames := left_keeps State.frames (fun _ _ => rfl) (fun _ _ => rfl) (fun _ _ => rfl) (fun _ _ => rfl) s u
@[simp] theorem left_i3c (s u : State) : (s.left u).i3c = u.i3c := left_keeps State.i3c (fun _ _ => rfl) (fun _ _ => rfl) (fun _ _ => rfl) (fun _ _ => rfl) s u
@[simp] theorem left_therm (s u : State) : (s.left u).therm = u.therm := left_keeps State.therm (fun _ _ => rfl) (fun _ _ => rfl) (fun _ _ => rfl) (fun _ _ => rfl) s u
@[simp] theorem left_boot (s u : State) : (s.left u).boot = u.boot := left_keeps State.boot (fun _ _ => rfl) (fun _ _ => rfl) (fun _ _ => rfl) (fun _ _ => rfl) s u
@[simp] theorem left_free (s u : State) : (s.left u).free = u.free := left_keeps State.free (fun _ _ => rfl) (fun _ _ => rfl) (fun _ _ => rfl) (fun _ _ => rfl) s u

end State

end Sys2Proof.Machine
end

