-- ==== Sys2Proof/Laws/Run.lean ====
section
/-! SUPPORT. When a command's own effect happens: each way a meaning is run, once for the case that it acts and once for the case that it
does not. -/

namespace Sys2Proof.Machine

open State

variable (s : State) (at_ path : Nat) (f : State → State)

theorem finish_left : finish s at_ f = .next (s.left (f (s.advance at_))) := by
  unfold finish left
  with_reducible rfl

/-- A command acts while reset is not held. -/
theorem live_up (h : s.boot.held = false) : live s at_ f = .next (s.left (f (s.advance at_))) := by
  have h2 : s.halted = false := h
  rw [live_finish, finish_left, h2]
  rfl

/-- While reset is held it changes nothing, time included. -/
theorem live_held (h : s.boot.held = true) : live s at_ f = .next (s.left s) := by
  have h2 : s.halted = true := h
  rw [live_finish, finish_left, h2]
  rfl

/-- A change of an input pin acts while reset is not held. -/
theorem pinLive_up (pin : PinUnit → PinUnit) (h : s.boot.held = false) : pinLive s at_ pin f = .next (s.left (f (s.advance at_))) := by
  have h2 : s.halted = false := h
  unfold pinLive
  rw [finish_left, h2]
  rfl

/-- While reset is held it shows on the pin only. -/
theorem pinLive_held (pin : PinUnit → PinUnit) (h : s.boot.held = true) :
    pinLive s at_ pin f = .next (s.left { s with pins := pin s.pins }) := by
  have h2 : s.halted = true := h
  unfold pinLive
  rw [finish_left, h2]
  rfl

/-- A command of the core acts while the core is up. -/
theorem liveCore_up (h : s.coreUp = true) : liveCore s at_ f = .next (s.left (f (s.advance at_))) := by
  have h1 : s.boot.held = false := by
    cases hb : s.boot.held
    · rfl
    · simp [coreUp, hb] at h
  have h2 : s.therm.shutdown = false := by
    cases hb : s.therm.shutdown
    · rfl
    · simp [coreUp, hb] at h
  unfold liveCore
  rw [live_up s at_ _ h1]
  simp only [h2]
  rfl

/-- While the core is not up it changes nothing. -/
theorem liveCore_down (h : s.coreUp = false) : liveCore s at_ f = .next (s.left s) := by
  unfold liveCore
  cases hb : s.boot.held
  · have h2 : s.therm.shutdown = true := by simpa [coreUp, hb] using h
    rw [live_up s at_ _ hb]
    simp only [h2]
    rfl
  · rw [live_held s at_ _ hb]

/-- A register command acts while its path runs. -/
theorem onBus_up (h : s.boot.held = false) (hp : s.pathRuns path = true) :
    onBus s at_ path f = .next (s.left (f (s.advance at_))) := by
  have h2 : (s.advance at_).pathRuns path = true := hp
  unfold onBus
  rw [live_up s at_ _ h]
  simp only [h2]
  rfl

/-- A register command whose path does not run only lets time pass; in reset it does not even that. -/
theorem onBus_down (h : s.boot.held = false) (hp : s.pathRuns path = false) : onBus s at_ path f = .next (s.left (s.advance at_)) := by
  have h2 : (s.advance at_).pathRuns path = false := hp
  unfold onBus
  rw [live_up s at_ _ h]
  simp only [h2]
  rfl

theorem pathUp_held {s : State} {path pg : Nat} (h : s.pathUp path pg = true) : s.boot.held = false := by
  unfold pathUp at h
  cases hb : s.boot.held
  · rfl
  · simp [hb] at h

theorem pathUp_runs {s : State} {path pg : Nat} (h : s.pathUp path pg = true) : s.pathRuns path = true := by
  unfold pathUp at h
  simp only [Bool.and_eq_true] at h
  exact h.1.2

theorem pathUp_unlocked {s : State} {path pg : Nat} (h : s.pathUp path pg = true) : s.lockedOut path pg = false := by
  unfold pathUp at h
  simp only [Bool.and_eq_true, Bool.not_eq_true'] at h
  exact h.2

/-! ### Register writes -/

namespace State

/-- A write to a mapped, unlocked register outside the event controllers and LOCK. -/
theorem regWrite_effect (s : State) (path pg off v : Nat) (k : PageKind) (hk : pageKind pg = some k) (ho : off < 0x1000) (h4 : off % 4 = 0)
    (hc : ctlAt (pg * 0x1000 + off) = none) (ha : assigned k off = true) (hw : otherWindow k path off = false) (hl : off ≠ 0x028)
    (hu : s.lockedOut path pg = false) :
    s.regWrite path (pg * 0x1000 + off) v =
      (s.effectWrite path k pg off (BitVec.ofNat 32 v)).getD (s.plainWrite k pg off (BitVec.ofNat 32 v)) := by
  have hp : (pg * 0x1000 + off) / 0x1000 = pg := by omega
  have hf : (pg * 0x1000 + off) % 0x1000 = off := by omega
  unfold regWrite busWrite
  simp [hp, hf, hk, h4, hc, ha, hw, hl, hu]

end State

/-- Controllers lie on the cluster, die and EVT pages only. -/
theorem ctlAt_none (pg off : Nat) (ho : off < 0x1000) (h1 : ¬(0x80 ≤ pg ∧ pg < 0x80 + 52 ∧ 0xE00 ≤ off))
    (h2 : ¬(0x70 ≤ pg ∧ pg < 0x74 ∧ 0xB00 ≤ off)) (h3 : ¬(pg = 2 ∧ 0x200 ≤ off)) : ctlAt (pg * 0x1000 + off) = none := by
  have hp : (pg * 0x1000 + off) / 0x1000 = pg := by omega
  have hf : (pg * 0x1000 + off) % 0x1000 = off := by omega
  unfold ctlAt
  simp only [hp, hf, pgEVT]
  rw [if_neg (by omega), if_neg (by omega), if_neg (by omega), if_neg (by omega)]

/-! ### The page of each unit (R54) -/

theorem find_skip {α : Type} (p : α → Bool) (x : α) (l : List α) (h : p x = false) : (x :: l).find? p = l.find? p := by
  rw [List.find?_cons, h]

theorem find_here {α : Type} (p : α → Bool) (x : α) (l : List α) (h : p x = true) : (x :: l).find? p = some x := by
  rw [List.find?_cons, h]

theorem pageKind_frameIn {i : Nat} (h : i < 8) : pageKind (pgFrameIn i) = some .frameIn := by
  unfold pageKind pageRange pgFrameIn
  iterate 3 rw [find_skip _ _ _ (by simp only [decide_eq_false_iff_not]; omega)]
  rw [find_here _ _ _ (by simp only [decide_eq_true_eq]; omega)]
  rfl

theorem pageKind_frameOut {i : Nat} (h : i < 8) : pageKind (pgFrameOut i) = some .frameOut := by
  unfold pageKind pageRange pgFrameOut
  iterate 4 rw [find_skip _ _ _ (by simp only [decide_eq_false_iff_not]; omega)]
  rw [find_here _ _ _ (by simp only [decide_eq_true_eq]; omega)]
  rfl

theorem pageKind_hport {i : Nat} (h : i < 32) : pageKind (pgHport i) = some .hport := by
  unfold pageKind pageRange pgHport
  iterate 5 rw [find_skip _ _ _ (by simp only [decide_eq_false_iff_not]; omega)]
  rw [find_here _ _ _ (by simp only [decide_eq_true_eq]; omega)]
  rfl

theorem pageKind_cistern {i : Nat} (h : i < 12) : pageKind (pgCistern i) = some .cistern := by
  unfold pageKind pageRange pgCistern
  iterate 6 rw [find_skip _ _ _ (by simp only [decide_eq_false_iff_not]; omega)]
  rw [find_here _ _ _ (by simp only [decide_eq_true_eq]; omega)]
  rfl

theorem pageKind_comb {i : Nat} (h : i < 6) : pageKind (pgComb i) = some .comb := by
  unfold pageKind pageRange pgComb
  iterate 7 rw [find_skip _ _ _ (by simp only [decide_eq_false_iff_not]; omega)]
  rw [find_here _ _ _ (by simp only [decide_eq_true_eq]; omega)]
  rfl

theorem pageKind_wdie {i : Nat} (h : i < 4) : pageKind (pgWdie i) = some .wdie := by
  unfold pageKind pageRange pgWdie
  iterate 15 rw [find_skip _ _ _ (by simp only [decide_eq_false_iff_not]; omega)]
  rw [find_here _ _ _ (by simp only [decide_eq_true_eq]; omega)]
  rfl

theorem pageKind_cluster {i : Nat} (h : i < 52) : pageKind (pgCluster i) = some .cluster := by
  unfold pageKind pageRange pgCluster
  iterate 16 rw [find_skip _ _ _ (by simp only [decide_eq_false_iff_not]; omega)]
  rw [find_here _ _ _ (by simp only [decide_eq_true_eq]; omega)]
  rfl

theorem pageKind_well {i : Nat} (h : i < 832) : pageKind (pgWell i) = some .well := by
  unfold pageKind pageRange pgWell
  iterate 17 rw [find_skip _ _ _ (by simp only [decide_eq_false_iff_not]; omega)]
  rw [find_here _ _ _ (by simp only [decide_eq_true_eq]; omega)]
  rfl

theorem pageKind_pumpq {i : Nat} (h : i < 4096) : pageKind (pgPumpq i) = some .pumpq := by
  unfold pageKind pageRange pgPumpq
  iterate 18 rw [find_skip _ _ _ (by simp only [decide_eq_false_iff_not]; omega)]
  rw [find_here _ _ _ (by simp only [decide_eq_true_eq]; omega)]
  rfl

end Sys2Proof.Machine
end

