-- ==== Sys2Proof/Laws/Time.lean ====
section
/-! SUPPORT. What the stamp of a command leaves alone: every reading of the state but those of the time itself. -/

namespace Sys2Proof.Machine.State

@[simp] theorem advance_bytesAt (s : State) (t : Nat) (key n : Nat) : (s.advance t).bytesAt key n = s.bytesAt key n := rfl
@[simp] theorem advance_calDue (s : State) (t : Nat) (w : Nat) : (s.advance t).calDue w = s.calDue w := rfl
@[simp] theorem advance_calTicks (s : State) (t : Nat) (f : Field) : (s.advance t).calTicks f = s.calTicks f := rfl
@[simp] theorem advance_clearActive (s : State) (t : Nat) : (s.advance t).clearActive = s.clearActive  := rfl
@[simp] theorem advance_combCal (s : State) (t : Nat) (i : Nat) : (s.advance t).combCal i = s.combCal i := rfl
@[simp] theorem advance_coreUp (s : State) (t : Nat) : (s.advance t).coreUp = s.coreUp  := rfl
@[simp] theorem advance_edgeDelay (s : State) (t : Nat) : (s.advance t).edgeDelay = s.edgeDelay  := rfl
@[simp] theorem advance_flag (s : State) (t : Nat) (pg : Nat) (f : Field) (i : Nat := 0) : (s.advance t).flag pg f i = s.flag pg f i := rfl
@[simp] theorem advance_fleetReason (s : State) (t : Nat) (a : Nat) : (s.advance t).fleetReason a = s.fleetReason a := rfl
@[simp] theorem advance_ftRec (s : State) (t : Nat) (w : Nat) : (s.advance t).ftRec w = s.ftRec w := rfl
@[simp] theorem advance_ftTicks (s : State) (t : Nat) (f : Field) : (s.advance t).ftTicks f = s.ftTicks f := rfl
@[simp] theorem advance_group (s : State) (t : Nat) (g : Nat) : (s.advance t).group g = s.group g := rfl
@[simp] theorem advance_groupById (s : State) (t : Nat) (g : Nat) : (s.advance t).groupById g = s.groupById g := rfl
@[simp] theorem advance_groupMembers (s : State) (t : Nat) (g : Nat) : (s.advance t).groupMembers g = s.groupMembers g := rfl
@[simp] theorem advance_groupOf (s : State) (t : Nat) (pg : Nat) : (s.advance t).groupOf pg = s.groupOf pg := rfl
@[simp] theorem advance_hasDa (s : State) (t : Nat) (k : Nat) : (s.advance t).hasDa k = s.hasDa k := rfl
@[simp] theorem advance_holder (s : State) (t : Nat) (pg : Nat) : (s.advance t).holder pg = s.holder pg := rfl
@[simp] theorem advance_idlePlane (s : State) (t : Nat) (w : Nat) : (s.advance t).idlePlane w = s.idlePlane w := rfl
@[simp] theorem advance_imageReason (s : State) (t : Nat) (a : Nat) (hub : Bool) : (s.advance t).imageReason a hub = s.imageReason a hub := rfl
@[simp] theorem advance_isOn (s : State) (t : Nat) (pg : Nat) : (s.advance t).isOn pg = s.isOn pg := rfl
@[simp] theorem advance_laneCal (s : State) (t : Nat) (p k : Nat) : (s.advance t).laneCal p k = s.laneCal p k := rfl
@[simp] theorem advance_laneSt (s : State) (t : Nat) (p k : Nat) : (s.advance t).laneSt p k = s.laneSt p k := rfl
@[simp] theorem advance_lightSuspended (s : State) (t : Nat) : (s.advance t).lightSuspended = s.lightSuspended  := rfl
@[simp] theorem advance_linkState (s : State) (t : Nat) (p : Nat) : (s.advance t).linkState p = s.linkState p := rfl
@[simp] theorem advance_lockedOut (s : State) (t : Nat) (path pg : Nat) : (s.advance t).lockedOut path pg = s.lockedOut path pg := rfl
@[simp] theorem advance_logicalOf (s : State) (t : Nat) (w : Nat) : (s.advance t).logicalOf w = s.logicalOf w := rfl
@[simp] theorem advance_mapNow (s : State) (t : Nat) : (s.advance t).mapNow = s.mapNow  := rfl
@[simp] theorem advance_maxLevel (s : State) (t : Nat) : (s.advance t).maxLevel = s.maxLevel  := rfl
@[simp] theorem advance_mayEnter (s : State) (t : Nat) (w : Nat) (d : List Byte) : (s.advance t).mayEnter w d = s.mayEnter w d := rfl
@[simp] theorem advance_maySwap (s : State) (t : Nat) (w : Nat) : (s.advance t).maySwap w = s.maySwap w := rfl
@[simp] theorem advance_monPasses (s : State) (t : Nat) (bank inst win : Nat) (out m : Int) : (s.advance t).monPasses bank inst win out m = s.monPasses bank inst win out m := rfl
@[simp] theorem advance_mrl (s : State) (t : Nat) (k : Nat) : (s.advance t).mrl k = s.mrl k := rfl
@[simp] theorem advance_mwl (s : State) (t : Nat) (k : Nat) : (s.advance t).mwl k = s.mwl k := rfl
@[simp] theorem advance_neighbours (s : State) (t : Nat) : (s.advance t).neighbours = s.neighbours  := rfl
@[simp] theorem advance_nextSlot (s : State) (t : Nat) (p v : Nat) : (s.advance t).nextSlot p v = s.nextSlot p v := rfl
@[simp] theorem advance_optOf (s : State) (t : Nat) (c : Nat) : (s.advance t).optOf c = s.optOf c := rfl
@[simp] theorem advance_overdue (s : State) (t : Nat) (x : TxnGroup) : (s.advance t).overdue x = s.overdue x := rfl
@[simp] theorem advance_ownId (s : State) (t : Nat) : (s.advance t).ownId = s.ownId  := rfl
@[simp] theorem advance_ownRank (s : State) (t : Nat) : (s.advance t).ownRank = s.ownRank  := rfl
@[simp] theorem advance_parentPort (s : State) (t : Nat) : (s.advance t).parentPort = s.parentPort  := rfl
@[simp] theorem advance_passKey (s : State) (t : Nat) (w slot : Nat) : (s.advance t).passKey w slot = s.passKey w slot := rfl
@[simp] theorem advance_passTail (s : State) (t : Nat) (w : Nat) : (s.advance t).passTail w = s.passTail w := rfl
@[simp] theorem advance_pathRuns (s : State) (t : Nat) (path : Nat) : (s.advance t).pathRuns path = s.pathRuns path := rfl
@[simp] theorem advance_pathUp (s : State) (t : Nat) (path pg : Nat) : (s.advance t).pathUp path pg = s.pathUp path pg := rfl
@[simp] theorem advance_peek (s : State) (t : Nat) (a n : Nat) : (s.advance t).peek a n = s.peek a n := rfl
@[simp] theorem advance_pid (s : State) (t : Nat) (k : Nat) : (s.advance t).pid k = s.pid k := rfl
@[simp] theorem advance_planRunning (s : State) (t : Nat) : (s.advance t).planRunning = s.planRunning  := rfl
@[simp] theorem advance_port (s : State) (t : Nat) (p : Nat) : (s.advance t).port p = s.port p := rfl
@[simp] theorem advance_programOrder (s : State) (t : Nat) : (s.advance t).programOrder = s.programOrder  := rfl
@[simp] theorem advance_qst (s : State) (t : Nat) (q : Nat) : (s.advance t).qst q = s.qst q := rfl
@[simp] theorem advance_queue (s : State) (t : Nat) (q : Nat) : (s.advance t).queue q = s.queue q := rfl
@[simp] theorem advance_rd (s : State) (t : Nat) (pg : Nat) (f : Field) (i : Nat := 0) : (s.advance t).rd pg f i = s.rd pg f i := rfl
@[simp] theorem advance_rdBit (s : State) (t : Nat) (pg : Nat) (f : Field) (b : Nat) : (s.advance t).rdBit pg f b = s.rdBit pg f b := rfl
@[simp] theorem advance_readyGroup (s : State) (t : Nat) (w : Nat) : (s.advance t).readyGroup w = s.readyGroup w := rfl
@[simp] theorem advance_readyTile (s : State) (t : Nat) (w : Nat) : (s.advance t).readyTile w = s.readyTile w := rfl
@[simp] theorem advance_refuseReason (s : State) (t : Nat) (w : Nat) (d : List Byte) : (s.advance t).refuseReason w d = s.refuseReason w d := rfl
@[simp] theorem advance_reqAddr (s : State) (t : Nat) : (s.advance t).reqAddr = s.reqAddr  := rfl
@[simp] theorem advance_resolve (s : State) (t : Nat) (map : Nat → Option Nat) (a : Nat) : (s.advance t).resolve map a = s.resolve map a := rfl
@[simp] theorem advance_response (s : State) (t : Nat) (k : Nat) : (s.advance t).response k = s.response k := rfl
@[simp] theorem advance_returnable (s : State) (t : Nat) (w : Nat) : (s.advance t).returnable w = s.returnable w := rfl
@[simp] theorem advance_ringSize (s : State) (t : Nat) (q : Nat) : (s.advance t).ringSize q = s.ringSize q := rfl
@[simp] theorem advance_runs (s : State) (t : Nat) (pg : Nat) : (s.advance t).runs pg = s.runs pg := rfl
@[simp] theorem advance_rxOpen (s : State) (t : Nat) (p v : Nat) : (s.advance t).rxOpen p v = s.rxOpen p v := rfl
@[simp] theorem advance_sensor (s : State) (t : Nat) (i : Nat) : (s.advance t).sensor i = s.sensor i := rfl
@[simp] theorem advance_sessionOn (s : State) (t : Nat) (w : Nat) (kinds : List Nat) : (s.advance t).sessionOn w kinds = s.sessionOn w kinds := rfl
@[simp] theorem advance_slotInFlight (s : State) (t : Nat) (f : RxFrame) : (s.advance t).slotInFlight f = s.slotInFlight f := rfl
@[simp] theorem advance_srcPrio (s : State) (t : Nat) (c id : Nat) : (s.advance t).srcPrio c id = s.srcPrio c id := rfl
@[simp] theorem advance_st (s : State) (t : Nat) (pg : Nat) : (s.advance t).st pg = s.st pg := rfl
@[simp] theorem advance_staticAddr (s : State) (t : Nat) (k : Nat) : (s.advance t).staticAddr k = s.staticAddr k := rfl
@[simp] theorem advance_svcSt (s : State) (t : Nat) : (s.advance t).svcSt = s.svcSt  := rfl
@[simp] theorem advance_takes (s : State) (t : Nat) (p v : Nat) : (s.advance t).takes p v = s.takes p v := rfl
@[simp] theorem advance_trialRunning (s : State) (t : Nat) : (s.advance t).trialRunning = s.trialRunning  := rfl
@[simp] theorem advance_trimSel (s : State) (t : Nat) (c : Nat) : (s.advance t).trimSel c = s.trimSel c := rfl
@[simp] theorem advance_txPort (s : State) (t : Nat) (q : Nat) : (s.advance t).txPort q = s.txPort q := rfl
@[simp] theorem advance_updAddr (s : State) (t : Nat) : (s.advance t).updAddr = s.updAddr  := rfl
@[simp] theorem advance_vcEn (s : State) (t : Nat) (p v : Nat) : (s.advance t).vcEn p v = s.vcEn p v := rfl
@[simp] theorem advance_vcKind (s : State) (t : Nat) (p v : Nat) : (s.advance t).vcKind p v = s.vcKind p v := rfl
@[simp] theorem advance_well (s : State) (t : Nat) (w : Nat) : (s.advance t).well w = s.well w := rfl
@[simp] theorem advance_wellCal (s : State) (t : Nat) (w : Nat) : (s.advance t).wellCal w = s.wellCal w := rfl
@[simp] theorem advance_winAddr (s : State) (t : Nat) (k : Nat) : (s.advance t).winAddr k = s.winAddr k := rfl
@[simp] theorem advance_winServed (s : State) (t : Nat) (a : Nat) : (s.advance t).winServed a = s.winServed a := rfl
@[simp] theorem advance_word (s : State) (t : Nat) (addr : Nat) : (s.advance t).word addr = s.word addr := rfl

end Sys2Proof.Machine.State
end

