-- ==== Sys2Proof/Laws/Effects.lean ====
section
/-! SUPPORT. What each command of the core, the pins and the I3C ports leaves, when it acts: its own effect at its stamp, and what follows. -/

namespace Sys2Proof.Machine

open State

variable (s : State)

theorem eff_tickBoundary (at_ : Nat) (up : s.boot.held = false) :
    exec (.tickBoundary at_) s = .next (s.left (
      (s.advance at_).tickBoundary)) := by
  rw [exec_tickBoundary]
  unfold execTickBoundary
  exact live_up s at_ _ up

theorem eff_tickInEdge (at_ : Nat) (rising : Bool) (up : s.boot.held = false) :
    exec (.tickInEdge at_ rising) s = .next (s.left (
      (s.advance at_).tickInEdge rising)) := by
  rw [exec_tickInEdge]
  unfold execTickInEdge
  exact pinLive_up s at_ _ _ up

theorem eff_tickInMissing (at_ : Nat) (up : s.boot.held = false) :
    exec (.tickInMissing at_) s = .next (s.left (
      (s.advance at_).tickInMissing)) := by
  rw [exec_tickInMissing]
  unfold execTickInMissing
  exact live_up s at_ _ up

theorem eff_acquireTimeout (at_ : Nat) (up : s.boot.held = false) :
    exec (.acquireTimeout at_) s = .next (s.left (
      (s.advance at_).acquireTimeout)) := by
  rw [exec_acquireTimeout]
  unfold execAcquireTimeout
  exact live_up s at_ _ up

theorem eff_txnTimeout (at_ : Nat) (group : Nat) (up : s.coreUp = true) :
    exec (.txnTimeout at_ group) s = .next (s.left (
      (s.advance at_).txnTimeout group)) := by
  rw [exec_txnTimeout]
  unfold execTxnTimeout
  exact liveCore_up s at_ _ up

theorem eff_ibiSend (at_ : Nat) (port : Nat) (accepted : Bool) (up : s.boot.held = false) :
    exec (.ibiSend at_ port accepted) s = .next (s.left (
      (s.advance at_).ibiSend port accepted)) := by
  rw [exec_ibiSend]
  unfold execIbiSend
  exact live_up s at_ _ up

theorem eff_clrNAssert (at_ : Nat) (up : s.boot.held = false) :
    exec (.clrNAssert at_) s = .next (s.left (
      (s.advance at_).clrAssert)) := by
  rw [exec_clrNAssert]
  unfold execClrNAssert
  exact pinLive_up s at_ _ _ up

theorem eff_clrNDeassert (at_ : Nat) (up : s.boot.held = false) :
    exec (.clrNDeassert at_) s = .next (s.left (
      (s.advance at_).clrDeassert)) := by
  rw [exec_clrNDeassert]
  unfold execClrNDeassert
  exact pinLive_up s at_ _ _ up

theorem eff_optoffAssert (at_ : Nat) (up : s.boot.held = false) :
    exec (.optoffAssert at_) s = .next (s.left (
      (s.advance at_).optoffAssert)) := by
  rw [exec_optoffAssert]
  unfold execOptoffAssert
  exact pinLive_up s at_ _ _ up

theorem eff_optoffRelease (at_ : Nat) (up : s.boot.held = false) :
    exec (.optoffRelease at_) s = .next (s.left (
      (s.advance at_).optoffRelease)) := by
  rw [exec_optoffRelease]
  unfold execOptoffRelease
  exact pinLive_up s at_ _ _ up

theorem eff_planeLoad (at_ : Nat) (w : Nat) (up : s.coreUp = true) :
    exec (.planeLoad at_ w) s = .next (s.left (
      (s.advance at_).planeLoad w)) := by
  rw [exec_planeLoad]
  unfold execPlaneLoad
  exact liveCore_up s at_ _ up

theorem eff_planeReady (at_ : Nat) (w : Nat) (up : s.coreUp = true) :
    exec (.planeReady at_ w) s = .next (s.left (
      (s.advance at_).planeReady w)) := by
  rw [exec_planeReady]
  unfold execPlaneReady
  exact liveCore_up s at_ _ up

theorem eff_swapStrobe (at_ : Nat) (w : Nat) (up : s.coreUp = true) :
    exec (.swapStrobe at_ w) s = .next (s.left (
      (s.advance at_).swapStrobe w)) := by
  rw [exec_swapStrobe]
  unfold execSwapStrobe
  exact liveCore_up s at_ _ up

theorem eff_groupStrobe (at_ : Nat) (g : Nat) (up : s.coreUp = true) :
    exec (.groupStrobe at_ g) s = .next (s.left (
      (s.advance at_).groupStrobe g)) := by
  rw [exec_groupStrobe]
  unfold execGroupStrobe
  exact liveCore_up s at_ _ up

theorem eff_refresh (at_ : Nat) (w : Nat) (ends : Bool) (up : s.coreUp = true) :
    exec (.refresh at_ w ends) s = .next (s.left (
      (s.advance at_).refresh w ends)) := by
  rw [exec_refresh]
  unfold execRefresh
  exact liveCore_up s at_ _ up

theorem eff_loUnlock (at_ : Nat) (w : Nat) (row : Nat) (err : Nat) (up : s.coreUp = true) :
    exec (.loUnlock at_ w row err) s = .next (s.left (
      (s.advance at_).loUnlock w row err)) := by
  rw [exec_loUnlock]
  unfold execLoUnlock
  exact liveCore_up s at_ _ up

theorem eff_loRelock (at_ : Nat) (w : Nat) (row : Nat) (err : Nat) (up : s.coreUp = true) :
    exec (.loRelock at_ w row err) s = .next (s.left (
      (s.advance at_).loRelock w row err)) := by
  rw [exec_loRelock]
  unfold execLoRelock
  exact liveCore_up s at_ _ up

theorem eff_pilotWindowEnd (at_ : Nat) (w : Nat) (up : s.coreUp = true) :
    exec (.pilotWindowEnd at_ w) s = .next (s.left (
      (s.advance at_).pilotWindowEnd w)) := by
  rw [exec_pilotWindowEnd]
  unfold execPilotWindowEnd
  exact liveCore_up s at_ _ up

theorem eff_passSetup (at_ : Nat) (w : Nat) (up : s.coreUp = true) :
    exec (.passSetup at_ w) s = .next (s.left (
      (s.advance at_).passSetup w)) := by
  rw [exec_passSetup]
  unfold execPassSetup
  exact liveCore_up s at_ _ up

theorem eff_passRun (at_ : Nat) (w : Nat) (errs : List (List Int)) (fault : Option (Nat × Nat)) (up : s.coreUp = true) :
    exec (.passRun at_ w errs fault) s = .next (s.left (
      (s.advance at_).passRun w errs fault)) := by
  rw [exec_passRun]
  unfold execPassRun
  exact liveCore_up s at_ _ up

theorem eff_passEpilogue (at_ : Nat) (w : Nat) (fault : Option (Nat × Nat)) (up : s.coreUp = true) :
    exec (.passEpilogue at_ w fault) s = .next (s.left (
      (s.advance at_).passEpilogue w fault)) := by
  rw [exec_passEpilogue]
  unfold execPassEpilogue
  exact liveCore_up s at_ _ up

theorem eff_passDone (at_ : Nat) (w : Nat) (up : s.coreUp = true) :
    exec (.passDone at_ w) s = .next (s.left (
      (s.advance at_).passDone w)) := by
  rw [exec_passDone]
  unfold execPassDone
  exact liveCore_up s at_ _ up

theorem eff_qfitWindow (at_ : Nat) (w : Nat) (up : s.coreUp = true) :
    exec (.qfitWindow at_ w) s = .next (s.left (
      (s.advance at_).qfitWindow w)) := by
  rw [exec_qfitWindow]
  unfold execQfitWindow
  exact liveCore_up s at_ _ up

theorem eff_descIssue (at_ : Nat) (q : Nat) (up : s.coreUp = true) :
    exec (.descIssue at_ q) s = .next (s.left (
      ((s.advance at_).descIssue q).drainQueue q)) := by
  rw [exec_descIssue]
  unfold execDescIssue
  exact liveCore_up s at_ _ up

theorem eff_transferIssue (at_ : Nat) (p : Nat) (up : s.coreUp = true) :
    exec (.transferIssue at_ p) s = .next (s.left (
      (s.advance at_).transferIssue p)) := by
  rw [exec_transferIssue]
  unfold execTransferIssue
  exact liveCore_up s at_ _ up

theorem eff_transferComplete (at_ : Nat) (q : Nat) (up : s.coreUp = true) :
    exec (.transferComplete at_ q) s = .next (s.left (
      ((((s.advance at_).transferComplete q).drainQueue q).writeEmissions).releaseIngested false)) := by
  rw [exec_transferComplete]
  unfold execTransferComplete
  exact liveCore_up s at_ _ up

theorem eff_copy (at_ : Nat) (q : Nat) (up : s.coreUp = true) :
    exec (.copy at_ q) s = .next (s.left (
      (s.advance at_).moveOp q 1)) := by
  rw [exec_copy]
  unfold execCopy
  exact liveCore_up s at_ _ up

theorem eff_tile (at_ : Nat) (q : Nat) (up : s.coreUp = true) :
    exec (.tile at_ q) s = .next (s.left (
      (s.advance at_).moveOp q 2)) := by
  rw [exec_tile]
  unfold execTile
  exact liveCore_up s at_ _ up

theorem eff_multicast (at_ : Nat) (q : Nat) (up : s.coreUp = true) :
    exec (.multicast at_ q) s = .next (s.left (
      (s.advance at_).moveOp q 3)) := by
  rw [exec_multicast]
  unfold execMulticast
  exact liveCore_up s at_ _ up

theorem eff_scales (at_ : Nat) (q : Nat) (up : s.coreUp = true) :
    exec (.scales at_ q) s = .next (s.left (
      (s.advance at_).moveOp q 4)) := by
  rw [exec_scales]
  unfold execScales
  exact liveCore_up s at_ _ up

theorem eff_gather (at_ : Nat) (q : Nat) (up : s.coreUp = true) :
    exec (.gather at_ q) s = .next (s.left (
      (s.advance at_).moveOp q 5)) := by
  rw [exec_gather]
  unfold execGather
  exact liveCore_up s at_ _ up

theorem eff_scatter (at_ : Nat) (q : Nat) (up : s.coreUp = true) :
    exec (.scatter at_ q) s = .next (s.left (
      (s.advance at_).moveOp q 6)) := by
  rw [exec_scatter]
  unfold execScatter
  exact liveCore_up s at_ _ up

theorem eff_stats (at_ : Nat) (q : Nat) (up : s.coreUp = true) :
    exec (.stats at_ q) s = .next (s.left (
      (s.advance at_).moveOp q 7)) := by
  rw [exec_stats]
  unfold execStats
  exact liveCore_up s at_ _ up

theorem eff_reduce (at_ : Nat) (q : Nat) (up : s.coreUp = true) :
    exec (.reduce at_ q) s = .next (s.left (
      (s.advance at_).moveOp q 8)) := by
  rw [exec_reduce]
  unfold execReduce
  exact liveCore_up s at_ _ up

theorem eff_queueHalted (at_ : Nat) (q : Nat) (up : s.coreUp = true) :
    exec (.queueHalted at_ q) s = .next (s.left (
      ((s.advance at_).queueHalted q).drainQueue q)) := by
  rw [exec_queueHalted]
  unfold execQueueHalted
  exact liveCore_up s at_ _ up

theorem eff_startSequenceDone (at_ : Nat) (pg : Nat) (up : s.coreUp = true) :
    exec (.startSequenceDone at_ pg) s = .next (s.left (
      (s.advance at_).startSequenceDone pg)) := by
  rw [exec_startSequenceDone]
  unfold execStartSequenceDone
  exact liveCore_up s at_ _ up

theorem eff_startSequenceFail (at_ : Nat) (pg : Nat) (up : s.coreUp = true) :
    exec (.startSequenceFail at_ pg) s = .next (s.left (
      (s.advance at_).startSequenceFail pg)) := by
  rw [exec_startSequenceFail]
  unfold execStartSequenceFail
  exact liveCore_up s at_ _ up

theorem eff_drainDone (at_ : Nat) (pg : Nat) (up : s.coreUp = true) :
    exec (.drainDone at_ pg) s = .next (s.left (
      (s.advance at_).drainDoneRow pg)) := by
  rw [exec_drainDone]
  unfold execDrainDone
  exact liveCore_up s at_ _ up

theorem eff_cisternAccess (at_ : Nat) (req : CisternReq) (ecc : Nat) (damaged : Bool) (data : List Byte) (tid : Nat) (blk : Nat) (gen : Nat) (fmt : Nat) (withheld : Bool) (delayed : Bool) (crcOk : Bool) (up : s.coreUp = true) :
    exec (.cisternAccess at_ req ecc damaged data tid blk gen fmt withheld delayed crcOk) s = .next (s.left (
      (s.advance at_).cisternAccess req.cls req.die req.addr ecc damaged data ⟨tid, blk, gen, fmt, withheld, delayed, !crcOk, false⟩)) := by
  rw [exec_cisternAccess]
  unfold execCisternAccess
  exact liveCore_up s at_ _ up

theorem eff_patrolScrub (at_ : Nat) (cis : Nat) (finds : List Nat) (up : s.coreUp = true) :
    exec (.patrolScrub at_ cis finds) s = .next (s.left (
      if cis < 12 then (s.advance at_).patrolScrub cis finds else (s.advance at_))) := by
  rw [exec_patrolScrub]
  unfold execPatrolScrub
  exact liveCore_up s at_ _ up

theorem eff_sgdMomentum (at_ : Nat) (cis : Nat) (up : s.coreUp = true) :
    exec (.sgdMomentum at_ cis) s = .next (s.left (
      if cis < 12 then (s.advance at_).optRun cis 1 else (s.advance at_))) := by
  rw [exec_sgdMomentum]
  unfold execSgdMomentum
  exact liveCore_up s at_ _ up

theorem eff_adamw (at_ : Nat) (cis : Nat) (up : s.coreUp = true) :
    exec (.adamw at_ cis) s = .next (s.left (
      if cis < 12 then (s.advance at_).optRun cis 2 else (s.advance at_))) := by
  rw [exec_adamw]
  unfold execAdamw
  exact liveCore_up s at_ _ up

theorem eff_optDone (at_ : Nat) (cis : Nat) (up : s.coreUp = true) :
    exec (.optDone at_ cis) s = .next (s.left (
      if cis < 12 then (s.advance at_).optDone cis else (s.advance at_))) := by
  rw [exec_optDone]
  unfold execOptDone
  exact liveCore_up s at_ _ up

theorem eff_rowsumBuild (at_ : Nat) (addr : Nat) (up : s.coreUp = true) :
    exec (.rowsumBuild at_ addr) s = .next (s.left (
      (s.advance at_).rowsumBuild addr)) := by
  rw [exec_rowsumBuild]
  unfold execRowsumBuild
  exact liveCore_up s at_ _ up

theorem eff_rowsumDone (at_ : Nat) (addr : Nat) (up : s.coreUp = true) :
    exec (.rowsumDone at_ addr) s = .next (s.left (
      (s.advance at_).rowsumDone addr)) := by
  rw [exec_rowsumDone]
  unfold execRowsumDone
  exact liveCore_up s at_ _ up

theorem eff_planLoaded (at_ : Nat) (up : s.coreUp = true) :
    exec (.planLoaded at_) s = .next (s.left (
      (s.advance at_).planLoaded)) := by
  rw [exec_planLoaded]
  unfold execPlanLoaded
  exact liveCore_up s at_ _ up

theorem eff_planRunStart (at_ : Nat) (up : s.coreUp = true) :
    exec (.planRunStart at_) s = .next (s.left (
      (s.advance at_).planRunStart)) := by
  rw [exec_planRunStart]
  unfold execPlanRunStart
  exact liveCore_up s at_ _ up

theorem eff_planStopDone (at_ : Nat) (up : s.coreUp = true) :
    exec (.planStopDone at_) s = .next (s.left (
      (s.advance at_).planStopDone)) := by
  rw [exec_planStopDone]
  unfold execPlanStopDone
  exact liveCore_up s at_ _ up

theorem eff_moonPassWrite (at_ : Nat) (n : Nat) (up : s.coreUp = true) :
    exec (.moonPassWrite at_ n) s = .next (s.left (
      (s.advance at_).moonPassWrite n)) := by
  rw [exec_moonPassWrite]
  unfold execMoonPassWrite
  exact liveCore_up s at_ _ up

theorem eff_seqSlotTimeout (at_ : Nat) (prog : Nat) (slot : Nat) (up : s.coreUp = true) :
    exec (.seqSlotTimeout at_ prog slot) s = .next (s.left (
      (s.advance at_).seqSlotTimeout prog slot)) := by
  rw [exec_seqSlotTimeout]
  unfold execSeqSlotTimeout
  exact liveCore_up s at_ _ up

theorem eff_lightSample (at_ : Nat) (taps : List (Nat × List Int)) (rx : List (Nat × List Int)) (up : s.coreUp = true) :
    exec (.lightSample at_ taps rx) s = .next (s.left (
      (s.advance at_).lightSample taps rx)) := by
  rw [exec_lightSample]
  unfold execLightSample
  exact liveCore_up s at_ _ up

theorem eff_spareReady (at_ : Nat) (src : Nat) (up : s.coreUp = true) :
    exec (.spareReady at_ src) s = .next (s.left (
      if src < 6 then (s.advance at_).spareReady src else (s.advance at_))) := by
  rw [exec_spareReady]
  unfold execSpareReady
  exact liveCore_up s at_ _ up

theorem eff_warmingTimeout (at_ : Nat) (src : Nat) (up : s.coreUp = true) :
    exec (.warmingTimeout at_ src) s = .next (s.left (
      if src < 6 then (s.advance at_).warmingTimeout src else (s.advance at_))) := by
  rw [exec_warmingTimeout]
  unfold execWarmingTimeout
  exact liveCore_up s at_ _ up

theorem eff_darkFence (at_ : Nat) (w : Nat) (up : s.coreUp = true) :
    exec (.darkFence at_ w) s = .next (s.left (
      (s.advance at_).darkFence w)) := by
  rw [exec_darkFence]
  unfold execDarkFence
  exact liveCore_up s at_ _ up

theorem eff_aprClose (at_ : Nat) (p : Nat) (up : s.coreUp = true) :
    exec (.aprClose at_ p) s = .next (s.left (
      (s.advance at_).aprClose p)) := by
  rw [exec_aprClose]
  unfold execAprClose
  exact liveCore_up s at_ _ up

theorem eff_aprProbe (at_ : Nat) (p : Nat) (ends : Bool) (up : s.coreUp = true) :
    exec (.aprProbe at_ p ends) s = .next (s.left (
      (s.advance at_).aprProbe p ends)) := by
  rw [exec_aprProbe]
  unfold execAprProbe
  exact liveCore_up s at_ _ up

theorem eff_aprOpen (at_ : Nat) (p : Nat) (up : s.coreUp = true) :
    exec (.aprOpen at_ p) s = .next (s.left (
      (s.advance at_).aprOpen p)) := by
  rw [exec_aprOpen]
  unfold execAprOpen
  exact liveCore_up s at_ _ up

theorem eff_monitorRead (at_ : Nat) (bank : Nat) (inst : Nat) (channel : Nat) (value : Int) (m : Int) (up : s.coreUp = true) :
    exec (.monitorRead at_ bank inst channel value m) s = .next (s.left (
      (s.advance at_).monitorRead bank inst channel value m)) := by
  rw [exec_monitorRead]
  unfold execMonitorRead
  exact liveCore_up s at_ _ up

theorem eff_calEligible (at_ : Nat) (w : Nat) (up : s.coreUp = true) :
    exec (.calEligible at_ w) s = .next (s.left (
      (s.advance at_).calEligible w)) := by
  rw [exec_calEligible]
  unfold execCalEligible
  exact liveCore_up s at_ _ up

theorem eff_calOverdue (at_ : Nat) (w : Nat) (up : s.coreUp = true) :
    exec (.calOverdue at_ w) s = .next (s.left (
      (s.advance at_).calOverdue w)) := by
  rw [exec_calOverdue]
  unfold execCalOverdue
  exact liveCore_up s at_ _ up

theorem eff_poolCopyDone (at_ : Nat) (orig : Nat) (up : s.coreUp = true) :
    exec (.poolCopyDone at_ orig) s = .next (s.left (
      (fun (s : State) => match s.cal.standins.find? fun x => x.orig == orig && !x.begun && !x.copied with
    | some x => s.poolCopied x
    | none => s) (s.advance at_))) := by
  rw [exec_poolCopyDone]
  unfold execPoolCopyDone
  exact liveCore_up s at_ _ up

theorem eff_calMeasurePass (at_ : Nat) (w : Nat) (pass : CalPass) (up : s.coreUp = true) :
    exec (.calMeasurePass at_ w pass) s = .next (s.left (
      (s.advance at_).calMeasure w pass)) := by
  rw [exec_calMeasurePass]
  unfold execCalMeasurePass
  exact liveCore_up s at_ _ up

theorem eff_laneRecal (at_ : Nat) (port : Nat) (up : s.coreUp = true) :
    exec (.laneRecal at_ port) s = .next (s.left (
      (s.advance at_).laneRecal port)) := by
  rw [exec_laneRecal]
  unfold execLaneRecal
  exact liveCore_up s at_ _ up

theorem eff_laneCalResult (at_ : Nat) (port : Nat) (lane : Nat) (values : List Int) (marginOld : Nat) (marginNew : Nat) (up : s.coreUp = true) :
    exec (.laneCalResult at_ port lane values marginOld marginNew) s = .next (s.left (
      (s.advance at_).laneResult port lane values marginOld marginNew)) := by
  rw [exec_laneCalResult]
  unfold execLaneCalResult
  exact liveCore_up s at_ _ up

theorem eff_combRecal (at_ : Nat) (src : Nat) (lines : List (Int × Int × Int)) (up : s.coreUp = true) :
    exec (.combRecal at_ src lines) s = .next (s.left (
      (s.advance at_).combRecal src lines)) := by
  rw [exec_combRecal]
  unfold execCombRecal
  exact liveCore_up s at_ _ up

theorem eff_repeatRun (at_ : Nat) (w : Nat) (errs : List (List Int)) (residue : Bool) (up : s.coreUp = true) :
    exec (.repeatRun at_ w errs residue) s = .next (s.left (
      (s.advance at_).repeatStep w errs residue)) := by
  rw [exec_repeatRun]
  unfold execRepeat
  exact liveCore_up s at_ _ up

theorem eff_ftEligible (at_ : Nat) (w : Nat) (up : s.coreUp = true) :
    exec (.ftEligible at_ w) s = .next (s.left (
      (s.advance at_).ftEligible w)) := by
  rw [exec_ftEligible]
  unfold execFtEligible
  exact liveCore_up s at_ _ up

theorem eff_fieldTestSession (at_ : Nat) (w : Nat) (run : SessionRun) (up : s.coreUp = true) :
    exec (.fieldTestSession at_ w run) s = .next (s.left (
      (s.advance at_).fieldTest w run)) := by
  rw [exec_fieldTestSession]
  unfold execFieldTestSession
  exact liveCore_up s at_ _ up

theorem eff_fleetActive (at_ : Nat) (up : s.coreUp = true) :
    exec (.fleetActive at_) s = .next (s.left (
      if (s.advance at_).tick.off = 0 then (s.advance at_).fleetActive else (s.advance at_))) := by
  rw [exec_fleetActive]
  unfold execFleetActive
  exact liveCore_up s at_ _ up

theorem eff_watchdogMiss (at_ : Nat) (core : Nat) (up : s.coreUp = true) :
    exec (.watchdogMiss at_ core) s = .next (s.left (
      (s.advance at_).watchdogMiss core)) := by
  rw [exec_watchdogMiss]
  unfold execWatchdogMiss
  exact liveCore_up s at_ _ up

theorem eff_lockstepMismatch (at_ : Nat) (die : Nat) (up : s.coreUp = true) :
    exec (.lockstepMismatch at_ die) s = .next (s.left (
      if die < 4 then (s.advance at_).dieEvent die (129 + die) else (s.advance at_))) := by
  rw [exec_lockstepMismatch]
  unfold execLockstepMismatch
  exact liveCore_up s at_ _ up

theorem eff_monitorMismatch (at_ : Nat) (up : s.coreUp = true) :
    exec (.monitorMismatch at_) s = .next (s.left (
      (s.advance at_).resetState causeWatchdog)) := by
  rw [exec_monitorMismatch]
  unfold execMonitorMismatch
  exact liveCore_up s at_ _ up

theorem eff_serviceWatchdogReset (at_ : Nat) (up : s.coreUp = true) :
    exec (.serviceWatchdogReset at_) s = .next (s.left (
      (s.advance at_).serviceWatchdogReset)) := by
  rw [exec_serviceWatchdogReset]
  unfold execServiceWatchdogReset
  exact liveCore_up s at_ _ up

theorem eff_laneTrained (at_ : Nat) (p : Nat) (k : Nat) (up : s.coreUp = true) :
    exec (.laneTrained at_ p k) s = .next (s.left (
      (s.advance at_).laneTrained p k)) := by
  rw [exec_laneTrained]
  unfold execLaneTrained
  exact liveCore_up s at_ _ up

theorem eff_laneLockLoss (at_ : Nat) (p : Nat) (k : Nat) (up : s.coreUp = true) :
    exec (.laneLockLoss at_ p k) s = .next (s.left (
      (s.advance at_).laneLockLoss p k)) := by
  rw [exec_laneLockLoss]
  unfold execLaneLockLoss
  exact liveCore_up s at_ _ up

theorem eff_linkFrame (at_ : Nat) (p : Nat) (h : LinkHdr) (fec : List (Nat × Nat × Nat)) (up : s.coreUp = true) :
    exec (.linkFrame at_ p h fec) s = .next (s.left (
      (s.advance at_).linkFrame p h fec)) := by
  rw [exec_linkFrame]
  unfold execLinkFrame
  exact liveCore_up s at_ _ up

theorem eff_replayTimeout (at_ : Nat) (p : Nat) (space : Nat) (up : s.coreUp = true) :
    exec (.replayTimeout at_ p space) s = .next (s.left (
      (s.advance at_).resend p space)) := by
  rw [exec_replayTimeout]
  unfold execReplayTimeout
  exact liveCore_up s at_ _ up

theorem eff_holadeWrite (at_ : Nat) (p : Nat) (h : LinkHdr) (m : Msg) (up : s.coreUp = true) :
    exec (.holadeWrite at_ p h m) s = .next (s.left (
      (fun (s : State) => s.receive p h m 1 fun s => s.delivered p m fun s => s.holadeWrite m) (s.advance at_))) := by
  rw [exec_holadeWrite]
  unfold execHoladeWrite
  exact liveCore_up s at_ _ up

theorem eff_readReq (at_ : Nat) (p : Nat) (h : LinkHdr) (m : Msg) (up : s.coreUp = true) :
    exec (.readReq at_ p h m) s = .next (s.left (
      (fun (s : State) => s.receive p h m 2 fun s => s.delivered p m fun s => s.readReq p m) (s.advance at_))) := by
  rw [exec_readReq]
  unfold execReadReq
  exact liveCore_up s at_ _ up

theorem eff_readResp (at_ : Nat) (p : Nat) (h : LinkHdr) (m : Msg) (up : s.coreUp = true) :
    exec (.readResp at_ p h m) s = .next (s.left (
      (fun (s : State) => s.receive p h m 3 fun s => s.delivered p m fun s => s.readResp m) (s.advance at_))) := by
  rw [exec_readResp]
  unfold execReadResp
  exact liveCore_up s at_ _ up

theorem eff_reduceAdd (at_ : Nat) (p : Nat) (h : LinkHdr) (m : Msg) (up : s.coreUp = true) :
    exec (.reduceAdd at_ p h m) s = .next (s.left (
      (fun (s : State) => s.receive p h m 4 fun s => s.delivered p m fun s => s.reduceAdd p m) (s.advance at_))) := by
  rw [exec_reduceAdd]
  unfold execReduceAdd
  exact liveCore_up s at_ _ up

theorem eff_result (at_ : Nat) (p : Nat) (h : LinkHdr) (m : Msg) (up : s.coreUp = true) :
    exec (.result at_ p h m) s = .next (s.left (
      (fun (s : State) => s.receive p h m 5 fun s => s.delivered p m fun s => s.collResult p m) (s.advance at_))) := by
  rw [exec_result]
  unfold execResult
  exact liveCore_up s at_ _ up

theorem eff_digestContribution (at_ : Nat) (p : Nat) (h : LinkHdr) (m : Msg) (up : s.coreUp = true) :
    exec (.digestContribution at_ p h m) s = .next (s.left (
      (fun (s : State) => s.receive p h m 6 fun s => s.delivered p m fun s => if m.subop = 0 then s.digestContribution p m else s) (s.advance at_))) := by
  rw [exec_digestContribution]
  unfold execDigestContribution
  exact liveCore_up s at_ _ up

theorem eff_digestResult (at_ : Nat) (p : Nat) (h : LinkHdr) (m : Msg) (up : s.coreUp = true) :
    exec (.digestResult at_ p h m) s = .next (s.left (
      (fun (s : State) => s.receive p h m 6 fun s => s.delivered p m fun s => if m.subop = 1 then s.digestResult p m else s) (s.advance at_))) := by
  rw [exec_digestResult]
  unfold execDigestResult
  exact liveCore_up s at_ _ up

theorem eff_bcast (at_ : Nat) (p : Nat) (h : LinkHdr) (m : Msg) (up : s.coreUp = true) :
    exec (.bcast at_ p h m) s = .next (s.left (
      (fun (s : State) => s.receive p h m 7 fun s => s.delivered p m fun s => if State.peerForbidden m.addr 1 then s else s.bcast p m) (s.advance at_))) := by
  rw [exec_bcast]
  unfold execBcast
  exact liveCore_up s at_ _ up

theorem eff_tickSyncAnnounce (at_ : Nat) (p : Nat) (h : LinkHdr) (m : Msg) (arrival : Nat) (up : s.coreUp = true) :
    exec (.tickSyncAnnounce at_ p h m arrival) s = .next (s.left (
      (fun (s : State) => s.receive p h m 8 fun s => if m.subop = 1 then s.tickSync p arrival m else s) (s.advance at_))) := by
  rw [exec_tickSyncAnnounce]
  unfold execTickSyncAnnounce
  exact liveCore_up s at_ _ up

theorem eff_delayMeasure (at_ : Nat) (p : Nat) (up : s.coreUp = true) :
    exec (.delayMeasure at_ p) s = .next (s.left (
      (s.advance at_).delayMeasure p)) := by
  rw [exec_delayMeasure]
  unfold execDelayMeasure
  exact liveCore_up s at_ _ up

theorem eff_delayReq (at_ : Nat) (p : Nat) (h : LinkHdr) (m : Msg) (residence : Nat) (up : s.coreUp = true) :
    exec (.delayReq at_ p h m residence) s = .next (s.left (
      (fun (s : State) => s.receive p h m 8 fun s => if m.subop = 2 then s.delayReq p residence else s) (s.advance at_))) := by
  rw [exec_delayReq]
  unfold execDelayReq
  exact liveCore_up s at_ _ up

theorem eff_delayResp (at_ : Nat) (p : Nat) (h : LinkHdr) (m : Msg) (up : s.coreUp = true) :
    exec (.delayResp at_ p h m) s = .next (s.left (
      (fun (s : State) => s.receive p h m 8 fun s => if m.subop = 3 then s.delayResp p m else s) (s.advance at_))) := by
  rw [exec_delayResp]
  unfold execDelayResp
  exact liveCore_up s at_ _ up

theorem eff_tickSyncLoss (at_ : Nat) (up : s.coreUp = true) :
    exec (.tickSyncLoss at_) s = .next (s.left (
      (s.advance at_).tickSyncLoss)) := by
  rw [exec_tickSyncLoss]
  unfold execTickSyncLoss
  exact liveCore_up s at_ _ up

theorem eff_memberAnnounce (at_ : Nat) (p : Nat) (h : LinkHdr) (m : Msg) (a : Announce) (up : s.coreUp = true) :
    exec (.memberAnnounce at_ p h m a) s = .next (s.left (
      (fun (s : State) => s.receive p h m 9 fun s => if m.subop = 1 then s.memberAnnounce p a else s) (s.advance at_))) := by
  rw [exec_memberAnnounce]
  unfold execMemberAnnounce
  exact liveCore_up s at_ _ up

theorem eff_memberJoin (at_ : Nat) (p : Nat) (h : LinkHdr) (m : Msg) (up : s.coreUp = true) :
    exec (.memberJoin at_ p h m) s = .next (s.left (
      (fun (s : State) => s.receive p h m 9 fun s => if m.subop = 2 then s.memberJoin p m else s) (s.advance at_))) := by
  rw [exec_memberJoin]
  unfold execMemberJoin
  exact liveCore_up s at_ _ up

theorem eff_memberTable (at_ : Nat) (p : Nat) (h : LinkHdr) (m : Msg) (up : s.coreUp = true) :
    exec (.memberTable at_ p h m) s = .next (s.left (
      (fun (s : State) => s.receive p h m 9 fun s => if m.subop = 3 then s.memberTable m else s) (s.advance at_))) := by
  rw [exec_memberTable]
  unfold execMemberTable
  exact liveCore_up s at_ _ up

theorem eff_memberLeave (at_ : Nat) (p : Nat) (h : LinkHdr) (m : Msg) (up : s.coreUp = true) :
    exec (.memberLeave at_ p h m) s = .next (s.left (
      (fun (s : State) => s.receive p h m 9 fun s =>
    if m.subop ≠ 4 then s else if m.dst ≠ 0xFFFF ∧ m.dst ≠ s.ownRank then s.forward p m else s.memberLeave m) (s.advance at_))) := by
  rw [exec_memberLeave]
  unfold execMemberLeave
  exact liveCore_up s at_ _ up

theorem eff_memberEpoch (at_ : Nat) (p : Nat) (h : LinkHdr) (m : Msg) (number : Nat) (tick : Nat) (period : Nat) (joins : List (Nat × Nat)) (leaves : List Nat) (up : s.coreUp = true) :
    exec (.memberEpoch at_ p h m number tick period joins leaves) s = .next (s.left (
      (fun (s : State) => s.receive p h m 9 fun s => if m.subop = 5 then s.memberEpoch p number tick period joins leaves else s) (s.advance at_))) := by
  rw [exec_memberEpoch]
  unfold execMemberEpoch
  exact liveCore_up s at_ _ up

theorem eff_memberTimeout (at_ : Nat) (p : Nat) (up : s.coreUp = true) :
    exec (.memberTimeout at_ p) s = .next (s.left (
      (s.advance at_).memberTimeout p)) := by
  rw [exec_memberTimeout]
  unfold execMemberTimeout
  exact liveCore_up s at_ _ up

theorem eff_gmTimeout (at_ : Nat) (up : s.coreUp = true) :
    exec (.gmTimeout at_) s = .next (s.left (
      (s.advance at_).gmTimeout)) := by
  rw [exec_gmTimeout]
  unfold execGmTimeout
  exact liveCore_up s at_ _ up

theorem eff_stopRx (at_ : Nat) (p : Nat) (h : LinkHdr) (m : Msg) (up : s.coreUp = true) :
    exec (.stopRx at_ p h m) s = .next (s.left (
      (fun (s : State) => s.receive p h m 10 fun s => s.delivered p m fun s => if m.subop = 1 then s.applyControl m else s) (s.advance at_))) := by
  rw [exec_stopRx]
  unfold execStopRx
  exact liveCore_up s at_ _ up

theorem eff_resumeRx (at_ : Nat) (p : Nat) (h : LinkHdr) (m : Msg) (up : s.coreUp = true) :
    exec (.resumeRx at_ p h m) s = .next (s.left (
      (fun (s : State) => s.receive p h m 10 fun s => s.delivered p m fun s => if m.subop = 3 then s.applyControl m else s) (s.advance at_))) := by
  rw [exec_resumeRx]
  unfold execResumeRx
  exact liveCore_up s at_ _ up

theorem eff_fenceRx (at_ : Nat) (p : Nat) (h : LinkHdr) (m : Msg) (up : s.coreUp = true) :
    exec (.fenceRx at_ p h m) s = .next (s.left (
      (fun (s : State) => s.receive p h m 10 fun s => s.delivered p m fun s => if m.subop = 2 then s.applyControl m else s) (s.advance at_))) := by
  rw [exec_fenceRx]
  unfold execFenceRx
  exact liveCore_up s at_ _ up

theorem eff_hportDrainTimeout (at_ : Nat) (p : Nat) (up : s.coreUp = true) :
    exec (.hportDrainTimeout at_ p) s = .next (s.left (
      (s.advance at_).hportDrainTimeout p)) := by
  rw [exec_hportDrainTimeout]
  unfold execHportDrainTimeout
  exact liveCore_up s at_ _ up

theorem eff_frameStart (at_ : Nat) (p : Nat) (v : Nat) (num : Nat) (c : PacketCheck) (up : s.coreUp = true) :
    exec (.frameStart at_ p v num c) s = .next (s.left (
      (fun (s : State) => s.packet p v c fun s => s.frameStart p v num) (s.advance at_))) := by
  rw [exec_frameStart]
  unfold execFrameStart
  exact liveCore_up s at_ _ up

theorem eff_requestDescriptor (at_ : Nat) (p : Nat) (v : Nat) (bytes : List Byte) (c : PacketCheck) (up : s.coreUp = true) :
    exec (.requestDescriptor at_ p v bytes c) s = .next (s.left (
      (s.advance at_).requestDescriptor p v bytes c)) := by
  rw [exec_requestDescriptor]
  unfold execRequestDescriptor
  exact liveCore_up s at_ _ up

theorem eff_tensorHeader (at_ : Nat) (p : Nat) (v : Nat) (bytes : List Byte) (c : PacketCheck) (up : s.coreUp = true) :
    exec (.tensorHeader at_ p v bytes c) s = .next (s.left (
      (s.advance at_).tensorHeader p v bytes c)) := by
  rw [exec_tensorHeader]
  unfold execTensorHeader
  exact liveCore_up s at_ _ up

theorem eff_payloadPacket (at_ : Nat) (p : Nat) (v : Nat) (bytes : List Byte) (c : PacketCheck) (up : s.coreUp = true) :
    exec (.payloadPacket at_ p v bytes c) s = .next (s.left (
      (s.advance at_).payloadPacket p v bytes c)) := by
  rw [exec_payloadPacket]
  unfold execPayloadPacket
  exact liveCore_up s at_ _ up

theorem eff_rawLine (at_ : Nat) (p : Nat) (v : Nat) (dt : Nat) (bytes : List Byte) (c : PacketCheck) (up : s.coreUp = true) :
    exec (.rawLine at_ p v dt bytes c) s = .next (s.left (
      (s.advance at_).rawLine p v dt bytes c)) := by
  rw [exec_rawLine]
  unfold execRawLine
  exact liveCore_up s at_ _ up

theorem eff_loadHeader (at_ : Nat) (p : Nat) (v : Nat) (bytes : List Byte) (c : PacketCheck) (up : s.coreUp = true) :
    exec (.loadHeader at_ p v bytes c) s = .next (s.left (
      (s.advance at_).loadHeader p v bytes c)) := by
  rw [exec_loadHeader]
  unfold execLoadHeader
  exact liveCore_up s at_ _ up

theorem eff_frameEnd (at_ : Nat) (p : Nat) (v : Nat) (num : Nat) (c : PacketCheck) (up : s.coreUp = true) :
    exec (.frameEnd at_ p v num c) s = .next (s.left (
      (fun (s : State) => s.packet p v c fun s => s.frameEnd p v num) (s.advance at_))) := by
  rw [exec_frameEnd]
  unfold execFrameEnd
  exact liveCore_up s at_ _ up

theorem eff_frameTimeout (at_ : Nat) (p : Nat) (v : Nat) (up : s.coreUp = true) :
    exec (.frameTimeout at_ p v) s = .next (s.left (
      (s.advance at_).frameTimeout p v)) := by
  rw [exec_frameTimeout]
  unfold execFrameTimeout
  exact liveCore_up s at_ _ up

theorem eff_phyUnlock (at_ : Nat) (p : Nat) (up : s.coreUp = true) :
    exec (.phyUnlock at_ p) s = .next (s.left (
      (s.advance at_).phyUnlock p)) := by
  rw [exec_phyUnlock]
  unfold execPhyUnlock
  exact liveCore_up s at_ _ up

theorem eff_preambleWrite (at_ : Nat) (q : Nat) (v : Nat) (bytes : List Byte) (up : s.coreUp = true) :
    exec (.preambleWrite at_ q v bytes) s = .next (s.left (
      ((s.advance at_).preamble q v bytes).1)) := by
  rw [exec_preambleWrite]
  unfold execPreambleWrite
  exact liveCore_up s at_ _ up

theorem eff_i3cWrite (at_ : Nat) (port : Nat) (hdr : Bool) (code : Nat) (payload : List Byte) (early : Bool) (bad : Bool) (up : s.boot.held = false) :
    exec (.i3cWrite at_ port hdr code payload early bad) s = .next (s.left (
      (s.advance at_).i3cWrite port hdr code payload early bad)) := by
  rw [exec_i3cWrite]
  unfold execI3cWrite
  exact live_up s at_ _ up

theorem eff_i3cRead (at_ : Nat) (port : Nat) (hdr : Bool) (payload : List Byte) (bad : Bool) (up : s.boot.held = false) :
    exec (.i3cRead at_ port hdr payload bad) s = .next (s.left (
      (s.advance at_).i3cRead port hdr payload bad)) := by
  rw [exec_i3cRead]
  unfold execI3cRead
  exact live_up s at_ _ up

theorem eff_responseRead (at_ : Nat) (port : Nat) (hdr : Bool) (code : Nat) (up : s.boot.held = false) :
    exec (.responseRead at_ port hdr code) s = .next (s.left (
      if port < 2 then (s.advance at_).responseRead port hdr code else (s.advance at_))) := by
  rw [exec_responseRead]
  unfold execResponseRead
  exact live_up s at_ _ up

theorem eff_enec (at_ : Nat) (port : Nat) (direct : Bool) (events : Nat) (up : s.boot.held = false) :
    exec (.enec at_ port direct events) s = .next (s.left (
      if (s.advance at_).cccReaches port direct then (s.advance at_).eventControl port events 1 else (s.advance at_))) := by
  rw [exec_enec]
  unfold execEnec
  exact live_up s at_ _ up

theorem eff_disec (at_ : Nat) (port : Nat) (direct : Bool) (events : Nat) (up : s.boot.held = false) :
    exec (.disec at_ port direct events) s = .next (s.left (
      if (s.advance at_).cccReaches port direct then (s.advance at_).eventControl port events 0 else (s.advance at_))) := by
  rw [exec_disec]
  unfold execDisec
  exact live_up s at_ _ up

theorem eff_rstdaa (at_ : Nat) (port : Nat) (up : s.boot.held = false) :
    exec (.rstdaa at_ port) s = .next (s.left (
      if (s.advance at_).portReady port then (s.advance at_).setDa port none else (s.advance at_))) := by
  rw [exec_rstdaa]
  unfold execRstdaa
  exact live_up s at_ _ up

theorem eff_entdaa (at_ : Nat) (port : Nat) (da : Nat) (won : Bool) (up : s.boot.held = false) :
    exec (.entdaa at_ port da won) s = .next (s.left (
      (fun (s : State) => if s.portReady port && !s.hasDa port && won then
      (s.answerBytes port (some (State.bigBytes 6 (s.pid port) ++ [0x26, 0x00]))).setDa port (some da)
    else s) (s.advance at_))) := by
  rw [exec_entdaa]
  unfold execEntdaa
  exact live_up s at_ _ up

theorem eff_setmwl (at_ : Nat) (port : Nat) (direct : Bool) (len : Nat) (up : s.boot.held = false) :
    exec (.setmwl at_ port direct len) s = .next (s.left (
      if (s.advance at_).cccReaches port direct then (s.advance at_).setMwl port len else (s.advance at_))) := by
  rw [exec_setmwl]
  unfold execSetmwl
  exact live_up s at_ _ up

theorem eff_getmwl (at_ : Nat) (port : Nat) (up : s.boot.held = false) :
    exec (.getmwl at_ port) s = .next (s.left (
      if port < 2 then (s.advance at_).cccGet port (State.bigBytes 2 ((s.advance at_).mwl port)) else (s.advance at_))) := by
  rw [exec_getmwl]
  unfold execGetmwl
  exact live_up s at_ _ up

theorem eff_setmrl (at_ : Nat) (port : Nat) (direct : Bool) (len : Nat) (ibi : Nat) (up : s.boot.held = false) :
    exec (.setmrl at_ port direct len ibi) s = .next (s.left (
      if (s.advance at_).cccReaches port direct then ((s.advance at_).setMrl port len).onI3c port fun p => { p with ibiMax := ibi % 256 } else (s.advance at_))) := by
  rw [exec_setmrl]
  unfold execSetmrl
  exact live_up s at_ _ up

theorem eff_getmrl (at_ : Nat) (port : Nat) (up : s.boot.held = false) :
    exec (.getmrl at_ port) s = .next (s.left (
      if port < 2 then (s.advance at_).cccGet port (State.bigBytes 2 ((s.advance at_).mrl port) ++ bytesOf 1 ((s.advance at_).i3cPort port).ibiMax) else (s.advance at_))) := by
  rw [exec_getmrl]
  unfold execGetmrl
  exact live_up s at_ _ up

theorem eff_enthdr0 (at_ : Nat) (port : Nat) (up : s.boot.held = false) :
    exec (.enthdr0 at_ port) s = .next (s.left (
      if (s.advance at_).portReady port then (s.advance at_).wr pgSYS Reg.SYS.I3C_STAT_HDR 1 port else (s.advance at_))) := by
  rw [exec_enthdr0]
  unfold execEnthdr0
  exact live_up s at_ _ up

theorem eff_hdrExit (at_ : Nat) (port : Nat) (up : s.boot.held = false) :
    exec (.hdrExit at_ port) s = .next (s.left (
      if (s.advance at_).portReady port then (s.advance at_).wr pgSYS Reg.SYS.I3C_STAT_HDR 0 port else (s.advance at_))) := by
  rw [exec_hdrExit]
  unfold execHdrExit
  exact live_up s at_ _ up

theorem eff_setaasa (at_ : Nat) (port : Nat) (up : s.boot.held = false) :
    exec (.setaasa at_ port) s = .next (s.left (
      if (s.advance at_).portReady port && !(s.advance at_).hasDa port then (s.advance at_).setDa port (some ((s.advance at_).staticAddr port)) else (s.advance at_))) := by
  rw [exec_setaasa]
  unfold execSetaasa
  exact live_up s at_ _ up

theorem eff_rstact (at_ : Nat) (port : Nat) (direct : Bool) (get : Bool) (action : Nat) (up : s.boot.held = false) :
    exec (.rstact at_ port direct get action) s = .next (s.left (
      (fun (s : State) => if get then (if port < 2 then s.cccGet port [0x01, 0x01] else s)
    else if s.cccReaches port direct && decide (action < 2) then s.onI3c port fun p => { p with rstact := action }
    else s) (s.advance at_))) := by
  rw [exec_rstact]
  unfold execRstact
  exact live_up s at_ _ up

theorem eff_targetReset (at_ : Nat) (port : Nat) (up : s.boot.held = false) :
    exec (.targetReset at_ port) s = .next (s.left (
      if port < 2 ∧ ((s.advance at_).i3cPort port).rstact = 1 then (s.advance at_).resetPeripheral port else (s.advance at_))) := by
  rw [exec_targetReset]
  unfold execTargetReset
  exact live_up s at_ _ up

theorem eff_setdasa (at_ : Nat) (port : Nat) (da : Nat) (up : s.boot.held = false) :
    exec (.setdasa at_ port da) s = .next (s.left (
      if (s.advance at_).portReady port && !(s.advance at_).hasDa port then (s.advance at_).setDa port (some da) else (s.advance at_))) := by
  rw [exec_setdasa]
  unfold execSetdasa
  exact live_up s at_ _ up

theorem eff_setnewda (at_ : Nat) (port : Nat) (da : Nat) (up : s.boot.held = false) :
    exec (.setnewda at_ port da) s = .next (s.left (
      if (s.advance at_).cccReaches port true then (s.advance at_).setDa port (some da) else (s.advance at_))) := by
  rw [exec_setnewda]
  unfold execSetnewda
  exact live_up s at_ _ up

theorem eff_getpid (at_ : Nat) (port : Nat) (up : s.boot.held = false) :
    exec (.getpid at_ port) s = .next (s.left (
      if port < 2 then (s.advance at_).cccGet port (State.bigBytes 6 ((s.advance at_).pid port)) else (s.advance at_))) := by
  rw [exec_getpid]
  unfold execGetpid
  exact live_up s at_ _ up

theorem eff_getbcr (at_ : Nat) (port : Nat) (up : s.boot.held = false) :
    exec (.getbcr at_ port) s = .next (s.left (
      if port < 2 then (s.advance at_).cccGet port [0x26] else (s.advance at_))) := by
  rw [exec_getbcr]
  unfold execGetbcr
  exact live_up s at_ _ up

theorem eff_getdcr (at_ : Nat) (port : Nat) (up : s.boot.held = false) :
    exec (.getdcr at_ port) s = .next (s.left (
      if port < 2 then (s.advance at_).cccGet port [0x00] else (s.advance at_))) := by
  rw [exec_getdcr]
  unfold execGetdcr
  exact live_up s at_ _ up

theorem eff_getstatus (at_ : Nat) (port : Nat) (up : s.boot.held = false) :
    exec (.getstatus at_ port) s = .next (s.left (
      if port < 2 then (s.advance at_).getStatus port else (s.advance at_))) := by
  rw [exec_getstatus]
  unfold execGetstatus
  exact live_up s at_ _ up

theorem eff_getmxds (at_ : Nat) (port : Nat) (up : s.boot.held = false) :
    exec (.getmxds at_ port) s = .next (s.left (
      if port < 2 then (s.advance at_).cccGet port [0x00, 0x00, 0x02, 0x00, 0x00] else (s.advance at_))) := by
  rw [exec_getmxds]
  unfold execGetmxds
  exact live_up s at_ _ up

theorem eff_getcaps (at_ : Nat) (port : Nat) (up : s.boot.held = false) :
    exec (.getcaps at_ port) s = .next (s.left (
      if port < 2 then (s.advance at_).cccGet port [0x01, 0x01] else (s.advance at_))) := by
  rw [exec_getcaps]
  unfold execGetcaps
  exact live_up s at_ _ up

theorem eff_hotJoin (at_ : Nat) (port : Nat) (up : s.boot.held = false) :
    exec (.hotJoin at_ port) s = .next (s.left (
      (s.advance at_).hotJoin port)) := by
  rw [exec_hotJoin]
  unfold execHotJoin
  exact live_up s at_ _ up

theorem eff_sensorSample (at_ : Nat) (readings : List (Nat × Nat × Int)) (up : s.boot.held = false) :
    exec (.sensorSample at_ readings) s = .next (s.left (
      (s.advance at_).sensorSample (readings.map fun r => ⟨r.1, r.2.1, r.2.2⟩))) := by
  rw [exec_sensorSample]
  unfold execSensorSample
  exact live_up s at_ _ up

theorem eff_sensorRestored (at_ : Nat) (sensor : Nat) (up : s.boot.held = false) :
    exec (.sensorRestored at_ sensor) s = .next (s.left (
      (s.advance at_).sensorRestored sensor)) := by
  rw [exec_sensorRestored]
  unfold execSensorRestored
  exact live_up s at_ _ up

theorem eff_throttleRise (at_ : Nat) (group : Nat) (up : s.coreUp = true) :
    exec (.throttleRise at_ group) s = .next (s.left (
      if group ≤ 16 then (s.advance at_).throttleRise group else (s.advance at_))) := by
  rw [exec_throttleRise]
  unfold execThrottleRise
  exact liveCore_up s at_ _ up

theorem eff_throttleRelax (at_ : Nat) (group : Nat) (up : s.coreUp = true) :
    exec (.throttleRelax at_ group) s = .next (s.left (
      if group ≤ 16 then (s.advance at_).throttleRelax group else (s.advance at_))) := by
  rw [exec_throttleRelax]
  unfold execThrottleRelax
  exact liveCore_up s at_ _ up

theorem eff_fastRateEnd (at_ : Nat) (group : Nat) (up : s.boot.held = false) :
    exec (.fastRateEnd at_ group) s = .next (s.left (
      if group ≤ 16 then (s.advance at_).fastRateEnd group else (s.advance at_))) := by
  rw [exec_fastRateEnd]
  unfold execFastRateEnd
  exact live_up s at_ _ up

theorem eff_thermalReset (at_ : Nat) (up : s.boot.held = false) :
    exec (.thermalReset at_) s = .next (s.left (
      (s.advance at_).thermalReset)) := by
  rw [exec_thermalReset]
  unfold execThermalReset
  exact live_up s at_ _ up

theorem eff_railSample (at_ : Nat) (rails : List (Nat × Nat)) (combs : List Nat) (up : s.boot.held = false) :
    exec (.railSample at_ rails combs) s = .next (s.left (
      (s.advance at_).railSample rails combs)) := by
  rw [exec_railSample]
  unfold execRailSample
  exact live_up s at_ _ up

theorem eff_powerOn (at_ : Nat) :
    exec (.powerOn at_) s = .next (s.left (
      (s.advance at_).powerOn)) := by
  rw [exec_powerOn]
  unfold execPowerOn
  exact finish_left s at_ _

theorem eff_pwrgdFall (at_ : Nat) :
    exec (.pwrgdFall at_) s = .next (s.left (
      (s.advance at_).pwrgdFall)) := by
  rw [exec_pwrgdFall]
  unfold execPwrgdFall
  exact finish_left s at_ _

theorem eff_brownOut (at_ : Nat) :
    exec (.brownOut at_) s = .next (s.left (
      (s.advance at_).pwrgdFall)) := by
  rw [exec_brownOut]
  unfold execBrownOut
  exact finish_left s at_ _

theorem eff_resetNAssert (at_ : Nat) :
    exec (.resetNAssert at_) s = .next (s.left (
      (s.advance at_).resetNAssert)) := by
  rw [exec_resetNAssert]
  unfold execResetNAssert
  exact finish_left s at_ _

theorem eff_resetRelease (at_ : Nat) (straps : Nat) (puf : Bool) (slotA : Nat) (slotB : Nat) (calA : Nat) (calB : Nat) (badRows : Bool) (badSource : Bool) (refFault : Bool) (iref : Int) (hspan : Int) (mon : Int) :
    exec (.resetRelease at_ straps puf slotA slotB calA calB badRows badSource refFault iref hspan mon) s = .next (s.left (
      (s.advance at_).resetRelease ⟨straps, puf, slotA, slotB, (calA, calB), badRows, badSource, refFault, iref, hspan, mon⟩)) := by
  rw [exec_resetRelease]
  unfold execResetRelease
  exact finish_left s at_ _

theorem eff_bootDone (at_ : Nat) (up : s.coreUp = true) :
    exec (.bootDone at_) s = .next (s.left (
      (s.advance at_).bootDone)) := by
  rw [exec_bootDone]
  unfold execBootDone
  exact liveCore_up s at_ _ up

theorem eff_bootLate (at_ : Nat) (up : s.coreUp = true) :
    exec (.bootLate at_) s = .next (s.left (
      (s.advance at_).bootLate)) := by
  rw [exec_bootLate]
  unfold execBootLate
  exact liveCore_up s at_ _ up

theorem eff_updateDone (at_ : Nat) (ok : Bool) (up : s.coreUp = true) :
    exec (.updateDone at_ ok) s = .next (s.left (
      (s.advance at_).updateDone ok)) := by
  rw [exec_updateDone]
  unfold execUpdateDone
  exact liveCore_up s at_ _ up

theorem eff_evidenceReady (at_ : Nat) (up : s.coreUp = true) :
    exec (.evidenceReady at_) s = .next (s.left (
      (s.advance at_).evidenceReady)) := by
  rw [exec_evidenceReady]
  unfold execEvidenceReady
  exact liveCore_up s at_ _ up

theorem eff_refclkLost (at_ : Nat) (up : s.boot.held = false) :
    exec (.refclkLost at_) s = .next (s.left (
      (s.advance at_).refclkLost)) := by
  rw [exec_refclkLost]
  unfold execRefclkLost
  exact pinLive_up s at_ _ _ up

theorem eff_refclkRestore (at_ : Nat) (up : s.boot.held = false) :
    exec (.refclkRestore at_) s = .next (s.left (
      (s.advance at_).refclkRestore)) := by
  rw [exec_refclkRestore]
  unfold execRefclkRestore
  exact pinLive_up s at_ _ _ up

theorem eff_laneTrainingFail (at_ : Nat) (p : Nat) (k : Nat) (up : s.coreUp = true) :
    exec (.laneTrainingFail at_ p k) s = .next (s.left (
      (s.advance at_).laneTrainingFail p k)) := by
  rw [exec_laneTrainingFail]
  unfold execLaneTrainingFail
  exact liveCore_up s at_ _ up

theorem eff_phyLock (at_ : Nat) (p : Nat) (rate : Nat) (up : s.coreUp = true) :
    exec (.phyLock at_ p rate) s = .next (s.left (
      (s.advance at_).phyLock p rate)) := by
  rw [exec_phyLock]
  unfold execPhyLock
  exact liveCore_up s at_ _ up

theorem eff_txFrameEnd (at_ : Nat) (q : Nat) (up : s.coreUp = true) :
    exec (.txFrameEnd at_ q) s = .next (s.left (
      (s.advance at_).txFrameEnd q)) := by
  rw [exec_txFrameEnd]
  unfold execTxFrameEnd
  exact liveCore_up s at_ _ up

end Sys2Proof.Machine
end

