-- ==== Sys2Proof/Laws/Memory.lean ====
section
/-! SUPPORT. Laws of memory: every operation on it keeps the canonical form, and what a write leaves readable. -/

namespace Sys2Proof.Machine

namespace State

theorem memWf_iff (s : State) : s.memWf = true ↔ sparseWf (fun _ => (0 : Byte)) s.mem = true := Iff.rfl

/-- Storing bytes keeps the canonical form. -/
theorem putBytes_wf (s : State) (h : s.memWf = true) (key : Nat) (bs : List Byte) : (s.putBytes key bs).memWf = true := by
  induction bs generalizing s key with
  | nil => exact h
  | cons b rest ih =>
    have hw : ({ s with mem := sparsePut (fun _ => 0) s.mem key b } : State).memWf = true := sparsePut_wf h key b
    exact ih _ hw _

/-- A byte outside the stored range reads as before; inside it reads the byte stored. -/
theorem byte_putBytes (s : State) (key : Nat) (bs : List Byte) (k : Nat) :
    (s.putBytes key bs).byte k = if key ≤ k ∧ k < key + bs.length then bs.getD (k - key) 0 else s.byte k := by
  induction bs generalizing s key with
  | nil => simp [putBytes]
  | cons b rest ih =>
    show (State.putBytes { s with mem := sparsePut (fun _ => 0) s.mem key b } (key + 1) rest).byte k = _
    rw [ih]
    have hb : ({ s with mem := sparsePut (fun _ => 0) s.mem key b } : State).byte k = if k = key then b else s.byte k :=
      sparseGet_put _ _ key k b
    rw [hb]
    by_cases h1 : k = key
    · subst h1
      simp
    · by_cases h2 : key + 1 ≤ k ∧ k < key + 1 + rest.length
      · have h3 : key ≤ k ∧ k < key + (rest.length + 1) := by omega
        have h4 : k - key = (k - (key + 1)) + 1 := by omega
        simp [h2, h3, h4]
      · have h3 : ¬(key ≤ k ∧ k < key + (rest.length + 1)) := by omega
        rw [if_neg h2, if_neg h1, if_neg (by simpa using h3)]

/-- Registers and seals are no memory. -/
theorem setWord_memWf (s : State) (h : s.memWf = true) (a : Nat) (w : Word) : (s.setWord a w).memWf = true := h
theorem setSeal_memWf (s : State) (h : s.memWf = true) (bk : Nat) (x : Seal) : (s.setSeal bk x).memWf = true := h

/-- R235: zeroing a cistern keeps the canonical form. -/
theorem zeroCistern_wf (s : State) (h : s.memWf = true) (c : Nat) : (s.zeroCistern c).memWf = true := sparseFilter_wf _ h

/-- Zeroing leaves every byte of the cistern zero. -/
theorem zeroCistern_byte (s : State) (c k : Nat) :
    (s.zeroCistern c).byte k = if c * 2 ^ 36 ≤ k ∧ k < (c + 1) * 2 ^ 36 then 0 else s.byte k := by
  have hf := sparseFind_filter (fun k => !decide (c * 2 ^ 36 ≤ k ∧ k < (c + 1) * 2 ^ 36)) s.mem k
  unfold zeroCistern byte sparseGet
  simp only
  rw [hf]
  by_cases hin : c * 2 ^ 36 ≤ k ∧ k < (c + 1) * 2 ^ 36
  · rw [if_pos hin, decide_eq_true hin]
    rfl
  · rw [if_neg hin, decide_eq_false hin]
    rfl

end State

end Sys2Proof.Machine
end

