-- ==== Sys2Proof/Laws/PerInstr.lean ====
section
/-! SUPPORT. Statements about every command as syntax, one lemma per constructor. Family StampInTick: the offset that stamps a well-formed
command fits the 32 bits of an offset in a tick (R31). -/

namespace Sys2Proof.Laws

/-- A conjunction of range checks whose first is the stamp's. -/
theorem stamp_ok {n : Nat} (h : okStamp n = true) : n < 2 ^ 32 := by simpa [okStamp] using h

theorem and_left {a b : Bool} (h : (a && b) = true) : a = true := by cases a <;> simp_all

end Sys2Proof.Laws

namespace Sys2Proof.Laws.StampInTick

/-- R31: a well-formed command's stamp is an offset in a tick. -/
def Statement (i : Instr) : Prop := i.wellFormed = true → i.instant < 2 ^ 32

theorem tickBoundary (at_ : Nat) : Statement (.tickBoundary at_) := fun h => stamp_ok (h)
theorem tickInEdge (at_ : Nat) (rising : Bool) : Statement (.tickInEdge at_ rising) := fun h => stamp_ok (h)
theorem tickInMissing (at_ : Nat) : Statement (.tickInMissing at_) := fun h => stamp_ok (h)
theorem acquireTimeout (at_ : Nat) : Statement (.acquireTimeout at_) := fun h => stamp_ok (h)
theorem txnBegin (at_ : Nat) (path : Nat) (pg : Nat) (group : Nat) : Statement (.txnBegin at_ path pg group) := fun h => stamp_ok (and_left (and_left (and_left h)))
theorem txnCommit (at_ : Nat) (path : Nat) (pg : Nat) (group : Nat) : Statement (.txnCommit at_ path pg group) := fun h => stamp_ok (and_left (and_left (and_left h)))
theorem txnAbort (at_ : Nat) (path : Nat) (pg : Nat) (group : Nat) : Statement (.txnAbort at_ path pg group) := fun h => stamp_ok (and_left (and_left (and_left h)))
theorem txnTimeout (at_ : Nat) (group : Nat) : Statement (.txnTimeout at_ group) := fun h => stamp_ok (and_left h)
theorem lockWrite (at_ : Nat) (path : Nat) (pg : Nat) (value : Nat) : Statement (.lockWrite at_ path pg value) := fun h => stamp_ok (and_left (and_left (and_left h)))
theorem registerWrite (at_ : Nat) (path : Nat) (addr : Nat) (value : BusData) : Statement (.registerWrite at_ path addr value) := fun h => stamp_ok (and_left (and_left (and_left (and_left h))))
theorem sysClear (at_ : Nat) (path : Nat) : Statement (.sysClear at_ path) := fun h => stamp_ok (and_left h)
theorem release (at_ : Nat) (path : Nat) : Statement (.release at_ path) := fun h => stamp_ok (and_left h)
theorem softReset (at_ : Nat) (path : Nat) (wkey : Nat) : Statement (.softReset at_ path wkey) := fun h => stamp_ok (and_left (and_left h))
theorem claim (at_ : Nat) (ctl : Nat) : Statement (.claim at_ ctl) := fun h => stamp_ok (and_left h)
theorem hclaim (at_ : Nat) (port : Nat) (ctl : Nat) : Statement (.hclaim at_ port ctl) := fun h => stamp_ok (and_left (and_left h))
theorem complete (at_ : Nat) (path : Nat) (ctl : Nat) (id : Nat) : Statement (.complete at_ path ctl id) := fun h => stamp_ok (and_left (and_left (and_left h)))
theorem hcomplete (at_ : Nat) (path : Nat) (ctl : Nat) (id : Nat) : Statement (.hcomplete at_ path ctl id) := fun h => stamp_ok (and_left (and_left (and_left h)))
theorem swset (at_ : Nat) (path : Nat) (ctl : Nat) (id : Nat) : Statement (.swset at_ path ctl id) := fun h => stamp_ok (and_left (and_left (and_left h)))
theorem ibiSend (at_ : Nat) (port : Nat) (accepted : Bool) : Statement (.ibiSend at_ port accepted) := fun h => stamp_ok (and_left h)
theorem clrNAssert (at_ : Nat) : Statement (.clrNAssert at_) := fun h => stamp_ok (h)
theorem clrNDeassert (at_ : Nat) : Statement (.clrNDeassert at_) := fun h => stamp_ok (h)
theorem optoffAssert (at_ : Nat) : Statement (.optoffAssert at_) := fun h => stamp_ok (h)
theorem optoffRelease (at_ : Nat) : Statement (.optoffRelease at_) := fun h => stamp_ok (h)
theorem planeLoad (at_ : Nat) (w : Nat) : Statement (.planeLoad at_ w) := fun h => stamp_ok (and_left h)
theorem planeReady (at_ : Nat) (w : Nat) : Statement (.planeReady at_ w) := fun h => stamp_ok (and_left h)
theorem swapStrobe (at_ : Nat) (w : Nat) : Statement (.swapStrobe at_ w) := fun h => stamp_ok (and_left h)
theorem groupStrobe (at_ : Nat) (g : Nat) : Statement (.groupStrobe at_ g) := fun h => stamp_ok (and_left h)
theorem refresh (at_ : Nat) (w : Nat) (ends : Bool) : Statement (.refresh at_ w ends) := fun h => stamp_ok (and_left h)
theorem loUnlock (at_ : Nat) (w : Nat) (row : Nat) (err : Nat) : Statement (.loUnlock at_ w row err) := fun h => stamp_ok (and_left (and_left (and_left h)))
theorem loRelock (at_ : Nat) (w : Nat) (row : Nat) (err : Nat) : Statement (.loRelock at_ w row err) := fun h => stamp_ok (and_left (and_left (and_left h)))
theorem pilotWindowEnd (at_ : Nat) (w : Nat) : Statement (.pilotWindowEnd at_ w) := fun h => stamp_ok (and_left h)
theorem passSetup (at_ : Nat) (w : Nat) : Statement (.passSetup at_ w) := fun h => stamp_ok (and_left h)
theorem passRun (at_ : Nat) (w : Nat) (errs : List (List Int)) (fault : Option (Nat × Nat)) : Statement (.passRun at_ w errs fault) := fun h => stamp_ok (and_left h)
theorem passEpilogue (at_ : Nat) (w : Nat) (fault : Option (Nat × Nat)) : Statement (.passEpilogue at_ w fault) := fun h => stamp_ok (and_left h)
theorem passDone (at_ : Nat) (w : Nat) : Statement (.passDone at_ w) := fun h => stamp_ok (and_left h)
theorem qfitWindow (at_ : Nat) (w : Nat) : Statement (.qfitWindow at_ w) := fun h => stamp_ok (and_left h)
theorem cntClr (at_ : Nat) (path : Nat) (w : Nat) : Statement (.cntClr at_ path w) := fun h => stamp_ok (and_left (and_left h))
theorem tensorMaxabsWrite (at_ : Nat) (path : Nat) (w : Nat) (value : Nat) : Statement (.tensorMaxabsWrite at_ path w value) := fun h => stamp_ok (and_left (and_left (and_left h)))
theorem headDoorbell (at_ : Nat) (path : Nat) (q : Nat) (head : Nat) : Statement (.headDoorbell at_ path q head) := fun h => stamp_ok (and_left (and_left (and_left h)))
theorem descIssue (at_ : Nat) (q : Nat) : Statement (.descIssue at_ q) := fun h => stamp_ok (and_left h)
theorem transferIssue (at_ : Nat) (p : Nat) : Statement (.transferIssue at_ p) := fun h => stamp_ok (and_left h)
theorem transferComplete (at_ : Nat) (q : Nat) : Statement (.transferComplete at_ q) := fun h => stamp_ok (and_left h)
theorem copy (at_ : Nat) (q : Nat) : Statement (.copy at_ q) := fun h => stamp_ok (and_left h)
theorem tile (at_ : Nat) (q : Nat) : Statement (.tile at_ q) := fun h => stamp_ok (and_left h)
theorem multicast (at_ : Nat) (q : Nat) : Statement (.multicast at_ q) := fun h => stamp_ok (and_left h)
theorem scales (at_ : Nat) (q : Nat) : Statement (.scales at_ q) := fun h => stamp_ok (and_left h)
theorem gather (at_ : Nat) (q : Nat) : Statement (.gather at_ q) := fun h => stamp_ok (and_left h)
theorem scatter (at_ : Nat) (q : Nat) : Statement (.scatter at_ q) := fun h => stamp_ok (and_left h)
theorem stats (at_ : Nat) (q : Nat) : Statement (.stats at_ q) := fun h => stamp_ok (and_left h)
theorem reduce (at_ : Nat) (q : Nat) : Statement (.reduce at_ q) := fun h => stamp_ok (and_left h)
theorem queueHalted (at_ : Nat) (q : Nat) : Statement (.queueHalted at_ q) := fun h => stamp_ok (and_left h)
theorem rearm (at_ : Nat) (path : Nat) (q : Nat) (slot : Nat) (gen : Nat) : Statement (.rearm at_ path q slot gen) := fun h => stamp_ok (and_left (and_left (and_left (and_left h))))
theorem barCfgWrite (at_ : Nat) (path : Nat) (die : Nat) (i : Nat) (target : Nat) : Statement (.barCfgWrite at_ path die i target) := fun h => stamp_ok (and_left (and_left (and_left (and_left h))))
theorem startSequenceDone (at_ : Nat) (pg : Nat) : Statement (.startSequenceDone at_ pg) := fun h => stamp_ok (and_left h)
theorem startSequenceFail (at_ : Nat) (pg : Nat) : Statement (.startSequenceFail at_ pg) := fun h => stamp_ok (and_left h)
theorem drainDone (at_ : Nat) (pg : Nat) : Statement (.drainDone at_ pg) := fun h => stamp_ok (and_left h)
theorem cisternAccess (at_ : Nat) (req : CisternReq) (ecc : Nat) (damaged : Bool) (data : List Byte) (tid : Nat) (blk : Nat) (gen : Nat) (fmt : Nat) (withheld : Bool) (delayed : Bool) (crcOk : Bool) : Statement (.cisternAccess at_ req ecc damaged data tid blk gen fmt withheld delayed crcOk) := fun h => stamp_ok (and_left (and_left (and_left (and_left (and_left (and_left (and_left (and_left (and_left h)))))))))
theorem patrolScrub (at_ : Nat) (cis : Nat) (finds : List Nat) : Statement (.patrolScrub at_ cis finds) := fun h => stamp_ok (and_left h)
theorem sgdMomentum (at_ : Nat) (cis : Nat) : Statement (.sgdMomentum at_ cis) := fun h => stamp_ok (and_left h)
theorem adamw (at_ : Nat) (cis : Nat) : Statement (.adamw at_ cis) := fun h => stamp_ok (and_left h)
theorem optDone (at_ : Nat) (cis : Nat) : Statement (.optDone at_ cis) := fun h => stamp_ok (and_left h)
theorem rowsumBuild (at_ : Nat) (addr : Nat) : Statement (.rowsumBuild at_ addr) := fun h => stamp_ok (and_left h)
theorem rowsumDone (at_ : Nat) (addr : Nat) : Statement (.rowsumDone at_ addr) := fun h => stamp_ok (and_left h)
theorem svcLoad (at_ : Nat) (path : Nat) : Statement (.svcLoad at_ path) := fun h => stamp_ok (and_left h)
theorem planLoaded (at_ : Nat) : Statement (.planLoaded at_) := fun h => stamp_ok (h)
theorem svcStart (at_ : Nat) (path : Nat) : Statement (.svcStart at_ path) := fun h => stamp_ok (and_left h)
theorem planRunStart (at_ : Nat) : Statement (.planRunStart at_) := fun h => stamp_ok (h)
theorem svcStop (at_ : Nat) (path : Nat) : Statement (.svcStop at_ path) := fun h => stamp_ok (and_left h)
theorem planStopDone (at_ : Nat) : Statement (.planStopDone at_) := fun h => stamp_ok (h)
theorem svcUnload (at_ : Nat) (path : Nat) : Statement (.svcUnload at_ path) := fun h => stamp_ok (and_left h)
theorem moonPassWrite (at_ : Nat) (n : Nat) : Statement (.moonPassWrite at_ n) := fun h => stamp_ok (and_left h)
theorem seqSlotTimeout (at_ : Nat) (prog : Nat) (slot : Nat) : Statement (.seqSlotTimeout at_ prog slot) := fun h => stamp_ok (and_left (and_left h))
theorem lightSample (at_ : Nat) (taps : List (Nat × List Int)) (rx : List (Nat × List Int)) : Statement (.lightSample at_ taps rx) := fun h => stamp_ok (h)
theorem cmdPrewarm (at_ : Nat) (path : Nat) (src : Nat) : Statement (.cmdPrewarm at_ path src) := fun h => stamp_ok (and_left (and_left h))
theorem cmdHandover (at_ : Nat) (path : Nat) (src : Nat) : Statement (.cmdHandover at_ path src) := fun h => stamp_ok (and_left (and_left h))
theorem spareReady (at_ : Nat) (src : Nat) : Statement (.spareReady at_ src) := fun h => stamp_ok (and_left h)
theorem warmingTimeout (at_ : Nat) (src : Nat) : Statement (.warmingTimeout at_ src) := fun h => stamp_ok (and_left h)
theorem darkFence (at_ : Nat) (w : Nat) : Statement (.darkFence at_ w) := fun h => stamp_ok (and_left h)
theorem aprClose (at_ : Nat) (p : Nat) : Statement (.aprClose at_ p) := fun h => stamp_ok (and_left h)
theorem aprProbe (at_ : Nat) (p : Nat) (ends : Bool) : Statement (.aprProbe at_ p ends) := fun h => stamp_ok (and_left h)
theorem aprOpen (at_ : Nat) (p : Nat) : Statement (.aprOpen at_ p) := fun h => stamp_ok (and_left h)
theorem monitorRead (at_ : Nat) (bank : Nat) (inst : Nat) (channel : Nat) (value : Int) (m : Int) : Statement (.monitorRead at_ bank inst channel value m) := fun h => stamp_ok (and_left h)
theorem trimDataWrite (at_ : Nat) (path : Nat) (c : Nat) (value : Nat) : Statement (.trimDataWrite at_ path c value) := fun h => stamp_ok (and_left (and_left (and_left h)))
theorem refcheck (at_ : Nat) (path : Nat) (fault : Bool) (iref : Int) (hspan : Int) (mon : Int) : Statement (.refcheck at_ path fault iref hspan mon) := fun h => stamp_ok (and_left h)
theorem wellNow (at_ : Nat) (path : Nat) : Statement (.wellNow at_ path) := fun h => stamp_ok (and_left h)
theorem laneNow (at_ : Nat) (path : Nat) : Statement (.laneNow at_ path) := fun h => stamp_ok (and_left h)
theorem combNow (at_ : Nat) (path : Nat) : Statement (.combNow at_ path) := fun h => stamp_ok (and_left h)
theorem calEligible (at_ : Nat) (w : Nat) : Statement (.calEligible at_ w) := fun h => stamp_ok (and_left h)
theorem calOverdue (at_ : Nat) (w : Nat) : Statement (.calOverdue at_ w) := fun h => stamp_ok (and_left h)
theorem poolCopyDone (at_ : Nat) (orig : Nat) : Statement (.poolCopyDone at_ orig) := fun h => stamp_ok (and_left h)
theorem calMeasurePass (at_ : Nat) (w : Nat) (pass : CalPass) : Statement (.calMeasurePass at_ w pass) := fun h => stamp_ok (and_left (and_left (and_left h)))
theorem laneRecal (at_ : Nat) (port : Nat) : Statement (.laneRecal at_ port) := fun h => stamp_ok (and_left h)
theorem laneCalResult (at_ : Nat) (port : Nat) (lane : Nat) (values : List Int) (marginOld : Nat) (marginNew : Nat) : Statement (.laneCalResult at_ port lane values marginOld marginNew) := fun h => stamp_ok (and_left (and_left (and_left h)))
theorem combRecal (at_ : Nat) (src : Nat) (lines : List (Int × Int × Int)) : Statement (.combRecal at_ src lines) := fun h => stamp_ok (and_left h)
theorem repeatRun (at_ : Nat) (w : Nat) (errs : List (List Int)) (residue : Bool) : Statement (.repeatRun at_ w errs residue) := fun h => stamp_ok (and_left h)
theorem ftEligible (at_ : Nat) (w : Nat) : Statement (.ftEligible at_ w) := fun h => stamp_ok (and_left h)
theorem fieldTestSession (at_ : Nat) (w : Nat) (run : SessionRun) : Statement (.fieldTestSession at_ w run) := fun h => stamp_ok (and_left h)
theorem testNow (at_ : Nat) (path : Nat) : Statement (.testNow at_ path) := fun h => stamp_ok (and_left h)
theorem returnNow (at_ : Nat) (path : Nat) : Statement (.returnNow at_ path) := fun h => stamp_ok (and_left h)
theorem fleetLoad (at_ : Nat) (path : Nat) : Statement (.fleetLoad at_ path) := fun h => stamp_ok (and_left h)
theorem fleetActive (at_ : Nat) : Statement (.fleetActive at_) := fun h => stamp_ok (h)
theorem recPop (at_ : Nat) (path : Nat) : Statement (.recPop at_ path) := fun h => stamp_ok (and_left h)
theorem watchdogMiss (at_ : Nat) (core : Nat) : Statement (.watchdogMiss at_ core) := fun h => stamp_ok (and_left h)
theorem lockstepMismatch (at_ : Nat) (die : Nat) : Statement (.lockstepMismatch at_ die) := fun h => stamp_ok (and_left h)
theorem monitorMismatch (at_ : Nat) : Statement (.monitorMismatch at_) := fun h => stamp_ok (h)
theorem serviceWatchdogReset (at_ : Nat) : Statement (.serviceWatchdogReset at_) := fun h => stamp_ok (h)
theorem laneTrained (at_ : Nat) (p : Nat) (k : Nat) : Statement (.laneTrained at_ p k) := fun h => stamp_ok (and_left (and_left h))
theorem laneLockLoss (at_ : Nat) (p : Nat) (k : Nat) : Statement (.laneLockLoss at_ p k) := fun h => stamp_ok (and_left (and_left h))
theorem linkFrame (at_ : Nat) (p : Nat) (h : LinkHdr) (fec : List (Nat × Nat × Nat)) : Statement (.linkFrame at_ p h fec) := fun h => stamp_ok (and_left h)
theorem replayTimeout (at_ : Nat) (p : Nat) (space : Nat) : Statement (.replayTimeout at_ p space) := fun h => stamp_ok (and_left (and_left h))
theorem holadeWrite (at_ : Nat) (p : Nat) (h : LinkHdr) (m : Msg) : Statement (.holadeWrite at_ p h m) := fun h => stamp_ok (and_left (and_left h))
theorem readReq (at_ : Nat) (p : Nat) (h : LinkHdr) (m : Msg) : Statement (.readReq at_ p h m) := fun h => stamp_ok (and_left (and_left h))
theorem readResp (at_ : Nat) (p : Nat) (h : LinkHdr) (m : Msg) : Statement (.readResp at_ p h m) := fun h => stamp_ok (and_left (and_left h))
theorem reduceAdd (at_ : Nat) (p : Nat) (h : LinkHdr) (m : Msg) : Statement (.reduceAdd at_ p h m) := fun h => stamp_ok (and_left (and_left h))
theorem result (at_ : Nat) (p : Nat) (h : LinkHdr) (m : Msg) : Statement (.result at_ p h m) := fun h => stamp_ok (and_left (and_left h))
theorem digestContribution (at_ : Nat) (p : Nat) (h : LinkHdr) (m : Msg) : Statement (.digestContribution at_ p h m) := fun h => stamp_ok (and_left (and_left h))
theorem digestResult (at_ : Nat) (p : Nat) (h : LinkHdr) (m : Msg) : Statement (.digestResult at_ p h m) := fun h => stamp_ok (and_left (and_left h))
theorem bcast (at_ : Nat) (p : Nat) (h : LinkHdr) (m : Msg) : Statement (.bcast at_ p h m) := fun h => stamp_ok (and_left (and_left h))
theorem tickSyncAnnounce (at_ : Nat) (p : Nat) (h : LinkHdr) (m : Msg) (arrival : Nat) : Statement (.tickSyncAnnounce at_ p h m arrival) := fun h => stamp_ok (and_left (and_left h))
theorem delayMeasure (at_ : Nat) (p : Nat) : Statement (.delayMeasure at_ p) := fun h => stamp_ok (and_left h)
theorem delayReq (at_ : Nat) (p : Nat) (h : LinkHdr) (m : Msg) (residence : Nat) : Statement (.delayReq at_ p h m residence) := fun h => stamp_ok (and_left (and_left h))
theorem delayResp (at_ : Nat) (p : Nat) (h : LinkHdr) (m : Msg) : Statement (.delayResp at_ p h m) := fun h => stamp_ok (and_left (and_left h))
theorem tickSyncLoss (at_ : Nat) : Statement (.tickSyncLoss at_) := fun h => stamp_ok (h)
theorem memberAnnounce (at_ : Nat) (p : Nat) (h : LinkHdr) (m : Msg) (a : Announce) : Statement (.memberAnnounce at_ p h m a) := fun h => stamp_ok (and_left (and_left h))
theorem memberJoin (at_ : Nat) (p : Nat) (h : LinkHdr) (m : Msg) : Statement (.memberJoin at_ p h m) := fun h => stamp_ok (and_left (and_left h))
theorem memberTable (at_ : Nat) (p : Nat) (h : LinkHdr) (m : Msg) : Statement (.memberTable at_ p h m) := fun h => stamp_ok (and_left (and_left h))
theorem memberLeave (at_ : Nat) (p : Nat) (h : LinkHdr) (m : Msg) : Statement (.memberLeave at_ p h m) := fun h => stamp_ok (and_left (and_left h))
theorem memberEpoch (at_ : Nat) (p : Nat) (h : LinkHdr) (m : Msg) (number : Nat) (tick : Nat) (period : Nat) (joins : List (Nat × Nat)) (leaves : List Nat) : Statement (.memberEpoch at_ p h m number tick period joins leaves) := fun h => stamp_ok (and_left (and_left (and_left (and_left h))))
theorem memberTimeout (at_ : Nat) (p : Nat) : Statement (.memberTimeout at_ p) := fun h => stamp_ok (and_left h)
theorem gmTimeout (at_ : Nat) : Statement (.gmTimeout at_) := fun h => stamp_ok (h)
theorem stopRx (at_ : Nat) (p : Nat) (h : LinkHdr) (m : Msg) : Statement (.stopRx at_ p h m) := fun h => stamp_ok (and_left (and_left h))
theorem resumeRx (at_ : Nat) (p : Nat) (h : LinkHdr) (m : Msg) : Statement (.resumeRx at_ p h m) := fun h => stamp_ok (and_left (and_left h))
theorem fenceRx (at_ : Nat) (p : Nat) (h : LinkHdr) (m : Msg) : Statement (.fenceRx at_ p h m) := fun h => stamp_ok (and_left (and_left h))
theorem ctrlSendStop (at_ : Nat) (path : Nat) (mask : Nat) (rank : Nat) : Statement (.ctrlSendStop at_ path mask rank) := fun h => stamp_ok (and_left (and_left (and_left h)))
theorem ctrlSendFence (at_ : Nat) (path : Nat) (mask : Nat) (rank : Nat) : Statement (.ctrlSendFence at_ path mask rank) := fun h => stamp_ok (and_left (and_left (and_left h)))
theorem ctrlSendResume (at_ : Nat) (path : Nat) (mask : Nat) (rank : Nat) : Statement (.ctrlSendResume at_ path mask rank) := fun h => stamp_ok (and_left (and_left (and_left h)))
theorem groupReload (at_ : Nat) (path : Nat) : Statement (.groupReload at_ path) := fun h => stamp_ok (and_left h)
theorem fabLeave (at_ : Nat) (path : Nat) : Statement (.fabLeave at_ path) := fun h => stamp_ok (and_left h)
theorem hportDrainTimeout (at_ : Nat) (p : Nat) : Statement (.hportDrainTimeout at_ p) := fun h => stamp_ok (and_left h)
theorem frameStart (at_ : Nat) (p : Nat) (v : Nat) (num : Nat) (c : PacketCheck) : Statement (.frameStart at_ p v num c) := fun h => stamp_ok (and_left (and_left (and_left h)))
theorem requestDescriptor (at_ : Nat) (p : Nat) (v : Nat) (bytes : List Byte) (c : PacketCheck) : Statement (.requestDescriptor at_ p v bytes c) := fun h => stamp_ok (and_left (and_left (and_left h)))
theorem tensorHeader (at_ : Nat) (p : Nat) (v : Nat) (bytes : List Byte) (c : PacketCheck) : Statement (.tensorHeader at_ p v bytes c) := fun h => stamp_ok (and_left (and_left (and_left h)))
theorem payloadPacket (at_ : Nat) (p : Nat) (v : Nat) (bytes : List Byte) (c : PacketCheck) : Statement (.payloadPacket at_ p v bytes c) := fun h => stamp_ok (and_left (and_left (and_left h)))
theorem rawLine (at_ : Nat) (p : Nat) (v : Nat) (dt : Nat) (bytes : List Byte) (c : PacketCheck) : Statement (.rawLine at_ p v dt bytes c) := fun h => stamp_ok (and_left (and_left (and_left (and_left h))))
theorem loadHeader (at_ : Nat) (p : Nat) (v : Nat) (bytes : List Byte) (c : PacketCheck) : Statement (.loadHeader at_ p v bytes c) := fun h => stamp_ok (and_left (and_left (and_left h)))
theorem frameEnd (at_ : Nat) (p : Nat) (v : Nat) (num : Nat) (c : PacketCheck) : Statement (.frameEnd at_ p v num c) := fun h => stamp_ok (and_left (and_left (and_left h)))
theorem frameTimeout (at_ : Nat) (p : Nat) (v : Nat) : Statement (.frameTimeout at_ p v) := fun h => stamp_ok (and_left (and_left h))
theorem slotRelease (at_ : Nat) (path : Nat) (p : Nat) (v : Nat) (slot : Nat) : Statement (.slotRelease at_ path p v slot) := fun h => stamp_ok (and_left (and_left (and_left (and_left h))))
theorem phyUnlock (at_ : Nat) (p : Nat) : Statement (.phyUnlock at_ p) := fun h => stamp_ok (and_left h)
theorem preambleWrite (at_ : Nat) (q : Nat) (v : Nat) (bytes : List Byte) : Statement (.preambleWrite at_ q v bytes) := fun h => stamp_ok (and_left (and_left (and_left h)))
theorem i3cWrite (at_ : Nat) (port : Nat) (hdr : Bool) (code : Nat) (payload : List Byte) (early : Bool) (bad : Bool) : Statement (.i3cWrite at_ port hdr code payload early bad) := fun h => stamp_ok (and_left (and_left (and_left (and_left h))))
theorem i3cRead (at_ : Nat) (port : Nat) (hdr : Bool) (payload : List Byte) (bad : Bool) : Statement (.i3cRead at_ port hdr payload bad) := fun h => stamp_ok (and_left (and_left h))
theorem responseRead (at_ : Nat) (port : Nat) (hdr : Bool) (code : Nat) : Statement (.responseRead at_ port hdr code) := fun h => stamp_ok (and_left (and_left h))
theorem enec (at_ : Nat) (port : Nat) (direct : Bool) (events : Nat) : Statement (.enec at_ port direct events) := fun h => stamp_ok (and_left (and_left h))
theorem disec (at_ : Nat) (port : Nat) (direct : Bool) (events : Nat) : Statement (.disec at_ port direct events) := fun h => stamp_ok (and_left (and_left h))
theorem rstdaa (at_ : Nat) (port : Nat) : Statement (.rstdaa at_ port) := fun h => stamp_ok (and_left h)
theorem entdaa (at_ : Nat) (port : Nat) (da : Nat) (won : Bool) : Statement (.entdaa at_ port da won) := fun h => stamp_ok (and_left (and_left h))
theorem setmwl (at_ : Nat) (port : Nat) (direct : Bool) (len : Nat) : Statement (.setmwl at_ port direct len) := fun h => stamp_ok (and_left (and_left h))
theorem getmwl (at_ : Nat) (port : Nat) : Statement (.getmwl at_ port) := fun h => stamp_ok (and_left h)
theorem setmrl (at_ : Nat) (port : Nat) (direct : Bool) (len : Nat) (ibi : Nat) : Statement (.setmrl at_ port direct len ibi) := fun h => stamp_ok (and_left (and_left (and_left h)))
theorem getmrl (at_ : Nat) (port : Nat) : Statement (.getmrl at_ port) := fun h => stamp_ok (and_left h)
theorem enthdr0 (at_ : Nat) (port : Nat) : Statement (.enthdr0 at_ port) := fun h => stamp_ok (and_left h)
theorem hdrExit (at_ : Nat) (port : Nat) : Statement (.hdrExit at_ port) := fun h => stamp_ok (and_left h)
theorem setaasa (at_ : Nat) (port : Nat) : Statement (.setaasa at_ port) := fun h => stamp_ok (and_left h)
theorem rstact (at_ : Nat) (port : Nat) (direct : Bool) (get : Bool) (action : Nat) : Statement (.rstact at_ port direct get action) := fun h => stamp_ok (and_left (and_left h))
theorem targetReset (at_ : Nat) (port : Nat) : Statement (.targetReset at_ port) := fun h => stamp_ok (and_left h)
theorem setdasa (at_ : Nat) (port : Nat) (da : Nat) : Statement (.setdasa at_ port da) := fun h => stamp_ok (and_left (and_left h))
theorem setnewda (at_ : Nat) (port : Nat) (da : Nat) : Statement (.setnewda at_ port da) := fun h => stamp_ok (and_left (and_left h))
theorem getpid (at_ : Nat) (port : Nat) : Statement (.getpid at_ port) := fun h => stamp_ok (and_left h)
theorem getbcr (at_ : Nat) (port : Nat) : Statement (.getbcr at_ port) := fun h => stamp_ok (and_left h)
theorem getdcr (at_ : Nat) (port : Nat) : Statement (.getdcr at_ port) := fun h => stamp_ok (and_left h)
theorem getstatus (at_ : Nat) (port : Nat) : Statement (.getstatus at_ port) := fun h => stamp_ok (and_left h)
theorem getmxds (at_ : Nat) (port : Nat) : Statement (.getmxds at_ port) := fun h => stamp_ok (and_left h)
theorem getcaps (at_ : Nat) (port : Nat) : Statement (.getcaps at_ port) := fun h => stamp_ok (and_left h)
theorem hotJoin (at_ : Nat) (port : Nat) : Statement (.hotJoin at_ port) := fun h => stamp_ok (and_left h)
theorem hmemAddrLoWrite (at_ : Nat) (port : Nat) (value : Nat) : Statement (.hmemAddrLoWrite at_ port value) := fun h => stamp_ok (and_left (and_left h))
theorem hmemDataWrite (at_ : Nat) (port : Nat) (i : Nat) (value : Nat) : Statement (.hmemDataWrite at_ port i value) := fun h => stamp_ok (and_left (and_left (and_left h)))
theorem hmemDataRead (at_ : Nat) (port : Nat) (i : Nat) : Statement (.hmemDataRead at_ port i) := fun h => stamp_ok (and_left (and_left h))
theorem sensorSample (at_ : Nat) (readings : List (Nat × Nat × Int)) : Statement (.sensorSample at_ readings) := fun h => stamp_ok (h)
theorem sensorRestored (at_ : Nat) (sensor : Nat) : Statement (.sensorRestored at_ sensor) := fun h => stamp_ok (and_left h)
theorem throttleRise (at_ : Nat) (group : Nat) : Statement (.throttleRise at_ group) := fun h => stamp_ok (and_left h)
theorem throttleRelax (at_ : Nat) (group : Nat) : Statement (.throttleRelax at_ group) := fun h => stamp_ok (and_left h)
theorem fastRateEnd (at_ : Nat) (group : Nat) : Statement (.fastRateEnd at_ group) := fun h => stamp_ok (and_left h)
theorem thermalReset (at_ : Nat) : Statement (.thermalReset at_) := fun h => stamp_ok (h)
theorem railSample (at_ : Nat) (rails : List (Nat × Nat)) (combs : List Nat) : Statement (.railSample at_ rails combs) := fun h => stamp_ok (h)
theorem powerOn (at_ : Nat) : Statement (.powerOn at_) := fun h => stamp_ok (h)
theorem pwrgdFall (at_ : Nat) : Statement (.pwrgdFall at_) := fun h => stamp_ok (h)
theorem brownOut (at_ : Nat) : Statement (.brownOut at_) := fun h => stamp_ok (h)
theorem resetNAssert (at_ : Nat) : Statement (.resetNAssert at_) := fun h => stamp_ok (h)
theorem resetRelease (at_ : Nat) (straps : Nat) (puf : Bool) (slotA : Nat) (slotB : Nat) (calA : Nat) (calB : Nat) (badRows : Bool) (badSource : Bool) (refFault : Bool) (iref : Int) (hspan : Int) (mon : Int) : Statement (.resetRelease at_ straps puf slotA slotB calA calB badRows badSource refFault iref hspan mon) := fun h => stamp_ok (and_left (and_left (and_left h)))
theorem bootDone (at_ : Nat) : Statement (.bootDone at_) := fun h => stamp_ok (h)
theorem bootLate (at_ : Nat) : Statement (.bootLate at_) := fun h => stamp_ok (h)
theorem bootUpdate (at_ : Nat) (path : Nat) : Statement (.bootUpdate at_ path) := fun h => stamp_ok (and_left h)
theorem updateDone (at_ : Nat) (ok : Bool) : Statement (.updateDone at_ ok) := fun h => stamp_ok (h)
theorem recoveryUpdate (at_ : Nat) (path : Nat) : Statement (.recoveryUpdate at_ path) := fun h => stamp_ok (and_left h)
theorem bootCommit (at_ : Nat) (path : Nat) : Statement (.bootCommit at_ path) := fun h => stamp_ok (and_left h)
theorem saveCfg (at_ : Nat) (path : Nat) : Statement (.saveCfg at_ path) := fun h => stamp_ok (and_left h)
theorem evidence (at_ : Nat) (path : Nat) : Statement (.evidence at_ path) := fun h => stamp_ok (and_left h)
theorem evidenceReady (at_ : Nat) : Statement (.evidenceReady at_) := fun h => stamp_ok (h)
theorem owner (at_ : Nat) (path : Nat) : Statement (.owner at_ path) := fun h => stamp_ok (and_left h)
theorem refclkLost (at_ : Nat) : Statement (.refclkLost at_) := fun h => stamp_ok (h)
theorem refclkRestore (at_ : Nat) : Statement (.refclkRestore at_) := fun h => stamp_ok (h)
theorem laneTrainingFail (at_ : Nat) (p : Nat) (k : Nat) : Statement (.laneTrainingFail at_ p k) := fun h => stamp_ok (and_left (and_left h))
theorem phyLock (at_ : Nat) (p : Nat) (rate : Nat) : Statement (.phyLock at_ p rate) := fun h => stamp_ok (and_left (and_left h))
theorem evtSet (at_ : Nat) (path : Nat) (pg : Nat) (value : Nat) : Statement (.evtSet at_ path pg value) := fun h => stamp_ok (and_left (and_left (and_left h)))
theorem txFrameEnd (at_ : Nat) (q : Nat) : Statement (.txFrameEnd at_ q) := fun h => stamp_ok (and_left h)

end Sys2Proof.Laws.StampInTick
end

