-- ==== Sys2Proof/Laws/RegCommands.lean ====
section
/-! SUPPORT. What each command that is a register access leaves when its path reaches the page: the effect of that one register. -/

namespace Sys2Proof.Machine

open State

/-- A write that has an effect of its own leaves that effect. -/
theorem onBus_effect {s : State} {at_ path pg off v : Nat} {k : PageKind} {f : State → State} {u : State} (h : s.pathUp path pg = true)
    (hk : pageKind pg = some k) (ho : off < 0x1000 ∧ off % 4 = 0 ∧ off ≠ 0x028) (hc : ctlAt (pg * 0x1000 + off) = none)
    (ha : assigned k off = true ∧ otherWindow k path off = false) (hf : f (s.advance at_) = (s.advance at_).regWrite path (pg * 0x1000 + off) v)
    (e : (s.advance at_).effectWrite path k pg off (BitVec.ofNat 32 v) = some u) : onBus s at_ path f = .next (s.left u) := by
  rw [onBus_up s at_ path f (pathUp_held h) (pathUp_runs h), hf,
    State.regWrite_effect (s.advance at_) path pg off v k hk ho.1 ho.2.1 hc ha.1 ha.2 ho.2.2 (pathUp_unlocked h), e]
  rfl

theorem ofNat32 {v : Nat} (h : v < 2 ^ 32) : (BitVec.ofNat 32 v).toNat = v := by rw [BitVec.toNat_ofNat]; exact Nat.mod_eq_of_lt h

/-- A page away from the controllers holds none of their registers. -/
theorem ctlAt_page {pg off : Nat} (ho : off < 0x1000) (h : (pg < 0x70 ∧ pg ≠ 2) ∨ 0x80 + 52 ≤ pg) : ctlAt (pg * 0x1000 + off) = none :=
  ctlAt_none pg off ho (by omega) (by omega) (by omega)

/-- The header registers of every page are assigned, and lie in no window. -/
theorem assigned_header (k : PageKind) (path : Nat) {off : Nat} (h : off = 0x01C ∨ off = 0x020 ∨ off = 0x028) :
    assigned k off = true ∧ otherWindow k path off = false := by
  rcases h with rfl | rfl | rfl <;> cases k <;> exact ⟨by decide, rfl⟩

variable (s : State) (at_ path : Nat)

/-! ### SYS -/

theorem sys_window : otherWindow .sys path 0x04C = false := by simp [otherWindow]; rfl

theorem eff_sysClear (up : s.pathUp path pgSYS = true) : exec (.sysClear at_ path) s = .next (s.left (s.advance at_).sysClear) := by
  rw [exec_sysClear]
  refine onBus_effect (pg := pgSYS) (off := 0x04C) (v := 1) up (by decide) (by decide) (ctlAt_page (by decide) (by decide))
    ⟨by decide, sys_window path⟩ rfl ?_
  simp [effectWrite, sysCommand, bitAt]

theorem eff_release (up : s.pathUp path pgSYS = true) : exec (.release at_ path) s = .next (s.left (s.advance at_).sysRelease) := by
  rw [exec_release]
  refine onBus_effect (pg := pgSYS) (off := 0x04C) (v := 2) up (by decide) (by decide) (ctlAt_page (by decide) (by decide))
    ⟨by decide, sys_window path⟩ rfl ?_
  simp [effectWrite, sysCommand, bitAt]

theorem eff_softReset (wkey : Nat) (up : s.pathUp path pgSYS = true) :
    exec (.softReset at_ path wkey) s = .next (s.left ((s.advance at_).softReset (wkey % 2 ^ 16))) := by
  rw [exec_softReset]
  refine onBus_effect (pg := pgSYS) (off := 0x04C) (v := 0x100 + wkey % 2 ^ 16 * 2 ^ 16) up (by decide) (by decide)
    (ctlAt_page (by decide) (by decide)) ⟨by decide, sys_window path⟩ (by simp [pgSYS]) ?_
  have hv : 0x100 + wkey % 2 ^ 16 * 2 ^ 16 < 2 ^ 32 := by omega
  simp only [effectWrite, ofNat32 hv]
  have a : (0x100 + wkey % 2 ^ 16 * 2 ^ 16) / 2 ^ 16 = wkey % 2 ^ 16 := by omega
  have b : bitAt (0x100 + wkey % 2 ^ 16 * 2 ^ 16) 0 = false := by simp [bitAt]; omega
  have c : bitAt (0x100 + wkey % 2 ^ 16 * 2 ^ 16) 1 = false := by simp [bitAt, Nat.shiftRight_eq_div_pow]; omega
  have d : bitAt (0x100 + wkey % 2 ^ 16 * 2 ^ 16) 8 = true := by simp [bitAt, Nat.shiftRight_eq_div_pow]; omega
  generalize 0x100 + wkey % 2 ^ 16 * 2 ^ 16 = x at a b c d ⊢
  simp only [sysCommand, a, b, c, d]
  rfl


/-! ### The service, calibration, tests, boot and security -/

theorem eff_svcLoad (up : s.pathUp path pgBOOT = true) : exec (.svcLoad at_ path) s = .next (s.left ((s.advance at_).svcLoad)) := by
  rw [exec_svcLoad]
  refine onBus_effect (k := .boot) (pg := pgBOOT) (off := 0x800) (v := 1) up (by decide) (by decide) (ctlAt_page (by decide) (by decide))
    ⟨by decide, rfl⟩ rfl ?_
  simp [effectWrite, svcCommand, bits_eq]

theorem eff_svcStart (up : s.pathUp path pgBOOT = true) : exec (.svcStart at_ path) s = .next (s.left ((s.advance at_).svcStart)) := by
  rw [exec_svcStart]
  refine onBus_effect (k := .boot) (pg := pgBOOT) (off := 0x800) (v := 2) up (by decide) (by decide) (ctlAt_page (by decide) (by decide))
    ⟨by decide, rfl⟩ rfl ?_
  simp [effectWrite, svcCommand, bits_eq]

theorem eff_svcStop (up : s.pathUp path pgBOOT = true) : exec (.svcStop at_ path) s = .next (s.left ((s.advance at_).svcStop)) := by
  rw [exec_svcStop]
  refine onBus_effect (k := .boot) (pg := pgBOOT) (off := 0x800) (v := 3) up (by decide) (by decide) (ctlAt_page (by decide) (by decide))
    ⟨by decide, rfl⟩ rfl ?_
  simp [effectWrite, svcCommand, bits_eq]

theorem eff_svcUnload (up : s.pathUp path pgBOOT = true) : exec (.svcUnload at_ path) s = .next (s.left ((s.advance at_).svcUnload)) := by
  rw [exec_svcUnload]
  refine onBus_effect (k := .boot) (pg := pgBOOT) (off := 0x800) (v := 4) up (by decide) (by decide) (ctlAt_page (by decide) (by decide))
    ⟨by decide, rfl⟩ rfl ?_
  simp [effectWrite, svcCommand, bits_eq]

theorem eff_wellNow (up : s.pathUp path pgCAL = true) : exec (.wellNow at_ path) s = .next (s.left ((s.advance at_).wellNow (s.rd pgCAL Reg.CAL.WSEL_WELL))) := by
  rw [exec_wellNow]
  refine onBus_effect (k := .cal) (pg := pgCAL) (off := 0x058) (v := 1) up (by decide) (by decide) (ctlAt_page (by decide) (by decide))
    ⟨by decide, rfl⟩ rfl ?_
  simp [effectWrite, calCommand, bitAt]

theorem eff_laneNow (up : s.pathUp path pgCAL = true) : exec (.laneNow at_ path) s = .next (s.left ((s.advance at_).laneNow (s.rd pgCAL Reg.CAL.LSEL_PORT) (s.rd pgCAL Reg.CAL.LSEL_LANE))) := by
  rw [exec_laneNow]
  refine onBus_effect (k := .cal) (pg := pgCAL) (off := 0x058) (v := 4) up (by decide) (by decide) (ctlAt_page (by decide) (by decide))
    ⟨by decide, rfl⟩ rfl ?_
  simp [effectWrite, calCommand, bitAt]

theorem eff_combNow (up : s.pathUp path pgCAL = true) : exec (.combNow at_ path) s = .next (s.left ((s.advance at_).combNow (s.rd pgCAL Reg.CAL.CSEL_SOURCE))) := by
  rw [exec_combNow]
  refine onBus_effect (k := .cal) (pg := pgCAL) (off := 0x058) (v := 8) up (by decide) (by decide) (ctlAt_page (by decide) (by decide))
    ⟨by decide, rfl⟩ rfl ?_
  simp [effectWrite, calCommand, bitAt]

theorem eff_testNow (up : s.pathUp path pgTEST = true) : exec (.testNow at_ path) s = .next (s.left ((s.advance at_).testNow (s.rd pgTEST Reg.TEST.WSEL_WELL))) := by
  rw [exec_testNow]
  refine onBus_effect (k := .test) (pg := pgTEST) (off := 0x04C) (v := 1) up (by decide) (by decide) (ctlAt_page (by decide) (by decide))
    ⟨by decide, rfl⟩ rfl ?_
  simp [effectWrite, testCommand, bitAt]

theorem eff_returnNow (up : s.pathUp path pgTEST = true) : exec (.returnNow at_ path) s = .next (s.left ((s.advance at_).returnNow (s.rd pgTEST Reg.TEST.WSEL_WELL))) := by
  rw [exec_returnNow]
  refine onBus_effect (k := .test) (pg := pgTEST) (off := 0x04C) (v := 2) up (by decide) (by decide) (ctlAt_page (by decide) (by decide))
    ⟨by decide, rfl⟩ rfl ?_
  simp [effectWrite, testCommand, bitAt]

theorem eff_fleetLoad (up : s.pathUp path pgTEST = true) : exec (.fleetLoad at_ path) s = .next (s.left ((s.advance at_).fleetLoad)) := by
  rw [exec_fleetLoad]
  refine onBus_effect (k := .test) (pg := pgTEST) (off := 0x04C) (v := 4) up (by decide) (by decide) (ctlAt_page (by decide) (by decide))
    ⟨by decide, rfl⟩ rfl ?_
  simp [effectWrite, testCommand, bitAt]

theorem eff_recPop (up : s.pathUp path pgTEST = true) : exec (.recPop at_ path) s = .next (s.left ((s.advance at_).recPop)) := by
  rw [exec_recPop]
  refine onBus_effect (k := .test) (pg := pgTEST) (off := 0x04C) (v := 8) up (by decide) (by decide) (ctlAt_page (by decide) (by decide))
    ⟨by decide, rfl⟩ rfl ?_
  simp [effectWrite, testCommand, bitAt]

theorem eff_bootUpdate (up : s.pathUp path pgBOOT = true) : exec (.bootUpdate at_ path) s = .next (s.left ((s.advance at_).bootCommand 1)) := by
  rw [exec_bootUpdate]
  refine onBus_effect (k := .boot) (pg := pgBOOT) (off := 0x054) (v := 1) up (by decide) (by decide) (ctlAt_page (by decide) (by decide))
    ⟨by decide, rfl⟩ rfl ?_
  simp [effectWrite]

theorem eff_bootCommit (up : s.pathUp path pgBOOT = true) : exec (.bootCommit at_ path) s = .next (s.left ((s.advance at_).bootCommand 2)) := by
  rw [exec_bootCommit]
  refine onBus_effect (k := .boot) (pg := pgBOOT) (off := 0x054) (v := 2) up (by decide) (by decide) (ctlAt_page (by decide) (by decide))
    ⟨by decide, rfl⟩ rfl ?_
  simp [effectWrite]

theorem eff_saveCfg (up : s.pathUp path pgBOOT = true) : exec (.saveCfg at_ path) s = .next (s.left ((s.advance at_).bootCommand 4)) := by
  rw [exec_saveCfg]
  refine onBus_effect (k := .boot) (pg := pgBOOT) (off := 0x054) (v := 4) up (by decide) (by decide) (ctlAt_page (by decide) (by decide))
    ⟨by decide, rfl⟩ rfl ?_
  simp [effectWrite]

theorem eff_evidence (up : s.pathUp path pgSEC = true) : exec (.evidence at_ path) s = .next (s.left ((s.advance at_).evidence)) := by
  rw [exec_evidence]
  refine onBus_effect (k := .sec) (pg := pgSEC) (off := 0x044) (v := 1) up (by decide) (by decide) (ctlAt_page (by decide) (by decide))
    ⟨by decide, rfl⟩ rfl ?_
  simp [effectWrite, secCommand, bitAt]

theorem eff_owner (up : s.pathUp path pgSEC = true) : exec (.owner at_ path) s = .next (s.left ((s.advance at_).owner)) := by
  rw [exec_owner]
  refine onBus_effect (k := .sec) (pg := pgSEC) (off := 0x044) (v := 2) up (by decide) (by decide) (ctlAt_page (by decide) (by decide))
    ⟨by decide, rfl⟩ rfl ?_
  simp [effectWrite, secCommand, bitAt]

theorem eff_recoveryUpdate (up : s.pathUp path pgBOOT = true) (rom : s.rd pgBOOT Reg.BOOT.BOOT_STAT_PHASE = 5) :
    exec (.recoveryUpdate at_ path) s = .next (s.left (s.advance at_).recoveryUpdate) := by
  rw [exec_recoveryUpdate]
  have hr : (s.advance at_).rd pgBOOT Reg.BOOT.BOOT_STAT_PHASE = 5 := rom
  refine onBus_effect (k := .boot) (pg := pgBOOT) (off := 0x054) (v := 1) up (by decide) (by decide) (ctlAt_page (by decide) (by decide))
    ⟨by decide, rfl⟩ (if_pos hr) ?_
  simp [effectWrite, bootCommand, rom, bitAt]

theorem eff_refcheck (fault : Bool) (iref hspan mon : Int) (up : s.pathUp path pgCAL = true) :
    exec (.refcheck at_ path fault iref hspan mon) s = .next (s.left ((s.advance at_).refCheckAsked fault iref hspan mon)) := by
  rw [exec_refcheck]
  unfold execRefcheck
  rw [onBus_up s at_ path _ (pathUp_held up) (pathUp_runs up)]
  have hl : (s.advance at_).lockedOut path pgCAL = false := pathUp_unlocked up
  simp only [unlessLocked, hl]
  rfl

/-! ### The fabric -/

theorem eff_groupReload (up : s.pathUp path (pgHport 0) = true) : exec (.groupReload at_ path) s = .next (s.left { s.advance at_ with fabric := { s.fabric with reload := true } }) := by
  rw [exec_groupReload]
  refine onBus_effect (k := .hport) (pg := pgHport 0) (off := 0x418) (v := 1) up (by decide) (by decide) (ctlAt_page (by decide) (by decide))
    ⟨by decide, rfl⟩ rfl ?_
  simp [effectWrite, fabCommand, bitAt]

theorem eff_fabLeave (up : s.pathUp path (pgHport 0) = true) : exec (.fabLeave at_ path) s = .next (s.left ((s.advance at_).fabLeave)) := by
  rw [exec_fabLeave]
  refine onBus_effect (k := .hport) (pg := pgHport 0) (off := 0x418) (v := 2) up (by decide) (by decide) (ctlAt_page (by decide) (by decide))
    ⟨by decide, rfl⟩ rfl ?_
  simp [effectWrite, fabCommand, bitAt]

theorem eff_ctrlSendStop (mask rank : Nat) (up : s.pathUp path (pgHport 0) = true) :
    exec (.ctrlSendStop at_ path mask rank) s = .next (s.left ((s.advance at_).ctrlSend 1 (mask % 8) (rank % 2 ^ 16))) := by
  rw [exec_ctrlSendStop]
  refine onBus_effect (k := .hport) (pg := pgHport 0) (off := 0x44C) (v := ctrlSendWord 1 mask rank) up (by decide) (by decide)
    (ctlAt_page (by decide) (by decide)) ⟨by decide, rfl⟩ rfl ?_
  have hv : ctrlSendWord 1 mask rank < 2 ^ 32 := by unfold ctrlSendWord; omega
  have a : bits (ctrlSendWord 1 mask rank) 0 2 = 1 := by rw [bits_eq]; unfold ctrlSendWord; omega
  have b : bits (ctrlSendWord 1 mask rank) 4 3 = mask % 8 := by rw [bits_eq]; unfold ctrlSendWord; omega
  have c : bits (ctrlSendWord 1 mask rank) 16 16 = rank % 2 ^ 16 := by rw [bits_eq]; unfold ctrlSendWord; omega
  simp only [effectWrite, ofNat32 hv, a, b, c]
  rfl

theorem eff_ctrlSendFence (mask rank : Nat) (up : s.pathUp path (pgHport 0) = true) :
    exec (.ctrlSendFence at_ path mask rank) s = .next (s.left ((s.advance at_).ctrlSend 2 (mask % 8) (rank % 2 ^ 16))) := by
  rw [exec_ctrlSendFence]
  refine onBus_effect (k := .hport) (pg := pgHport 0) (off := 0x44C) (v := ctrlSendWord 2 mask rank) up (by decide) (by decide)
    (ctlAt_page (by decide) (by decide)) ⟨by decide, rfl⟩ rfl ?_
  have hv : ctrlSendWord 2 mask rank < 2 ^ 32 := by unfold ctrlSendWord; omega
  have a : bits (ctrlSendWord 2 mask rank) 0 2 = 2 := by rw [bits_eq]; unfold ctrlSendWord; omega
  have b : bits (ctrlSendWord 2 mask rank) 4 3 = mask % 8 := by rw [bits_eq]; unfold ctrlSendWord; omega
  have c : bits (ctrlSendWord 2 mask rank) 16 16 = rank % 2 ^ 16 := by rw [bits_eq]; unfold ctrlSendWord; omega
  simp only [effectWrite, ofNat32 hv, a, b, c]
  rfl

theorem eff_ctrlSendResume (mask rank : Nat) (up : s.pathUp path (pgHport 0) = true) :
    exec (.ctrlSendResume at_ path mask rank) s = .next (s.left ((s.advance at_).ctrlSend 3 (mask % 8) (rank % 2 ^ 16))) := by
  rw [exec_ctrlSendResume]
  refine onBus_effect (k := .hport) (pg := pgHport 0) (off := 0x44C) (v := ctrlSendWord 3 mask rank) up (by decide) (by decide)
    (ctlAt_page (by decide) (by decide)) ⟨by decide, rfl⟩ rfl ?_
  have hv : ctrlSendWord 3 mask rank < 2 ^ 32 := by unfold ctrlSendWord; omega
  have a : bits (ctrlSendWord 3 mask rank) 0 2 = 3 := by rw [bits_eq]; unfold ctrlSendWord; omega
  have b : bits (ctrlSendWord 3 mask rank) 4 3 = mask % 8 := by rw [bits_eq]; unfold ctrlSendWord; omega
  have c : bits (ctrlSendWord 3 mask rank) 16 16 = rank % 2 ^ 16 := by rw [bits_eq]; unfold ctrlSendWord; omega
  simp only [effectWrite, ofNat32 hv, a, b, c]
  rfl

/-! ### Units -/

theorem eff_cntClr (w : Nat) (h : w < 832) (up : s.pathUp path (pgWell w) = true) :
    exec (.cntClr at_ path w) s = .next (s.left ((s.advance at_).cntClr w)) := by
  rw [exec_cntClr]
  refine onBus_effect (pg := pgWell w) (off := 0x158) (v := 1) up (pageKind_well h) (by decide)
    (ctlAt_page (by decide) (by unfold pgWell; omega)) ⟨by decide, rfl⟩ (if_pos h) ?_
  have e : pgWell w - 0x100 = w := by unfold pgWell; omega
  simp [effectWrite, bitAt, e]

theorem eff_headDoorbell (q : Nat) (head : Nat) (h : q < 4096) (up : s.pathUp path (pgPumpq q) = true) :
    exec (.headDoorbell at_ path q head) s = .next (s.left ((s.advance at_).doorbell q (head % 2 ^ 16))) := by
  rw [exec_headDoorbell]
  refine onBus_effect (pg := pgPumpq q) (off := 0x04C) (v := head) up (pageKind_pumpq h) (by decide)
    (ctlAt_page (by decide) (by unfold pgPumpq; omega)) ⟨by decide, rfl⟩ (if_pos h) ?_
  have e : pgPumpq q - 0x1000 = q := by unfold pgPumpq; omega
  have b : bits (BitVec.ofNat 32 head).toNat 0 16 = head % 2 ^ 16 := by rw [bits_eq, BitVec.toNat_ofNat]; omega
  simp only [effectWrite, e, b]
  rfl

theorem eff_rearm (q : Nat) (slot : Nat) (gen : Nat) (h : q < 4096) (up : s.pathUp path (pgPumpq q) = true) :
    exec (.rearm at_ path q slot gen) s = .next (s.left (((s.advance at_).rearm q (slot % 2 ^ 16) (gen % 256)).drainQueue q)) := by
  rw [exec_rearm]
  refine onBus_effect (pg := pgPumpq q) (off := 0x074) (v := slot % 2 ^ 16 + gen % 256 * 2 ^ 16) up (pageKind_pumpq h) (by decide)
    (ctlAt_page (by decide) (by unfold pgPumpq; omega)) ⟨by decide, rfl⟩ (if_pos h) ?_
  have e : pgPumpq q - 0x1000 = q := by unfold pgPumpq; omega
  have hv : slot % 2 ^ 16 + gen % 256 * 2 ^ 16 < 2 ^ 32 := by omega
  have b : bits (slot % 2 ^ 16 + gen % 256 * 2 ^ 16) 0 16 = slot % 2 ^ 16 := by rw [bits_eq]; omega
  have c : bits (slot % 2 ^ 16 + gen % 256 * 2 ^ 16) 16 8 = gen % 256 := by rw [bits_eq]; omega
  simp only [effectWrite, e, ofNat32 hv, b, c]
  rfl

theorem eff_cmdPrewarm (i : Nat) (h : i < 6) (up : s.pathUp path (pgComb i) = true) :
    exec (.cmdPrewarm at_ path i) s = .next (s.left ((s.advance at_).combCmd i false true)) := by
  rw [exec_cmdPrewarm]
  refine onBus_effect (pg := pgComb i) (off := 0x06C) (v := 2) up (pageKind_comb h) (by decide)
    (ctlAt_page (by decide) (by unfold pgComb; omega)) ⟨by decide, rfl⟩ (if_pos h) ?_
  have e : pgComb i - 0x50 = i := by unfold pgComb; omega
  simp [effectWrite, bitAt, e]

theorem eff_cmdHandover (i : Nat) (h : i < 6) (up : s.pathUp path (pgComb i) = true) :
    exec (.cmdHandover at_ path i) s = .next (s.left ((s.advance at_).combCmd i true false)) := by
  rw [exec_cmdHandover]
  refine onBus_effect (pg := pgComb i) (off := 0x06C) (v := 1) up (pageKind_comb h) (by decide)
    (ctlAt_page (by decide) (by unfold pgComb; omega)) ⟨by decide, rfl⟩ (if_pos h) ?_
  have e : pgComb i - 0x50 = i := by unfold pgComb; omega
  simp [effectWrite, bitAt, e]

theorem eff_trimDataWrite (c value : Nat) (h : c < 52) (up : s.pathUp path (pgCluster c) = true) :
    exec (.trimDataWrite at_ path c value) s = .next (s.left ((s.advance at_).trimWrite c (value % 2 ^ 16))) := by
  rw [exec_trimDataWrite]
  refine onBus_effect (pg := pgCluster c) (off := 0x144) (v := value) up (pageKind_cluster h) (by decide)
    (ctlAt_none _ _ (by decide) (by omega) (by omega) (by omega)) ⟨by decide, rfl⟩ (if_pos h) ?_
  have e : pgCluster c - 0x80 = c := by unfold pgCluster; omega
  have b : bits (BitVec.ofNat 32 value).toNat 0 16 = value % 2 ^ 16 := by rw [bits_eq, BitVec.toNat_ofNat]; omega
  simp only [effectWrite, e, b]
  rfl

theorem eff_barCfgWrite (die i target : Nat) (h : die < 4) (hi : i < 16) (up : s.pathUp path (pgWdie die) = true) :
    exec (.barCfgWrite at_ path die i target) s = .next (s.left ((s.advance at_).barTarget die i (target % 2 ^ 16))) := by
  rw [exec_barCfgWrite]
  have hk : ∀ i, i < 16 → (0x200 + 8 * i < 0x1000 ∧ (0x200 + 8 * i) % 4 = 0 ∧ 0x200 + 8 * i ≠ 0x028) ∧
    assigned .wdie (0x200 + 8 * i) = true := by decide
  refine onBus_effect (pg := pgWdie die) (off := 0x200 + 8 * i) (v := target) up (pageKind_wdie h) (hk i hi).1
    (ctlAt_none _ _ (by omega) (by omega) (by omega) (by unfold pgWdie; omega)) ⟨(hk i hi).2, rfl⟩
    ((if_pos ⟨h, hi⟩).trans (by rw [Nat.add_assoc])) ?_
  have e : pgWdie die - 0x70 = die := by unfold pgWdie; omega
  have b : bits (BitVec.ofNat 32 target).toNat 0 16 = target % 2 ^ 16 := by rw [bits_eq, BitVec.toNat_ofNat]; omega
  have c : (0x200 + 8 * i - 0x200) / 8 = i := by omega
  simp only [effectWrite, e, b, c]
  rw [if_neg (by omega), if_neg (by omega), if_neg (by omega), if_neg (by omega), if_pos (by omega)]

theorem eff_slotRelease (p v slot : Nat) (h : p < 8) (up : s.pathUp path (pgFrameIn p) = true) :
    exec (.slotRelease at_ path p v slot) s = .next (s.left ((s.advance at_).releaseSlot p (v % 16) (slot % 16))) := by
  rw [exec_slotRelease]
  refine onBus_effect (pg := pgFrameIn p) (off := 0x064) (v := slot % 16 + v % 16 * 16) up (pageKind_frameIn h) (by decide)
    (ctlAt_page (by decide) (by unfold pgFrameIn; omega)) ⟨by decide, rfl⟩ (if_pos h) ?_
  have e : pgFrameIn p - 0x10 = p := by unfold pgFrameIn; omega
  have hv : slot % 16 + v % 16 * 16 < 2 ^ 32 := by omega
  have b : bits (slot % 16 + v % 16 * 16) 0 4 = slot % 16 := by rw [bits_eq]; omega
  have c : bits (slot % 16 + v % 16 * 16) 4 4 = v % 16 := by rw [bits_eq]; omega
  simp only [effectWrite, e, ofNat32 hv, b, c]
  rfl

/-! ### Registers of every page -/

theorem header_ctl (pg : Nat) {off : Nat} (h : off < 0x40) : ctlAt (pg * 0x1000 + off) = none :=
  ctlAt_none pg off (by omega) (by omega) (by omega) (by omega)

theorem eff_evtSet (pg value : Nat) (k : PageKind) (hk : pageKind pg = some k) (up : s.pathUp path pg = true) :
    exec (.evtSet at_ path pg value) s = .next (s.left ((s.advance at_).evtSet pg (value % 2 ^ 32))) := by
  rw [exec_evtSet]
  refine onBus_effect (off := 0x01C) (v := value) up hk (by decide) (header_ctl pg (by decide)) (assigned_header k path (.inl rfl)) rfl ?_
  simp [effectWrite]

/-- Groups that expire leave the locks alone. -/
theorem expireGroups_lock (s : State) (path pg : Nat) : s.expireGroups.lockedOut path pg = s.lockedOut path pg := by
  have keep : ∀ (l : List Nat) (c : Nat) (t : State), (t.each l fun u p => (u.setStatus p c).raise p 1).lockedOut path pg = t.lockedOut path pg := by
    intro l c
    induction l with
    | nil => intro t; rfl
    | cons a l ih =>
      intro t
      refine (ih _).trans ?_
      have e : ((t.setStatus a c).raise a 1).word (regAddr pg 0x028) = t.word (regAddr pg 0x028) := by
        have ra : ∀ p o, o < 0x40 → regAddr p o = p * 0x1000 + o := by
          intro p o ho
          unfold regAddr canonReg
          rw [if_neg (by omega), if_neg (by omega)]
        have na : ∀ o, o < 0x40 → o ≠ 0x028 → regAddr pg 0x028 ≠ regAddr a o := by
          intro o ho hn
          rw [ra _ _ (by decide), ra _ _ ho]
          omega
        rw [word_raise_ne _ _ _ _ (na 0x010 (by decide) (by decide))]
        unfold setStatus
        have nb : ∀ f : Field, f.at 0 = 0x024 → regAddr pg 0x028 ≠ regAddr a (f.at 0) := by
          intro f hf
          rw [hf]
          exact na 0x024 (by decide) (by decide)
        rw [word_wr_ne _ _ _ _ _ _ (nb Reg.HDR.TXN_STAT_REJ_LSB (by decide)), word_wr_ne _ _ _ _ _ _ (nb Reg.HDR.TXN_STAT_REJ_OFFSET (by decide)),
          word_wr_ne _ _ _ _ _ _ (nb Reg.HDR.TXN_STAT_STATUS (by decide))]
      unfold lockedOut holder rd
      have f : regAddr pg (Reg.HDR.LOCK_HOLDER.at 0) = regAddr pg 0x028 := rfl
      rw [f, e]
  unfold expireGroups each
  generalize s.txn.groups = l
  induction l generalizing s with
  | nil => rfl
  | cons x l ih =>
    rw [List.foldl_cons]
    refine (ih _).trans ?_
    split
    · refine (keep _ _ _).trans ?_
      rfl
    · with_reducible rfl

theorem eff_txnBegin (pg group : Nat) (k : PageKind) (hk : pageKind pg = some k) (up : s.pathUp path pg = true) :
    exec (.txnBegin at_ path pg group) s = .next (s.left ((s.advance at_).expireGroups.txnBegin path pg (group % 256))) := by
  rw [exec_txnBegin]
  refine onBus_effect (off := 0x020) (v := 0x100 + group % 256) up hk (by decide) (header_ctl pg (by decide))
    (assigned_header k path (.inr (.inl rfl))) rfl ?_
  have hv : 0x100 + group % 256 < 2 ^ 32 := by omega
  have a : bits (0x100 + group % 256) 0 8 = group % 256 := by rw [bits_eq]; omega
  have b : bits (0x100 + group % 256) 8 2 = 1 := by rw [bits_eq]; omega
  have hl : (s.advance at_).expireGroups.lockedOut path pg = false := by
    rw [expireGroups_lock]
    exact pathUp_unlocked up
  simp only [effectWrite, txnCtl, ofNat32 hv, a, b, hl]
  rfl

theorem eff_txnCommit (pg group : Nat) (k : PageKind) (hk : pageKind pg = some k) (up : s.pathUp path pg = true) :
    exec (.txnCommit at_ path pg group) s = .next (s.left ((s.advance at_).expireGroups.txnCommit path pg (group % 256))) := by
  rw [exec_txnCommit]
  refine onBus_effect (off := 0x020) (v := 0x200 + group % 256) up hk (by decide) (header_ctl pg (by decide))
    (assigned_header k path (.inr (.inl rfl))) rfl ?_
  have hv : 0x200 + group % 256 < 2 ^ 32 := by omega
  have a : bits (0x200 + group % 256) 0 8 = group % 256 := by rw [bits_eq]; omega
  have b : bits (0x200 + group % 256) 8 2 = 2 := by rw [bits_eq]; omega
  have hl : (s.advance at_).expireGroups.lockedOut path pg = false := by
    rw [expireGroups_lock]
    exact pathUp_unlocked up
  simp only [effectWrite, txnCtl, ofNat32 hv, a, b, hl]
  rfl

theorem eff_txnAbort (pg group : Nat) (k : PageKind) (hk : pageKind pg = some k) (up : s.pathUp path pg = true) :
    exec (.txnAbort at_ path pg group) s = .next (s.left ((s.advance at_).expireGroups.txnAbort path pg (group % 256))) := by
  rw [exec_txnAbort]
  refine onBus_effect (off := 0x020) (v := 0x300 + group % 256) up hk (by decide) (header_ctl pg (by decide))
    (assigned_header k path (.inr (.inl rfl))) rfl ?_
  have hv : 0x300 + group % 256 < 2 ^ 32 := by omega
  have a : bits (0x300 + group % 256) 0 8 = group % 256 := by rw [bits_eq]; omega
  have b : bits (0x300 + group % 256) 8 2 = 3 := by rw [bits_eq]; omega
  have hl : (s.advance at_).expireGroups.lockedOut path pg = false := by
    rw [expireGroups_lock]
    exact pathUp_unlocked up
  simp only [effectWrite, txnCtl, ofNat32 hv, a, b, hl]
  rfl

end Sys2Proof.Machine
end

