-- ==== Sys2Proof/Tests/Slice0.lean ====
section
/-! SUPPORT. Tests: ill-formed commands, a witness for the hypotheses of each obligation's clauses, and results worked out by hand from the
spec's rules. -/

set_option maxRecDepth 100000
set_option Elab.async false

open Sys2Proof Sys2Proof.Machine Sys2Proof.Machine.State

namespace Sys2Proof.Tests

/-! ### Small states -/

/-- The module after the release of reset. -/
def up : State := { State.reset with boot := { State.reset.boot with held := false, begun := true } }

/-- With the clear codes of power-on over. -/
def run : State := { up with conv := { up.conv with clrPower := false } }

/-- A page in a state. -/
def pageAt (s : State) (pg st : Nat) : State := s.wr pg Reg.HDR.STATE_ST st
def on (s : State) (pg : Nat) : State := pageAt s pg 2

/-- `n` bytes, zero but for fields at an offset, of a length, with a value. -/
def fields (n : Nat) (l : List (Nat × Nat × Nat)) : List Byte :=
  l.foldl (fun bs e => bs.take e.1 ++ bytesOf e.2.1 e.2.2 ++ bs.drop (e.1 + e.2.1)) (List.replicate n 0)

/-- Bytes placed in memory. -/
def placed (s : State) (k : Nat) (bs : List Byte) : State :=
  { s with mem := bs.zipIdx.foldl (fun m e => sparsePut (fun _ => (0 : Byte)) m (k + e.2) e.1) s.mem }

/-- Time passed since the release of reset, in ns. -/
def later (s : State) (n : Nat) : State := { s with tick := { s.tick with elapsed := n } }
def atTick (s : State) (n : Nat) : State := { s with tick := { s.tick with number := n } }

/-- A command answers a next state of which a property holds. -/
def after (c : Instr) (s : State) (p : State → Bool) : Bool :=
  match Machine.exec c s with
  | .next t => p t
  | _ => false

/-! ### Ill-formed commands, one for each check -/

theorem test_ill_formed_module : ([.tickBoundary (2 ^ 32), .lockWrite 0 3 1 (2 ^ 32), .softReset 0 3 65536, .txnBegin 0 0 1 5, .txnBegin 0 4 1 5,
    .txnBegin 0 3 3 5, .txnBegin 0 3 1 256, .claim 0 52, .complete 0 3 64 1024, .resetRelease 0 8 true 0 0 0 0 false false false 0 0 0,
    .resetRelease 0 0 true 16 0 0 0 false false false 0 0 0] : List Instr).all (fun c => !c.wellFormed) = true := by decide +kernel

theorem test_ill_formed_data : ([.planeLoad 0 832, .loUnlock 0 3 130 0, .headDoorbell 0 3 4096 0, .transferIssue 0 16, .rearm 0 3 5 0 256,
    .barCfgWrite 0 3 4 0 0, .barCfgWrite 0 3 0 16 0, .trimDataWrite 0 3 52 0, .rowsumBuild 0 (2 ^ 48), .patrolScrub 0 12 [],
    .cisternAccess 0 ⟨0, 0, 0⟩ 3 false [] 0 0 0 0 false false true, .moonPassWrite 0 832, .seqSlotTimeout 0 256 0] : List Instr).all
      (fun c => !c.wellFormed) = true := by decide +kernel

theorem test_ill_formed_light : ([.cmdPrewarm 0 3 6, .monitorRead 0 4 0 0 0 0, .aprClose 0 32, .laneTrained 0 0 16, .ctrlSendStop 0 3 8 0,
    .watchdogMiss 0 5, .sensorRestored 0 2560, .throttleRise 0 17] : List Instr).all (fun c => !c.wellFormed) = true := by decide +kernel

/-- A message of class 4, an epoch beyond 32 bits, and a period below 25 µs. -/
def badClass : Msg := { op := 1, cls := 4, src := 0, dst := 0 }
def goodMsg : Msg := { op := 9, subop := 5, cls := 3, src := 0, dst := 0 }
def hdr : LinkHdr := { crcOk := true, space := 0, seq := 0, ackD := none, ackC := none, credit := [] }
def hdrC : LinkHdr := { hdr with space := 1 }

theorem test_ill_formed_ports : ([.holadeWrite 0 3 hdr badClass, .memberEpoch 0 3 hdr goodMsg (2 ^ 32) 0 100 [] [],
    .memberEpoch 0 3 hdr goodMsg 1 0 24 [] [], .replayTimeout 0 3 2, .frameStart 0 8 0 0 {}, .phyLock 0 0 4096, .rawLine 0 0 0 0x2D [] {},
    .hclaim 0 2 64, .entdaa 0 0 128 true] : List Instr).all (fun c => !c.wellFormed) = true := by decide +kernel

/-- R470, R503: a payload longer than memory holds is refused whatever its bytes. -/
theorem test_ill_formed_payload (l : List Byte) (h : 2 ^ 30 < l.length) : Instr.wellFormed (.requestDescriptor 0 0 0 l {}) = false := by
  have : okBytes l = false := by simp [okBytes]; omega
  simp [Instr.wellFormed, this]

/-- A well-formed command of each shape of operand. -/
theorem test_well_formed : ([.tickBoundary 0, .txnBegin 0 3 0x43F 255, .claim 0 97, .planeLoad 0 831, .headDoorbell 0 1 4095 65535,
    .memberEpoch 0 3 hdr goodMsg 1 0 25 [] [], .rawLine 0 7 15 0x2E [] {}, .entdaa 0 1 127 true] : List Instr).all
      (fun c => c.wellFormed) = true := by decide +kernel

/-! ### Witnesses: the module, registers, transactions -/

theorem witness_steps : up.pending = [] ∧ failSafe up = true ∧ modesAgree up = true ∧
    Machine.step up = .next up := ⟨rfl, by decide +kernel, by decide +kernel, rfl⟩

theorem witness_stopped_clocks : ({ up with boot := { up.boot with held := true } } : State).boot.held = true ∧ actsInReset (.claim 0 64) = false ∧
    ({ up with therm := { up.therm with shutdown := true } } : State).boot.held = false ∧ actsInShutdown (.planeLoad 0 3) = false := by decide +kernel

theorem witness_unmapped_write : up.boot.held = false ∧ up.pathRuns 3 = true ∧ pageKind 7 = none ∧ 0x2001 % 4 ≠ 0 ∧
    ctlAt 0x2FF0 = none ∧ pageKind 2 = some .evt ∧ assigned .evt 0xFF0 = false := by decide +kernel

def locked1 : State := up.wr 2 Reg.HDR.LOCK_HOLDER 1
def locked3 : State := up.wr 2 Reg.HDR.LOCK_HOLDER 3

theorem witness_locked_write : locked1.boot.held = false ∧ locked1.pathRuns 3 = true ∧ locked1.lockedOut 3 2 = true ∧
    pageKind 2 = some .evt ∧ ctlAt (2 * 0x1000 + 4) = none ∧ assigned .evt 4 = true ∧ otherWindow .evt 3 4 = false := by decide +kernel

theorem witness_plain_write : up.pathUp 3 2 = true ∧ pageKind 2 = some .evt ∧ ctlAt (2 * 0x1000 + 0x14) = none ∧ assigned .evt 0x14 = true ∧
    otherWindow .evt 3 0x14 = false ∧ ((up.advance 7).effectWrite 3 .evt 2 0x14 (BitVec.ofNat 32 5)).isNone = true ∧
    accMask .evt .rws 0x14 = 0 ∧ regAddr 2 0x14 ∉ followers := by decide +kernel

theorem witness_lock_commands : up.boot.held = false ∧ up.pathRuns 3 = true ∧ up.holder 2 = 0 ∧ up.holder pgSYS = 0 ∧ locked3.holder 2 = 3 ∧
    locked1.holder 2 = 1 := by decide +kernel

def grp : TxnGroup := ⟨5, 3, [2], 0, 100, none, 0⟩
def opened : State := { up with txn := { up.txn with groups := [grp], shadow := [(0x2004, 1)] } }

theorem witness_begin : up.pathUp 3 2 = true ∧ (∀ x ∈ up.txn.groups, up.overdue x = false) ∧ up.groupOf 2 = none ∧
    up.groupById 1 = none ∧ up.groupById 255 = none := by decide +kernel

theorem witness_group_commands : opened.pathUp 3 2 = true ∧ opened.pathUp 1 2 = true ∧ (∀ y ∈ opened.txn.groups, opened.overdue y = false) ∧
    opened.groupById 5 = some grp ∧ grp.pages.contains 2 = true ∧ grp.owner = 3 ∧ grp.commit = none := by decide +kernel

theorem witness_timeout : (atTick opened 100).coreUp = true ∧ (atTick opened 100).groupById 5 = some grp ∧
    grp.opened + grp.timeout ≤ (atTick opened 100).tick.number := by decide +kernel

def grpC : TxnGroup := { grp with commit := some ⟨0, 5⟩ }
def committed : State := { up with txn := { up.txn with groups := [grpC] } }

theorem witness_refused_groups : opened.groupOf 2 = some grp ∧ grp.id ≠ 6 ∧ opened.foreign 3 6 = false ∧ opened.foreign 3 5 = false ∧
    opened.groupOf 1 = none ∧ opened.groupById 6 = none ∧ grp.pages.contains 1 = false ∧ (pageKind 1).isSome = true ∧
    committed.groupOf 1 = none ∧ committed.groupById 5 = some grpC ∧ grpC.owner = 3 ∧ grpC.commit.isSome = true ∧
    grpC.pages.contains 2 = true ∧ (∀ y ∈ committed.txn.groups, committed.overdue y = false) := by decide +kernel

/-! ### Witnesses: events, module control, windows and pins -/

theorem witness_evt_set : up.pathUp 3 2 = true ∧ pageKind 2 = some .evt := by decide +kernel

/-- Source 255, a software source of controller 0, pends: enabled and on the module's side, or enabled and on the host's. -/
def pend : State := { (up.setWord (ctlBase 0 + 0x20 + 4 * (8 + 7)) 0x80000000) with evt := { up.evt with edges := [(0, 255)] } }
def hpend : State := pend.setWord (ctlBase 0 + 0x20 + 4 * (16 + 7)) 0x80000000

/-- With the one source enabled, and it claimable, a claim takes it. -/
theorem best_of_one (s : State) (host : Bool) (h : ∀ id ∈ List.range 256, s.srcEnabled 0 id = (id == 255))
    (k : s.claimable 0 255 host = true) : s.bestSource 0 host = some 255 := by
  have e : (List.range 256).filter (fun id => s.claimable 0 id host) = (List.range 256).filter fun id => id == 255 := by
    refine List.filter_congr fun id hid => ?_
    by_cases e : id = 255
    · subst e; simp [k]
    · have e' : (id == 255) = false := by simp [e]
      simp [claimable, h id hid, e']
  have f : (List.range 256).filter (fun id => id == 255) = [255] := by decide +kernel
  simp only [bestSource, ctlSources]
  simp [e, f, betterSource]

theorem witness_claim : pend.boot.held = false ∧ isController 0 = true ∧ pend.pathRuns 3 = true ∧ pend.bestSource 0 false = some 255 :=
  ⟨by decide, by decide, by decide, best_of_one _ _ (by decide +kernel) (by decide +kernel)⟩

theorem witness_hclaim : hpend.pathRuns 2 = true ∧ hpend.bestSource 0 true = some 255 :=
  ⟨by decide, best_of_one _ _ (by decide +kernel) (by decide +kernel)⟩

theorem witness_nothing_to_claim (host : Bool) : up.bestSource 0 host = none := by
  have h : ∀ id ∈ List.range 256, up.srcEnabled 0 id = false := by decide +kernel
  have e : (List.range 256).filter (fun id => up.claimable 0 id host) = [] :=
    List.filter_eq_nil_iff.2 fun id hid => by simp [claimable, h id hid]
  simp only [bestSource, ctlSources]
  simp [e]

def inSvc : State := { up with evt := { up.evt with inService := [⟨64, 992, false, 3⟩, ⟨64, 993, true, 3⟩] } }

theorem witness_complete : (∃ e ∈ inSvc.evt.inService, e.serves 64 992 false = true) ∧ (∃ e ∈ inSvc.evt.inService, e.serves 64 993 true = true) ∧
    (∀ e ∈ inSvc.evt.inService, e.serves 64 993 false = false) ∧ ∀ e ∈ inSvc.evt.inService, e.serves 64 992 true = false := by decide +kernel

theorem witness_swset : isSoftware 64 992 = true ∧ isSoftware 64 5 = false := by decide +kernel

def ibiReq : IbiReq := ⟨1, 64, 992, 3, ⟨0, 0⟩⟩
def ibiUp : State :=
  { ((up.wr pgSYS Reg.SYS.I3C_STAT_DA_VALID 1 1).wr pgSYS Reg.SYS.I3C_STAT_ENINT 1 1) with evt := { up.evt with ibi1 := [ibiReq] } }

theorem witness_ibi : ibiUp.boot.held = false ∧ (ibiUp.advance 7).portReady 1 = true ∧ ibiUp.hasDa 1 = true ∧
    ibiUp.flag pgSYS Reg.SYS.I3C_STAT_ENINT 1 = true ∧ ibiNext ibiUp.evt.ibi1 = some ibiReq := by decide +kernel

def cleared : State := { up with conv := { up.conv with clrSoft := true } }

theorem witness_module_control : up.pathUp 3 pgSYS = true ∧ cleared.pathUp 3 pgSYS = true ∧ up.conv.clrSoft = false ∧
    up.boot.writing.isNone = true := by decide +kernel

/-- A window of I3C port 1 on free hub SRAM. -/
def hub : Nat := hubBase + 0x400000
def window : State := (up.wr pgSYS Reg.SYS.HMEM_ADDR_LO_ADDR (hub % 2 ^ 32 / 64) 1).wr pgSYS Reg.SYS.HMEM_ADDR_HI_ADDR (hub / 2 ^ 32) 1

theorem witness_window : up.pathUp 2 pgSYS = true ∧ window.pathUp 2 pgSYS = true ∧ window.winServed (window.winAddr 1 + 4 * 15) = true ∧
    window.winServed (window.winAddr 1) = true ∧ up.winServed (up.winAddr 1) = false := by decide +kernel

def pinned : State := { (up.wr pgSYS Reg.SYS.MODULE_STATE_MS 4) with
  pins := { up.pins with optoffN := false, clrN := false }, fault := { up.fault with safeHard := true } }

def softPinned : State := { pinned with fault := { pinned.fault with safeHard := false } }

theorem witness_pins_left : softPinned.pins.optoffN = false ∧ softPinned.fault.safeHard = false ∧
    softPinned.rd pgSYS Reg.SYS.MODULE_STATE_MS = 4 ∧ ({ pinned with boot := { pinned.boot with held := true } } : State).boot.held = true := by
  decide +kernel

theorem witness_pins : up.boot.held = false ∧ up.pins.clrN = true ∧ up.pins.optoffN = true ∧ pinned.boot.held = false ∧
    pinned.pins.clrN = false ∧ pinned.pins.optoffN = false ∧ pinned.fault.safeHard = true ∧ pinned.rd pgSYS Reg.SYS.MODULE_STATE_MS = 4 := by
  decide +kernel

/-! ### Witnesses: wells -/

def pool3 : Nat := poolBase + 3 * 2 ^ 20
def pdesc : List Byte := fields 64
  [(2, 1, 1), (4, 2, 1), (6, 2, 1), (8, 6, pool3 + 0x1000), (14, 1, 9), (15, 1, 9), (16, 6, pool3 + 0x2000), (24, 6, pool3 + 0x3000)]
def pass : PassRun := { slot := 0, desc := pdesc, st := 2, tick := 0, wbits := 4 }
def well3 (x : Well) : State := (on run (pgWell 3)).setWell 3 x
def tileQ : StagedTile := ⟨0, 9, 0, 0, 1, [1, 1], false, none⟩
def scaleQ : ScaleItem := ⟨0, 1, 9, 4, 0, 1, [0, 0], false⟩
def loadable : State := well3 { passes := [pass], staged := [tileQ], scales := [scaleQ] }

theorem witness_plane_load : loadable.coreUp = true ∧ (loadable.advance 7).nextLoad 3 = some (pass, tileQ) ∧
    State.scaleItem (loadable.well 3) pass.desc 1 = (some scaleQ, none) ∧ State.tagMatches pass.wbits scaleQ tileQ = true ∧ Pd.xzp pass.desc = false ∧
    (well3 {}).nextLoad 3 = none := by decide +kernel

def tile2 : StagedTile := { tileQ with tid := 8 }
def recordQ : ScaleItem := { scaleQ with kind := 0 }
def xdesc : List Byte := fields 64 [(2, 1, 1), (4, 2, 1), (6, 2, 1), (60, 1, 255), (3, 1, 255)]

/-- A scale item that is not there yet, a record in its place, and one that does not pair. -/
theorem witness_plane_waits : State.scaleItem (well3 { passes := [pass], staged := [tileQ] } |>.well 3) pass.desc 1 = (none, none) ∧
    State.scaleItem (well3 { passes := [pass], staged := [tileQ], scales := [recordQ] } |>.well 3) pass.desc 1 = (none, some recordQ) ∧
    State.tagMatches pass.wbits scaleQ tile2 = false ∧ State.tagMatches pass.wbits { scaleQ with kind := 2 } tileQ = true := by decide +kernel

def loading : State := well3 { planeA := { st := .active }, planeB := { st := .loading, pass := 0, tile := 0 }, passes := [pass], staged := [tileQ] }

theorem witness_plane_ready : loading.coreUp = true ∧ loading.idlePlane 3 = true ∧ ((loading.well 3).plane true).st = .loading ∧
    (loading.well 3).passes.find? (fun p => p.slot = ((loading.well 3).plane true).pass) = some pass ∧
    (loading.well 3).staged.find? (fun t => t.queue = Pd.wq pass.desc) = some tileQ ∧ tileQ.skewed = none := by decide +kernel

theorem witness_no_plane : ((well3 {}).well 3).plane ((well3 {}).idlePlane 3) = {} ∧ ({ tileQ with skewed := some (1, 2, 3, 4) } : StagedTile).skewed =
    some (1, 2, 3, 4) := by decide +kernel

def swappable : State := well3 { planeB := { st := .ready, rows := [[5]] }, planeA := { st := .active } }

theorem witness_swap : swappable.coreUp = true ∧ swappable.maySwap 3 = true ∧ swappable.readyGroup 3 = 0 := by decide +kernel

/-- Group 9, through queue 5: wells 3 and 4. -/
def gdesc : List Byte := fields 64 [(4, 2, 1), (6, 2, 1), (46, 2, 5), (56, 1, 9)]
def gwell : Well := { planeB := { st := .ready, pass := 0 }, planeA := { st := .active }, passes := [{ pass with desc := gdesc }] }
def grouped : State :=
  ((((((on (on run (pgWell 3)) (pgWell 4)).setWell 3 gwell).setWell 4 gwell).wr (pgPumpq 5) Reg.PUMPQ.TGT_CFG_COUNT 2).wr (pgPumpq 5)
    Reg.PUMPQ.TGT_CFG_GROUP 9)).setWord (regAddr (pgPumpq 5) 0x064) (BitVec.ofNat 32 (0x4003 + 0x4004 * 65536))
def halfGroup : State := grouped.setWell 4 { gwell with tileDone := false }

theorem witness_group_swap : grouped.coreUp = true ∧ grouped.readyGroup 3 = 9 ∧ grouped.groupMembers 3 = [3, 4] ∧
    (∀ w ∈ grouped.groupMembers 3, grouped.maySwap w = true ∧ grouped.readyGroup w = 9) ∧
    (∀ w ∈ grouped.wells.map (·.1), grouped.readyGroup w = 9 → grouped.groupMembers w = grouped.groupMembers 3) ∧
    (∀ w ∈ halfGroup.wells.map (·.1), halfGroup.readyGroup w = 9 →
      ∃ m ∈ halfGroup.groupMembers w, halfGroup.maySwap m = false ∨ halfGroup.readyGroup m ≠ 9) := by decide +kernel

theorem witness_no_swap : (well3 {}).maySwap 3 = false ∧ grouped.readyGroup 3 ≠ 0 := by decide +kernel

def lit3 : State := (well3 { planeA := { st := .active, since := 0 } }).wr (pgWell 3) Reg.WELL.OPT_CTL_REFRESH_EN 1
def refreshing : State := well3 { planeA := { st := .refreshing, since := 0 } }

theorem witness_refresh : lit3.coreUp = true ∧ (lit3.well 3).activeB = false ∧ ((lit3.well 3).plane false).st = .active ∧
    lit3.flag (pgWell 3) Reg.WELL.OPT_CTL_REFRESH_EN = true ∧ ((lit3.well 3).plane true).st = .empty ∧
    0 + 40000 ≤ (lit3.advance 90000).symbolNow 3 ∧ (lit3.advance 90000).loadPossible 3 = false ∧ ((refreshing.well 3).plane false).st = .refreshing := by decide +kernel

theorem witness_no_refresh : ((well3 {}).well 3).planeA.st ≠ .active ∧ ((well3 {}).well 3).planeA.st ≠ .refreshing := by decide +kernel

theorem witness_lo : run.coreUp = true ∧ 831 < 832 ∧ 255 < 256 ∧ 500 < 501 ∧ 200 ≤ 200 := by decide +kernel

def solvable : PilotSums := { sII := 2 ^ 40, sQQ := 2 ^ 40, sIQ := 0, sYI := 2 ^ 40, sYQ := 0, count := 1 }
def pilot : State := (well3 { pilotDone := [solvable] }).wr (pgWell 3) Reg.WELL.OPT_CTL_PILOT_TRACK 0

theorem witness_pilot_skip : (well3 { pilotDone := [{}] }).coreUp = true ∧
    (State.pilotSolve {} ((well3 { pilotDone := [{}] }).well 3).phiRef ((well3 { pilotDone := [{}] }).well 3).gRef).isNone = true := by decide +kernel

theorem witness_pilot : (State.pilotSolve solvable (pilot.well 3).phiRef (pilot.well 3).gRef).isSome = true ∧
    pilot.flag (pgWell 3) Reg.WELL.OPT_CTL_PILOT_TRACK = false ∧
    (State.pilotSolve solvable (pilot.well 3).phiRef (pilot.well 3).gRef).all (fun r => !State.pilotExceeds r.1 r.2.1
      (pilot.rd (pgWell 3) Reg.WELL.PILOT_CTL_PHASE_THR) (pilot.rd (pgWell 3) Reg.WELL.PILOT_CTL_GAIN_THR)) = true := by decide +kernel

theorem witness_pilot_beyond : (State.pilotSolve solvable 0x3F800000 (pilot.well 3).gRef).all (fun r =>
      State.pilotExceeds r.1 r.2.1 0 0) = true ∧
    ((well3 {}).well 3).pilotDone = [] := by decide +kernel

def qfit : State := ((well3 {}).wr (pgWell 3) Reg.WELL.QFIT_CTL_EN 1).wr (pgWell 3) Reg.WELL.QFIT_CTL_WIN_TICKS 1

theorem witness_qfit : qfit.coreUp = true ∧ qfit.isOn (pgWell 3) = true ∧ qfit.flag (pgWell 3) Reg.WELL.QFIT_CTL_EN = true ∧
    (qfit.tick.number + 1) % qfit.rd (pgWell 3) Reg.WELL.QFIT_CTL_WIN_TICKS = 0 ∧ (qfit.well 3).qfitWait = false ∧
    (qfit.well 3).qfitDone ≠ qfit.tick.number + 1 ∧
    qfitEvaluated (qfit.well 3).qfit.samples (qfit.rd (pgWell 3) Reg.WELL.QFIT_CTL_MIN_LOG2) = false ∧
    qfitEvaluated (qfit.well 3).qfit.outputs (qfit.rd (pgWell 3) Reg.WELL.QFIT_CTL_MIN_LOG2) = false := by decide +kernel

theorem witness_no_qfit : (qfit.wr (pgWell 3) Reg.WELL.QFIT_CTL_EN 0).flag (pgWell 3) Reg.WELL.QFIT_CTL_EN = false := by decide +kernel

def ringed : State := (well3 {}).wr (pgWell 3) Reg.WELL.PASSQ_HEAD_INDEX 1
def queued : State := placed ringed (ringed.passKey 3 0) pdesc

theorem witness_setup : queued.coreUp = true ∧ queued.bytesAt (queued.passKey 3 0) 64 = pdesc ∧ queued.mayEnter 3 pdesc = true ∧
    queued.refuseReason 3 pdesc = 0 := by decide +kernel

theorem witness_setup_refused : ringed.mayEnter 3 (ringed.bytesAt (ringed.passKey 3 0) 64) = true ∧
    ringed.refuseReason 3 (ringed.bytesAt (ringed.passKey 3 0) 64) = 1 := by decide +kernel

def runnable : State := well3 { planeA := { st := .active, rows := [[1]], rho := [0] }, passes := [pass], tileDone := false }

theorem witness_pass_run : runnable.coreUp = true ∧ runnable.runs (pgWell 3) = true ∧ runnable.clearActive = false ∧
    (runnable.readyTile 3).isSome = true := by decide +kernel

theorem witness_pass_ends : ((well3 { passes := [{ pass with tile := 1 }] }).well 3).passes.find?
      (fun p => p.st = 2 ∧ p.tile = Pd.kt p.desc) = some { pass with tile := 1 } ∧
    ((well3 { passes := [{ pass with st := 3 }] }).well 3).passes = [{ pass with st := 3 }] := by decide +kernel

/-- A vector-only pass in SETUP, no pass at all, and the oldest pass not in EPILOGUE. -/
theorem witness_pass_otherwise : ((well3 { passes := [{ pass with st := 1 }] }).readyTile 3).isNone = true ∧
    ((well3 { passes := [{ pass with st := 1 }] }).well 3).passes.find? (fun p => p.st = 1) = some { pass with st := 1 } ∧
    (well3 {}).readyTile 3 = none ∧ ((well3 {}).well 3).passes = [] ∧ (run.runs (pgWell 3)) = false ∧
    (∀ p ∈ ((well3 { passes := [pass] }).well 3).passes.head?, p.st ≠ 3) ∧
    (well3 {}).mayEnter 3 ((well3 {}).bytesAt ((well3 {}).passKey 3 0) 64) = false := by decide +kernel

/-! ### Witnesses: queues, barriers and registers of units -/

def queueOn : State := on run (pgPumpq 5)
def running (e : Exec) (st : Nat) : State :=
  (queueOn.onQueue 5 fun x => { x with exec := some e }).wr (pgPumpq 5) Reg.PUMPQ.Q_STAT_QST st
def qdesc (op : Nat) : List Byte := fields 64 [(0, 1, op), (1, 1, 8), (4, 4, 64), (8, 6, poolBase), (14, 6, poolBase + 0x1000), (28, 2, 1)]
def exc (op : Nat) : Exec := { slot := 0, desc := qdesc op }

theorem witness_queue_waits : (queueOn.exec? 5).isNone = true ∧ (running (exc 1) 3).qst 5 ≠ 2 ∧ (running (exc 1) 3).exec? 5 = some (exc 1) ∧
    (exc 1).more = true ∧ ({ exc 1 with issued := 1 } : Exec).more = false := by decide +kernel

theorem witness_fetch_and_issue : run.pathUp 3 (pgPumpq 5) = true ∧ (running (exc 1) 2).coreUp = true ∧
    (running (exc 1) 2).exec? 5 = some (exc 1) ∧ (running (exc 1) 2).qst 5 = 2 ∧ (running (exc 1) 2).isOn (pgPumpq 5) = true ∧
    ((running (exc 1) 2).advance 7).mayIssue (exc 1).desc = true ∧ ¬(Qd.op (exc 1).desc = 1 ∧ Qd.len (exc 1).desc = 0) := by decide +kernel

def credited : State :=
  (((running (exc 1) 3).wr (pgPumpq 5) Reg.PUMPQ.SCHED_OUTSTANDING 4).wr (pgPumpq 5) Reg.PUMPQ.CREDIT_MAX 64).wr (pgPumpq 5)
    Reg.PUMPQ.SCHED_WEIGHT 1

theorem witness_transfer : credited.coreUp = true ∧ (((credited.advance 7).askAll [5]).arbitrate 0).map (·.1) = some 5 ∧
    (credited.pump.queues.map (·.1)).filter (fun q => q / 256 == 0) = [5] ∧ (((credited.advance 7).askAll [5]).issuable 5).isSome = true ∧ credited.exec? 5 = some (exc 1) := by decide +kernel

def flight : Transfer := { bytes := 64, dests := [] }
def inFlight : State := (running { exc 1 with issued := 2 } 4).onQueue 5 fun x => { x with inflight := [flight, flight] }

theorem witness_no_transfer : queueOn.pump.queues.map (·.1) = [] ∧ (queueOn.arbitrate 0).isNone = true ∧
    ((credited.queue 5).inflight.isEmpty) = true ∧ credited.unanswered flight = false ∧ credited.awaitsBuild (exc 1).desc = false := by
  decide +kernel

theorem witness_acknowledge : inFlight.coreUp = true ∧ (inFlight.queue 5).inflight = [flight, flight] ∧
    inFlight.exec? 5 = some { exc 1 with issued := 2 } := by decide +kernel

def buffered (op : Nat) : State :=
  (((running (exc op) 3).wr (pgPumpq 5) Reg.PUMPQ.SCHED_OUTSTANDING 4).wr (pgPumpq 5) Reg.PUMPQ.CREDIT_MAX 64)

theorem witness_data_commands : (∀ k ∈ [1, 2, 3, 4, 5, 6, 7, 8], (buffered k).coreUp = true ∧ (buffered k).exec? 5 = some (exc k) ∧
    Qd.op (exc k).desc = k) ∧ (((buffered 1).advance 7).askAll [5]).issuable 5 = some 64 ∧
    ((((buffered 1).advance 7).askAll [5]).startFault 5 (exc 1)).2 < 3 ∧ (((running (exc 1) 2).advance 7).askAll [5]).issuable 5 = none := by
  decide +kernel

def slotKey : Nat := hub + 64 * 2
def rearmable : State :=
  placed ((credited.wr (pgPumpq 5) Reg.PUMPQ.RING_BASE_LO_ADDR (hub % 2 ^ 32 / 4096)).wr (pgPumpq 5) Reg.PUMPQ.RING_BASE_HI_ADDR (hub / 2 ^ 32))
    slotKey (fields 64 [(2, 1, 7)])

theorem witness_rearm : rearmable.pathUp 3 (pgPumpq 5) = true ∧ rearmable.ringSize 5 ≤ 60000 ∧ 2 < rearmable.ringSize 5 ∧
    rearmable.qst 5 = 3 ∧ rearmable.isOn (pgPumpq 5) = true ∧ rearmable.slotDark 5 2 = false ∧ (rearmable.queue 5).skew = false ∧
    ((rearmable.advance 7).readSlot 5 2).2.1 = 0 ∧ Qd.gen ((rearmable.advance 7).readSlot 5 2).2.2 = 7 ∧
    (((rearmable.advance 7).readSlot 5 2).1.exec? 5).isSome = true ∧ (((rearmable.advance 7).readSlot 5 2).1.queue 5).shadow = none := by
  decide +kernel

theorem witness_rearm_rejected : (rearmable.setQst 5 .halted).qst 5 = 5 ∧ (run.isOn (pgPumpq 5)) = false ∧
    ¬(rearmable.ringSize 5 < rearmable.ringSize 5) ∧ Qd.gen ((rearmable.advance 7).readSlot 5 2).2.2 ≠ 8 ∧
    ((rearmable.onQueue 5 fun x => { x with shadow := some (2, qdesc 1) }).queue 5).shadow.isSome = true ∧
    ((queueOn.advance 7).readSlot 5 2).1.exec? 5 = none ∧ ((queueOn.advance 7).readSlot 5 2).1.head 5 = ((queueOn.advance 7).readSlot 5 2).1.tail 5 ∧
    ({ rearmable.queue 5 with skew := true } : Queue).skew = true := by decide +kernel

def counted3 : State := run.wr (pgWdie 2) Reg.WDIE.BAR_STAT_COUNT 3 15

theorem witness_barrier : run.pathUp 3 (pgWdie 2) = true ∧ run.rd (pgWdie 2) Reg.WDIE.BAR_STAT_COUNT 15 < 65535 ∧ 0 < 3 ∧
    3 ≤ counted3.rd (pgWdie 2) Reg.WDIE.BAR_STAT_COUNT 15 := by decide +kernel

def mapped32 : State := { run with cal := { run.cal with map := [32] } }

theorem witness_unit_registers : run.pathUp 3 (pgWell 831) = true ∧ run.pathUp 3 (pgCluster 2) = true ∧
    (trimWidth (run.trimSel 2).2).isSome = true ∧ run.logicalOf (run.trimSel 2).1 = none ∧
    (mapped32.logicalOf (mapped32.trimSel 2).1).isSome = true := by decide +kernel

/-! ### Witnesses: cisterns -/

def cisterns : State := (List.range 12).foldl (fun s c => on s (pgCistern c)) run
def cisKey : Nat := match cisterns.resolve cisterns.mapNow 8192 with
  | .mem key => key
  | _ => 0
def cisNo : Nat := match unitOf cisKey with
  | .cistern c => c
  | _ => 99

theorem witness_cistern_access : cisterns.coreUp = true ∧ cisterns.resolve cisterns.mapNow 8192 = .mem cisKey ∧
    unitOf cisKey = .cistern cisNo ∧ cisNo < 12 ∧ cisterns.linkLit 3 = false ∧
    ({ cisterns.setCs 5 3 with light := { (cisterns.setCs 5 3).light with feed := [0, 0, 0, 5] } } : State).linkLit 3 = true ∧
    ({ cisterns.cist with eccBad := [cisKey / 4096] } : CisternUnit).eccBad.contains (cisKey / 4096) = true ∧
    cisterns.cist.eccBad.contains (cisKey / 4096) = false ∧ ([1] : List Byte).length ≠ 4096 := by decide +kernel

def scrubbing : State := cisterns.wr (pgCistern 11) Reg.CISTERN.SCRUB_EN 1

theorem witness_scrub : scrubbing.coreUp = true ∧ scrubbing.isOn (pgCistern 11) = true ∧
    scrubbing.flag (pgCistern 11) Reg.CISTERN.SCRUB_EN = true := by decide +kernel

theorem witness_no_scrub : run.isOn (pgCistern 11) = false ∧ (match run.resolve run.mapNow (2 ^ 45) with | .mem _ => false | _ => true) = true := by
  decide +kernel

def optWords (op : Nat) : List Byte :=
  fields 64 [(0, 1, op), (2, 1, 3), (3, 1, 12), (4, 4, 1), (8, 6, 0), (14, 6, 0x1000), (20, 6, 0x2000), (26, 6, 0x3000), (60, 4, 1)]
def optCmd (op : Nat) (done : Option Nat) : State := cisterns.setOpt 0 [⟨optWords op, done, false⟩]

theorem witness_optimiser : (optCmd 1 none).optOf 0 = [⟨optWords 1, none, false⟩] ∧ ((optCmd 1 none).advance 7).optErrorAt (optWords 1) = 0 ∧
    Oc.op (optWords 1) = 1 ∧ (optCmd 2 none).optOf 0 = [⟨optWords 2, none, false⟩] ∧ ((optCmd 2 none).advance 7).optErrorAt (optWords 2) = 0 ∧
    Oc.op (optWords 2) = 2 ∧ (optCmd 1 (some 0)).optOf 0 = [⟨optWords 1, some 0, false⟩] := by decide +kernel

theorem witness_optimiser_otherwise : run.optOf 0 = [] ∧ (optCmd 1 (some 0)).optOf 0 = [⟨optWords 1, some 0, false⟩] ∧ Oc.op (optWords 2) ≠ 1 ∧
    (run.advance 7).optErrorAt (optWords 1) ≠ 0 ∧ run.buildAsked 8192 = false ∧ run.cist.builds.contains 8192 = false := by decide +kernel

def asked : State := { placed cisterns cisKey (fields 64 [(3, 1, 2)]) with
  seals := sparsePut (fun _ => ({} : Seal)) [] (cisKey / 4096) { ({} : Seal) with fmt := 15 } }
def building : State := { asked with cist := { asked.cist with builds := [8192] } }

theorem witness_row_sums : (asked.advance 7).buildAsked 8192 = true ∧ building.cist.builds.contains 8192 = true := by decide +kernel

/-! ### Witnesses: the service, light, monitors and calibration -/

def svc (n : Nat) : State := run.wr pgBOOT Reg.BOOT.SVC_STAT_ST n

theorem witness_service : ∀ n ∈ [0, 2, 3, 4], (svc n).pathUp 3 pgBOOT = true ∧ (svc n).svcSt = n ∧ (svc n).plan.startAt = none ∧
    (svc n).plan.firstTick = none ∧ (svc n).plan.stopAt = none := by decide +kernel

def asking2 : State := { svc 2 with plan := { (svc 2).plan with startAt := some 3 } }
def stopping3 : State := { svc 3 with plan := { (svc 3).plan with stopAt := some 3 } }

theorem witness_service_again : asking2.svcSt = 2 ∧ asking2.plan.startAt.isSome = true ∧ stopping3.svcSt = 3 ∧
    stopping3.plan.stopAt.isSome = true ∧ (svc 2).svcSt ≠ 3 ∧ (svc 0).svcSt ≠ 2 ∧ (svc 3).svcSt ≠ 0 := by decide +kernel

def firstTick : State := { svc 2 with plan := { (svc 2).plan with firstTick := some 0 } }
def stopping : State := { atTick (svc 4) 5 with plan := { (svc 4).plan with stopAt := some 3 } }

theorem witness_plan : (svc 1).coreUp = true ∧ (svc 1).svcSt = 1 ∧ firstTick.svcSt = 2 ∧
    firstTick.plan.firstTick = some firstTick.tick.number ∧ firstTick.plan.programs = [] ∧ firstTick.programOrder = [] ∧
    stopping.svcSt = 4 ∧ stopping.plan.stopAt = some 3 ∧ 3 + 2 ≤ stopping.tick.number := by decide +kernel

def moon : State := { run with cal := { run.cal with map := [7, 9] }, plan := { run.plan with entries := [⟨{ prog := 0, record := 0, tick := 0, delayed := false, pass := true, at_ := 1, desc := fields 64 [(0, 1, 3)] }, 0, 0, 0⟩] } }

theorem witness_moon : moon.coreUp = true ∧ ((moon.advance 7).passWrite 1).2 = true := by decide +kernel

theorem witness_no_moon_work : (run.passWrite 1).2 = false ∧ (svc 2).plan.firstTick.isNone = true ∧ (svc 2).svcSt ≠ 4 ∧ (svc 2).svcSt ≠ 1 ∧
    moon.plan.entries.find? (fun e => e.work.at_ == 1) = moon.plan.entries.head? ∧ moon.physOf 1 = some 9 := by decide +kernel

def lit (i st : Nat) : State := run.setCs i st

theorem witness_source_commands : (lit 5 3).pathUp 3 (pgComb 5) = true ∧ ((lit 5 3).source 5).cs = 3 ∧ (run.source 5).cs ≠ 3 := by decide +kernel

def target : Int := toSigned (run.rd (pgComb 2) Reg.COMB.LOOP_TARGET) 16
def warming : State := later ((lit 2 1).onSource 2 fun x => { x with taps := [target, target + 20, target - 20], warmAt := 0 }) 3000000000
def dark5 : State := run.onWell 5 fun x => { x with darkLight := true, darkTicks := 10 }

theorem witness_source_progress : warming.coreUp = true ∧ (warming.source 2).cs = 1 ∧ (warming.source 2).heldClear = false ∧
    (warming.source 2).warmBoot = false ∧ (warming.source 2).taps ≠ [] ∧
    (∀ t ∈ (warming.source 2).taps, toSigned (warming.rd (pgComb 2) Reg.COMB.LOOP_TARGET) 16 - 20 ≤ t ∧
      t ≤ toSigned (warming.rd (pgComb 2) Reg.COMB.LOOP_TARGET) 16 + 20) ∧ (warming.source 2).warmAt + 3000000000 ≤ (warming.advance 7).ns ∧
    max (warming.source 2).warmAt (warming.source 2).offAt + 100000000 ≤ (warming.advance 7).ns ∧ (dark5.well 5).saved = false ∧
    dark5.coreUp = true ∧ (dark5.well 5).darkLight = true ∧ 10 ≤ (dark5.well 5).darkTicks ∧ dark5.lightSuspended = false ∧
    dark5.st (pgWell 5) ≠ 4 := by decide +kernel

theorem witness_source_waits : run.coreUp = true ∧ (run.source 2).cs ≠ 1 ∧ (run.well 5).darkLight = false ∧
    ((lit 2 1).onSource 2 fun x => { x with taps := [target], warmAt := 0, warmBoot := true }).source 2 =
      { (lit 2 1).source 2 with taps := [target], warmAt := 0, warmBoot := true } := by decide +kernel

def openPorts : State := { run with light := { run.light with closed := 0 } }
def closedPort : State := on run (pgHport 31)

theorem witness_shutters : openPorts.coreUp = true ∧ bitAt openPorts.light.closed 31 = false ∧ closedPort.coreUp = true ∧
    bitAt closedPort.light.closed 31 = true ∧ closedPort.isOn (pgHport 31) = true ∧ closedPort.pins.optoffN = true := by decide +kernel

/-- Whatever the monitor's gain and offset are, some reading agrees with the output and some reading misses it. -/
theorem witness_monitor (bank w win : Nat) (out : Int) :
    (∃ m, run.monPasses bank w win out m = true) ∧ ∃ m, run.monPasses bank w win out m = false := by
  constructor
  · exact ⟨_, decide_eq_true (by rw [Int.sub_self]; exact Nat.zero_le _)⟩
  · refine ⟨((Ex.ofInt (Config.monOffset bank w)).add ((⟨Config.monGain bank w * out, 65536⟩ : Ex).div
      ⟨1000000 + run.refDev Reg.CAL.REF_DEV_MON, 1000000⟩)).rna 0 + (win + 1 : Nat), decide_eq_false ?_⟩
    rw [Int.add_comm, Int.add_sub_cancel]
    simp only [Nat.not_le]
    omega

theorem witness_monitor_operands : run.coreUp = true ∧ 2 < 3 ∧ 831 < 832 ∧ 799 < State.bankChannels 2 ∧ 127 < State.bankChannels 0 ∧
    127 < State.bankChannels 1 := by decide +kernel

theorem witness_monitor_moves : (later run 1000000000).heaterMoving 831 799 = false ∧ (later run 1000000000).biasMoving 5 = false ∧ litCs (run.source 5).cs = false ∧
    litCs ((lit 5 3).source 5).cs = true ∧ run.rd pgSYS Reg.SYS.BIAS_MON_FAIL_N ≤ min 15 (14 + 1) ∧
    run.rd (pgWdie 3) Reg.WDIE.MON_CTL_FAIL_N ≤ 14 + 1 ∧ 0 + 1 < run.rd (pgWdie 3) Reg.WDIE.MON_CTL_FAIL_N ∧
    0 + 1 < run.rd pgSYS Reg.SYS.BIAS_MON_FAIL_N := by decide +kernel

theorem witness_calibration_commands : run.pathUp 3 pgCAL = true ∧ run.planRunning = false ∧ (svc 3).planRunning = true ∧ run.rd pgCAL Reg.CAL.WSEL_WELL < 832 ∧
    run.rd pgCAL Reg.CAL.CSEL_SOURCE < 6 := by decide +kernel

def late5 : State := { atTick run 10000000 with cal := { run.cal with map := [5] } }
def standIn : StandIn := { logical := 0, orig := 5, relief := 9, prep := 0, kind := 2 }
def copying : State := { late5 with cal := { late5.cal with standins := [standIn] } }

theorem witness_calibration_demands : late5.coreUp = true ∧
    (late5.wellCal 831).tick + late5.calTicks Reg.CAL.INTERVAL_MS ≤ late5.tick.number + late5.calTicks Reg.CAL.EARLY_MS ∧
    (late5.logicalOf 5).isSome = true ∧ (late5.wellCal 5).overdue = false ∧
    late5.calDue 5 + late5.calTicks Reg.CAL.OVERDUE_MS < late5.tick.number ∧
    (late5.ftRec 831).tick + late5.ftTicks Reg.TEST.FT_INTERVAL_S ≤ late5.tick.number + late5.ftTicks Reg.TEST.FT_EARLY_S ∧
    (copying.cal.standins.find? fun y => y.orig == 5 && !y.begun && !y.copied) = some standIn := by decide +kernel

theorem witness_no_demand : ¬((run.wellCal 831).tick + run.calTicks Reg.CAL.INTERVAL_MS ≤ run.tick.number + run.calTicks Reg.CAL.EARLY_MS) ∧
    run.logicalOf 5 = none ∧ ¬((run.ftRec 831).tick + run.ftTicks Reg.TEST.FT_INTERVAL_S ≤ run.tick.number + run.ftTicks Reg.TEST.FT_EARLY_S) ∧
    (run.cal.standins.find? fun y => y.orig == 5 && !y.begun && !y.copied) = none := by decide +kernel

def measuring : State := later { run with cal := { run.cal with seqs := [{ well := 5, start := 0, tick := 0 }] } } 90000
def lanes : State := on (((run.wr pgCAL Reg.CAL.ENABLES_LANE 1).wr (pgHport 31) Reg.HPORT.LINK_STAT_LANES 4).wr (pgHport 31) Reg.HPORT.LANE_UP 15
  |>.onLaneCal 31 0 fun c => { c with now := true }) pgCAL
def laneOut : State := run.onLaneCal 31 0 fun c => { c with out := true }
def comb5 : State := on (((lit 5 3).wr pgCAL Reg.CAL.ENABLES_COMB 1).onCombCal 5 fun c => { c with now := true }) pgCAL
def lines16 : List (Int × Int × Int) := List.replicate 16 (5, 100, 3)

theorem witness_calibration_steps :
    (measuring.cal.seqs.find? fun y => y.well == 5 && y.result == 0) = some { well := 5, start := 0, tick := 0 } ∧
    0 + passEndNs 1 ≤ (measuring.advance 0).ns ∧ lanes.isOn pgCAL = true ∧ lanes.flag pgCAL Reg.CAL.ENABLES_LANE = true ∧
    4 ≤ lanes.rd (pgHport 31) Reg.HPORT.LINK_STAT_LANES ∧ (∀ j, j < 16 → (lanes.laneCal 31 j).out = false) ∧
    (lanes.advance 7).laneTurn 31 = some 0 ∧ (laneOut.laneCal 31 0).out = true ∧
    State.laneWithin 31 0 [] = true ∧ 9 * 10 ≤ 10 * 9 ∧ ¬9 * 10 ≤ 10 * 8 ∧ (laneOut.laneCal 31 0).consec ≠ 2 := by decide +kernel

theorem witness_comb_recalibration : comb5.coreUp = true ∧ comb5.isOn pgCAL = true ∧ comb5.flag pgCAL Reg.CAL.ENABLES_COMB = true ∧
    (comb5.source 5).cs = 3 ∧ (comb5.combCal 5).now = true ∧ lines16.length = 16 ∧ (∀ e ∈ lines16.zipIdx,
      State.linePlausible ((comb5.combCal 5).corr.getD e.2 0) (lines16.map (·.2.1)) e.2 e.1.1 e.1.2.2 = true) := by decide +kernel

/-! ### Witnesses: field tests, safety, resets, boot and security -/

def capture : Capture := { die := 0, well := 5, kind := 1, codes := [], blocks := [], desc := [], record := [], gain := 0x3F800000, d := 0
                           symbol := 0, stamp := {} }
def session (kind : Nat) : Session := { well := 5, kind := kind, start := 0, tick := 0 }
def tested (kind n : Nat) : State :=
  later { run with integ := { run.integ with captures := [capture] }, fault := { run.fault with sessions := [session kind] } } n
def clean : SessionRun := ⟨none, false, [], [], 0, []⟩
def noLocal : State := (tested 2 1920000).wr pgTEST Reg.TEST.FT_CTL_LOCAL_EN 0

theorem witness_repeat : (tested 3 0).coreUp = true ∧ (tested 3 0).sessionOn 5 [3] = some (session 3) ∧
    ((tested 3 0).integ.captures.find? fun c => c.well == 5 && c.state == 1) = some capture := by decide +kernel

theorem witness_field_test : (tested 2 0).sessionOn 5 [1, 2] = some (session 2) ∧ ((tested 2 0).advance 7).ns < 0 + 1920000 ∧
    noLocal.sessionOn 5 [1, 2] = some (session 2) ∧ 0 + 1920000 ≤ (noLocal.advance 0).ns ∧
    noLocal.flag pgTEST Reg.TEST.FT_CTL_LOCAL_EN = false ∧ (noLocal.advance 0).sessionFailure (session 2) clean = none := by decide +kernel

def fenced0 : State := pageAt ((run.onFt 0 fun f => { f with cause := 3 }).wr pgTEST Reg.TEST.FT_CTL_RET_MAX 2) (pgWell 0) 4
def recorded : State := { run with fault := { run.fault with ring := [⟨3, 1, [1, 2, 3]⟩] } }
def package : State := { on run pgTEST with fault := { run.fault with fleetNext := [1] } }

theorem witness_test_commands : run.pathUp 3 pgTEST = true ∧ run.rd pgTEST Reg.TEST.WSEL_WELL < 832 ∧ fenced0.returnable 0 = true ∧
    (fenced0.ftRec 0).returns < fenced0.rd pgTEST Reg.TEST.FT_CTL_RET_MAX ∧ fenced0.st (pgWell 0) = 4 ∧ (on run pgTEST).isOn pgTEST = true ∧
    recorded.fault.ring = [⟨3, 1, [1, 2, 3]⟩] ∧ package.coreUp = true ∧ (package.advance 0).tick.off = 0 ∧ package.fault.fleetNext ≠ [] ∧
    package.isOn pgTEST = true := by
  decide +kernel

def missed : State := later { run with fault := { run.fault with svcMiss := some 5 } } 1000000005

theorem witness_safety : run.coreUp = true ∧ run.fault.svcMiss = none ∧ missed.fault.svcMiss = some 5 ∧
    5 + 1000000000 ≤ (missed.advance 0).ns := by decide +kernel

def power (b : Bool) : State := { run with pins := { run.pins with pwrgd := b } }
def cool : State := later { run with therm := { run.therm with coolSince := some 5, shutdown := true } } 10000000005
def held : State := { power true with boot := { run.boot with held := true } }

theorem witness_resets : run.boot.writing.isNone = true ∧ (power false).pins.pwrgd = false ∧ (power true).pins.pwrgd = true ∧
    (power true).boot.held = false ∧ cool.boot.held = false ∧ cool.therm.coolSince = some 5 ∧ cool.therm.shutdown = true ∧
    5 + 10000000000 ≤ (cool.advance 0).ns ∧ held.pins.pwrgd = true ∧ held.boot.held = true := by decide +kernel

def booted : State := { run.wr pgBOOT Reg.BOOT.BOOT_STAT_PHASE 3 with
  boot := { run.boot with ended := false, flash := { run.boot.flash with badWells := List.range 832 } } }

theorem witness_boot_ends : booted.coreUp = true ∧ (booted.advance 7).mayEndBoot = true ∧ booted.rd pgSYS Reg.SYS.MODULE_STATE_MS ≠ 4 := by
  refine ⟨by decide +kernel, ?_, by decide +kernel⟩
  have h : (booted.advance 7).boot.flash.badWells = List.range 832 := rfl
  have e : (List.range 832).filter (booted.advance 7).goodWell = [] :=
    List.filter_eq_nil_iff.2 fun w hw => by simp only [goodWell, h]; simp [List.mem_range.1 hw]
  have p : (booted.advance 7).rd pgBOOT Reg.BOOT.BOOT_STAT_PHASE = 3 := by decide +kernel
  rw [mayEndBoot, e, p]
  decide +kernel

def slow : State := later run 45000000000
def trial : State := slow.wr pgBOOT Reg.BOOT.BOOT_STAT_TRIAL 1

theorem witness_boot_late : slow.coreUp = true ∧ slow.boot.begun = true ∧ slow.boot.ended = false ∧ slow.boot.late = false ∧
    45000000000 ≤ (slow.advance 0).ns ∧ slow.flag pgBOOT Reg.BOOT.BOOT_STAT_TRIAL = false ∧
    trial.flag pgBOOT Reg.BOOT.BOOT_STAT_TRIAL = true := by decide +kernel

def phase (n : Nat) : State := run.wr pgBOOT Reg.BOOT.BOOT_STAT_PHASE n
def writing : State := { phase 4 with boot := { run.boot with writing := some (fields 64 [(8, 4, 5)]) } }
def onTrial : State := ((phase 4).wr pgBOOT Reg.BOOT.BOOT_STAT_TRIAL 1).wr pgBOOT Reg.BOOT.BOOT_STAT_SLOT 1

theorem witness_firmware : ∀ s ∈ [phase 4, phase 5, writing, onTrial], s.pathUp 3 pgBOOT = true ∧ s.therm.shutdown = false := by decide +kernel

theorem witness_firmware_states : (phase 4).rd pgBOOT Reg.BOOT.BOOT_STAT_PHASE = 4 ∧ (phase 4).boot.writing.isNone = true ∧
    (phase 4).trialRunning = false ∧ (phase 5).rd pgBOOT Reg.BOOT.BOOT_STAT_PHASE = 5 ∧ writing.boot.writing = some (fields 64 [(8, 4, 5)]) ∧
    onTrial.trialRunning = true := by decide +kernel

def request (l : List (Nat × Nat × Nat)) : State :=
  placed ((run.wr pgSEC Reg.SEC.REQ_ADDR_LO_ADDR (hub % 2 ^ 32 / 64)).wr pgSEC Reg.SEC.REQ_ADDR_HI_ADDR (hub / 2 ^ 32)) hub (fields 500 l)
def evidence : State := (request [(0, 4, 0x51414247), (4, 1, 3), (8, 3, 0x010203)]).wr pgSEC Reg.SEC.SEC_STAT_KEYS_READY 1
def serving : State := { evidence with boot := { evidence.boot with nonce := some [1] } }

theorem witness_evidence : (request []).pathUp 3 pgSEC = true ∧ fieldOf ((request []).peek (request []).reqAddr 72) 0 4 ≠ 0x51414247 ∧
    run.reqAddr = 0 ∧ State.inFreeHub 0 72 = false ∧ evidence.pathUp 3 pgSEC = true ∧ State.inFreeHub evidence.reqAddr 72 = true ∧
    fieldOf (evidence.peek evidence.reqAddr 72) 0 4 = 0x51414247 ∧ fieldOf (evidence.peek evidence.reqAddr 72) 4 1 = 3 ∧
    zeroAt (evidence.peek evidence.reqAddr 72) (8 + 3) (64 - 3) = true ∧ evidence.boot.nonce = none ∧
    evidence.flag pgSEC Reg.SEC.SEC_STAT_KEYS_READY = true ∧ serving.boot.nonce = some [1] ∧ serving.therm.shutdown = false := by decide +kernel

def ownership : State := request [(0, 4, 0x4B4F4247), (4, 1, 1), (8, 4, 7), (16, 4, 0x99)]

theorem witness_owner : ownership.pathUp 3 pgSEC = true ∧ State.inFreeHub ownership.reqAddr (452 + sigBytes) = true ∧
    ownership.reqAddr = hub ∧ fieldOf (ownership.bytesAt hub 16) 0 4 = 0x4B4F4247 ∧ fieldOf (ownership.bytesAt hub 16) 4 1 = 1 ∧
    ownership.boot.flash.ownerKey = [] ∧ ownership.boot.flash.ownerSeq < fieldOf (ownership.bytesAt hub 16) 8 4 ∧
    ownership.planRunning = false := by decide +kernel

/-! ### Witnesses: the time base, page states, temperature -/

def ticking (src : Nat) (acq : Bool) : State := { run with tick := { run.tick with src := src, acquiring := acq } }

theorem witness_boundaries : run.boot.held = false ∧ (ticking 0 false).tick.len ≤ ((ticking 0 false).advance 100000).tick.off ∧
    ((ticking 2 false).advance 99999).tick.off < (ticking 2 false).tick.len ∧
    (ticking 1 false).tick.len ≤ ((ticking 1 false).advance 100000).tick.off ∧
    2 * (ticking 1 true).tick.len - 10 ≤ ((ticking 1 true).advance 199990).tick.off ∧ run.tick.syncNumber = none := by decide +kernel

theorem witness_edges : (ticking 1 false).edgeDelay ≤ ((ticking 1 false).advance 100000).tick.off ∧
    (ticking 1 false).tick.len - 1000 ≤ ((ticking 1 false).advance 100000).tick.off - (ticking 1 false).edgeDelay ∧
    ((ticking 1 false).advance 100000).tick.off - (ticking 1 false).edgeDelay ≤ (ticking 1 false).tick.len + 1000 ∧
    ((ticking 1 false).advance 98000).tick.off - (ticking 1 false).edgeDelay < (ticking 1 false).tick.len - 1000 ∧
    (ticking 1 false).tick.len + 1000 < ((ticking 1 false).advance 102000).tick.off - (ticking 1 false).edgeDelay := by decide +kernel

theorem witness_reference_clock : (ticking 1 false).pins.refclk = true ∧ (ticking 1 false).tick.src ≠ 0 ∧ run.pins.refclk = true ∧
    run.tick.src = 0 := by decide +kernel

theorem witness_page_reports : (pageAt run pgCAL 1).st pgCAL = 1 ∧ ((pageAt run pgCAL 1).advance 7).mayStart pgCAL = true ∧
    (pageAt run pgCAL 3).st pgCAL = 3 ∧ ((pageAt run pgCAL 3).advance 7).drained pgCAL = true ∧ (pageAt run pgCAL 2).st pgCAL = 2 ∧
    ((pageAt run (pgWell 3) 3).advance 7).drained (pgWell 3) = true ∧ (pageAt run (pgWell 3) 3).st (pgWell 3) = 3 ∧
    pageKind pgCAL = some .cal ∧ PageKind.cal.alwaysOn = false ∧ (run.advance 7).startLate pgCAL = false := by
  decide +kernel

def hot (g : Nat) : State := later ((run.onGroup g fun x => { x with above := some 3, below := some 4, fast := true, level := 2 }).onSensor 9
  fun x => { x with broken := true, cause := 2, cleanSince := some 4 }) 200000000000

theorem witness_thermal : ∀ g ∈ [0, 16], (hot g).coreUp = true ∧ ((hot g).group g).above = some 3 ∧ ((hot g).group g).below = some 4 ∧
    3 + (hot g).rd pgTHERM Reg.THERM.THR_CTL_RISE_10US * 10000 ≤ ((hot g).advance 7).ns ∧
    4 + (hot g).rd pgTHERM Reg.THERM.THR_CTL_RELAX_MS * 1000000 ≤ ((hot g).advance 7).ns ∧ ((hot g).group g).fast = true ∧
    ((hot g).group g).fastAt + 10000000 ≤ ((hot g).advance 7).ns ∧ ((hot g).sensor 9).cleanSince = some 4 ∧
    ((hot g).sensor 9).broken = true ∧ 4 + 1000000000 ≤ ((hot g).advance 7).ns := by decide +kernel

theorem witness_samples : run.coreUp = true ∧ run.boot.held = false ∧ 2559 < 2560 ∧
    (10000 : Int) < run.rd pgTHERM Reg.THERM.LIMITS_CRIT_C * 100 := by decide +kernel

/-! ### Witnesses: the Holade fabric -/

def link : State := ((on cisterns (pgHport 31)).wr (pgHport 31) Reg.HPORT.LINK_STAT_LS 2).wr (pgHport 0) Reg.HPORT.FAB_STAT_RANK 5
def msg (op subop cls addr operand : Nat) : Msg :=
  { op := op, subop := subop, cls := cls, src := 7, dst := 5, addr := addr, operand := operand, payload := [1, 2, 3], tag := 9
    epoch := link.rd (pgHport 0) Reg.HPORT.EPOCH }
def linkNow : State := (link.advance 7).handled 31 hdr

def badCrc : LinkHdr := { hdr with crcOk := false }
def late : LinkHdr := { hdr with seq := 5 }

theorem witness_reception : run.runs (pgHport 31) = false ∧ (link.advance 7).runs (pgHport 31) = true ∧ 2 ≤ (link.advance 7).linkState 31 ∧
    badCrc.crcOk = false ∧ ((((link.advance 7).applyHdr 31 late).inSequence 31 late).2) = false ∧
    (((link.wr (pgHport 31) Reg.HPORT.LINK_STAT_LS 3).advance 7).handled 31 hdr).linkState 31 ≠ 2 := by decide +kernel

theorem witness_delivery : (link.advance 7).arrives 31 hdr { msg 1 0 0 4096 0 with dst := 6 } 1 = true ∧ linkNow.ownRank = 5 ∧
    ({ msg 1 0 0 4096 0 with dst := 6, ttl := 1 } : Msg).ttl ≤ 1 ∧ (1 : Nat) < ({ msg 1 0 0 4096 0 with dst := 6, ttl := 2 } : Msg).ttl := by decide +kernel

theorem witness_peer_write : (link.advance 7).arrives 31 hdr (msg 1 0 0 4096 0) 1 = true ∧ linkNow.accepts (msg 1 0 0 4096 0) = true ∧
    State.peerForbidden 4096 3 = false ∧ State.peerForbidden hubBase 3 = true := by decide +kernel

def reader : State := { link with fabric := { link.fabric with
  reads := [{ port := 31, tag := 9, queue := 5, desc := qdesc 1, off := 0, len := 3 }] } }

theorem witness_peer_read : (link.advance 7).arrives 31 hdr (msg 2 0 0 4096 100) 2 = true ∧ State.peerForbidden 4096 100 = false ∧
    linkNow.inMemory linkNow.mapNow 4096 100 = true ∧ (reader.advance 7).arrives 31 hdr (msg 3 0 0 0 0) 3 = true ∧
    ((reader.advance 7).handled 31 hdr).accepts (msg 3 0 0 0 0) = true ∧
    (((reader.advance 7).handled 31 hdr).fabric.reads.find? fun r => r.tag == 9).isSome = true := by decide +kernel

theorem witness_no_read : (linkNow.fabric.reads.find? fun r => r.tag == 9) = none ∧ linkNow.inMemory linkNow.mapNow (2 ^ 45) 100 = false ∧
    linkNow.inMemory linkNow.mapNow (Qd.dst (qdesc 1)) 3 = true := by decide +kernel

def fencing : State := { link with fabric := { link.fabric with fences := [7] } }

theorem witness_stale_and_fenced : (link.advance 7).arrives 31 hdr { msg 1 0 0 4096 0 with epoch := 77 } 1 = true ∧ linkNow.ownRank = 5 ∧
    linkNow.epochOk { msg 1 0 0 4096 0 with epoch := 77 } = false ∧ (fencing.advance 7).arrives 31 hdr (msg 1 0 0 4096 0) 1 = true ∧
    ((fencing.advance 7).handled 31 hdr).epochOk (msg 1 0 0 4096 0) = true ∧ (msg 1 0 0 4096 0).isData = true ∧
    ((fencing.advance 7).handled 31 hdr).fabric.fences.contains 7 = true := by decide +kernel

/-- A collective of two members, 2,000 elements in four blocks, of tick 4; op 1 reduces, op 2 broadcasts. -/
def entry (op : Nat) : List Byte := fields 32 [(0, 2, 6), (2, 1, op), (4, 2, 1), (6, 2, 2), (8, 4, 2000), (12, 1, 2)]
def collective : Coll := { cidx := 0, tick := 4, epoch := 0, ranks := [some 7, some 5], own := 1 }
def reducing (op n : Nat) : State := { atTick link n with plan := { link.plan with colls := [entry op], collsRunning := [collective] } }
def collMsg (op subop addr n : Nat) : Msg :=
  { msg op subop 1 addr 123 with tag := 2, collId := 6, nelem := 2000, stamp := ⟨n, 0⟩ }
def found (op ahead n : Nat) : Bool :=
  let v := ((reducing op n).advance 7).handled 31 hdr
  v.plan.collsRunning.find? (fun c => Ce.dst (v.collEntry c) == 2 && Ce.op (v.collEntry c) == op && c.tick + ahead == n &&
    Ce.id (v.collEntry c) == 6 && Ce.nelem (v.collEntry c) == 2000 && c.ranks.contains (some 7)) == some collective

theorem witness_collective : ((reducing 1 4).advance 7).arrives 31 hdr (collMsg 4 0 4096 4) 4 = true ∧ found 1 0 4 = true ∧
    State.reducer collective 1 = collective.own ∧ ((reducing 1 5).advance 7).arrives 31 hdr (collMsg 5 0 8192 5) 5 = true ∧ found 1 1 5 = true ∧
    State.reducer collective 2 = 0 ∧ Ce.blocks (entry 1) = 4 ∧ ((reducing 1 4).advance 7).arrives 31 hdr (collMsg 6 0 0 4) 6 = true ∧
    ((reducing 1 4).advance 7).arrives 31 hdr (collMsg 6 1 0 4) 6 = true ∧ ((reducing 2 4).advance 7).arrives 31 hdr (collMsg 7 0 4096 4) 7 = true ∧
    found 2 0 4 = true ∧ State.peerForbidden 4096 1 = false ∧ collective.ranks.findIdx (· == some 7) = 0 := by decide +kernel

theorem witness_collective_otherwise : (collMsg 4 0 4096 3).stamp.tick < ((reducing 1 4).advance 7).tick.number ∧
    ((reducing 1 4).advance 7).tick.number < (collMsg 4 0 4096 5).stamp.tick ∧ found 1 1 4 = false ∧ State.reducer collective 0 ≠ collective.own ∧
    Ce.blocks (entry 1) ≤ 4 ∧ State.peerForbidden hubBase 1 = true := by decide +kernel

/-- R393: a digest list of the reducer of rank 0, with its two blocks and without them; a list of zeros agrees with blocks of zeros. -/
def digestColl (blocks payload : List Byte) : Coll :=
  { collective with lists := [(0, 31, payload)], results := if blocks = [] then [] else [(0, blocks, false), (2, blocks, false)] }

theorem witness_digest_checks : ((List.range (Ce.blocks (entry 1))).filter fun b => State.reducer collective b == 0) = [0, 2] ∧
    ((digestColl [0] [1]).lists.find? fun y => y.1 == 0) = some (0, 31, [1]) ∧ blockOvf [] = false ∧ fieldOf [1] 0 8 ≠ 0 ∧
    (((List.range (Ce.blocks (entry 1))).filter fun b => State.reducer collective b == 0).filterMap fun b =>
      (digestColl [0] [1]).results.find? fun y => y.1 == b).length = 2 ∧
    (0 : Nat) % digestP = fieldOf [] 0 8 % digestP := by decide +kernel

def heardOf (n : Nat) : State := { link with fabric := { link.fabric with seen := [(7, n)] } }

theorem witness_control : ∀ k ∈ [1, 2, 3], ((heardOf 4).advance 7).arrives 31 hdrC (msg 10 k 3 0 5) 10 = true ∧
    (((heardOf 4).advance 7).handled 31 hdrC).accepts (msg 10 k 3 0 5) = true ∧
    (((heardOf 4).advance 7).handled 31 hdrC).newerControl (msg 10 k 3 0 5) = true ∧
    (((heardOf 4).advance 7).handled 31 hdrC).newerControl (msg 10 k 3 0 4) = false := by decide +kernel

def master : State := { link with fabric := { link.fabric with gm := some link.ownId } }

theorem witness_fabric_commands : master.pathUp 3 (pgHport 0) = true ∧ master.ownRank ≠ 0xFFFF ∧ master.fabric.gm = some master.ownId := by
  decide +kernel

theorem witness_leave : run.ownRank = 0xFFFF ∧ link.ownRank ≠ 0xFFFF ∧ link.fabric.gm ≠ some link.ownId := by decide +kernel

def announce : Announce := { id := 7, fabric := 99, enabled := true, port := 1, rank := 2, gmPrio := 1, gmId := 7, gmTick := 0, gmOffset := 0
                             gmPeriod := 100, level := 0, epoch := 0, routes := [], exclude := [] }
def masterNow : State := (master.advance 7).handled 31 hdrC

theorem witness_membership : (master.advance 7).arrives 31 hdrC (msg 9 1 3 0 0) 9 = true ∧
    (masterNow.showPeer 31 announce).isolates announce = true ∧ masterNow.tableMsgs = [] ∧ masterNow.fabric.gm = some masterNow.ownId ∧
    masterNow.ownRank = 5 ∧ masterNow.rd (pgHport 0) Reg.HPORT.EPOCH < 3 ∧ masterNow.fabric.epochs = [] ∧
    fieldOf [1, 0, 0, 0, 0, 0, 0, 2] 0 8 ≠ 0 := by decide +kernel

def kin : Announce := { announce with fabric := masterNow.rd64 (pgHport 0) Reg.HPORT.FABRIC_ID_LO }
def member : State := master.wr (pgHport 0) Reg.HPORT.FAB_CTL_EN 1

theorem witness_membership_otherwise : (((member.advance 7).handled 31 hdrC).showPeer 31 kin).isolates kin = false ∧
    (member.advance 7).inTurn 31 hdrC (msg 9 1 3 0 0) 9 = true ∧ linkNow.fabric.gm ≠ some linkNow.ownId ∧ linkNow.parentPort = none ∧
    (linkNow.fabric.epochs.any fun x => x.number == 3) = false ∧ masterNow.ownRank ≠ 6 := by decide +kernel

def silent : State := atTick (run.onPort 31 fun x => { x with heard := some ⟨announce, 0⟩ }) 100000
def orphan : State := { run with fabric := { run.fabric with gm := some 77 }, tick := { run.tick with src := 2 } }

theorem witness_membership_timeouts : (silent.port 31).heard = some ⟨announce, 0⟩ ∧
    0 + silent.rd (pgHport 0) Reg.HPORT.EPOCH_CFG_MEMBER_TIMEOUT ≤ silent.tick.number ∧ orphan.fabric.gm ≠ none ∧
    orphan.fabric.gm ≠ some orphan.ownId ∧ orphan.neighbours = [] ∧ orphan.tick.src = 2 ∧ orphan.parentPort = none := by decide +kernel

def following : State := { orphan with
  fabric := { orphan.fabric with level := 1, ports := [(31, { heard := some ⟨{ announce with gmId := 77 }, 0⟩ })] } }.wr (pgHport 31)
    Reg.HPORT.LINK_STAT_LS 2

theorem witness_following : following.parentPort = some 31 ∧ (run.port 31).heard = none ∧ run.fabric.gm = none ∧ run.tick.src ≠ 2 ∧
    (following.port 31).syncTick + 2 ≤ (atTick following 5).tick.number ∧ following.tick.number < (following.port 31).syncTick + 2 := by
  decide +kernel

def asking : State := link.onPort 31 fun x => { x with delayReq := some 5 }

theorem witness_synchronisation : (∀ k ∈ [1, 2, 3], (link.advance 7).arrives 31 hdrC (msg 8 k 3 0 33) 8 = true) ∧
    ((link.advance 7).handled 31 hdrC).tick.src ≠ 2 ∧ link.tick.number % 64 = 0 ∧ link.linkState 31 = 2 ∧
    (((asking.advance 7).handled 31 hdrC).port 31).delayReq = some 5 := by decide +kernel

def training : State := (link.wr (pgHport 31) Reg.HPORT.LANE_ST 1 15).onPort 31 fun x => { x with fails := [(15, 2)] }
def laneUp : State := link.wr (pgHport 31) Reg.HPORT.LANE_UP 0x8000
def sends (n : Nat) : State := link.onPort 31 fun x => { x with replayD := [{ seq := 1, sends := n, msg := msg 1 0 0 0 0 }] }

theorem witness_link_events : training.isOn (pgHport 31) = true ∧ training.laneSt 31 15 = 1 ∧
    (sparseGet (fun _ => ({} : CalRec)) training.cal.lanes (16 * 31 + 15)).out = false ∧ sparseGet (fun _ => 0) (training.port 31).fails 15 = 2 ∧
    bitAt (laneUp.rd (pgHport 31) Reg.HPORT.LANE_UP) 15 = true ∧ link.runs (pgHport 31) = true ∧ 2 ≤ link.linkState 31 ∧
    (∃ f ∈ ((sends 8).port 31).replayD, 8 ≤ f.sends) ∧ ((sends 7).port 31).replayD ≠ [] ∧
    (∀ f ∈ ((sends 7).port 31).replayD, f.sends < 8) ∧ (pageAt link (pgHport 31) 3).st (pgHport 31) = 3 := by decide +kernel

theorem witness_no_link_event : run.isOn (pgHport 31) = false ∧ link.laneSt 31 15 ≠ 1 ∧ bitAt (link.rd (pgHport 31) Reg.HPORT.LANE_UP) 15 = false ∧
    run.linkState 31 < 2 ∧ (link.port 31).replayD = [] ∧ (link.port 31).replayC = [] ∧ link.st (pgHport 31) ≠ 3 := by decide +kernel

/-! ### Witnesses: frames and I3C -/

def chan (kind slots : Nat) : State :=
  (((((on run (pgFrameIn 7)).wr (pgFrameIn 7) Reg.FRAME_IN.VC_CFG_EN 1 15).wr (pgFrameIn 7) Reg.FRAME_IN.VC_CFG_KIND kind 15).wr (pgFrameIn 7)
    Reg.FRAME_IN.VC_CFG_SLOTS slots 15).wr (pgFrameIn 7) Reg.FRAME_IN.VC_CFG_SLOT_4K 4 15).wr (pgFrameIn 7) Reg.FRAME_IN.VC_WIDTH_WIDTH 20 15

theorem witness_frame_starts : ∀ k ∈ [0, 1, 2], (chan k 2).coreUp = true ∧ (chan k 2).isOn (pgFrameIn 7) = true ∧
    (chan k 2).takes 7 15 = true ∧ (chan k 2).rxOpen 7 15 = none ∧ (chan k 2).vcKind 7 15 = k ∧ (chan k 2).nextSlot 7 15 = some 0 ∧
    (chan k 0).nextSlot 7 15 = none := by decide +kernel

theorem witness_reception_of_packets : run.runs (pgFrameIn 7) = false ∧ (chan 0 2).runs (pgFrameIn 7) = true ∧ (chan 0 2).vcEn 7 14 = false ∧
    (pageAt (chan 0 2) (pgFrameIn 7) 3).takes 7 15 = true ∧ (pageAt (chan 0 2) (pgFrameIn 7) 3).isOn (pgFrameIn 7) = false := by decide +kernel

def frame (kind stage : Nat) : RxFrame :=
  { port := 7, vc := 15, slot := 0, kind := kind, start := {}, number := 5, stage := stage, thdr := fields 16 [(0, 1, 9)] }
def receiving (f : RxFrame) : State := { chan f.kind 2 with frames := { run.frames with rx := [f] } }

theorem witness_packets : (∀ f ∈ [frame 0 0, frame 0 1, frame 0 2, frame 1 0, frame 2 0], (receiving f).takes 7 15 = true ∧
      (receiving f).rxOpen 7 15 = some f) ∧ bits (fieldOf (fields 32 [(0, 2, 3)]) 2 1) 0 2 ≠ 3 ∧
    tensorHeaderOk (fields 16 [(0, 1, 9), (4, 4, 2)]) = true ∧
    (∀ e ∈ [(0x2A, 20), (0x2B, 25), (0x2C, 30), (0x2E, 40)], (rawPixels e.1 (fields e.2 [])).length =
      (receiving (frame 1 0)).rd (pgFrameIn 7) Reg.FRAME_IN.VC_WIDTH_WIDTH 15) := by decide +kernel

theorem witness_packets_otherwise : ((receiving { frame 0 0 with dropped := true }).rxOpen 7 15) = some { frame 0 0 with dropped := true } ∧
    ((receiving (frame 0 0)).frameError 7 15 2).rxOpen 7 15 = some { frame 0 0 with err := 2 } ∧
    (receiving { frame 2 1 with desc := fields 32 [] }).rxOpen 7 15 = some { frame 2 1 with desc := fields 32 [] } ∧
    (receiving { frame 1 3 with lines := 1, rawType := 0x2A }).rxOpen 7 15 = some { frame 1 3 with lines := 1, rawType := 0x2A } := by
  decide +kernel

def ended : State := receiving { frame 1 0 with ended := some {} }

theorem witness_frame_ends : (chan 1 2).runs (pgFrameIn 7) = true ∧ (chan 1 2).vcEn 7 14 = false ∧
    (frame 1 0).start.tick + (atTick (receiving (frame 1 0)) 10000).rd (pgFrameIn 7) Reg.FRAME_IN.MAX_TICKS_TICKS ≤ 10000 ∧
    ended.pathUp 3 (pgFrameIn 7) = true ∧ (ended.frames.rx.find? fun f => f.port == 7 && f.vc == 15 && f.slot == 0 && State.holdsSlot f &&
      f.ended.isSome) = some { frame 1 0 with ended := some {} } ∧ ended.slotInFlight { frame 1 0 with ended := some {} } = false := by
  decide +kernel

theorem witness_frame_end_otherwise : (receiving (frame 0 0)).takes 7 15 = true ∧ (receiving (frame 0 0)).rxOpen 7 15 = some (frame 0 0) ∧
    (frame 0 0).number ≠ 6 ∧ (frame 0 0).stage ≠ 3 ∧ (chan 1 2).rxOpen 7 15 = none ∧
    ((receiving (frame 1 0)).frames.rx.find? fun f => f.port == 7 && f.vc == 15 && f.slot == 0 && State.holdsSlot f && f.ended.isSome) = none ∧
    ¬((frame 1 0).start.tick + (receiving (frame 1 0)).rd (pgFrameIn 7) Reg.FRAME_IN.MAX_TICKS_TICKS ≤ (receiving (frame 1 0)).tick.number) := by
  decide +kernel

def preamble (kind len : Nat) : List Byte := fields 64 [(48, 4, len), (52, 1, kind)]
def outFrame : OutFrame := { vc := 3, kind := 1, desc := [], thdr := [], payload := [], tick := 0 }
def sending : State := (on run (pgFrameOut 7)).onTxPort 7 fun t => { t with sending := some outFrame }

theorem witness_frames_sent : (on run (pgFrameOut 7)).isOn (pgFrameOut 7) = true ∧ (preamble 1 (2 ^ 20)).length = 64 ∧
    preambleOk (preamble 1 (2 ^ 20)) = true ∧ preambleOk (preamble 1 0) = true ∧ preambleOk (preamble 2 0) = true ∧
    ((on run (pgFrameOut 7)).txPort 7).assembling = [] ∧ (sending.txPort 7).sending = some outFrame := by decide +kernel

theorem witness_frames_not_sent : run.isOn (pgFrameOut 7) = false ∧ preambleOk (preamble 3 0) = false ∧ (run.txPort 7).sending = none ∧
    (((on run (pgFrameOut 7)).onTxPort 7 fun t => { t with assembling := [{ vc := 3, kind := 1, desc := [], thdr := [], length := 256 }] }).txPort
      7).assembling.any (fun a => a.vc == 3) = true := by decide +kernel

def i3c (addressed : Bool) : State := if addressed then run.setDa 1 (some 9) else run

theorem witness_i3c : run.boot.held = false ∧ (∀ b ∈ [true, false], ((i3c b).advance 7).portReady 1 = true ∧ (i3c b).hasDa 1 = b) ∧
    ((i3c true).i3cPort 1).status < 256 ∧ (run.onI3c 1 fun p => { p with rstact := 1 }).i3cPort 1 = { run.i3cPort 1 with rstact := 1 } ∧
    bitAt 9 0 = true := by decide +kernel

theorem witness_hot_join : (later run 2000000).hasDa 1 = false ∧ (later run 2000000).flag pgSYS Reg.SYS.I3C_STAT_ENHJ 1 = true ∧
    ((later run 2000000).i3cPort 1).hotJoined = false ∧ ((later run 2000000).i3cPort 1).readyAt + 1000000 ≤ ((later run 2000000).advance 0).ns ∧
    (i3c true).hasDa 1 = true := by decide +kernel

def writeBytes : List Byte := fields 12 [(0, 4, pgEVT * 0x1000 + 0x110), (4, 4, 7), (8, 4, 9)]
def readBytes : List Byte := fields 5 [(0, 4, pgTHERM * 0x1000 + 0x100), (4, 1, 16)]

theorem witness_i3c_transfers : (i3c true).flag pgSYS Reg.SYS.I3C_STAT_HDR 1 = false ∧
    ¬((i3c true).mwl 1 < 1 + writeBytes.length) ∧ writeBytes.length % 4 = 0 ∧ (writeBytes.length - 4) / 4 = 2 ∧
    fieldOf writeBytes 0 4 % 4 = 0 ∧ fieldOf writeBytes 0 4 % 0x1000 + 4 * 2 ≤ 0x1000 ∧ readBytes.length = 5 ∧
    fieldOf readBytes 4 1 = 16 ∧ ¬((i3c true).mrl 1 < 4 + 4 * 16) ∧ fieldOf readBytes 0 4 % 4 = 0 ∧
    fieldOf readBytes 0 4 % 0x1000 + 4 * 16 ≤ 0x1000 ∧ ((i3c true).i3cPort 1).ready ≤ ((i3c true).advance 7).ns := by decide +kernel

/-- Lengths, addresses and pages that the rules refuse, and a port that is not reached. -/
theorem witness_i3c_refused : (i3c true).mwl 1 < 1 + (fields 72 []).length ∧ (fields 10 []).length % 4 ≠ 0 ∧ fieldOf (fields 8 [(0, 4, 0x1002)]) 0 4 % 4 ≠ 0 ∧
    0x1000 < fieldOf (fields 12 [(0, 4, 0x1FFC)]) 0 4 % 0x1000 + 4 * 2 ∧ fieldOf (fields 5 [(4, 1, 17)]) 4 1 = 17 ∧
    (run.advance 7).portReady 2 = false ∧ run.hasDa 1 = false ∧ (run.wr pgSYS Reg.SYS.I3C_STAT_ENINT 0 1).flag pgSYS Reg.SYS.I3C_STAT_ENINT 1 = false ∧ run.evt.ibi1 = [] ∧
    ((run.onI3c 1 fun p => { p with rstact := 0 }).i3cPort 1).rstact ≠ 1 ∧ ((run.wr pgSYS Reg.SYS.I3C_STAT_HDR 1 1).flag pgSYS Reg.SYS.I3C_STAT_HDR 1) = true ∧
    ((run.onI3c 1 fun p => { p with ready := 100 }).advance 7).ns < 100 := by decide +kernel

theorem witness_check_row : (List.replicate 128 (List.replicate 128 (-511 : Int))).length = 128 ∧
    (List.replicate 128 (1 : Int)).length = 128 ∧ ∀ r ∈ List.replicate 128 (List.replicate 128 (-511 : Int)),
      r.length = 128 ∧ ∀ d ∈ r, -511 ≤ d ∧ d ≤ 511 := by
  refine ⟨List.length_replicate, List.length_replicate, fun r h => ?_⟩
  rw [List.eq_of_mem_replicate h]
  refine ⟨List.length_replicate, fun d g => ?_⟩
  rw [List.eq_of_mem_replicate g]
  decide

/-! ### Results of the spec's worked examples -/

/-- The FP4 E2M1 row of Number Formats and Quantisation (R179): scale codes 7CH, 78H, 6AH. -/
theorem test_drive_fp4 : [(7, 0x7C), (7, 0x78), (0xA, 0x78), (5, 0x6A), (1, 0x6A), (8, 0x78)].map (fun e : Nat × Nat =>
    (drive (weightVal 4 e.1).1 (gridSpan 4) (ue5m3 e.2) (ue5m3 0x7C)).1) = [511, 341, -57, 53, 9, 0] := by decide +kernel

/-- Row 5 of the example of Well Arithmetic (R108 to R112, R138): slices and ADC codes of the two tiles at gain 4. -/
theorem test_row_five : ([24576, 16392, -24576].map sliceHi = [96, 64, -96] ∧ [24576, 16392, -24576].map sliceLo = [0, 8, 0]) ∧
    (adcCode 0 0 0 0 (rawWord (511 * 96 - 270 * 64) 128 4 0), adcCode 0 0 0 0 (rawWord (-270 * 8) 256 4 0),
      adcCode 0 0 0 0 (rawWord (180 * -96) 128 4 0)) = (31, -1, -17) := by decide +kernel

/-- R183: 0.10009765625 is 205 × 2^-11, and its block has exponent −18; R192's ties. -/
theorem test_block_exponent : blockExp ⟨205, -11⟩ 15 = -18 ∧ rnaQ 205 1 (-11 + 18) = 26240 ∧
    (rnaDiv 511 2, rnaDiv (-511) 2, rnaDiv (-5) 2) = (256, -256, -3) := by decide +kernel

/-- R190: 5 × 2^-20 − 7 × 2^-23 is 33 × 2^-23. -/
theorem test_group_sum : addBfx ⟨-20, false, false, [5]⟩ ⟨-23, false, false, [-7]⟩ = ⟨-23, false, false, [33]⟩ := by
  decide +kernel

/-- A block whose first group alone holds values. -/
def oneGroup (x a b : Int) : List Byte :=
  bfxBlock (⟨x, false, false, a :: b :: List.replicate 62 0⟩ :: List.replicate 9 ⟨0, true, false, List.replicate 64 0⟩)

/-- R391, R392: the digest of the result in the example of Result Integrity, with S = 3. -/
theorem test_digest : digestBlock 3 0 (oneGroup (-23) 33 10) = 189 * 2 ^ 49 := by decide +kernel

/-- R193: 8,000,000 clips in 6.4 × 10^9 samples exceed 100 ppm; the fractions of the example. -/
theorem test_qfit : (qfitExceeds 8000000 6400000000 100, qfitExceeds 12000 3200000000 100, qfitExceeds 1500000 3200000000 10000) =
      (true, false, false) ∧
    (qfitFrac 8000000 6400000000, qfitFrac 12000 3200000000, qfitFrac 1500000 3200000000) = (1250, 3, 468) := by decide +kernel

/-- R232: with LINEAR_GIB 16, blocks 145 and 146 of window 0, and block 0xC0_0002 of window 5. -/
theorem test_interleave : (cisternOf 16 0 0x91000, cisternOf 16 0 0x92000, cisternOf 16 5 0xC00002000) = (8, 9, 5) := by decide +kernel

/-- R332: the tone of the example of Converters after 10 and 30 updates. -/
theorem test_tone : (2048 + genTerm 25 42949670 84, 2048 + genTerm 25 128849010 84) = (2049, 2047) := by decide +kernel

/-! ### Effects of single commands -/

/-- R49, R22: tick 1 begins at the default period, 100,000 ns into tick 0, and the offset is what has passed since. -/
theorem test_boundary : after (.tickBoundary 100002) run (fun t => t.tick.number == 1 && t.tick.off == 2) = true := by decide +kernel

/-- R55: EVT_SET of bits 5:4 leaves the other bits of EVT_RAW alone. -/
theorem test_evt_set : after (.evtSet 7 3 1 0x30) (up.wr 1 Reg.HDR.EVT_RAW 1) (fun t => t.rd 1 Reg.HDR.EVT_RAW == 0x31) = true := by decide +kernel

/-- R67, R69: a PERIOD change committed in tick 0 is not in force until a boundary. -/
theorem test_commit_waits : after (.registerWrite 5 3 0x1040 ⟨250, 4⟩) up (fun t => t.rd pgTICK Reg.TICK.PERIOD_US == 100 && t.tick.periodUs == 100) =
    true := by decide +kernel

/-- R535: SOFT_RESET by its key holds reset with cause bit 2 and keeps the queue. -/
theorem test_soft_reset : after (.softReset 0 3 0xA5C3) { up with pending := [.powerOn 0] }
    (fun t => t.boot.held && t.word 0x5C == 4 && t.pending == [.powerOn 0]) = true := by decide +kernel

/-- R221, R203: HEAD is taken modulo the ring size. -/
theorem test_head_modulo : after (.headDoorbell 7 3 5 3) run (fun t => t.rd (pgPumpq 5) Reg.PUMPQ.HEAD_INDEX == 3 % run.ringSize 5) = true := by
  decide +kernel

/-- R502: GETSTATUS after a command of status 7 with nothing queued. -/
theorem test_getstatus : after (.getstatus 7 1) (i3c true) (fun t => (t.i3cPort 1).reply == some [7, 0]) = true := by decide +kernel

/-- No word spells a command: the table gives no bits (log entry 7). -/
theorem test_no_words : Sys2Proof.decodeTableWord 32 5 = none ∧ up.withFetchWord 32 5 = up := ⟨rfl, rfl⟩

/-- R372: T_row of the example of Faults and Safety: ROW_K 96, noise factor 111, 800 ms since calibration. -/
theorem test_row_tolerance : State.tRow 96 111 800 = 388 := by decide +kernel

end Sys2Proof.Tests
end

section
/-! PROOFS. Page transactions: what a refusal and a rollback leave (R63, R71, R72). -/

namespace Sys2Proof.Machine

namespace State

/-! ### The header registers of a page -/

/-- The registers of the common header are each page's own. -/
theorem regAddr_header (pg : Nat) {off : Nat} (h : off < 0x40) : regAddr pg off = pg * 0x1000 + off := by
  unfold regAddr canonReg
  rw [if_neg (by omega), if_neg (by omega)]

theorem regAddr_header_ne {pg pg' off off' : Nat} (h : off < 0x40) (h' : off' < 0x40) (ne : pg ≠ pg' ∨ off ≠ off') :
    regAddr pg off ≠ regAddr pg' off' := by
  rw [regAddr_header pg h, regAddr_header pg' h']
  omega

/-- TXN_STAT of no page is among the registers that follow from the state. -/
theorem txnStat_not_follower (pg : Nat) : regAddr pg 0x024 ∉ followers := by
  have apart : ∀ a ∈ followers, a % 0x1000 ≠ 0x024 := by decide
  intro h
  refine apart _ h ?_
  rw [regAddr_header pg (by decide)]
  omega

theorem left_status (s u : State) (pg : Nat) :
    (s.left u).rd pg Reg.HDR.TXN_STAT_STATUS = u.rd pg Reg.HDR.TXN_STAT_STATUS := by
  have word : (s.left u).word (regAddr pg 0x024) = u.word (regAddr pg 0x024) := left_word s u _ (txnStat_not_follower pg)
  exact congrArg (fun w : Word => bits w.toNat 0 4) word

/-! ### The outcome of an operation (R72) -/

section Outcome

variable (s : State) (pg code off lsb : Nat)

@[simp] theorem setStatus_txn : (s.setStatus pg code off lsb).txn = s.txn := by
  unfold setStatus
  rw [wr_txn, wr_txn, wr_txn]

@[simp] theorem refuseTxn_txn : (s.refuseTxn pg code).txn = s.txn := by
  rw [refuseTxn, raise_txn, setStatus_txn]

/-- The outcome goes to TXN_STAT of its page and to no other register. -/
theorem rd_setStatus_ne (pg' : Nat) (f : Field) (i : Nat) (h : regAddr pg' (f.at i) ≠ regAddr pg 0x024) :
    (s.setStatus pg code off lsb).rd pg' f i = s.rd pg' f i := by
  unfold setStatus
  rw [rd_wr_ne _ pg pg' Reg.HDR.TXN_STAT_REJ_LSB f lsb 0 i h, rd_wr_ne _ pg pg' Reg.HDR.TXN_STAT_REJ_OFFSET f off 0 i h,
    rd_wr_ne _ pg pg' Reg.HDR.TXN_STAT_STATUS f code 0 i h]

/-- The rejected field does not reach into STATUS. -/
theorem setStatus_status : (s.setStatus pg code off lsb).rd pg Reg.HDR.TXN_STAT_STATUS = code % 16 := by
  unfold setStatus
  rw [rd_wr_apart _ pg pg Reg.HDR.TXN_STAT_REJ_LSB Reg.HDR.TXN_STAT_STATUS lsb 0 0 rfl (by decide) (by decide),
    rd_wr_apart _ pg pg Reg.HDR.TXN_STAT_REJ_OFFSET Reg.HDR.TXN_STAT_STATUS off 0 0 rfl (by decide) (by decide)]
  exact rd_wr s pg Reg.HDR.TXN_STAT_STATUS code 0 (by decide)

/-- An event of any page leaves every page's STATUS. -/
theorem raise_status (b pg' : Nat) :
    (s.raise pg b).rd pg' Reg.HDR.TXN_STAT_STATUS = s.rd pg' Reg.HDR.TXN_STAT_STATUS :=
  rd_raise_ne s pg b pg' Reg.HDR.TXN_STAT_STATUS 0
    (regAddr_header_ne (off := 0x024) (off' := 0x010) (by decide) (by decide) (.inr (by decide)))

theorem refuseTxn_status : (s.refuseTxn pg code).rd pg Reg.HDR.TXN_STAT_STATUS = code % 16 := by
  unfold refuseTxn
  rw [raise_status, setStatus_status]

end Outcome

/-! ### Groups -/

/-- R70: with no timeout run out, no group expires. -/
theorem expireGroups_none {s : State} (h : ∀ y ∈ s.txn.groups, s.overdue y = false) : s.expireGroups = s := by
  unfold expireGroups each
  generalize s.txn.groups = l at h
  induction l with
  | nil => rfl
  | cons y l ih =>
    rw [List.foldl_cons, h y List.mem_cons_self]
    exact ih fun z hz => h z (List.mem_cons_of_mem y hz)

/-- Time within the tick lets no group expire. -/
theorem advance_expireGroups_none {s : State} (at_ : Nat) (h : ∀ y ∈ s.txn.groups, s.overdue y = false) :
    (s.advance at_).expireGroups = s.advance at_ := expireGroups_none h

theorem groupById_id {s : State} {g : Nat} {x : TxnGroup} (h : s.groupById g = some x) : x.id = g :=
  beq_iff_eq.mp (List.find?_some (p := fun x : TxnGroup => x.id == g) h)

theorem foreign_iff {s : State} {g : Nat} {x : TxnGroup} (h : s.groupById g = some x) (path : Nat) :
    s.foreign path g = true ↔ x.owner ≠ path := by
  simp [foreign, h]

/-! ### Operations on another path's group (R63) -/

section Foreign

variable {s : State} {path g : Nat} (hf : s.foreign path g = true)
include hf

theorem txnBegin_foreign (pg : Nat) (hg : 0 < g) : s.txnBegin path pg g = s.refuseTxn pg 9 := by
  unfold txnBegin
  rw [if_neg (by omega), if_pos hf]

theorem txnCommit_foreign (pg : Nat) : s.txnCommit path pg g = s.refuseTxn pg 9 := by
  unfold txnCommit
  rw [if_pos hf]

theorem txnAbort_foreign (pg : Nat) : s.txnAbort path pg g = s.refuseTxn pg 9 := by
  unfold txnAbort
  rw [if_pos hf]

end Foreign

/-- What a command that refuses with status LOCKED leaves. -/
theorem left_refuseTxn_locked (s u : State) (pg : Nat) :
    (s.left (u.refuseTxn pg 9)).rd pg Reg.HDR.TXN_STAT_STATUS = 9 ∧ (s.left (u.refuseTxn pg 9)).txn = u.txn := by
  rw [left_status, refuseTxn_status, left_txn, refuseTxn_txn]
  exact ⟨rfl, rfl⟩

/-! ### Rollback (R70, R71) -/

/-- An update that is run over a list brings about, for each of the list, what one run brings about for its own and keeps for all. -/
theorem each_reaches {α : Type} (P : State → α → Prop) (f : State → α → State) (own : ∀ t a, P (f t a) a)
    (keep : ∀ t a b, P t b → P (f t a) b) (l : List α) (t : State) : ∀ a ∈ l, P (t.each l f) a := by
  have kept : ∀ (l : List α) (t : State) (b : α), P t b → P (t.each l f) b := by
    intro l
    induction l with
    | nil => exact fun _ _ h => h
    | cons a l ih => exact fun t b h => ih (f t a) b (keep t a b h)
  induction l generalizing t with
  | nil => simp
  | cons a l ih =>
    intro b hb
    rcases List.mem_cons.mp hb with rfl | hb
    · exact kept l _ _ (own t b)
    · exact ih (f t a) b hb

/-- A page reports the status of a rollback and has raised TXN_ROLLBACK. -/
def reportsRollback (code : Nat) (t : State) (pg : Nat) : Prop :=
  t.rd pg Reg.HDR.TXN_STAT_STATUS = code % 16 ∧ t.rdBit pg Reg.HDR.EVT_RAW 1 = true

/-- The report of a page reaches that page. -/
theorem report_own (code : Nat) (t : State) (pg : Nat) : reportsRollback code ((t.setStatus pg code).raise pg 1) pg := by
  constructor
  · rw [raise_status, setStatus_status]
  · rw [raised _ _ _ _ (by decide)]
    rfl

/-- The report of a page leaves what any page has reported. -/
theorem report_keep (code : Nat) (t : State) (pg pg' : Nat) (h : reportsRollback code t pg') :
    reportsRollback code ((t.setStatus pg code).raise pg 1) pg' := by
  by_cases e : pg' = pg
  · rw [e]
    exact report_own code t pg
  · obtain ⟨status, event⟩ := h
    constructor
    · rw [raise_status, rd_setStatus_ne _ _ _ _ _ _ _ _ (regAddr_header_ne (by decide) (by decide) (.inl e)), status]
    · unfold rdBit
      rw [rd_raise_ne _ _ _ _ _ _ (regAddr_header_ne (by decide) (by decide) (.inl e)),
        rd_setStatus_ne _ _ _ _ _ _ _ _ (regAddr_header_ne (by decide) (by decide) (.inl e))]
      exact event

theorem rollback_reports (s : State) (x : TxnGroup) (code : Nat) : ∀ pg ∈ x.pages, reportsRollback code (s.rollback x code) pg :=
  each_reaches (reportsRollback code) _ (report_own code) (report_keep code) x.pages (s.closeGroup x)

/-- The reports of the pages leave the groups and shadows as the closing of the group left them. -/
theorem rollback_txn (s : State) (x : TxnGroup) (code : Nat) : (s.rollback x code).txn = (s.closeGroup x).txn := by
  unfold rollback
  exact each_keeps State.txn _ (fun t pg => by rw [raise_txn, setStatus_txn]) x.pages (s.closeGroup x)

/-- The ID of a group rolled back names no group. -/
theorem rollback_groupById (s : State) (x : TxnGroup) (code : Nat) : (s.rollback x code).groupById x.id = none := by
  unfold groupById
  rw [rollback_txn]
  simp [closeGroup]

/-- The shadows left by a rollback are those of pages outside the group. -/
theorem mem_rollback_shadow (s : State) (x : TxnGroup) (code : Nat) (e : Nat × Word) :
    e ∈ (s.rollback x code).txn.shadow ↔ e ∈ s.txn.shadow ∧ x.pages.contains (e.1 / 0x1000) = false := by
  rw [rollback_txn]
  simp [closeGroup]

/-- R71: an ABORT of an open group by its own path, written to a page of the group. -/
theorem txnAbort_open {s : State} {path pg g : Nat} {x : TxnGroup} (hx : s.groupById g = some x) (owner : x.owner = path)
    (member : x.pages.contains pg = true) (isOpen : x.commit = none) : s.txnAbort path pg g = s.rollback x 5 := by
  have hf : ¬ s.foreign path g = true := fun h => (foreign_iff hx path).mp h owner
  unfold txnAbort
  rw [if_neg hf]
  simp [hx, isOpen, List.contains_iff_mem.mp member]

end State

open State

/-! ### The obligations -/

/-- Settles O12: each operation tests for a group of another path before it looks at the page's own membership, which is the model's choice
where R66 would refuse too (log entry 45). -/
theorem foreignGroupRefused : Obligations.ForeignGroupRefused := by
  unfold Obligations.ForeignGroupRefused
  intro s at_ path pg g k x up hk pos hg none_due hx owner
  have hf : (s.advance at_).foreign path g = true := (foreign_iff hx path).mpr owner
  refine ⟨⟨_, ?_, left_refuseTxn_locked s (s.advance at_) pg⟩, ⟨_, ?_, left_refuseTxn_locked s (s.advance at_) pg⟩,
    ⟨_, ?_, left_refuseTxn_locked s (s.advance at_) pg⟩⟩
  · rw [eff_txnBegin s at_ path pg g k hk up, advance_expireGroups_none at_ none_due, Nat.mod_eq_of_lt hg, txnBegin_foreign hf pg pos]
  · rw [eff_txnCommit s at_ path pg g k hk up, advance_expireGroups_none at_ none_due, Nat.mod_eq_of_lt hg, txnCommit_foreign hf pg]
  · rw [eff_txnAbort s at_ path pg g k hk up, advance_expireGroups_none at_ none_due, Nat.mod_eq_of_lt hg, txnAbort_foreign hf pg]

/-- Settles O13: the ABORT is the rollback of its group, with what a rollback does to the group's ID, its shadows and its pages. -/
theorem abortRollsBack : Obligations.AbortRollsBack := by
  unfold Obligations.AbortRollsBack
  intro s at_ path pg g k x up hk hg none_due hx owner member isOpen
  have hu : (s.advance at_).groupById g = some x := hx
  refine ⟨?_, ?_, fun e he => (mem_rollback_shadow (s.advance at_) x 5 e).mp he, rollback_reports (s.advance at_) x 5⟩
  · rw [eff_txnAbort s at_ path pg g k hk up, advance_expireGroups_none at_ none_due, Nat.mod_eq_of_lt hg, txnAbort_open hu owner member isOpen]
  · rw [← groupById_id hx]
    exact rollback_groupById (s.advance at_) x 5

end Sys2Proof.Machine
end

section
/-! PROOFS. Event controllers: what an access of CLAIM, COMPLETE, SWSET and EVT_SET leaves (R55, R86, R88, R91, R92). -/

namespace Sys2Proof.Machine

theorem bitAt_eq_testBit (x i : Nat) : bitAt x i = x.testBit i := by
  simp [bitAt, Nat.testBit, Nat.and_comm]

/-! ### Where a controller's registers lie (R84) -/

theorem isController_iff (c : Nat) : isController c = true ↔ c < 52 ∨ (64 ≤ c ∧ c < 68) ∨ c = 96 ∨ c = 97 := by
  simp [isController, or_assoc]

/-- The page and the offset at which each controller's block begins. -/
theorem ctlBase_cases {c : Nat} (hc : isController c = true) :
    (c < 52 ∧ ctlBase c = pgCluster c * 0x1000 + 0xE00) ∨ (64 ≤ c ∧ c < 68 ∧ ctlBase c = pgWdie (c - 64) * 0x1000 + 0xB00) ∨
      (c = 96 ∧ ctlBase c = pgEVT * 0x1000 + 0x200) ∨ (c = 97 ∧ ctlBase c = pgEVT * 0x1000 + 0x800) := by
  rcases (isController_iff c).mp hc with h | ⟨lo, hi⟩ | rfl | rfl
  · exact .inl ⟨h, if_pos h⟩
  · refine .inr (.inl ⟨lo, hi, ?_⟩)
    unfold ctlBase
    rw [if_neg (by omega), if_pos hi]
  · exact .inr (.inr (.inl ⟨rfl, rfl⟩))
  · exact .inr (.inr (.inr ⟨rfl, rfl⟩))

section Block

variable {c o : Nat} (hc : isController c = true) (ho : o < 0x120)
include hc ho

theorem ctlAt_ctlBase : ctlAt (ctlBase c + o) = some (c, o) := by
  have place := ctlBase_cases hc
  unfold pgCluster pgWdie pgEVT at place
  have found : ∀ c' o', c' = c → o' = o → some (c', o') = some (c, o) := by rintro _ _ rfl rfl; rfl
  unfold ctlAt pgEVT
  rcases place with ⟨h, base⟩ | ⟨lo, hi, base⟩ | ⟨h, base⟩ | ⟨h, base⟩
  · rw [if_pos (by omega)]
    exact found _ _ (by omega) (by omega)
  · rw [if_neg (by omega), if_pos (by omega)]
    exact found _ _ (by omega) (by omega)
  · rw [if_neg (by omega), if_neg (by omega), if_pos (by omega)]
    exact found _ _ h.symm (by omega)
  · rw [if_neg (by omega), if_neg (by omega), if_neg (by omega), if_pos (by omega)]
    exact found _ _ h.symm (by omega)

theorem pageKind_ctlBase : ∃ k, pageKind ((ctlBase c + o) / 0x1000) = some k := by
  have page : ∀ pg off k, ctlBase c = pg * 0x1000 + off → off + 0x120 ≤ 0x1000 → pageKind pg = some k →
      ∃ k, pageKind ((ctlBase c + o) / 0x1000) = some k := by
    intro pg off k base room kind
    have : (ctlBase c + o) / 0x1000 = pg := by omega
    exact ⟨k, this ▸ kind⟩
  rcases ctlBase_cases hc with ⟨h, base⟩ | ⟨lo, hi, base⟩ | ⟨h, base⟩ | ⟨h, base⟩
  · exact page _ _ _ base (by decide) (pageKind_cluster h)
  · exact page _ _ _ base (by decide) (pageKind_wdie (by omega))
  · exact page _ _ _ base (by decide) rfl
  · exact page _ _ _ base (by decide) rfl

omit ho in
theorem ctlBase_aligned (h4 : o % 4 = 0) : (ctlBase c + o) % 0x1000 % 4 = 0 := by
  rcases ctlBase_cases hc with ⟨_, base⟩ | ⟨_, _, base⟩ | ⟨_, base⟩ | ⟨_, base⟩ <;> omega

end Block

namespace State

/-! ### Accesses of a controller's registers -/

/-- R86: a write of COMPLETE, HCOMPLETE or SWSET acts whatever the page's lock. -/
theorem regWrite_lockExempt (s : State) (path v : Nat) {c o : Nat} (hc : isController c = true) (ho : lockExempt o = true) :
    s.regWrite path (ctlBase c + o) v = s.ctlWrite c o (BitVec.ofNat 32 v) := by
  have place : o = 0x004 ∨ o = 0x00C ∨ o = 0x018 := by simpa [lockExempt, or_assoc] using ho
  obtain ⟨inBlock, h4⟩ : o < 0x120 ∧ o % 4 = 0 := by omega
  obtain ⟨k, kind⟩ := pageKind_ctlBase hc inBlock
  unfold regWrite busWrite
  simp [kind, ctlBase_aligned hc h4, ctlAt_ctlBase hc inBlock, ho]

/-- The state a read of one word leaves, with the word that it returned. -/
def answering (r : State × Word) : State := { r.1 with txn := { r.1.txn with answer := r.2 } }

theorem regRead_ctl (s : State) (path : Nat) {c o : Nat} (hc : isController c = true) (ho : o < 0x120) (h4 : o % 4 = 0) :
    s.regRead path (ctlBase c + o) = answering (s.ctlBusRead path c o) := by
  obtain ⟨k, kind⟩ := pageKind_ctlBase hc ho
  unfold regRead busRead answering
  simp [kind, ctlBase_aligned hc h4, ctlAt_ctlBase hc ho]

/-- The ID field of a written word holds every source number. -/
theorem sourceField {id : Nat} (h : id < 1024) : bits (BitVec.ofNat 32 id).toNat 0 10 = id := by
  rw [bits_eq, BitVec.toNat_ofNat]
  omega

section Register

variable (s : State) (c : Nat) {id : Nat} (hid : id < 1024)
include hid

theorem ctlWrite_complete : s.ctlWrite c 0x004 (BitVec.ofNat 32 id) = s.complete c id false := by
  simp only [ctlWrite, sourceField hid, reduceIte, Nat.reduceEqDiff]

theorem ctlWrite_hcomplete : s.ctlWrite c 0x00C (BitVec.ofNat 32 id) = s.complete c id true := by
  simp only [ctlWrite, sourceField hid, reduceIte, Nat.reduceEqDiff]

theorem ctlWrite_swset : s.ctlWrite c 0x018 (BitVec.ofNat 32 id) = s.swset c id := by
  simp only [ctlWrite, sourceField hid, reduceIte, Nat.reduceEqDiff]

end Register

/-! ### Claims, completions and requests -/

/-- R91: the best claimable source goes into service on the side, and its pending edge is gone. -/
theorem claim_some {s : State} {c id : Nat} {host : Bool} (h : s.bestSource c host = some id) :
    s.claim c host =
      ({ s with evt := { s.evt with edges := dropAll (c, id) s.evt.edges, inService := s.evt.inService ++ [⟨c, id, host, s.srcPrio c id⟩] } },
        BitVec.ofNat 32 (id + s.srcPrio c id * 2 ^ 16)) := by
  unfold claim
  rw [h]

theorem claim_none {s : State} {c : Nat} {host : Bool} (h : s.bestSource c host = none) : s.claim c host = (s, 0x80000000) := by
  unfold claim
  rw [h]

@[simp] theorem advance_threshold (s : State) (t c : Nat) (host : Bool) : (s.advance t).threshold c host = s.threshold c host := rfl
@[simp] theorem advance_inService (s : State) (t c id : Nat) : (s.advance t).inService c id = s.inService c id := rfl
@[simp] theorem advance_pageLevel (s : State) (t : Nat) : (s.advance t).pageLevel = s.pageLevel := rfl
@[simp] theorem advance_safetyInput (s : State) (t i : Nat) : (s.advance t).safetyInput i = s.safetyInput i := rfl

@[simp] theorem advance_srcPending (s : State) (t c id : Nat) : (s.advance t).srcPending c id = s.srcPending c id := by
  unfold srcPending sourceLevel
  rw [advance_safetyInput, advance_pageLevel, advance_inService]
  rfl
@[simp] theorem advance_srcEnabled (s : State) (t c id : Nat) : (s.advance t).srcEnabled c id = s.srcEnabled c id := rfl
@[simp] theorem advance_srcRouted (s : State) (t c id : Nat) : (s.advance t).srcRouted c id = s.srcRouted c id := rfl

@[simp] theorem advance_claimable (s : State) (t c id : Nat) (host : Bool) : (s.advance t).claimable c id host = s.claimable c id host := by
  unfold claimable
  rw [advance_srcPending, advance_inService, advance_srcEnabled, advance_srcRouted, advance_threshold, advance_srcPrio]

@[simp] theorem advance_betterSource (s : State) (t c : Nat) : (s.advance t).betterSource c = s.betterSource c := rfl

@[simp] theorem advance_bestSource (s : State) (t c : Nat) (host : Bool) : (s.advance t).bestSource c host = s.bestSource c host := by
  unfold bestSource
  simp only [advance_claimable, advance_betterSource]

/-- R92: completion by the side that claimed the source. -/
theorem complete_serving {s : State} {c id : Nat} {host : Bool} (h : ∃ e ∈ s.evt.inService, e.serves c id host = true) :
    s.complete c id host = { s with evt := { s.evt with inService := s.evt.inService.filter fun e => !e.serves c id host } } :=
  if_pos (List.any_eq_true.mpr h)

/-- R92: any other completion. -/
theorem complete_not_serving {s : State} {c id : Nat} {host : Bool} (h : ¬∃ e ∈ s.evt.inService, e.serves c id host = true) :
    s.complete c id host = s.badComplete c :=
  if_neg fun any => h (List.any_eq_true.mp any)

/-- R88: a software source is an edge source, and SWSET is its occurrence. -/
theorem swset_software (s : State) {c id : Nat} (h : isSoftware c id = true) : s.swset c id = s.edge c id := if_pos h

theorem swset_other (s : State) {c id : Nat} (h : isSoftware c id = false) :
    s.swset c id = s.setWord (ctlBase c + 0x1C) (s.word (ctlBase c + 0x1C) ||| 2) :=
  if_neg (Bool.eq_false_iff.mp h)

/-- R90: an occurrence of an edge source makes it pending. -/
theorem edge_pending (s : State) {c id : Nat} (h : isEdge c id = true) : (s.edge c id).srcPending c id = true := by
  have mem : (c, id) ∈ addOnce (c, id) s.evt.edges := by
    unfold addOnce
    split
    next there => simpa using there
    next => exact List.mem_concat_self
  unfold srcPending
  rw [if_pos h]
  simpa [edge] using mem

/-! ### EVT_SET (R55) -/

/-- EVT_SET looks at the 32 bits of its word only. -/
theorem evtSet_mod (s : State) (pg v : Nat) : s.evtSet pg (v % 2 ^ 32) = s.evtSet pg v := by
  unfold evtSet
  rw [Nat.mod_mod]

theorem evtSet_rdBit (s : State) (pg v : Nat) {b : Nat} (hb : b < 32) :
    (s.evtSet pg v).rdBit pg Reg.HDR.EVT_RAW b = (s.rdBit pg Reg.HDR.EVT_RAW b || v.testBit b) := by
  have raw : (s.evtSet pg v).rd pg Reg.HDR.EVT_RAW = (s.rd pg Reg.HDR.EVT_RAW ||| v % 2 ^ 32) % 2 ^ 32 := rd_wr _ _ _ _ _ (by decide)
  unfold rdBit
  rw [raw, bitAt_eq_testBit, bitAt_eq_testBit, Nat.testBit_mod_two_pow, Nat.testBit_or, Nat.testBit_mod_two_pow]
  simp [hb]

end State

open State

/-! ### The commands of a controller -/

section Commands

variable {s : State} {path c : Nat} (held : s.boot.held = false) (runs : s.pathRuns path = true) (hc : isController c = true) (at_ : Nat)
include held runs hc

theorem onBus_ctlWrite (v : Nat) {o : Nat} (ho : lockExempt o = true) :
    (onBus s at_ path fun t => if isController c then t.regWrite path (ctlBase c + o) v else t) =
      .next (s.left ((s.advance at_).ctlWrite c o (BitVec.ofNat 32 v))) := by
  rw [onBus_up s at_ path _ held runs, if_pos hc, regWrite_lockExempt _ path v hc ho]

theorem eff_complete {id : Nat} (hid : id < 1024) :
    exec (.complete at_ path c id) s = .next (s.left ((s.advance at_).complete c id false)) := by
  rw [exec_complete, execComplete, onBus_ctlWrite held runs hc at_ id rfl, ctlWrite_complete _ _ hid]

theorem eff_hcomplete {id : Nat} (hid : id < 1024) :
    exec (.hcomplete at_ path c id) s = .next (s.left ((s.advance at_).complete c id true)) := by
  rw [exec_hcomplete, execHcomplete, onBus_ctlWrite held runs hc at_ id rfl, ctlWrite_hcomplete _ _ hid]

theorem eff_swset {id : Nat} (hid : id < 1024) : exec (.swset at_ path c id) s = .next (s.left ((s.advance at_).swset c id)) := by
  rw [exec_swset, execSwset, onBus_ctlWrite held runs hc at_ id rfl, ctlWrite_swset _ _ hid]

end Commands

section Claims

variable {s : State} {c : Nat} (held : s.boot.held = false) (hc : isController c = true) (at_ : Nat)
include held hc

theorem eff_claim (runs : s.pathRuns 3 = true) :
    exec (.claim at_ c) s = .next (s.left (answering ((s.advance at_).claim c false))) := by
  have read : (s.advance at_).regRead 3 (ctlBase c) = answering ((s.advance at_).ctlBusRead 3 c 0) :=
    regRead_ctl _ 3 hc (o := 0) (by decide) rfl
  rw [exec_claim, execClaim, onBus_up s at_ 3 _ held runs, if_pos hc, read, ctlBusRead, if_pos ⟨rfl, rfl⟩]

theorem eff_hclaim {port : Nat} (hp : port < 2) (runs : s.pathRuns (port + 1) = true) :
    exec (.hclaim at_ port c) s = .next (s.left (answering ((s.advance at_).claim c true))) := by
  rw [exec_hclaim, execHclaim, onBus_up s at_ (port + 1) _ held runs, if_pos ⟨hp, hc⟩,
    regRead_ctl _ (port + 1) hc (by decide) (by decide), ctlBusRead, if_neg (by omega), if_pos (by omega)]

end Claims

/-! ### The obligations -/

/-- Settles O14: EVT_SET is a write of one field; a claim is a read of CLAIM or HCLAIM, with its two outcomes; a completion is a write that
R86 exempts from locks, with its two outcomes. -/
theorem claimAndComplete : Obligations.ClaimAndComplete := by
  unfold Obligations.ClaimAndComplete
  refine ⟨?_, ?_, ?_⟩
  · intro s at_ path pg v k up hk
    refine ⟨?_, fun b hb => evtSet_rdBit (s.advance at_) pg v hb⟩
    rw [eff_evtSet s at_ path pg v k hk up, evtSet_mod]
    rfl
  · intro s at_ ctl port held hc
    refine ⟨fun runs => ⟨fun id best => ?_, fun best => ?_⟩, fun hp runs => ⟨fun id best => ?_, fun best => ?_⟩⟩
    · rw [eff_claim held hc at_ runs, claim_some ((advance_bestSource s at_ ctl false).trans best)]
      rfl
    · rw [eff_claim held hc at_ runs, claim_none ((advance_bestSource s at_ ctl false).trans best)]
      rfl
    · rw [eff_hclaim held hc at_ hp runs, claim_some ((advance_bestSource s at_ ctl true).trans best)]
      rfl
    · rw [eff_hclaim held hc at_ hp runs, claim_none ((advance_bestSource s at_ ctl true).trans best)]
      rfl
  · intro s at_ path ctl id held runs hc hid
    refine ⟨fun serving => ?_, fun idle => ?_, fun serving => ?_, fun idle => ?_⟩
    · rw [eff_complete held runs hc at_ hid, complete_serving (s := s.advance at_) serving]
      rfl
    · rw [eff_complete held runs hc at_ hid, complete_not_serving (s := s.advance at_) idle]
      rfl
    · rw [eff_hcomplete held runs hc at_ hid, complete_serving (s := s.advance at_) serving]
      rfl
    · rw [eff_hcomplete held runs hc at_ hid, complete_not_serving (s := s.advance at_) idle]
      rfl

/-- Settles O16: SWSET of a software source is an occurrence of an edge source; of any other it only sets BAD_SWSET. -/
theorem swsetPends : Obligations.SwsetPends := by
  unfold Obligations.SwsetPends
  intro s at_ path ctl id held runs hc hid
  refine ⟨fun soft => ?_, fun other => ?_⟩
  · have isEdgeSource : isEdge ctl id = true := Bool.or_eq_true_iff.mpr (.inl soft)
    refine ⟨isEdgeSource, ?_, edge_pending (s.advance at_) isEdgeSource⟩
    rw [eff_swset held runs hc at_ hid, swset_software _ soft]
    rfl
  · rw [eff_swset held runs hc at_ hid, swset_other _ other]
    rfl

end Sys2Proof.Machine
end

section
/-! PROOFS. I3C ports: what GETSTATUS answers and leaves (R502). -/

namespace Sys2Proof.Machine

theorem b2n_lt_two (b : Bool) : b2n b < 2 := by cases b <;> decide

namespace State

/-! ### The I3C ports -/

/-- An update of a port is read on that port. -/
@[simp] theorem i3cPort_onI3c (s : State) (k : Nat) (f : I3cPort → I3cPort) : (s.onI3c k f).i3cPort k = f (s.i3cPort k) := by
  unfold onI3c i3cPort
  split <;> rfl

@[simp] theorem left_i3cPort (s u : State) (k : Nat) : (s.left u).i3cPort k = u.i3cPort k := by
  unfold i3cPort
  rw [left_i3c]

@[simp] theorem advance_i3cPort (s : State) (t k : Nat) : (s.advance t).i3cPort k = s.i3cPort k := rfl

/-- R498: a direct command reaches a port that is ready and has a dynamic address. -/
theorem cccReaches_direct {s : State} {k : Nat} (ready : s.portReady k = true) (da : s.hasDa k = true) : s.cccReaches k true = true := by
  simp [cccReaches, ready, da]

/-! ### The word of GETSTATUS (R502) -/

/-- R102: how many requests are queued for a port. -/
def ibiDepth (s : State) (k : Nat) : Nat := if k = 0 then s.evt.ibi0.length else s.evt.ibi1.length

/-- R502: the 16-bit value, from the number of queued requests, the protocol error and the last STATUS. -/
def statusWord (depth : Nat) (perr : Bool) (status : Nat) : Nat := min 15 depth + 2 ^ 5 * b2n perr + 2 ^ 8 * status

section Word

variable (depth : Nat) (perr : Bool) (status : Nat)

theorem statusWord_lt (h : status < 256) : statusWord depth perr status < 2 ^ 16 := by
  have := b2n_lt_two perr
  unfold statusWord
  omega

theorem statusWord_depth : bits (statusWord depth perr status) 0 4 = min 15 depth := by
  rw [bits_eq, statusWord]
  omega

theorem statusWord_bit4 : bits (statusWord depth perr status) 4 1 = 0 := by
  rw [bits_eq, statusWord]
  omega

theorem statusWord_perr : bits (statusWord depth perr status) 5 1 = b2n perr := by
  have := b2n_lt_two perr
  rw [bits_eq, statusWord]
  omega

theorem statusWord_activity : bits (statusWord depth perr status) 6 2 = 0 := by
  have := b2n_lt_two perr
  rw [bits_eq, statusWord]
  omega

theorem statusWord_status (h : status < 256) : bits (statusWord depth perr status) 8 8 = status := by
  have := b2n_lt_two perr
  rw [bits_eq, statusWord]
  omega

end Word

/-- What a port answers to GETSTATUS that reaches it; the protocol error is then reported. -/
theorem getStatus_i3cPort {s : State} {k : Nat} (reached : s.cccReaches k true = true) :
    (s.getStatus k).i3cPort k =
      { s.i3cPort k with
        reply := some (bigBytes 2 (statusWord (s.ibiDepth k) (s.i3cPort k).perr (s.i3cPort k).status))
        perr := false } := by
  unfold getStatus
  rw [if_pos reached, i3cPort_onI3c, answerBytes, i3cPort_onI3c]
  rfl

end State

open State

/-! ### The obligation -/

/-- Settles O58: the word is read field by field; its two bytes go out most significant first, which R502 leaves open (log entry 42). -/
theorem getStatusWord : Obligations.GetStatusWord := by
  unfold Obligations.GetStatusWord
  intro s at_ k up hk ready da status_lt
  have port : ((s.advance at_).getStatus k).i3cPort k = _ := getStatus_i3cPort (cccReaches_direct ready da)
  refine ⟨s.left ((s.advance at_).getStatus k), statusWord (s.ibiDepth k) (s.i3cPort k).perr (s.i3cPort k).status, ?_, ?_,
    statusWord_lt _ _ _ status_lt, statusWord_depth _ _ _, statusWord_bit4 _ _ _, statusWord_perr _ _ _, statusWord_activity _ _ _,
    statusWord_status _ _ _ status_lt, ?_⟩
  · rw [eff_getstatus s at_ k up, if_pos hk]
  · rw [left_i3cPort, port]
    rfl
  · rw [left_i3cPort, port]

end Sys2Proof.Machine
end

section
/-! PROOFS. Every command: how it is run, that it ends, and what follows from the state that it leaves (R30, R419, R522, R534, R561). -/

namespace Sys2Proof.Machine

open State

/-! ### How a command is run -/

/-- The ways in which a command is run, with the two questions that decide among them: whether it acts while reset is held, and whether it
acts in the shutdown. -/
inductive RunsAs (s : State) : Bool → Bool → Host.Outcome State Fault Refusal → Prop
  | power (at_ : Nat) (f : State → State) : RunsAs s true true (finish s at_ f)
  | pin (at_ : Nat) (level : PinUnit → PinUnit) (f : State → State) : RunsAs s true true (pinLive s at_ level f)
  | live (at_ : Nat) (f : State → State) : RunsAs s false true (live s at_ f)
  | bus (at_ path : Nat) (f : State → State) : RunsAs s false true (onBus s at_ path f)
  | core (at_ : Nat) (f : State → State) : RunsAs s false false (liveCore s at_ f)

/-- The five ways in which the commands run. -/
theorem exec_runsAs (c : Instr) (s : State) : RunsAs s (actsInReset c) (actsInShutdown c) (exec c s) := by
  cases c
  case powerOn | pwrgdFall | brownOut | resetNAssert | resetRelease =>
    unfold exec
    exact .power _ _
  case tickInEdge | clrNAssert | clrNDeassert | optoffAssert | optoffRelease | refclkLost | refclkRestore =>
    unfold exec
    exact .pin _ _ _
  case tickBoundary | tickInMissing | acquireTimeout | ibiSend | i3cWrite | i3cRead | responseRead | enec | disec | rstdaa | entdaa |
      setmwl | getmwl | setmrl | getmrl | enthdr0 | hdrExit | setaasa | rstact | targetReset | setdasa | setnewda | getpid | getbcr |
      getdcr | getstatus | getmxds | getcaps | hotJoin | sensorSample | sensorRestored | fastRateEnd | thermalReset | railSample =>
    unfold exec
    exact .live _ _
  case txnBegin | txnCommit | txnAbort | lockWrite | registerWrite | sysClear | release | softReset | claim | hclaim | complete |
      hcomplete | swset | cntClr | tensorMaxabsWrite | headDoorbell | rearm | barCfgWrite | svcLoad | svcStart | svcStop | svcUnload |
      cmdPrewarm | cmdHandover | trimDataWrite | refcheck | wellNow | laneNow | combNow | testNow | returnNow | fleetLoad | recPop |
      ctrlSendStop | ctrlSendFence | ctrlSendResume | groupReload | fabLeave | slotRelease | hmemAddrLoWrite | hmemDataWrite |
      hmemDataRead | bootUpdate | recoveryUpdate | bootCommit | saveCfg | evidence | owner | evtSet =>
    unfold exec
    exact .bus _ _ _
  case txnTimeout | planeLoad | planeReady | swapStrobe | groupStrobe | refresh | loUnlock | loRelock | pilotWindowEnd | passSetup |
      passRun | passEpilogue | passDone | qfitWindow | descIssue | transferIssue | transferComplete | copy | tile | multicast | scales |
      gather | scatter | stats | reduce | queueHalted | startSequenceDone | startSequenceFail | drainDone | cisternAccess | patrolScrub |
      sgdMomentum | adamw | optDone | rowsumBuild | rowsumDone | planLoaded | planRunStart | planStopDone | moonPassWrite | seqSlotTimeout |
      lightSample | spareReady | warmingTimeout | darkFence | aprClose | aprProbe | aprOpen | monitorRead | calEligible | calOverdue |
      poolCopyDone | calMeasurePass | laneRecal | laneCalResult | combRecal | repeatRun | ftEligible | fieldTestSession | fleetActive |
      watchdogMiss | lockstepMismatch | monitorMismatch | serviceWatchdogReset | laneTrained | laneLockLoss | linkFrame | replayTimeout |
      holadeWrite | readReq | readResp | reduceAdd | result | digestContribution | digestResult | bcast | tickSyncAnnounce | delayMeasure |
      delayReq | delayResp | tickSyncLoss | memberAnnounce | memberJoin | memberTable | memberLeave | memberEpoch | memberTimeout |
      gmTimeout | stopRx | resumeRx | fenceRx | hportDrainTimeout | frameStart | requestDescriptor | tensorHeader | payloadPacket |
      rawLine | loadHeader | frameEnd | frameTimeout | phyUnlock | preambleWrite | throttleRise | throttleRelax | bootDone | bootLate |
      updateDone | evidenceReady | laneTrainingFail | phyLock | txFrameEnd =>
    unfold exec
    exact .core _ _

namespace RunsAs

variable {s : State} {inReset inShutdown : Bool} {o : Host.Outcome State Fault Refusal}

theorem live_leaves (s : State) (at_ : Nat) (f : State → State) : ∃ u, Machine.live s at_ f = .next (s.left u) :=
  ⟨_, (live_finish s at_ f).trans (finish_left s at_ _)⟩

/-- However it is run, a command leaves some update of the state with what follows from it. -/
theorem leaves (h : RunsAs s inReset inShutdown o) : ∃ u, o = .next (s.left u) := by
  cases h with
  | power at_ f => exact ⟨_, finish_left s at_ f⟩
  | pin at_ level f => exact ⟨_, finish_left s at_ _⟩
  | live at_ f => exact live_leaves s at_ f
  | bus at_ path f => exact live_leaves s at_ _
  | core at_ f => exact live_leaves s at_ _

/-- R561: a command that does not act in reset leaves a held module as it is. -/
theorem leaves_held (h : RunsAs s false inShutdown o) (held : s.boot.held = true) : o = .next (s.left s) := by
  cases h with
  | live at_ f => exact live_held s at_ f held
  | bus at_ path f => exact live_held s at_ _ held
  | core at_ f => exact live_held s at_ _ held

/-- R522: a command of the core leaves a module in the shutdown as it is. -/
theorem leaves_shut (h : RunsAs s inReset false o) (shut : s.therm.shutdown = true) : o = .next (s.left s) := by
  cases h with
  | core at_ f => exact liveCore_down s at_ f (by simp [coreUp, shut])

end RunsAs

/-! ### What follows from a state -/

namespace State

/-- R419: FAULT_N falls with its level and rises no earlier than at a boundary; no other pin follows from the state. -/
theorem left_pins (s u : State) : (s.left u).pins = { u.pins with faultN := u.pins.faultN && (s.left u).faultLevel } := by
  have pins : (if u.boot.held then u else derive s u).pins = u.pins :=
    ite_keeps State.pins _ _ _ _ rfl (derive_keeps State.pins (fun _ _ => rfl) (fun _ _ => rfl) s u)
  rw [left_eq]
  unfold settle
  generalize (if u.boot.held then u else derive s u) = t at pins ⊢
  rw [← pins]
  rfl

/-- R419: after every command FAULT_N is low wherever its level is. -/
theorem left_failSafe (s u : State) : failSafe (s.left u) = true := by
  unfold failSafe
  rw [left_pins]
  cases (s.left u).faultLevel <;> simp

theorem left_sameBut (s u : State) : sameBut [] u (s.left u) :=
  ⟨left_mem s u, left_seals s u, fun a _ follows => left_word s u a follows⟩

end State

/-! ### The obligations -/

/-- Settles O1: a step is one command of the queue. -/
theorem stepRunsFrontCommand : Obligations.StepRunsFrontCommand := by
  unfold Obligations.StepRunsFrontCommand
  refine ⟨fun s c rest => rfl, fun s empty => ?_⟩
  unfold step
  rw [empty]

/-- Settles O2: there are five ways in which a command is run, and each leaves an update with what follows from it. -/
theorem everyCommandEnds : Obligations.EveryCommandEnds := by
  unfold Obligations.EveryCommandEnds
  intro c s
  obtain ⟨u, run⟩ := (exec_runsAs c s).leaves
  exact ⟨u, run, left_pending s u⟩

/-- Settles O3: what a command leaves has its FAULT_N output brought under its level last; an idling step leaves it as it is. -/
theorem failSafeKept : Obligations.FailSafeKept := by
  unfold Obligations.FailSafeKept
  intro s t safe run
  cases queue : s.pending with
  | nil =>
    have idle : step s = .next s := stepRunsFrontCommand.2 s queue
    rw [idle] at run
    cases run
    exact safe
  | cons c rest =>
    have acts : step s = exec c { s with pending := rest } := by
      unfold step
      rw [queue]
    obtain ⟨u, leaves⟩ := (exec_runsAs c { s with pending := rest }).leaves
    rw [acts, leaves] at run
    cases run
    exact left_failSafe _ u

/-- Settles O5: the reset state lists one register and no memory, so that every law about it is a matter of evaluation. -/
theorem resetState : Obligations.ResetState := by
  unfold Obligations.ResetState
  refine ⟨⟨rfl, rfl, fun _ => rfl, fun _ => rfl, fun a other => ?_, by decide, rfl, rfl, rfl⟩, by decide, by decide, by decide, by decide⟩
  simp [State.reset, word, sparseGet, sparseFind, Ne.symm other]

/-- Settles O6: a command runs in one of five ways; a held reset stops three of them, the shutdown one, and the pins show all the same. -/
theorem stoppedClocks : Obligations.StoppedClocks := by
  unfold Obligations.StoppedClocks
  refine ⟨fun c s held stops => ?_, fun c s _ shut stops => ?_, fun s at_ held => ?_⟩
  · exact (stops ▸ exec_runsAs c s : RunsAs s false _ _).leaves_held held
  · exact (stops ▸ exec_runsAs c s : RunsAs s _ false _).leaves_shut shut
  · rw [exec_clrNAssert, exec_clrNDeassert, exec_optoffAssert, exec_optoffRelease, exec_refclkLost, exec_refclkRestore]
    exact ⟨pinLive_held s at_ _ _ held, pinLive_held s at_ _ _ held, pinLive_held s at_ _ _ held, pinLive_held s at_ _ _ held,
      fun rising => (exec_tickInEdge s at_ rising).trans (pinLive_held s at_ _ _ held), pinLive_held s at_ _ _ held,
      pinLive_held s at_ _ _ held⟩

/-- Settles O7: what follows is written to registers that follow, to the event controllers and to FAULT_N. -/
theorem derivedEffectsConfined : Obligations.DerivedEffectsConfined := by
  unfold Obligations.DerivedEffectsConfined
  intro s u
  exact ⟨left_sameBut s u, left_tick s u, left_txn s u, left_wells s u, left_pump s u, left_cist s u, left_plan s u, left_light s u,
    left_conv s u, left_cal s u, left_integ s u, left_fault s u, left_fabric s u, left_frames s u, left_i3c s u, left_therm s u,
    left_boot s u, left_free s u, left_pins s u⟩

end Sys2Proof.Machine
end

section
/-! PROOFS. Register writes, page locks and the life of a transaction group (R7, R52, R61, R64 to R72). -/

namespace Sys2Proof.Machine

namespace State

/-! ### Writes that are refused (R52, R61) -/

/-- R52: a write to an unmapped page. -/
theorem regWrite_unmapped (s : State) (path v : Nat) {addr : Nat} (h : pageKind (addr / 0x1000) = none) : s.regWrite path addr v = s := by
  unfold regWrite busWrite
  simp [h]

/-- R52: a write to an unassigned offset of a page that no other path has locked. -/
theorem regWrite_unassigned (s : State) (path v : Nat) {addr : Nat} {k : PageKind} (hk : pageKind (addr / 0x1000) = some k)
    (h4 : addr % 4 = 0) (hc : ctlAt addr = none) (hu : s.lockedOut path (addr / 0x1000) = false) (ha : assigned k (addr % 0x1000) = false) :
    s.regWrite path addr v = s := by
  have aligned : addr % 0x1000 % 4 = 0 := by omega
  unfold regWrite busWrite
  simp [hk, aligned, hc, hu, ha]

/-- R61: a write to a page that another path has locked, to neither LOCK nor TXN_CTL. -/
theorem regWrite_lockedOut (s : State) (path v : Nat) {pg off : Nat} {k : PageKind} (hk : pageKind pg = some k) (ho : off < 0x1000)
    (h4 : off % 4 = 0) (hc : ctlAt (pg * 0x1000 + off) = none) (hl : s.lockedOut path pg = true) (lock : off ≠ 0x028) (txn : off ≠ 0x020) :
    s.regWrite path (pg * 0x1000 + off) v = s.lockViolation pg := by
  have page : (pg * 0x1000 + off) / 0x1000 = pg := by omega
  have offset : (pg * 0x1000 + off) % 0x1000 = off := by omega
  unfold regWrite busWrite
  simp only [page, offset, hk, h4, hc, hl, Bool.true_and, if_neg lock, if_neg txn, if_true, ne_eq, not_true_eq_false, if_false]
  cases hb : !assigned k off || otherWindow k path off <;> rfl

/-- R52: a write of anything but one aligned word. -/
theorem sizedWrite_unsized (s : State) (path addr v bytes : Nat) (h : bytes ≠ 4 ∨ addr % 4 ≠ 0) :
    s.sizedWrite path addr v bytes = if path = 3 then s.accessFault addr else s :=
  if_neg (by omega)

theorem sizedWrite_word (s : State) (path addr v : Nat) (h4 : addr % 4 = 0) : s.sizedWrite path addr v 4 = s.regWrite path addr v :=
  if_pos ⟨rfl, h4⟩

/-! ### Plain registers (R7) -/

/-- R7: the word of a plain register after a write: RW bits take the value, W1C bits written 1 clear. -/
def plainWord (k : PageKind) (off : Nat) (old v : Word) : Word :=
  maskMerge old v (accMask k .rw off) &&& ~~~(v &&& BitVec.ofNat 32 (accMask k .w1c off))

theorem plainWord_bit (k : PageKind) (off : Nat) (old v : Word) {i : Nat} (hi : i < 32) :
    (plainWord k off old v).getLsbD i = ((if (accMask k .rw off).testBit i then v.getLsbD i else old.getLsbD i) &&
      !((accMask k .w1c off).testBit i && v.getLsbD i)) := by
  simp only [plainWord, maskMerge, BitVec.getLsbD_and, BitVec.getLsbD_or, BitVec.getLsbD_not, BitVec.getLsbD_ofNat, hi, decide_true,
    Bool.true_and]
  cases (accMask k .rw off).testBit i <;> simp [Bool.and_comm]

section Plain

variable (s : State) {k : PageKind} (pg : Nat) {off : Nat} (v : Word) (h : accMask k .rws off = 0)
include h

/-- R7: a write to a register without fields that wait for a boundary. -/
theorem plainWrite_eq : s.plainWrite k pg off v =
    if plainWord k off (s.word (regAddr pg off)) v = s.word (regAddr pg off) then s
    else s.setWord (regAddr pg off) (plainWord k off (s.word (regAddr pg off)) v) := by
  simp only [plainWrite, h, if_true]
  rfl

/-- It stores that word and touches no other register. -/
theorem plainWrite_word (b : Nat) : (s.plainWrite k pg off v).word b =
    if b = regAddr pg off then plainWord k off (s.word (regAddr pg off)) v else s.word b := by
  rw [plainWrite_eq s pg v h]
  split
  next same =>
    rw [same]
    split
    next e => rw [e]
    next => rfl
  next => rw [word_setWord]

/-- It leaves memory and seals alone. -/
theorem plainWrite_memory : (s.plainWrite k pg off v).mem = s.mem ∧ (s.plainWrite k pg off v).seals = s.seals := by
  rw [plainWrite_eq s pg v h]
  split <;> exact ⟨rfl, rfl⟩

end Plain

/-! ### Page locks (R61) -/

theorem lockWrite_cases (s : State) (path pg v : Nat) :
    let take := v % 4 = path ∧ s.holder pg = 0 ∧ (pg = pgSYS ∨ s.holder pgSYS = 0 ∨ s.holder pgSYS = path)
    let release := v % 4 = 0 ∧ s.holder pg = path
    (take → s.lockWrite path pg v = s.wr pg Reg.HDR.LOCK_HOLDER path) ∧
    (¬take → release → s.lockWrite path pg v = s.wr pg Reg.HDR.LOCK_HOLDER 0) ∧
    (¬take → ¬release → s.lockWrite path pg v = s.raise pg 3) := by
  have owned : (pg == pgSYS || s.holder pgSYS == 0 || s.holder pgSYS == path) = true ↔
      (pg = pgSYS ∨ s.holder pgSYS = 0 ∨ s.holder pgSYS = path) := by simp [or_assoc]
  unfold lockWrite
  simp only [owned]
  exact ⟨fun take => if_pos take, fun other release => (if_neg other).trans (if_pos release),
    fun other keep => (if_neg other).trans (if_neg keep)⟩

/-- A write of the LOCK of a mapped page. -/
theorem regWrite_lock (s : State) (path v : Nat) {pg : Nat} {k : PageKind} (hk : pageKind pg = some k) :
    s.regWrite path (pg * 0x1000 + 0x028) v = s.lockWrite path pg (BitVec.ofNat 32 v).toNat := by
  have page : (pg * 0x1000 + 0x028) / 0x1000 = pg := by omega
  have offset : (pg * 0x1000 + 0x028) % 0x1000 = 0x028 := by omega
  obtain ⟨ha, hw⟩ := assigned_header k path (off := 0x028) (.inr (.inr rfl))
  unfold regWrite busWrite
  simp [page, offset, hk, header_ctl pg (off := 0x028) (by decide), ha, hw]

end State

open State

/-! ### The commands -/

section Commands

variable {s : State} {path : Nat} (held : s.boot.held = false) (runs : s.pathRuns path = true) (at_ : Nat)
include held runs

theorem eff_registerWrite (addr v bytes : Nat) :
    exec (.registerWrite at_ path addr ⟨v, bytes⟩) s = .next (s.left ((s.advance at_).sizedWrite path addr v bytes)) := by
  rw [exec_registerWrite, execRegisterWrite, onBus_up s at_ path _ held runs]

theorem eff_lockWrite (v : Nat) {pg : Nat} {k : PageKind} (hk : pageKind pg = some k) :
    exec (.lockWrite at_ path pg v) s = .next (s.left ((s.advance at_).lockWrite path pg (BitVec.ofNat 32 v).toNat)) := by
  rw [exec_lockWrite, execLockWrite, onBus_up s at_ path _ held runs, regWrite_lock _ path v hk]

end Commands

/-! ### The obligations on writes -/

/-- Settles O8: a write is unsized, unmapped, unassigned, or discarded by the page's lock. -/
theorem writesRefused : Obligations.WritesRefused := by
  unfold Obligations.WritesRefused
  refine ⟨?_, ?_⟩
  · intro s at_ path addr v bytes held runs
    refine ⟨fun h4 away => ?_, fun unsized => ?_⟩
    · rw [eff_registerWrite held runs, sizedWrite_word _ _ _ _ h4]
      cases hk : pageKind (addr / 0x1000) with
      | none => rw [regWrite_unmapped _ _ _ hk]
      | some k =>
        obtain ⟨hc, hu, ha⟩ := away.resolve_left (by simp [hk])
        rw [regWrite_unassigned _ _ _ hk h4 hc ((advance_lockedOut s at_ path _).trans hu) (ha k hk)]
    · rw [eff_registerWrite held runs, sizedWrite_unsized _ _ _ _ _ unsized]
  · intro s at_ path pg off v k held runs locked hk ho h4 hc txn lock
    rw [eff_registerWrite held runs, sizedWrite_word _ _ _ _ (by omega),
      regWrite_lockedOut _ _ _ hk ho h4 hc ((advance_lockedOut s at_ path pg).trans locked) lock txn]
    rfl

/-- Settles O9: the word that a plain write stores, bit by bit; the register is no follower, so it reads so afterwards. -/
theorem plainWriteByAccess : Obligations.PlainWriteByAccess := by
  unfold Obligations.PlainWriteByAccess
  intro s at_ path pg off v k up hk ho h4 hc ha hw lock effect rws apart
  have write : (s.advance at_).regWrite path (pg * 0x1000 + off) v = (s.advance at_).plainWrite k pg off (BitVec.ofNat 32 v) := by
    rw [regWrite_effect (s.advance at_) path pg off v k hk ho h4 hc ha hw lock (pathUp_unlocked up), effect]
    rfl
  obtain ⟨mem, seals⟩ := plainWrite_memory (s.advance at_) pg (BitVec.ofNat 32 v) rws
  have word := plainWrite_word (s.advance at_) pg (BitVec.ofNat 32 v) rws
  refine ⟨_, by rw [eff_registerWrite (pathUp_held up) (pathUp_runs up), sizedWrite_word _ _ _ _ (by omega), write],
    ⟨(left_mem _ _).trans mem, (left_seals _ _).trans seals, fun a extra follower => ?_⟩, fun i hi => ?_⟩
  · rw [left_word _ _ a follower, word a, if_neg (by simpa using extra)]
    rfl
  · rw [left_word _ _ _ apart, word, if_pos rfl, plainWord_bit k off _ _ hi, BitVec.getLsbD_ofNat, advance_word]
    simp [hi]

/-- Settles O10: the three outcomes of a write of LOCK. -/
theorem lockCommands : Obligations.LockCommands := by
  unfold Obligations.LockCommands
  intro s at_ path pg v k held runs hk
  have field : (BitVec.ofNat 32 v).toNat % 4 = v % 4 := by
    rw [BitVec.toNat_ofNat]
    omega
  have cases := lockWrite_cases (s.advance at_) path pg (BitVec.ofNat 32 v).toNat
  simp only [field, advance_holder] at cases
  obtain ⟨takes, releases, discards⟩ := cases
  have path_ne : path ≠ 0 := by
    rintro rfl
    simp [pathRuns, busPath] at runs
  rw [eff_lockWrite held runs at_ v hk]
  refine ⟨fun take => ?_, fun release => ?_, fun take release => ?_⟩
  · rw [takes take]
  · rw [releases (fun take => path_ne (take.1.symm.trans release.1)) release]
  · rw [discards take release]

end Sys2Proof.Machine
end

section
/-! PROOFS. The life of a transaction group, the source that a claim takes, in-band interrupts, and module control (R64 to R72, R78, R79,
R91, R101, R508, R535). -/

namespace Sys2Proof.Machine

namespace State

/-! ### The life of a group (R64 to R71) -/

section Groups

variable {s : State} {path pg g : Nat} {x : TxnGroup}

/-- The state whose transactions hold the shadows of a page besides. -/
def withShadows (s : State) (pg : Nat) : State := { s with txn :=
  { s.txn with shadow := s.txn.shadow ++ s.snapshot pg true, seen := s.txn.seen ++ s.snapshot pg false } }

theorem foreign_none (h : s.groupById g = none) (path : Nat) : s.foreign path g = false := by simp [foreign, h]

theorem foreign_own (h : s.groupById g = some x) (own : x.owner = path) : s.foreign path g = false := by simp [foreign, h, own]

theorem txnBegin_zero (s : State) (path pg : Nat) : s.txnBegin path pg 0 = s.refuseTxn pg 8 := rfl

/-- R64: BEGIN on a page that is in a group already. -/
theorem txnBegin_member (hg : g ≠ 0) (hf : s.foreign path g = false) (hp : s.groupOf pg = some x) :
    s.txnBegin path pg g = if x.id = g then s else s.refuseTxn pg 7 := by
  simp [txnBegin, hg, hf, hp]

/-- R64: BEGIN opens a group that is not there. -/
theorem txnBegin_opens (hg : g ≠ 0) (hp : s.groupOf pg = none) (hi : s.groupById g = none) : s.txnBegin path pg g =
    ((s.withShadows pg).putGroup ⟨g, path, [pg], s.tick.number, s.rd pgSYS Reg.SYS.TXN_TIMEOUT_TICKS, none, s.tick.off⟩).setStatus pg 1 := by
  simp [txnBegin, hg, foreign_none hi, hp, hi, withShadows]

/-- R64: BEGIN joins an open group of the path; a commit-pending one takes no page. -/
theorem txnBegin_existing (hg : g ≠ 0) (hp : s.groupOf pg = none) (hi : s.groupById g = some x) (own : x.owner = path) :
    s.txnBegin path pg g = if x.commit.isSome then s.refuseTxn pg 8
      else ((s.withShadows pg).putGroup { x with pages := x.pages ++ [pg] }).setStatus pg 1 := by
  simp [txnBegin, hg, foreign_own hi own, hp, hi, withShadows]

/-- R66: COMMIT of a group of the path. -/
theorem txnCommit_existing (hi : s.groupById g = some x) (own : x.owner = path) : s.txnCommit path pg g =
    if x.pages.contains pg = false then s.refuseTxn pg 8 else if x.commit.isSome then s
    else (s.putGroup { x with commit := some s.now }).each x.pages fun u p => u.setStatus p 2 := by
  simp [txnCommit, foreign_own hi own, hi]

theorem txnCommit_none (hi : s.groupById g = none) : s.txnCommit path pg g = s.refuseTxn pg 8 := by
  simp [txnCommit, foreign_none hi, hi]

/-- R66, R71: ABORT of a group of the path. -/
theorem txnAbort_existing (hi : s.groupById g = some x) (own : x.owner = path) : s.txnAbort path pg g =
    if x.pages.contains pg = false then s.refuseTxn pg 8 else if x.commit.isSome then (s.setStatus pg 2).raise pg 2
    else s.rollback x 5 := by
  simp [txnAbort, foreign_own hi own, hi]

theorem txnAbort_none (hi : s.groupById g = none) : s.txnAbort path pg g = s.refuseTxn pg 8 := by
  simp [txnAbort, foreign_none hi, hi]

/-- R70: the timeout of a group with no COMMIT stamped. -/
theorem txnTimeout_overdue (hi : s.groupById g = some x) (hc : x.commit = none) (due : x.opened + x.timeout ≤ s.tick.number) :
    s.txnTimeout g = s.rollback x 4 := by
  simp [txnTimeout, hi, overdue, hc, due]

end Groups

/-! ### The best source (R91) -/

section Best

variable (s : State) (c : Nat)

/-- R91: a source is as good as another: of higher priority, or of the same and not after it. -/
def AsGood (i j : Nat) : Prop := s.srcPrio c j ≤ s.srcPrio c i ∧ (s.srcPrio c j = s.srcPrio c i → i ≤ j)

/-- Folding ascending candidates after a first one ends with one of them that is as good as each. -/
theorem fold_betterSource (b : Nat) (l : List Nat) (asc : (b :: l).Pairwise (· < ·)) :
    ∃ i ∈ b :: l, l.foldl (s.betterSource c) (some b) = some i ∧ ∀ j ∈ b :: l, s.AsGood c i j := by
  induction l generalizing b with
  | nil =>
    refine ⟨b, List.mem_cons_self, rfl, fun j hj => ?_⟩
    rw [List.mem_singleton.mp hj]
    exact ⟨le_rfl, fun _ => le_rfl⟩
  | cons x l ih =>
    obtain ⟨first, rest⟩ := List.pairwise_cons.mp asc
    have before : b < x := first x List.mem_cons_self
    rw [List.foldl_cons, betterSource]
    split
    next higher =>
      obtain ⟨i, mem, fold, best⟩ := ih x rest
      refine ⟨i, List.mem_cons_of_mem b mem, fold, fun j hj => ?_⟩
      rcases List.mem_cons.mp hj with rfl | hj
      · have top := (best x List.mem_cons_self).1
        exact ⟨by omega, by omega⟩
      · exact best j hj
    next higher =>
      obtain ⟨i, mem, fold, best⟩ := ih b (asc.sublist (by simp))
      have skip : i ∈ b :: x :: l := by
        rcases List.mem_cons.mp mem with rfl | mem
        · exact List.mem_cons_self
        · exact List.mem_cons_of_mem _ (List.mem_cons_of_mem _ mem)
      refine ⟨i, skip, fold, fun j hj => ?_⟩
      have start := best b List.mem_cons_self
      rcases List.mem_cons.mp hj with rfl | hj
      · exact start
      rcases List.mem_cons.mp hj with rfl | hj
      · have start' := start.1
        exact ⟨by omega, fun same => (start.2 (by omega)).trans before.le⟩
      · exact best j (List.mem_cons_of_mem b hj)

/-- The claimable sources of a side, ascending. -/
def claimables (host : Bool) : List Nat := (List.range (ctlSources c)).filter fun id => s.claimable c id host

theorem mem_claimables (host : Bool) (j : Nat) : j ∈ s.claimables c host ↔ j < ctlSources c ∧ s.claimable c j host = true := by
  simp [claimables]

theorem claimables_ascending (host : Bool) : (s.claimables c host).Pairwise (· < ·) := List.pairwise_lt_range.filter _

/-- R91: with nothing claimable there is no best source; otherwise it is a candidate as good as each. -/
theorem bestSource_cases (host : Bool) : (s.bestSource c host = none ∧ s.claimables c host = []) ∨
    ∃ i ∈ s.claimables c host, s.bestSource c host = some i ∧ ∀ j ∈ s.claimables c host, s.AsGood c i j := by
  have asc := s.claimables_ascending c host
  have fold : s.bestSource c host = (s.claimables c host).foldl (s.betterSource c) none := rfl
  rw [fold]
  cases hl : s.claimables c host with
  | nil => exact .inl ⟨rfl, rfl⟩
  | cons b l => exact .inr (fold_betterSource s c b l (hl ▸ asc))

end Best

/-! ### In-band interrupts (R508) -/

/-- The requests that wait for a port. -/
def ibiQueue (s : State) (k : Nat) : List IbiReq := if k = 0 then s.evt.ibi0 else s.evt.ibi1

/-- The state with other requests waiting for a port. -/
def withIbiQueue (s : State) (k : Nat) (q : List IbiReq) : State :=
  { s with evt := if k = 0 then { s.evt with ibi0 := q } else { s.evt with ibi1 := q } }

theorem ibiSend_next {s : State} {k : Nat} {r : IbiReq} (ready : s.portReady k = true) (da : s.hasDa k = true)
    (enabled : s.flag pgSYS Reg.SYS.I3C_STAT_ENINT k = true) (next : ibiNext (s.ibiQueue k) = some r) (accepted : Bool) :
    s.ibiSend k accepted = if accepted then
      ((s.withIbiQueue k ((s.ibiQueue k).erase r)).bumpWrap pgSYS Reg.SYS.I3C_IBI_SENT 1 k).answerBytes k
        (some ((ibiPayload r).take (min 17 (s.i3cPort k).ibiMax))) else s := by
  have next' : ibiNext (if k = 0 then s.evt.ibi0 else s.evt.ibi1) = some r := next
  unfold ibiSend
  simp only [ready, da, enabled, next', Bool.not_true, Bool.or_self]
  cases accepted
  · rfl
  · unfold withIbiQueue ibiQueue
    by_cases hk : k = 0
    · subst hk
      rfl
    · simp only [if_neg hk]
      rfl

/-! ### Module control (R78, R79, R535) -/

/-- The reset state that follows a state: an image being written leaves its slot without a whole image. -/
theorem resetState_eq (s : State) (cause : Nat) : s.resetState cause = { State.reset with
    regs := [(0x05C, BitVec.ofNat 32 (2 ^ cause))]
    pins := { s.pins with faultN := false }
    boot := {
      flash := (if s.boot.writing.isSome then s.onSlot (1 - s.boot.flash.active) fun x => { x with ok := false } else s).boot.flash
      held := true }
    pending := s.pending, free := s.free } := by
  unfold resetState
  split <;> rfl

/-- Nothing of the time survives a reset. -/
theorem advance_resetState (s : State) (t cause : Nat) : (s.advance t).resetState cause = s.resetState cause := by
  have flash : (if s.boot.writing.isSome then (s.advance t).onSlot (1 - s.boot.flash.active) fun x => { x with ok := false }
      else s.advance t).boot.flash =
      (if s.boot.writing.isSome then s.onSlot (1 - s.boot.flash.active) fun x => { x with ok := false } else s).boot.flash := by
    split <;> rfl
  rw [resetState_eq, resetState_eq, ← flash]
  rfl

/-- R328: CLEAR.CLR. -/
theorem sysClear_eq (s : State) : s.sysClear =
    if s.clearActive then { s with conv := { s.conv with clrSoft := true, release := false } }
    else State.forceClear { s with conv := { s.conv with clrSoft := true, release := false } } := rfl

/-- R79: CLEAR.RELEASE. -/
theorem sysRelease_eq (s : State) : s.sysRelease =
    if s.conv.clrSoft then { s with conv := { s.conv with release := true } } else s := rfl

end State

open State

/-! ### The obligations -/

/-- Settles O11: BEGIN, COMMIT and ABORT by the group of the ID and the group of the page; no other group expires meanwhile. -/
theorem transactionLifeCycle : Obligations.TransactionLifeCycle := by
  unfold Obligations.TransactionLifeCycle
  refine ⟨?_, ?_, ?_, ?_⟩
  · intro s at_ path pg g k up hk pos lt fresh
    have hg : g ≠ 0 := by omega
    rw [eff_txnBegin s at_ path pg g k hk up, advance_expireGroups_none at_ fresh, Nat.mod_eq_of_lt lt]
    refine ⟨fun page id => ?_, fun x page id own live => ?_, fun x page id own => ?_⟩
    · rw [txnBegin_opens (s := s.advance at_) hg page id]
      rfl
    · rw [txnBegin_existing (s := s.advance at_) hg page id own, live]
      rfl
    · rw [txnBegin_member (s := s.advance at_) hg own page, if_pos id]
  · intro s at_ path pg g k x up hk lt fresh id own mem live
    rw [eff_txnCommit s at_ path pg g k hk up, advance_expireGroups_none at_ fresh, Nat.mod_eq_of_lt lt,
      txnCommit_existing (s := s.advance at_) id own, if_neg (by rw [mem]; decide), live]
    rfl
  · intro s at_ g x up id live due
    rw [eff_txnTimeout s at_ g up, txnTimeout_overdue (s := s.advance at_) id live due]
  · intro s at_ path pg g k up hk lt fresh
    rw [eff_txnBegin s at_ path pg g k hk up, eff_txnCommit s at_ path pg g k hk up, eff_txnAbort s at_ path pg g k hk up,
      advance_expireGroups_none at_ fresh, Nat.mod_eq_of_lt lt]
    refine ⟨fun zero => ?_, fun x hg own page other => ?_, fun x hg page id own stamped => ?_, fun id => ⟨?_, ?_⟩,
      fun x id own apart => ⟨?_, ?_⟩, fun x id own mem stamped => ⟨?_, ?_⟩⟩
    · rw [zero, txnBegin_zero]
      rfl
    · rw [txnBegin_member (s := s.advance at_) hg own page, if_neg other]
      rfl
    · rw [txnBegin_existing (s := s.advance at_) hg page id own, if_pos stamped]
      rfl
    · rw [txnCommit_none (s := s.advance at_) id]
      rfl
    · rw [txnAbort_none (s := s.advance at_) id]
      rfl
    · rw [txnCommit_existing (s := s.advance at_) id own, if_pos apart]
      rfl
    · rw [txnAbort_existing (s := s.advance at_) id own, if_pos apart]
      rfl
    · rw [txnAbort_existing (s := s.advance at_) id own, if_neg (by rw [mem]; decide), if_pos stamped]
    · rw [txnCommit_existing (s := s.advance at_) id own, if_neg (by rw [mem]; decide), if_pos stamped]

/-- Settles O15: the fold over the claimable sources of the side, which come in ascending order. -/
theorem bestSourceIsBest : Obligations.BestSourceIsBest := by
  unfold Obligations.BestSourceIsBest
  intro s ctl host
  rcases bestSource_cases s ctl host with ⟨none, empty⟩ | ⟨i, mem, some, best⟩
  · refine ⟨fun id h => by simp [none] at h, fun _ j hj => Bool.eq_false_iff.mpr fun claim => ?_⟩
    have there : j ∈ s.claimables ctl host := (mem_claimables s ctl host j).mpr ⟨hj, claim⟩
    simp [empty] at there
  · refine ⟨fun id h => ?_, fun h => by simp [some] at h⟩
    obtain rfl : i = id := Option.some.inj (some.symm.trans h)
    obtain ⟨lt, claim⟩ := (mem_claimables s ctl host i).mp mem
    exact ⟨lt, claim, fun j hj claim => best j ((mem_claimables s ctl host j).mpr ⟨hj, claim⟩)⟩

/-- Settles O17: the next request of the port's queue, accepted or not. -/
theorem ibiSendDequeues : Obligations.IbiSendDequeues := by
  unfold Obligations.IbiSendDequeues
  intro s at_ port r held ready da enabled next
  have sent := ibiSend_next (s := s.advance at_) ready da enabled next
  rw [eff_ibiSend s at_ port false held, eff_ibiSend s at_ port true held, sent, sent]
  exact ⟨rfl, rfl⟩

/-- Settles O18: CLEAR.CLR, CLEAR.RELEASE, and SOFT_RESET by its key. -/
theorem moduleControl : Obligations.ModuleControl := by
  unfold Obligations.ModuleControl
  refine ⟨?_, ?_⟩
  · intro s at_ path up
    rw [eff_sysClear s at_ path up, eff_release s at_ path up, sysClear_eq, sysRelease_eq, advance_clearActive]
    refine ⟨rfl, fun soft => ?_, fun soft => ?_⟩
    · rw [if_pos (show (s.advance at_).conv.clrSoft = true from soft)]
      rfl
    · rw [if_neg (show ¬(s.advance at_).conv.clrSoft = true by rw [show (s.advance at_).conv = s.conv from rfl, soft]; decide)]
  · intro s at_ path wkey up lt
    rw [eff_softReset s at_ path wkey up, Nat.mod_eq_of_lt lt, softReset]
    refine ⟨fun key => ?_, fun other => ?_⟩
    · rw [if_pos key, advance_resetState, resetState_eq]
      rfl
    · rw [if_neg other]

end Sys2Proof.Machine
end

section
/-! PROOFS. The host memory windows (R509). -/

namespace Sys2Proof.Machine

namespace State

/-- A field of a register that does not follow from the state reads as the command's own effect left it. -/
theorem left_rd (s u : State) {pg : Nat} {f : Field} {i : Nat} (h : regAddr pg (f.at i) ∉ followers) :
    (s.left u).rd pg f i = u.rd pg f i := by
  unfold rd
  rw [left_word s u _ h]

/-! ### The registers of a window -/

/-- R509: offset of data word `i` of window `k`. -/
def hmemWord (k i : Nat) : Nat := 0x1C0 + 0x80 * k + 4 * i

theorem hmemAt_addrLo {k : Nat} (hk : k < 2) : hmemAt (0x180 + 0x80 * k) = some (k, none) := by
  have table : ∀ k < 2, hmemAt (0x180 + 0x80 * k) = some (k, none) := by decide
  exact table k hk

theorem hmemAt_word {k i : Nat} (hk : k < 2) (hi : i < 16) : hmemAt (hmemWord k i) = some (k, some i) := by
  have table : ∀ k < 2, ∀ i < 16, hmemAt (hmemWord k i) = some (k, some i) := by decide
  exact table k hk i hi

theorem assigned_addrLo {k : Nat} (hk : k < 2) : assigned .sys (0x180 + 0x80 * k) = true := by
  have table : ∀ k < 2, assigned .sys (0x180 + 0x80 * k) = true := by decide
  exact table k hk

theorem assigned_word {k i : Nat} (hk : k < 2) (hi : i < 16) : assigned .sys (hmemWord k i) = true := by
  have table : ∀ k < 2, ∀ i < 16, assigned .sys (hmemWord k i) = true := by decide +kernel
  exact table k hk i hi

/-- R509: a window serves the path of its own port. -/
theorem ownWindow {off k : Nat} {i : Option Nat} (h : hmemAt off = some (k, i)) : otherWindow .sys (k + 1) off = false := by
  simp [otherWindow, h]

theorem effectWrite_word (s : State) (path : Nat) (v : Word) {k i : Nat} (hk : k < 2) (hi : i < 16) :
    s.effectWrite path .sys pgSYS (hmemWord k i) v = some (s.hmemWrite k i v) := by
  unfold effectWrite
  rw [if_neg (by unfold hmemWord; omega), if_neg (by unfold hmemWord; omega), if_neg (by unfold hmemWord; omega),
    if_neg (by unfold hmemWord; omega)]
  simp only [hmemAt_word hk hi]
  exact if_neg (by unfold hmemWord; omega)

theorem effectWrite_addrLo (s : State) (path : Nat) (v : Word) {k : Nat} (hk : k < 2) :
    s.effectWrite path .sys pgSYS (0x180 + 0x80 * k) v = some (s.hmemAddrLo k v) := by
  unfold effectWrite
  rw [if_neg (by omega), if_neg (by omega), if_neg (by omega), if_neg (by omega)]
  simp only [hmemAt_addrLo hk, if_true]
  exact if_neg (by omega)

theorem ctlAt_word {k i : Nat} (hk : k < 2) (hi : i < 16) : ctlAt (hmemWord k i) = none := by
  rw [← ctlAt_page (pg := pgSYS) (off := hmemWord k i) (by unfold hmemWord; omega) (by decide), pgSYS, Nat.zero_mul, Nat.zero_add]

theorem busRead_word (s : State) {k i : Nat} (hk : k < 2) (hi : i < 16) :
    s.busRead (k + 1) (hmemWord k i) = ((s.hmemRead k i).1, (s.hmemRead k i).2, .ok) := by
  have page : hmemWord k i / 0x1000 = pgSYS := by
    unfold hmemWord pgSYS
    omega
  have offset : hmemWord k i % 0x1000 = hmemWord k i := by
    unfold hmemWord
    omega
  have aligned : hmemWord k i % 4 = 0 := by
    unfold hmemWord
    omega
  have kind : pageKind pgSYS = some .sys := by decide
  unfold busRead
  simp only [page, offset, kind, aligned, ctlAt_word hk hi, assigned_word hk hi, ownWindow (hmemAt_word hk hi), hmemAt_word hk hi]
  rfl

/-- A read that reaches its register keeps the word that it returns. -/
theorem regRead_ok {s : State} {path addr : Nat} {r : State × Word} (h : s.busRead path addr = (r.1, r.2, .ok)) :
    s.regRead path addr = answering r := by
  unfold regRead
  rw [h]
  rfl

theorem regRead_word (s : State) {k i : Nat} (hk : k < 2) (hi : i < 16) :
    s.regRead (k + 1) (hmemWord k i) = answering (s.hmemRead k i) :=
  regRead_ok (busRead_word s hk hi)

/-! ### Their effects (R509) -/

section Words

variable (s : State) (k i : Nat)

/-- The last word of a window moves its address on. -/
def wordDone (s : State) (k i : Nat) : State := if i = 15 then s.winAdvance k else s

theorem hmemWrite_served (v : Word) (h : s.winServed (s.winAddr k + 4 * i) = true) : s.hmemWrite k i v =
    (s.write s.mapNow (s.winAddr k + 4 * i) (bytesOf 4 v.toNat) (s.winSeal k)).1.wordDone k i := by
  unfold hmemWrite
  simp only [h, if_true]
  rfl

theorem hmemWrite_refused (v : Word) (h : s.winServed (s.winAddr k + 4 * i) = false) : s.hmemWrite k i v =
    (s.wr pgSYS Reg.SYS.HMEM_STAT_BAD_ADDR 1 k).wordDone k i := by
  unfold hmemWrite
  simp only [h]
  rfl

theorem hmemRead_served (h : s.winServed (s.winAddr k + 4 * i) = true) : s.hmemRead k i =
    (let r := s.read s.mapNow (s.winAddr k + 4 * i) 4
     ((if r.2.withheld || r.2.sealFail then r.1.wr pgSYS Reg.SYS.HMEM_STAT_SEAL_FAIL 1 k else r.1).wordDone k i,
      BitVec.ofNat 32 (numOf r.2.bytes))) := by
  unfold hmemRead
  simp only [h, if_true]
  rfl

theorem hmemRead_refused (h : s.winServed (s.winAddr k + 4 * i) = false) : s.hmemRead k i =
    ((s.wr pgSYS Reg.SYS.HMEM_STAT_BAD_ADDR 1 k).wordDone k i, 0) := by
  unfold hmemRead
  simp only [h]
  rfl

theorem winAdvance_txn : (s.winAdvance k).txn = s.txn := by rw [winAdvance, wr_txn, wr_txn]

theorem wordDone_txn : (s.wordDone k i).txn = s.txn := by
  unfold wordDone
  split
  · exact winAdvance_txn s k
  · rfl

/-- R509: a write of the low address word. -/
theorem hmemAddrLo_eq (v : Word) : s.hmemAddrLo k v = (s.wr pgSYS Reg.SYS.HMEM_ADDR_LO_ADDR (v.toNat / 64) k).onI3c k fun p =>
    { p with winStart := (s.wr pgSYS Reg.SYS.HMEM_ADDR_LO_ADDR (v.toNat / 64) k).winAddr k } := rfl

end Words

/-- Updates of the ports move no register. -/
theorem onI3c_word (s : State) (k : Nat) (f : I3cPort → I3cPort) (a : Nat) : (s.onI3c k f).word a = s.word a := by
  unfold onI3c
  split <;> rfl

theorem onI3c_memory (s : State) (k : Nat) (f : I3cPort → I3cPort) : (s.onI3c k f).mem = s.mem ∧ (s.onI3c k f).seals = s.seals := by
  unfold onI3c
  split <;> exact ⟨rfl, rfl⟩

/-- The address of a window is read from its two registers. -/
theorem winAddr_of_words {s t : State} (h : ∀ a, t.word a = s.word a) (k : Nat) : t.winAddr k = s.winAddr k := by
  unfold winAddr rd
  rw [h, h]

theorem winAddr_not_followers {k : Nat} (hk : k < 2) : regAddr pgSYS (Reg.SYS.HMEM_ADDR_LO_ADDR.at k) ∉ followers ∧
    regAddr pgSYS (Reg.SYS.HMEM_ADDR_HI_ADDR.at k) ∉ followers ∧
    regAddr pgSYS (Reg.SYS.HMEM_ADDR_HI_ADDR.at k) ≠ regAddr pgSYS (Reg.SYS.HMEM_ADDR_LO_ADDR.at k) := by
  have table : ∀ k < 2, regAddr pgSYS (Reg.SYS.HMEM_ADDR_LO_ADDR.at k) ∉ followers ∧
      regAddr pgSYS (Reg.SYS.HMEM_ADDR_HI_ADDR.at k) ∉ followers ∧
      regAddr pgSYS (Reg.SYS.HMEM_ADDR_HI_ADDR.at k) ≠ regAddr pgSYS (Reg.SYS.HMEM_ADDR_LO_ADDR.at k) := by decide
  exact table k hk

theorem left_winAddr (s u : State) {k : Nat} (hk : k < 2) : (s.left u).winAddr k = u.winAddr k := by
  obtain ⟨lo, hi, _⟩ := winAddr_not_followers hk
  unfold winAddr
  rw [left_rd s u lo, left_rd s u hi]

/-- The address after a write of its low word: bits [31:6] of the word written. -/
theorem winAddr_wr (s : State) (v : Nat) {k : Nat} (hk : k < 2) :
    (s.wr pgSYS Reg.SYS.HMEM_ADDR_LO_ADDR ((BitVec.ofNat 32 v).toNat / 64) k).winAddr k =
      v % 2 ^ 32 / 64 * 64 + s.rd pgSYS Reg.SYS.HMEM_ADDR_HI_ADDR k * 2 ^ 32 := by
  obtain ⟨_, _, apart⟩ := winAddr_not_followers hk
  have width : (2 : Nat) ^ Reg.SYS.HMEM_ADDR_LO_ADDR.width = 2 ^ 26 := rfl
  unfold winAddr
  rw [rd_wr _ _ _ _ _ (by decide), rd_wr_ne _ _ _ _ _ _ _ _ apart, width, BitVec.toNat_ofNat,
    Nat.mod_eq_of_lt (show v % 2 ^ 32 / 64 < 2 ^ 26 by omega)]

end State

open State

/-! ### The commands -/

section Commands

variable {s : State} {port : Nat} (up : s.pathUp (port + 1) pgSYS = true) (hp : port < 2) (at_ : Nat)
include up hp

theorem eff_hmemAddrLoWrite (v : Nat) : exec (.hmemAddrLoWrite at_ port v) s =
    .next (s.left ((s.advance at_).hmemAddrLo port (BitVec.ofNat 32 v))) := by
  rw [exec_hmemAddrLoWrite]
  refine onBus_effect (pg := pgSYS) (off := 0x180 + 0x80 * port) (v := v) (k := .sys) up (by decide) ⟨by omega, by omega, by omega⟩
    (ctlAt_page (by omega) (by decide)) ⟨assigned_addrLo hp, ownWindow (hmemAt_addrLo hp)⟩ ?_ (effectWrite_addrLo _ _ _ hp)
  rw [if_pos hp, pgSYS, Nat.zero_mul, Nat.zero_add]

theorem eff_hmemDataWrite (v : Nat) {i : Nat} (hi : i < 16) : exec (.hmemDataWrite at_ port i v) s =
    .next (s.left ((s.advance at_).hmemWrite port i (BitVec.ofNat 32 v))) := by
  rw [exec_hmemDataWrite]
  refine onBus_effect (pg := pgSYS) (off := hmemWord port i) (v := v) (k := .sys) up (by decide)
    ⟨by unfold hmemWord; omega, by unfold hmemWord; omega, by unfold hmemWord; omega⟩ (ctlAt_page (by unfold hmemWord; omega) (by decide))
    ⟨assigned_word hp hi, ownWindow (hmemAt_word hp hi)⟩ ?_ (effectWrite_word _ _ _ hp hi)
  rw [if_pos ⟨hp, hi⟩, pgSYS, Nat.zero_mul, Nat.zero_add, hmemWord]

theorem eff_hmemDataRead {i : Nat} (hi : i < 16) : exec (.hmemDataRead at_ port i) s =
    .next (s.left (answering ((s.advance at_).hmemRead port i))) := by
  rw [exec_hmemDataRead, execHmemDataRead, onBus_up s at_ (port + 1) _ (pathUp_held up) (pathUp_runs up), if_pos ⟨hp, hi⟩,
    ← regRead_word _ hp hi, hmemWord]

end Commands

/-! ### The obligation -/

/-- Settles O19: the address register of a window, and its data words at served and other addresses. -/
theorem hostWindow : Obligations.HostWindow := by
  unfold Obligations.HostWindow
  refine ⟨?_, ?_⟩
  · intro s at_ port value up hp
    obtain ⟨mem, seals⟩ := onI3c_memory ((s.advance at_).wr pgSYS Reg.SYS.HMEM_ADDR_LO_ADDR ((BitVec.ofNat 32 value).toNat / 64) port)
      port fun p => { p with winStart :=
        ((s.advance at_).wr pgSYS Reg.SYS.HMEM_ADDR_LO_ADDR ((BitVec.ofNat 32 value).toNat / 64) port).winAddr port }
    refine ⟨_, eff_hmemAddrLoWrite up hp at_ value, ?_, ?_, ?_⟩
    · rw [left_winAddr _ _ hp, hmemAddrLo_eq, winAddr_of_words (onI3c_word _ _ _), winAddr_wr _ _ hp]
      rfl
    · rw [left_winAddr _ _ hp, left_i3cPort, hmemAddrLo_eq, i3cPort_onI3c, winAddr_of_words (onI3c_word _ _ _)]
    · rw [hmemAddrLo_eq]
      refine ⟨(left_mem _ _).trans mem, (left_seals _ _).trans seals, fun a extra follower => ?_⟩
      rw [left_word _ _ a follower, onI3c_word, word_wr_ne _ _ _ _ _ _ (by simpa using extra), advance_word]
  · intro s at_ port i value up hp hi
    refine ⟨fun served => ?_, fun refused => ?_, fun served => ?_, fun refused => ?_⟩
    · rw [eff_hmemDataWrite up hp at_ value hi, hmemWrite_served _ _ _ _ ((advance_winServed s at_ _).trans served), BitVec.toNat_ofNat]
      rfl
    · rw [eff_hmemDataWrite up hp at_ value hi, hmemWrite_refused _ _ _ _ ((advance_winServed s at_ _).trans refused)]
      rfl
    · rw [eff_hmemDataRead up hp at_ hi, hmemRead_served _ _ _ ((advance_winServed s at_ _).trans served)]
      rfl
    · have txn : (((s.advance at_).wr pgSYS Reg.SYS.HMEM_STAT_BAD_ADDR 1 port).wordDone port i).txn = s.txn := by
        rw [wordDone_txn, wr_txn]
        rfl
      rw [eff_hmemDataRead up hp at_ hi, hmemRead_refused _ _ _ ((advance_winServed s at_ _).trans refused), answering, txn]
      rfl

end Sys2Proof.Machine
end

section
/-! PROOFS. The pins CLR_N and OPTOFF_N (R96 to R98, R313, R328, R329): what a clear and the darkening and relighting of sources leave alone. -/

namespace Sys2Proof.Machine

namespace State

/-! ### What marks, fences and records leave alone -/

section Marks

variable {β : Type} {g : State → β} (s : State)

section Seals

variable (seals : ∀ (t : State) x, g { t with seals := x } = g t)
include seals

theorem markBlock_keeps (map : Nat → Option Nat) (sl : Nat → Seal) (a : Nat) : g (s.markBlock map sl a) = g s := by
  unfold markBlock
  split
  · refine each_keeps g (fun t k => if t.cist.eccBad.contains (k / 4096) then t
      else t.setSeal (k / 4096) { sl a with withheld := true, bad := (t.blockSeal (k / 4096)).bad }) (fun t k => ?_) _ s
    split
    · rfl
    · exact seals _ _
  · rfl

theorem markRegion_keeps (map : Nat → Option Nat) (sl : Nat → Seal) (a n : Nat) : g (s.markRegion map sl a n) = g s := by
  unfold markRegion
  split
  · rfl
  · exact each_keeps g _ (fun t _ => markBlock_keeps t seals map sl _) _ s

theorem markPass_keeps (w : Nat) (d : List Byte) (late : Bool) : g (s.markPass w d late) = g s := by
  simp [markPass, apply_ite g, markRegion_keeps _ seals]

end Seals

theorem askFence_keeps (fences : ∀ (t : State) x, g { t with fault := { t.fault with fences := x } } = g t) (w c q : Nat) :
    g (s.askFence w c q) = g s := by
  unfold askFence
  dsimp only
  repeat' split
  · exact fences _ _
  · rfl
  · exact fences _ _

end Marks

/-! ### What the end of a pass leaves alone -/

/-- The pages that passes write: the wells' and INTEG. -/
def passPage (pg : Nat) : Prop := pg = pgINTEG ∨ ∃ w, pg = pgWell w

@[simp] theorem passPage_well (w : Nat) : passPage (pgWell w) := .inr ⟨w, rfl⟩

@[simp] theorem passPage_integ : passPage pgINTEG := .inl rfl

/-- A reading that sees nothing of what captures touch: registers of the pages that passes write, captures and the fences asked for. -/
structure CaptureBlind {β : Type} (g : State → β) : Prop where
  setWord : ∀ t pg off w, passPage pg → g (t.setWord (regAddr pg off) w) = g t
  integ : ∀ (t : State) x, g { t with integ := x } = g t
  fences : ∀ (t : State) x, g { t with fault := { t.fault with fences := x } } = g t

/-- A reading that sees nothing of what passes touch: seals and wells besides. -/
structure PassBlind {β : Type} (g : State → β) : Prop extends CaptureBlind g where
  seals : ∀ (t : State) x, g { t with seals := x } = g t
  wells : ∀ (t : State) x, g { t with wells := x } = g t

/-- The registers of every page but SYS lie behind the SYS page. -/
theorem regAddr_behind {pg : Nat} (h : pg ≠ 0) (off : Nat) : 0x1000 ≤ regAddr pg off := by
  unfold regAddr canonReg
  split
  · simp only
    omega
  split
  · simp only
    omega
  · simp only
    omega

@[simp] theorem pgWell_ne (w : Nat) : pgWell w ≠ 0 := by
  unfold pgWell
  omega

@[simp] theorem pgComb_ne (i : Nat) : pgComb i ≠ 0 := by
  unfold pgComb
  omega

@[simp] theorem pgTEST_ne : pgTEST ≠ 0 := by decide

@[simp] theorem pgINTEG_ne : pgINTEG ≠ 0 := by decide

@[simp] theorem pgEVT_ne : pgEVT ≠ 0 := by decide

section CaptureBlind

variable {β : Type} {g : State → β} (blind : CaptureBlind g) (s : State)
include blind

theorem wr_blind {pg : Nat} (h : passPage pg) (f : Field) (v i : Nat) : g (s.wr pg f v i) = g s := blind.setWord _ _ _ _ h

theorem raise_blind {pg : Nat} (h : passPage pg) (b : Nat) : g (s.raise pg b) = g s := wr_blind blind s h _ _ _

theorem bump_blind {pg : Nat} (h : passPage pg) (f : Field) (n i : Nat) : g (s.bump pg f n i) = g s := wr_blind blind s h _ _ _

theorem commitCapture_keeps (w : Nat) (p : PassRun) : g (s.commitCapture w p) = g s := by
  unfold commitCapture
  split
  · rfl
  next c _ =>
    dsimp only
    have captured : g { s with integ := { s.integ with captures := s.integ.captures ++ [c] } } = g s := blind.integ _ _
    simp [apply_ite g, wr_blind blind, raise_blind blind, bump_blind blind, askFence_keeps _ blind.fences, wrBit, captured]

end CaptureBlind

section PassBlind

variable {β : Type} {g : State → β} (blind : PassBlind g) (s : State)
include blind

theorem onWell_blind (w : Nat) (f : Well → Well) : g (s.onWell w f) = g s := blind.wells _ _

theorem advanceTail_keeps (w : Nat) : g (s.advanceTail w) = g s := by
  simp [advanceTail, onWell_blind blind, wr_blind blind.toCaptureBlind]

theorem accountDark_keeps (w n : Nat) : g (s.accountDark w n) = g s := by
  unfold accountDark bump64 wr64
  rw [onWell_blind blind, blind.setWord _ _ _ _ (passPage_well w), blind.setWord _ _ _ _ (passPage_well w)]

theorem abandonPass_keeps (w : Nat) (p : PassRun) (late : Bool) : g (s.abandonPass w p late) = g s := by
  simp [abandonPass, apply_ite g, onWell_blind blind, advanceTail_keeps blind, raise_blind blind.toCaptureBlind, bump_blind blind.toCaptureBlind,
    accountDark_keeps blind, commitCapture_keeps blind.toCaptureBlind, markPass_keeps _ blind.seals]

theorem abandonRunning_keeps (w : Nat) (late : Bool) : g (s.abandonRunning w late) = g s :=
  each_keeps g _ (fun t p => abandonPass_keeps blind t w p late) _ s

theorem abandonQueued_keeps (w : Nat) (late : Bool) : g (s.abandonQueued w late) = g s := by
  have slots : ∀ l : List Nat, g (s.each l fun t i => t.abandonSlot w ((s.passTail w + ((s.well w).passes.length + (s.well w).stale) + i) % 16) late) =
      g s := fun l => each_keeps g _ (fun t i => by simp [abandonSlot, raise_blind blind.toCaptureBlind, bump_blind blind.toCaptureBlind, markPass_keeps _ blind.seals]) l s
  simp [abandonQueued, apply_ite g, onWell_blind blind, wr_blind blind.toCaptureBlind, slots]

theorem abandonAll_keeps (w : Nat) (late : Bool) : g (s.abandonAll w late) = g s :=
  (abandonRunning_keeps blind _ w late).trans (abandonQueued_keeps blind s w late)

end PassBlind

/-! ### What a record leaves alone -/

/-- A reading that sees nothing of what records touch: the TEST page, flash, the ring and its sequence number. -/
structure RecordBlind {β : Type} (g : State → β) : Prop where
  test : ∀ (t : State) (f : Field) v i, f.at i < 0x1000 → g (t.wr pgTEST f v i) = g t
  flash : ∀ (t : State) f, g (t.onFlash f) = g t
  seq : ∀ (t : State) x, g { t with fault := { t.fault with seq := x } } = g t
  ring : ∀ (t : State) x, g { t with fault := { t.fault with ring := x } } = g t

section RecordBlind

variable {β : Type} {g : State → β} (blind : RecordBlind g) (s : State)
include blind

theorem dropRecords_keeps (n : Nat) : g (s.dropRecords n) = g s := by
  unfold dropRecords
  split
  · rfl
  · exact (blind.test _ _ _ _ (by decide)).trans (blind.test _ _ _ _ (by decide))

theorem record_keeps (pg kind sev action d0 d1 pass : Nat) (pat : List Byte) :
    g (s.record pg kind sev action d0 d1 pass pat) = g s := by
  unfold record
  extract_lets er c s1 fault1 s2 room fault2 s3
  have e1 : g s1 = g s := (blind.flash _ _).trans (blind.test s _ _ _ (by decide))
  have e2 : g s2 = g s := (blind.seq s1 _).trans e1
  have e3 : g s3 = g s := (dropRecords_keeps blind _ _).trans ((blind.ring s2 _).trans e2)
  split
  · exact (blind.test _ _ _ _ (by decide)).trans ((blind.ring s3 _).trans e3)
  · exact (dropRecords_keeps blind _ _).trans e3

end RecordBlind

/-! ### What the work of wells and sources leaves alone -/

/-- The pins, the pin's cause of clear codes, whether SAFE lasts until a reset and whether boot has ended, and the registers of the SYS
page. -/
def outside (s : State) : PinUnit × Bool × Bool × Bool × (Fin 0x1000 → Word) :=
  (s.pins, s.conv.clrPin, s.fault.safeHard, s.boot.ended, fun a => s.word a)

section Outside

variable (s : State)

theorem setWord_outside {a : Nat} (h : 0x1000 ≤ a) (w : Word) : (s.setWord a w).outside = s.outside := by
  have words : (fun b : Fin 0x1000 => (s.setWord a w).word b) = fun b : Fin 0x1000 => s.word b :=
    funext fun b => word_setWord_ne s a b w (by omega)
  unfold outside
  rw [words]
  rfl

@[simp] theorem wr_outside {pg : Nat} (h : pg ≠ 0) (f : Field) (v i : Nat) : (s.wr pg f v i).outside = s.outside :=
  setWord_outside s (regAddr_behind h _) _

@[simp] theorem wrBit_outside {pg : Nat} (h : pg ≠ 0) (f : Field) (b : Nat) (v : Bool) : (s.wrBit pg f b v).outside = s.outside :=
  wr_outside s h _ _ _

@[simp] theorem raise_outside {pg : Nat} (h : pg ≠ 0) (b : Nat) : (s.raise pg b).outside = s.outside := wrBit_outside s h _ _ _

@[simp] theorem bump_outside {pg : Nat} (h : pg ≠ 0) (f : Field) (n i : Nat) : (s.bump pg f n i).outside = s.outside := wr_outside s h _ _ _

theorem bump64_outside {pg : Nat} (h : pg ≠ 0) (f : Field) (n i : Nat) : (s.bump64 pg f n i).outside = s.outside := by
  unfold bump64 wr64
  rw [setWord_outside _ (regAddr_behind h _), setWord_outside _ (regAddr_behind h _)]

@[simp] theorem onWell_outside (w : Nat) (f : Well → Well) : (s.onWell w f).outside = s.outside := rfl

@[simp] theorem onWellCal_outside (w : Nat) (f : WellCal → WellCal) : (s.onWellCal w f).outside = s.outside := rfl

@[simp] theorem onPort_outside (p : Nat) (f : Port → Port) : (s.onPort p f).outside = s.outside := rfl

@[simp] theorem onFlash_outside (f : Flash → Flash) : (s.onFlash f).outside = s.outside := rfl

@[simp] theorem onFt_outside (w : Nat) (f : FtRec → FtRec) : (s.onFt w f).outside = s.outside := rfl

@[simp] theorem light_outside (x : LightUnit) : ({ s with light := x } : State).outside = s.outside := rfl

theorem fault_outside {x : FaultUnit} (h : x.safeHard = s.fault.safeHard) : ({ s with fault := x } : State).outside = s.outside := by
  unfold outside
  simp only [h]
  rfl

@[simp] theorem onSource_outside (i : Nat) (f : Source → Source) : (s.onSource i f).outside = s.outside := by
  unfold onSource setSource
  split <;> rfl

@[simp] theorem each_outside {α : Type} (l : List α) {f : State → α → State} (h : ∀ t a, (f t a).outside = t.outside) :
    (s.each l f).outside = s.outside :=
  each_keeps outside f h l s

@[simp] theorem ite_outside (c : Prop) [Decidable c] (a b : State) :
    (if c then a else b).outside = if c then a.outside else b.outside := apply_ite outside c a b

theorem passPage_ne {pg : Nat} (h : passPage pg) : pg ≠ 0 := by
  rcases h with rfl | ⟨w, rfl⟩
  · exact pgINTEG_ne
  · exact pgWell_ne w

theorem passBlind_outside : PassBlind outside where
  setWord t _ _ w h := setWord_outside t (regAddr_behind (passPage_ne h) _) w
  seals _ _ := rfl
  wells _ _ := rfl
  integ _ _ := rfl
  fences t _ := fault_outside t rfl

/-! ### Records and passes -/

theorem recordBlind_outside : RecordBlind outside where
  test t f v i _ := wr_outside t pgTEST_ne f v i
  flash _ _ := rfl
  seq t _ := fault_outside t rfl
  ring t _ := fault_outside t rfl

@[simp] theorem record_outside (pg kind sev action d0 d1 pass : Nat) (pat : List Byte) :
    (s.record pg kind sev action d0 d1 pass pat).outside = s.outside :=
  record_keeps recordBlind_outside s pg kind sev action d0 d1 pass pat

@[simp] theorem abandonAll_outside (w : Nat) (late : Bool) : (s.abandonAll w late).outside = s.outside :=
  abandonAll_keeps passBlind_outside s w late

@[simp] theorem abandonRunning_outside (w : Nat) (late : Bool) : (s.abandonRunning w late).outside = s.outside :=
  abandonRunning_keeps passBlind_outside s w late

/-! ### Sources -/

@[simp] theorem setCs_outside (i cs : Nat) : (s.setCs i cs).outside = s.outside := onSource_outside s i _

@[simp] theorem driveBias_outside (i code : Nat) : (s.driveBias i code).outside = s.outside := by
  simp [driveBias]

@[simp] theorem darken_outside (i cs bias : Nat) : (s.darken i cs bias).outside = s.outside := by simp [darken]

@[simp] theorem warm_outside (i r : Nat) (boot : Bool) : (s.warm i r boot).outside = s.outside := by simp [warm]

@[simp] theorem clearSource_outside (i : Nat) : (s.clearSource i).outside = s.outside := by
  simp [clearSource]

@[simp] theorem interruptHandovers_outside : s.interruptHandovers.outside = s.outside := rfl

@[simp] theorem clearSources_outside : s.clearSources.outside = s.outside := by simp [clearSources]

@[simp] theorem showHandover_outside (h : Handover) : (s.showHandover h).outside = s.outside := by simp [showHandover]

@[simp] theorem putHandover_outside (h : Handover) : (s.putHandover h).outside = s.outside := by simp [putHandover]

@[simp] theorem moveDark_outside (h : Handover) (w : Nat) : (s.moveDark h w).outside = s.outside := by simp [moveDark, moveWell, relockMoved]

@[simp] theorem dropLine_outside (r k : Nat) : (s.dropLine r k).outside = s.outside := by
  simp [dropLine]

@[simp] theorem endHandover_outside (h : Handover) : (s.endHandover h).outside = s.outside := by
  unfold endHandover
  extract_lets failed s1 s2 s3 s4 feed light s5 s6 s7
  have e1 : s1.outside = s.outside := by simp [s1]
  have e2 : s2.outside = s.outside := (onSource_outside s1 _ _).trans e1
  have e3 : s3.outside = s.outside := by simp [s3, e2]
  have e4 : s4.outside = s.outside := (onSource_outside s3 _ _).trans e3
  have e5 : s5.outside = s.outside := (light_outside s4 _).trans e4
  have e6 : s6.outside = s.outside := (onFlash_outside s5 _).trans e5
  have e7 : s7.outside = s.outside := (each_outside s6 _ fun t w => onWellCal_outside t w _).trans e6
  simp [e7]

@[simp] theorem finishHandover_outside (h : Handover) : (s.finishHandover h).outside = s.outside := by simp [finishHandover]

@[simp] theorem relight_outside (i : Nat) : (s.relight i).outside = s.outside := by
  simp [relight]

@[simp] theorem relightSources_outside : s.relightSources.outside = s.outside := by simp [relightSources, resumeHandovers]

/-! ### Clears and SAFE -/

theorem clearWell_outside (w : Nat) : (s.clearWell w).outside = s.outside := by
  simp [clearWell, emptyPlanes]

/-- R126, R314: clear codes touch wells, heaters and sources. -/
theorem forceClear_outside : s.forceClear.outside = s.outside := by
  unfold forceClear
  rw [clearSources_outside]
  exact each_outside s _ clearWell_outside

theorem pinEdge_outside (f : Field) (b : Nat) (v : Bool) : (s.pinEdge f b v).outside = s.outside := by
  simp [pinEdge]

end Outside

end State

end Sys2Proof.Machine
end

section
/-! PROOFS. The pins CLR_N and OPTOFF_N (R96 to R98, R313, R328, R329): the module's state after entry into SAFE, and the obligation. -/

namespace Sys2Proof.Machine

namespace State

/-! ### MODULE_STATE in what follows (R80) -/

section Follow

variable (b s : State) {a : Nat}

theorem sysChanges_word (h : a ≠ regAddr pgSYS 0x010) : (sysChanges b s).word a = s.word a := by
  unfold sysChanges
  simp only [apply_ite (fun t => word t a), word_raise_ne _ _ _ _ h, ite_self]

theorem pinLevels_word (h : a ≠ regAddr pgEVT 0x010) : (pinLevels s).word a = s.word a := by
  unfold pinLevels
  simp only [apply_ite (fun t => word t a), word_raise_ne _ _ _ _ h, ite_self]

theorem powerStep_word (h : a ≠ regAddr pgPWR 0x010) (h' : a ≠ regAddr pgPWR (Reg.PWR.STATE_PS.at 0)) : (powerStep s).word a = s.word a := by
  unfold powerStep
  simp only [apply_ite (fun t => word t a), word_raise_ne _ _ _ _ h, word_wr_ne _ _ _ _ _ _ h', ite_self]

theorem ibiPass_word (h : a ≠ regAddr pgEVT 0x010) (h0 : a ≠ regAddr pgEVT (Reg.EVT.IBI_DROP0.at 0))
    (h1 : a ≠ regAddr pgEVT (Reg.EVT.IBI_DROP1.at 0)) : (ibiPass s).word a = s.word a :=
  ibiPass_keeps (fun t => t.word a) (fun _ _ => rfl) (fun _ => word_raise_ne _ _ _ _ h) (fun _ => word_wr_ne _ _ _ _ _ _ h0)
    (fun _ => word_wr_ne _ _ _ _ _ _ h1) s

/-- R80: of what follows, only the choice between READY and DEGRADED reaches MODULE_STATE. -/
theorem derive_moduleState : (derive b s).rd pgSYS Reg.SYS.MODULE_STATE_MS = (modeStep s).rd pgSYS Reg.SYS.MODULE_STATE_MS := by
  unfold derive rd
  rw [ibiPass_word _ (by decide) (by decide) (by decide), ibiPass_word _ (by decide) (by decide) (by decide),
    powerStep_word _ (by decide) (by decide), pinLevels_word _ (by decide), sysChanges_word _ _ (by decide)]

/-- R80: a state other than READY and DEGRADED stays. -/
theorem left_moduleState {ms : Nat} (h : s.rd pgSYS Reg.SYS.MODULE_STATE_MS = ms) (h2 : ms ≠ 2) (h3 : ms ≠ 3) :
    (b.left s).rd pgSYS Reg.SYS.MODULE_STATE_MS = ms := by
  have stays : modeStep s = s := by
    unfold modeStep
    simp [h, h2, h3]
  have settled : (settle b s).rd pgSYS Reg.SYS.MODULE_STATE_MS = (if s.boot.held then s else derive b s).rd pgSYS Reg.SYS.MODULE_STATE_MS := by
    unfold settle
    generalize (if s.boot.held then s else derive b s) = t
    rfl
  have left : (b.left s).rd pgSYS Reg.SYS.MODULE_STATE_MS = (settle b s).rd pgSYS Reg.SYS.MODULE_STATE_MS := by
    rw [left_eq]
    generalize settle b s = t
    rfl
  rw [left, settled]
  split
  · exact h
  · rw [derive_moduleState, stays, h]

/-- R419: FAULT_N is low in SAFE. -/
theorem left_faultN_safe (h : s.rd pgSYS Reg.SYS.MODULE_STATE_MS = 4) : (b.left s).pins.faultN = false := by
  have level : (b.left s).faultLevel = false := by
    unfold faultLevel
    rw [left_moduleState b s h (by decide) (by decide)]
    rfl
  rw [left_pins, level]
  simp

end Follow

/-! ### What readings of the outside tell -/

section Readings

variable {s t : State} (h : t.outside = s.outside)
include h

theorem outside_pins : t.pins = s.pins := congrArg (fun x => x.1) h

theorem outside_clrPin : t.conv.clrPin = s.conv.clrPin := congrArg (fun x => x.2.1) h

theorem outside_safeHard : t.fault.safeHard = s.fault.safeHard := congrArg (fun x => x.2.2.1) h

theorem outside_ended : t.boot.ended = s.boot.ended := congrArg (fun x => x.2.2.2.1) h

theorem outside_moduleState : t.rd pgSYS Reg.SYS.MODULE_STATE_MS = s.rd pgSYS Reg.SYS.MODULE_STATE_MS := by
  have word := congrFun (congrArg (fun x => x.2.2.2.2) h) ⟨regAddr pgSYS (Reg.SYS.MODULE_STATE_MS.at 0), by decide⟩
  unfold rd
  exact congrArg (fun w : Word => bits w.toNat _ _) word

end Readings

/-! ### Entry into SAFE (R416, R418) -/

section Safety

variable (s : State) (input : Nat) (hard : Bool)

/-- R416, R418: the record of a safety input, and what it notes. -/
def safetyNoted (s : State) (input : Nat) (hard : Bool) : State :=
  { s.record pgSYS 15 1 5 input 0 with
    fault := { (s.record pgSYS 15 1 5 input 0).fault with safeHard := (s.record pgSYS 15 1 5 input 0).fault.safeHard || hard }
    light := { (s.record pgSYS 15 1 5 input 0).light with returning := 0 } }

/-- R416: the work of a state that enters SAFE ends: the plan stops, and every pass is abandoned. -/
def workEnded (s : State) : State := s.stopPlan.withholdUnfinished.each s.stopPlan.usedWells fun t w => t.abandonAll w

theorem safety_eq : s.safety input hard =
    if (s.safetyNoted input hard).rd pgSYS Reg.SYS.MODULE_STATE_MS = 4 then s.safetyNoted input hard
    else (((s.safetyNoted input hard).wr pgSYS Reg.SYS.MODULE_STATE_MS 4).raise pgTEST 11).workEnded := by
  unfold safety safetyNoted workEnded
  generalize s.record pgSYS 15 1 5 input 0 = t
  simp only [beq_iff_eq]

theorem recordBlind_light : RecordBlind State.light where
  test _ _ _ _ _ := rfl
  flash _ _ := rfl
  seq _ _ := rfl
  ring _ _ := rfl

theorem passBlind_light : PassBlind State.light where
  setWord _ _ _ _ _ := rfl
  seals _ _ := rfl
  wells _ _ := rfl
  integ _ _ := rfl
  fences _ _ := rfl

theorem safetyNoted_light : (s.safetyNoted input hard).light = { s.light with returning := 0 } := by
  unfold safetyNoted
  dsimp only
  rw [record_keeps recordBlind_light]

theorem safetyNoted_pins : (s.safetyNoted input hard).pins = s.pins := by
  have recorded : (s.record pgSYS 15 1 5 input 0).pins = s.pins := outside_pins (record_outside s _ _ _ _ _ _ _ _)
  rw [← recorded]
  unfold safetyNoted
  generalize s.record pgSYS 15 1 5 input 0 = t
  rfl

theorem stopPlan_kept : s.stopPlan.outside = s.outside ∧ s.stopPlan.light = s.light := by
  unfold stopPlan
  split <;> exact ⟨rfl, rfl⟩

theorem workEnded_outside : s.workEnded.outside = s.outside := by
  unfold workEnded
  rw [each_outside _ _ fun t w => abandonAll_outside t w false]
  exact (stopPlan_kept s).1

theorem workEnded_light : s.workEnded.light = s.light := by
  unfold workEnded
  rw [each_keeps State.light _ fun t w => abandonAll_keeps passBlind_light t w false]
  exact (stopPlan_kept s).2

/-- R418: a safety input of SAFE leaves the module in SAFE. -/
theorem safety_moduleState : (s.safety input hard).rd pgSYS Reg.SYS.MODULE_STATE_MS = 4 := by
  rw [safety_eq]
  split
  next safe => exact safe
  next =>
    rw [outside_moduleState (workEnded_outside _), rd_raise_ne _ _ _ _ _ _ (by decide)]
    exact rd_wr _ _ _ _ _ (by decide)

theorem safety_light : (s.safety input hard).light = { s.light with returning := 0 } := by
  rw [safety_eq]
  split
  · exact safetyNoted_light s input hard
  · rw [workEnded_light, raise_light, wr_light, safetyNoted_light]

theorem safety_pins : (s.safety input hard).pins = s.pins := by
  rw [safety_eq]
  split
  · exact safetyNoted_pins s input hard
  · rw [outside_pins (workEnded_outside _), raise_pins, wr_pins, safetyNoted_pins]

end Safety

/-! ### Sources (R313) -/

/-- A source after an update of one: sources beyond the fifth are the sixth. -/
theorem source_onSource (s : State) (i j : Nat) (f : Source → Source) :
    (s.onSource i f).source j = if min i 5 = min j 5 then f (s.source j) else s.source j := by
  unfold onSource setSource
  rcases i with _ | _ | _ | _ | _ | i <;> rcases j with _ | _ | _ | _ | _ | j <;> simp [source]

theorem source_of_light {s t : State} (h : t.light = s.light) (i : Nat) : t.source i = s.source i := by
  unfold source
  split <;> rw [h]

/-- The light state of a source after an update that leaves that state alone. -/
theorem onSource_cs (s : State) (i j : Nat) {f : Source → Source} (h : ∀ x, (f x).cs = x.cs) :
    ((s.onSource i f).source j).cs = (s.source j).cs := by
  rw [source_onSource, apply_ite Source.cs, h, ite_self]

theorem setCs_cs (s : State) (i j cs : Nat) :
    ((s.setCs i cs).source j).cs = if min i 5 = min j 5 then cs else (s.source j).cs := by
  have cases : ∀ x : Source, (if x.cs = cs then x else { x with cs := cs, margins := [] }).cs = cs := by
    intro x
    split
    next h => exact h
    next => rfl
  unfold setCs
  rw [source_onSource, apply_ite Source.cs, cases]

theorem driveBias_cs (s : State) (i j code : Nat) : ((s.driveBias i code).source j).cs = (s.source j).cs := by
  have driven : ((s.onSource i fun x => x.toBias s.ns code).source j).cs = (s.source j).cs :=
    onSource_cs s i j fun x => by
      unfold Source.toBias
      split <;> rfl
  unfold driveBias
  dsimp only
  split
  · exact (congrArg Source.cs (source_of_light (raise_light _ _ _) j)).trans driven
  · exact driven

/-- A source that is darkened is in the state named; the others are as before. -/
theorem darken_cs (s : State) (i j cs bias : Nat) :
    ((s.darken i cs bias).source j).cs = if min i 5 = min j 5 then cs else (s.source j).cs := by
  unfold darken
  rw [onSource_cs, driveBias_cs, setCs_cs]
  exact fun _ => rfl

/-- R313: a source that carries light goes dark, to come back. -/
def optoffDark (s : State) (i : Nat) : State :=
  if litCs (s.source i).cs then (s.darken i 0 0).onSource i fun x => { x with back := true } else s

theorem optoffDark_cs (s : State) (i j : Nat) : ((s.optoffDark i).source j).cs =
    if litCs (s.source i).cs ∧ min i 5 = min j 5 then 0 else (s.source j).cs := by
  unfold optoffDark
  split
  next lit =>
    rw [onSource_cs, darken_cs]
    · simp [lit]
    · exact fun _ => rfl
  next dark => simp [dark]

/-- R313: every source is dark when each has been darkened. -/
theorem optoffDark_all (s : State) : ∀ i ∈ allSources, litCs ((s.each allSources optoffDark).source i).cs = false := by
  refine each_reaches (fun t i => litCs (t.source i).cs = false) optoffDark (fun t i => ?_) (fun t i j dark => ?_) allSources s
  · rw [optoffDark_cs]
    split
    · rfl
    next dark => simpa using dark
  · rw [optoffDark_cs]
    split
    · rfl
    · exact dark

theorem optoffDark_outside (s : State) (i : Nat) : (s.optoffDark i).outside = s.outside := by simp [optoffDark]

/-! ### The pins -/

/-- R313: an assertion of OPTOFF_N darkens every source that carries light. -/
def optoffDarkened (s : State) : State :=
  (({ s with pins := { s.pins with optoffN := false } }).pinEdge Reg.EVT.FILT_OPTOFF_SENSE 5 true).interruptHandovers.each
    allSources optoffDark

/-- R313: it closes every shutter besides. -/
def shuttersClosed (s : State) : State :=
  { s with light := { s.light with closed := 0xFFFFFFFF, reopen := [], probing := [], returning := 0 } }

theorem shuttersClosed_source (s : State) (i : Nat) : s.shuttersClosed.source i = s.source i := by
  unfold source
  split <;> rfl

theorem optoffAssert_eq (s : State) (h : s.pins.optoffN = true) :
    s.optoffAssert = (s.optoffDarkened.shuttersClosed.raise (pgComb 0) 14).safety 139 false := by
  unfold optoffAssert
  rw [if_neg (by rw [h]; decide)]
  extract_lets pins edge dark
  have darkened : dark = s.optoffDarkened := rfl
  clear_value dark
  rw [← darkened]
  rfl

theorem optoffDarkened_pins (s : State) : s.optoffDarkened.pins = { s.pins with optoffN := false } := by
  unfold optoffDarkened
  rw [outside_pins (each_outside _ _ optoffDark_outside), outside_pins (interruptHandovers_outside _), outside_pins (pinEdge_outside _ _ _ _)]

theorem optoffAssert_pins (s : State) (h : s.pins.optoffN = true) : s.optoffAssert.pins = { s.pins with optoffN := false } := by
  rw [optoffAssert_eq s h, safety_pins, raise_pins, ← optoffDarkened_pins]
  generalize s.optoffDarkened = t
  rfl

/-- R313: the light after an assertion of OPTOFF_N. -/
theorem optoffAssert_light (s : State) (h : s.pins.optoffN = true) : s.optoffAssert.light = s.optoffDarkened.shuttersClosed.light := by
  rw [optoffAssert_eq s h, safety_light, raise_light]
  generalize s.optoffDarkened = t
  rfl

/-- R313: the state in which OPTOFF_N's deassertion has relit the sources. -/
def optoffRelit (s : State) : State :=
  let v := ({ s with pins := { s.pins with optoffN := true } }).pinEdge Reg.EVT.FILT_OPTOFF_SENSE 5 false
  (if s.clearActive then v else v.relightSources).raise (pgComb 0) 14

theorem pinEdge_conv (s : State) (f : Field) (b : Nat) (v : Bool) : (s.pinEdge f b v).conv = s.conv ∧ (s.pinEdge f b v).therm = s.therm := by
  unfold pinEdge
  dsimp only
  split <;> simp

theorem optoffRelease_eq (s : State) (h : s.pins.optoffN = false) : s.optoffRelease =
    if s.optoffRelit.fault.safeHard || s.optoffRelit.rd pgSYS Reg.SYS.MODULE_STATE_MS != 4 then s.optoffRelit
    else if s.optoffRelit.boot.ended then { s.optoffRelit with light := { s.optoffRelit.light with returning := 1 } }
    else s.optoffRelit.recheckWells.wr pgSYS Reg.SYS.MODULE_STATE_MS 1 := by
  have clear : (({ s with pins := { s.pins with optoffN := true } } : State).pinEdge Reg.EVT.FILT_OPTOFF_SENSE 5 false).clearActive =
      s.clearActive := by
    obtain ⟨conv, therm⟩ := pinEdge_conv { s with pins := { s.pins with optoffN := true } } Reg.EVT.FILT_OPTOFF_SENSE 5 false
    unfold clearActive
    rw [conv, therm]
  unfold optoffRelease
  rw [if_neg (by rw [h]; decide)]
  extract_lets pins edge relit
  have same : relit = s.optoffRelit := by
    unfold relit optoffRelit
    rw [show edge.clearActive = s.clearActive from clear]
  clear_value relit
  subst same
  rfl

theorem optoffRelit_outside (s : State) : s.optoffRelit.outside = ({ s with pins := { s.pins with optoffN := true } } : State).outside := by
  simp [optoffRelit, pinEdge_outside]

theorem recheckWells_outside (s : State) : s.recheckWells.outside = s.outside := by simp [recheckWells, relockMoved]

theorem optoffRelease_pins (s : State) (h : s.pins.optoffN = false) : s.optoffRelease.pins.optoffN = true := by
  have relit := outside_pins (optoffRelit_outside s)
  rw [optoffRelease_eq s h, apply_ite State.pins, apply_ite State.pins, wr_pins, outside_pins (recheckWells_outside _), relit]
  simp

end State

open State

/-! ### The obligation -/

/-- R328: clear codes by the pin. -/
theorem clrPin_forces : ∀ (s : State) (at_ : Nat), s.boot.held = false →
    let u := s.advance at_
    (s.pins.clrN = true →
      let v : State := { u with pins := { s.pins with clrN := false }, conv := { s.conv with clrPin := true } }
      Machine.exec (.clrNAssert at_) s =
        .next (s.left ((if s.clearActive then v else v.forceClear).pinEdge Reg.EVT.FILT_CLR_SENSE 4 true)) ∧
      ∃ t, Machine.exec (.clrNAssert at_) s = .next t ∧ t.pins.clrN = false ∧ t.conv.clrPin = true ∧ t.clearActive = true) ∧
    (s.pins.clrN = false → ∃ t, Machine.exec (.clrNDeassert at_) s = .next t ∧
      t = s.left (({ u with pins := { s.pins with clrN := true } }).pinEdge Reg.EVT.FILT_CLR_SENSE 4 false) ∧
      t.pins.clrN = true ∧ t.conv = s.conv ∧ State.sameBut [] s t) ∧
    (s.pins.clrN = false → Machine.exec (.clrNAssert at_) s = .next (s.left u)) ∧
    (s.pins.clrN = true → Machine.exec (.clrNDeassert at_) s = .next (s.left u)) ∧
    ∀ pending applied, s.pins.clrN = true → (s.endClear pending applied).conv.clrPin = false := by
  intro s at_ up
  rw [eff_clrNAssert s at_ up, eff_clrNDeassert s at_ up]
  refine ⟨fun high => ?_, fun low => ?_, fun low => ?_, fun high => ?_, fun pending applied high => ?_⟩
  · have forced : (s.advance at_).clrAssert = (if s.clearActive then
        ({ s.advance at_ with pins := { s.pins with clrN := false }, conv := { s.conv with clrPin := true } } : State)
        else State.forceClear { s.advance at_ with pins := { s.pins with clrN := false }, conv := { s.conv with clrPin := true } }).pinEdge
          Reg.EVT.FILT_CLR_SENSE 4 true := by
      unfold clrAssert
      rw [show (s.advance at_).pins.clrN = true from high]
      rfl
    have outside : (s.advance at_).clrAssert.outside =
        ({ s.advance at_ with pins := { s.pins with clrN := false }, conv := { s.conv with clrPin := true } } : State).outside := by
      rw [forced, pinEdge_outside, ite_outside, forceClear_outside, ite_self]
    have pin : (s.left (s.advance at_).clrAssert).conv.clrPin = true := by
      rw [left_conv]
      exact outside_clrPin outside
    refine ⟨by rw [forced], _, rfl, ?_, pin, ?_⟩
    · rw [left_pins, outside_pins outside]
    · unfold clearActive
      rw [pin]
      simp
  · have level : (s.advance at_).clrDeassert =
        ({ s.advance at_ with pins := { s.pins with clrN := true } } : State).pinEdge Reg.EVT.FILT_CLR_SENSE 4 false := by
      unfold clrDeassert
      rw [show (s.advance at_).pins.clrN = false from low]
      rfl
    rw [level]
    refine ⟨_, rfl, rfl, ?_, ?_, ?_⟩
    · rw [left_pins, outside_pins (pinEdge_outside _ _ _ _)]
    · rw [left_conv]
      exact (pinEdge_conv _ _ _ _).1
    · have edge : ∀ t : State, (t.pinEdge Reg.EVT.FILT_CLR_SENSE 4 false).mem = t.mem ∧
          (t.pinEdge Reg.EVT.FILT_CLR_SENSE 4 false).seals = t.seals ∧
          ∀ a, a ∉ followers → (t.pinEdge Reg.EVT.FILT_CLR_SENSE 4 false).word a = t.word a := by
        intro t
        unfold pinEdge
        dsimp only
        split
        · exact ⟨raise_mem _ _ _, raise_seals _ _ _, fun a follower => word_raise_ne _ _ _ _ fun e => follower (e ▸ by decide)⟩
        · exact ⟨rfl, rfl, fun a _ => rfl⟩
      obtain ⟨mem, seals, words⟩ := edge { s.advance at_ with pins := { s.pins with clrN := true } }
      exact ⟨(left_mem _ _).trans mem, (left_seals _ _).trans seals,
        fun a _ follower => (left_word _ _ a follower).trans (words a follower)⟩
  · unfold clrAssert
    rw [show (s.advance at_).pins.clrN = false from low]
    rfl
  · unfold clrDeassert
    rw [show (s.advance at_).pins.clrN = true from high]
    rfl
  · unfold endClear
    dsimp only
    rw [apply_ite (fun t : State => t.conv.clrPin), outside_clrPin (relightSources_outside _), ite_self, high]
    simp

/-- Settles O20: clears and relighting leave the pins alone; entry into SAFE leaves the light as OPTOFF_N has put it. -/
theorem pinsForce : Obligations.PinsForce := by
  unfold Obligations.PinsForce
  refine ⟨clrPin_forces, fun s at_ up => ?_⟩
  rw [eff_optoffAssert s at_ up, eff_optoffRelease s at_ up]
  refine ⟨fun high => ?_, fun low => ⟨fun other => ?_, fun soft safe => ?_, ?_⟩, fun low => ?_, fun high => ?_⟩
  · have light := optoffAssert_light (s.advance at_) high
    have safe : (s.advance at_).optoffAssert.rd pgSYS Reg.SYS.MODULE_STATE_MS = 4 := by
      rw [optoffAssert_eq (s.advance at_) high, safety_moduleState]
    refine ⟨_, rfl, ?_, ?_, ?_, ?_, ?_, left_moduleState s _ safe (by decide) (by decide), left_faultN_safe s _ safe, fun i hi => ?_⟩
    · rw [left_pins, optoffAssert_pins (s.advance at_) high]
    · rw [left_light, light]
      rfl
    · rw [left_light, light]
      rfl
    · rw [left_light, light]
      rfl
    · rw [left_light, light]
      rfl
    · rw [source_of_light (left_light s _), source_of_light light, shuttersClosed_source]
      exact optoffDark_all _ i (by unfold allSources; simp; omega)
  · rw [optoffRelease_eq (s.advance at_) low, if_pos]
    · rfl
    · rw [outside_safeHard (optoffRelit_outside _), outside_moduleState (optoffRelit_outside _)]
      have ms : ({ s.advance at_ with pins := { (s.advance at_).pins with optoffN := true } } : State).rd pgSYS Reg.SYS.MODULE_STATE_MS =
        s.rd pgSYS Reg.SYS.MODULE_STATE_MS := rfl
      have hard : (s.advance at_).fault.safeHard = s.fault.safeHard := rfl
      rw [ms, hard]
      simpa using other
  · rw [optoffRelease_eq (s.advance at_) low, if_neg]
    · have ended : (s.advance at_).optoffRelit.boot.ended = s.boot.ended :=
        (outside_ended (optoffRelit_outside (s.advance at_))).trans rfl
      rw [ended]
      rfl
    · rw [outside_safeHard (optoffRelit_outside _), outside_moduleState (optoffRelit_outside _)]
      have ms : ({ s.advance at_ with pins := { (s.advance at_).pins with optoffN := true } } : State).rd pgSYS Reg.SYS.MODULE_STATE_MS =
        s.rd pgSYS Reg.SYS.MODULE_STATE_MS := rfl
      have hard : (s.advance at_).fault.safeHard = s.fault.safeHard := rfl
      rw [ms, hard, soft, safe]
      decide
  · refine ⟨_, rfl, ?_⟩
    rw [left_pins]
    exact optoffRelease_pins (s.advance at_) low
  · unfold optoffAssert
    rw [show (s.advance at_).pins.optoffN = false from low]
    rfl
  · unfold optoffRelease
    rw [show (s.advance at_).pins.optoffN = true from high]
    rfl

end Sys2Proof.Machine
end

section
/-! PROOFS. The I3C ports: which commands reach them, what they answer, their addresses and settings, and register transfers (R495 to
R507). -/

namespace Sys2Proof.Machine

namespace State

/-! ### Which commands reach a port (R498, R500, R507) -/

section Reach

variable {s : State} {k : Nat}

theorem cccReaches_notReady (h : s.portReady k = false) (direct : Bool) : s.cccReaches k direct = false := by simp [cccReaches, h]

theorem cccReaches_noAddress (h : s.hasDa k = false) : s.cccReaches k true = false := by simp [cccReaches, h]

theorem cccReaches_ready (h : s.portReady k = true) {direct : Bool} (da : direct = true → s.hasDa k = true) :
    s.cccReaches k direct = true := by
  cases direct
  · simp [cccReaches, h]
  · simp [cccReaches, h, da rfl]

/-- R498, R500, R507: a transfer does not reach a port that is not ready, without an address, or in the other mode. -/
def unreached (s : State) (k : Nat) (hdr : Bool) : Prop :=
  s.portReady k = false ∨ s.hasDa k = false ∨ s.flag pgSYS Reg.SYS.I3C_STAT_HDR k ≠ hdr

theorem unreached_iff (hdr : Bool) :
    (!s.portReady k || !s.hasDa k || s.flag pgSYS Reg.SYS.I3C_STAT_HDR k != hdr) = true ↔ s.unreached k hdr := by
  simp [unreached, or_assoc]

theorem i3cWrite_unreached {hdr : Bool} (h : s.unreached k hdr) (code : Nat) (bs : List Byte) (early bad : Bool) :
    s.i3cWrite k hdr code bs early bad = s := if_pos ((unreached_iff hdr).mpr h)

theorem i3cRead_unreached {hdr : Bool} (h : s.unreached k hdr) (bs : List Byte) (bad : Bool) : s.i3cRead k hdr bs bad = s :=
  if_pos ((unreached_iff hdr).mpr h)

theorem responseRead_unreached {hdr : Bool} (h : s.unreached k hdr) (code : Nat) :
    s.responseRead k hdr code = s.answerBytes k none := if_pos ((unreached_iff hdr).mpr h)

/-- R508: a port that is not ready, has no address or has interrupts disabled sends none. -/
theorem ibiSend_unreached (h : s.portReady k = false ∨ s.hasDa k = false ∨ s.flag pgSYS Reg.SYS.I3C_STAT_ENINT k = false)
    (accepted : Bool) : s.ibiSend k accepted = s := by
  have none : (!s.portReady k || !s.hasDa k || !s.flag pgSYS Reg.SYS.I3C_STAT_ENINT k) = true := by simpa [or_assoc] using h
  unfold ibiSend
  exact if_pos none

theorem ibiSend_empty (h : s.ibiQueue k = []) (accepted : Bool) : s.ibiSend k accepted = s := by
  have queue : (if k = 0 then s.evt.ibi0 else s.evt.ibi1) = [] := h
  unfold ibiSend
  simp only [queue]
  split <;> rfl

theorem cccGet_reached (h : s.cccReaches k true = true) (bs : List Byte) : s.cccGet k bs = s.answerBytes k (some bs) := if_pos h

theorem cccGet_unreached (h : s.cccReaches k true = false) (bs : List Byte) : s.cccGet k bs = s.answerBytes k none :=
  if_neg (by simp [h])

theorem getStatus_unreached (h : s.cccReaches k true = false) : s.getStatus k = s.answerBytes k none := if_neg (by simp [h])

/-- A direct read reaches no port that is not ready or has no address. -/
theorem directRead_unreached (h : s.portReady k = false ∨ s.hasDa k = false) (hdr : Bool) :
    s.cccReaches k true = false ∧ s.unreached k hdr :=
  ⟨h.elim (cccReaches_notReady · true) cccReaches_noAddress, h.imp_right .inl⟩

end Reach

/-! ### Addresses and settings (R497, R498, R501) -/

section Settings

variable (s : State) (k : Nat)

/-- Two fields of I3C_STAT that share no bit. -/
theorem rd_wr_i3cStat (f g : Field) (v : Nat) (off : f.off = 0x100 ∧ g.off = 0x100) (stride : f.stride = 0x20 ∧ g.stride = 0x20)
    (room : f.lsb + f.width ≤ 32) (apart : g.lsb + g.width ≤ f.lsb ∨ f.lsb + f.width ≤ g.lsb) :
    (s.wr pgSYS f v k).rd pgSYS g k = s.rd pgSYS g k := by
  refine rd_wr_apart _ _ _ _ _ _ _ _ ?_ room apart
  unfold Field.at
  rw [off.1, off.2, stride.1, stride.2]

theorem flag_wr_i3cStat (f : Field) (v : Nat) (room : f.lsb + f.width ≤ 32) :
    (s.wr pgSYS f v k).flag pgSYS f k = (v % 2 ^ f.width == 1) := by
  unfold flag
  rw [rd_wr _ _ _ _ _ room]

/-- No event of the SYS page touches I3C_STAT. -/
theorem rd_raise_i3cStat (f : Field) (off : f.off = 0x100) (b : Nat) : (s.raise pgSYS b).rd pgSYS f k = s.rd pgSYS f k := by
  refine rd_raise_ne _ _ _ _ _ _ ?_
  have low : ∀ o, regAddr pgSYS o = o := by
    intro o
    unfold regAddr canonReg pgSYS
    rw [if_neg (by omega), if_neg (by omega)]
    simp
  rw [low, low]
  unfold Field.at
  omega

/-- R498: the address that a port holds. -/
def heldDa (s : State) (k : Nat) : Option Nat := if s.hasDa k then some (s.rd pgSYS Reg.SYS.I3C_STAT_DA k) else none

theorem setDa_eq (da : Option Nat) : s.setDa k da = if s.heldDa k = da.map (· % 128) then s else
    ((s.wr pgSYS Reg.SYS.I3C_STAT_DA ((da.map (· % 128)).getD 0) k).wr pgSYS Reg.SYS.I3C_STAT_DA_VALID
      (b2n (da.map (· % 128)).isSome) k).raise pgSYS 8 := rfl

/-- R498: after an assignment the port holds that address. -/
theorem setDa_some (da : Nat) : (s.setDa k (some da)).rd pgSYS Reg.SYS.I3C_STAT_DA k = da % 128 ∧ (s.setDa k (some da)).hasDa k = true := by
  rw [setDa_eq]
  split
  next same =>
    unfold heldDa at same
    split at same
    next da => exact ⟨Option.some.inj same, da⟩
    next => simp at same
  next =>
    constructor
    · rw [rd_raise_i3cStat _ _ _ rfl, rd_wr_i3cStat _ _ _ _ _ ⟨rfl, rfl⟩ ⟨rfl, rfl⟩ (by decide) (by decide), rd_wr _ _ _ _ _ (by decide)]
      exact Nat.mod_mod da 128
    · unfold hasDa flag
      rw [rd_raise_i3cStat _ _ _ rfl, rd_wr _ _ _ _ _ (by decide)]
      rfl

/-- R498: after its removal the port has none. -/
theorem setDa_none : (s.setDa k none).hasDa k = false := by
  rw [setDa_eq]
  split
  next same =>
    unfold heldDa at same
    split at same
    next => simp at same
    next da => simpa using da
  next =>
    unfold hasDa flag
    rw [rd_raise_i3cStat _ _ _ rfl, rd_wr _ _ _ _ _ (by decide)]
    rfl

/-- R501: the events that ENEC and DISEC name. -/
theorem eventControl_enint {events : Nat} (h : bitAt events 0 = true) (v : Nat) (hv : v < 2) :
    (s.eventControl k events v).flag pgSYS Reg.SYS.I3C_STAT_ENINT k = (v == 1) := by
  have written : (s.wr pgSYS Reg.SYS.I3C_STAT_ENINT v k).rd pgSYS Reg.SYS.I3C_STAT_ENINT k = v := by
    rw [rd_wr _ _ _ _ _ (by decide)]
    exact Nat.mod_eq_of_lt hv
  unfold eventControl flag
  simp only [h, if_true]
  split
  · rw [rd_wr_i3cStat _ _ _ _ _ ⟨rfl, rfl⟩ ⟨rfl, rfl⟩ (by decide) (by decide), written]
  · rw [written]

theorem eventControl_enhj {events : Nat} (h : bitAt events 3 = true) (v : Nat) (hv : v < 2) :
    (s.eventControl k events v).flag pgSYS Reg.SYS.I3C_STAT_ENHJ k = (v == 1) := by
  unfold eventControl flag
  simp only [h, if_true]
  rw [rd_wr _ _ _ _ _ (by decide)]
  exact congrArg (· == 1) (Nat.mod_eq_of_lt hv)

theorem setMwl_mwl (len : Nat) : (s.setMwl k len).mwl k = len % 2 ^ 16 := by
  unfold setMwl mwl
  split <;> exact rd_wr _ _ _ _ _ (by decide)

theorem setMrl_mrl (len : Nat) : (s.setMrl k len).mrl k = len % 2 ^ 16 := by
  unfold setMrl mrl
  split <;> exact rd_wr _ _ _ _ _ (by decide)

end Settings

end State

open State

/-! ### Commands that do nothing -/

section Nothing

variable {s : State} (held : s.boot.held = false) (at_ k da e len ibi code : Nat) (direct hdr won early bad acc : Bool) (bs : List Byte)
include held

/-- R500: a port that is not ready takes no command. -/
theorem i3c_notReady (h : (s.advance at_).portReady k = false) : ∀ c ∈ [Instr.i3cWrite at_ k hdr code bs early bad, .i3cRead at_ k hdr bs bad,
      .enec at_ k direct e, .disec at_ k direct e, .rstdaa at_ k, .entdaa at_ k da won, .setmwl at_ k direct len,
      .setmrl at_ k direct len ibi, .enthdr0 at_ k, .hdrExit at_ k, .setaasa at_ k, .rstact at_ k direct false e, .setdasa at_ k da,
      .setnewda at_ k da, .ibiSend at_ k acc], exec c s = .next (s.left (s.advance at_)) := by
  have silent := fun d => cccReaches_notReady h d
  simp only [List.forall_mem_cons, List.not_mem_nil, false_imp_iff, implies_true, and_true]
  rw [eff_i3cWrite s _ _ _ _ _ _ _ held, eff_i3cRead s _ _ _ _ _ held, eff_enec s _ _ _ _ held, eff_disec s _ _ _ _ held, eff_rstdaa s _ _ held,
    eff_entdaa s _ _ _ _ held, eff_setmwl s _ _ _ _ held, eff_setmrl s _ _ _ _ _ held, eff_enthdr0 s _ _ held, eff_hdrExit s _ _ held,
    eff_setaasa s _ _ held, eff_rstact s _ _ _ _ _ held, eff_setdasa s _ _ _ held, eff_setnewda s _ _ _ held, eff_ibiSend s _ _ _ held,
    i3cWrite_unreached (.inl h), i3cRead_unreached (.inl h), ibiSend_unreached (.inl h)]
  simp only [silent, h, Bool.false_and, Bool.false_eq_true, if_false, and_self]

/-- R498: a port without a dynamic address takes broadcasts only. -/
theorem i3c_noAddress (h : s.hasDa k = false) : ∀ c ∈ [Instr.i3cWrite at_ k hdr code bs early bad, .i3cRead at_ k hdr bs bad,
      .enec at_ k true e, .disec at_ k true e, .setmwl at_ k true len, .setmrl at_ k true len ibi, .rstact at_ k true false e,
      .setnewda at_ k da, .ibiSend at_ k acc], exec c s = .next (s.left (s.advance at_)) := by
  have none : (s.advance at_).hasDa k = false := (advance_hasDa s at_ k).trans h
  have silent := cccReaches_noAddress none
  simp only [List.forall_mem_cons, List.not_mem_nil, false_imp_iff, implies_true, and_true]
  rw [eff_i3cWrite s _ _ _ _ _ _ _ held, eff_i3cRead s _ _ _ _ _ held, eff_enec s _ _ _ _ held, eff_disec s _ _ _ _ held,
    eff_setmwl s _ _ _ _ held, eff_setmrl s _ _ _ _ _ held, eff_rstact s _ _ _ _ _ held, eff_setnewda s _ _ _ held,
    eff_ibiSend s _ _ _ held, i3cWrite_unreached (.inr (.inl none)), i3cRead_unreached (.inr (.inl none)),
    ibiSend_unreached (.inr (.inl none))]
  simp only [silent, Bool.false_and, Bool.false_eq_true, if_false, and_self]

/-- R507: a port takes no transfer of the other mode. -/
theorem i3c_otherMode (h : s.flag pgSYS Reg.SYS.I3C_STAT_HDR k ≠ hdr) :
    ∀ c ∈ [Instr.i3cWrite at_ k hdr code bs early bad, .i3cRead at_ k hdr bs bad], exec c s = .next (s.left (s.advance at_)) := by
  have other : (s.advance at_).unreached k hdr := .inr (.inr h)
  simp only [List.forall_mem_cons, List.not_mem_nil, false_imp_iff, implies_true, and_true]
  rw [eff_i3cWrite s _ _ _ _ _ _ _ held, eff_i3cRead s _ _ _ _ _ held, i3cWrite_unreached other, i3cRead_unreached other]
  exact ⟨rfl, rfl⟩

/-- R496, R498: a direct read of a port that is not reached is not answered; there is no port beyond the second. -/
theorem i3c_directReads : ∀ c ∈ [Instr.getpid at_ k, .getbcr at_ k, .getdcr at_ k, .getcaps at_ k, .getmxds at_ k, .getmwl at_ k,
      .getmrl at_ k, .rstact at_ k direct true e, .getstatus at_ k, .responseRead at_ k hdr code],
    (2 ≤ k → exec c s = .next (s.left (s.advance at_))) ∧
    (k < 2 → (s.advance at_).portReady k = false ∨ s.hasDa k = false →
      exec c s = .next (s.left ((s.advance at_).answerBytes k none))) := by
  simp only [List.forall_mem_cons, List.not_mem_nil, false_imp_iff, implies_true, and_true]
  rw [eff_getpid s _ _ held, eff_getbcr s _ _ held, eff_getdcr s _ _ held, eff_getcaps s _ _ held, eff_getmxds s _ _ held, eff_getmwl s _ _ held,
    eff_getmrl s _ _ held, eff_rstact s _ _ _ _ _ held, eff_getstatus s _ _ held, eff_responseRead s _ _ _ _ held]
  by_cases hk : k < 2
  · have far : ¬2 ≤ k := by omega
    simp only [if_true, far, false_imp_iff, true_and, hk, forall_const]
    have quiet : ∀ h : (s.advance at_).portReady k = false ∨ s.hasDa k = false, _ := fun h =>
      directRead_unreached (s := s.advance at_) h hdr
    exact ⟨fun h => by rw [cccGet_unreached (quiet h).1], fun h => by rw [cccGet_unreached (quiet h).1],
      fun h => by rw [cccGet_unreached (quiet h).1], fun h => by rw [cccGet_unreached (quiet h).1],
      fun h => by rw [cccGet_unreached (quiet h).1], fun h => by rw [cccGet_unreached (quiet h).1],
      fun h => by rw [cccGet_unreached (quiet h).1], fun h => by rw [cccGet_unreached (quiet h).1],
      fun h => by rw [getStatus_unreached (quiet h).1], fun h => by rw [responseRead_unreached (quiet h).2]⟩
  · simp only [if_true, hk, if_false, false_imp_iff, implies_true, and_true]

end Nothing

/-! ### What a port answers, and its settings -/

/-- R496, R497, R501: the direct reads of a port that is ready. -/
theorem i3c_answers {s : State} (held : s.boot.held = false) (at_ e : Nat) (direct : Bool) {k : Nat} (hk : k < 2)
    (ready : (s.advance at_).portReady k = true) :
    (exec (.getpid at_ k) s = .next (s.left ((s.advance at_).answerBytes k (if s.hasDa k then some (State.bigBytes 6 (s.pid k)) else none)))) ∧
    (exec (.getbcr at_ k) s = .next (s.left ((s.advance at_).answerBytes k (if s.hasDa k then some [0x26] else none)))) ∧
    (exec (.getdcr at_ k) s = .next (s.left ((s.advance at_).answerBytes k (if s.hasDa k then some [0x00] else none)))) ∧
    (exec (.getcaps at_ k) s = .next (s.left ((s.advance at_).answerBytes k (if s.hasDa k then some [0x01, 0x01] else none)))) ∧
    (exec (.getmxds at_ k) s =
      .next (s.left ((s.advance at_).answerBytes k (if s.hasDa k then some [0x00, 0x00, 0x02, 0x00, 0x00] else none)))) ∧
    (exec (.getmwl at_ k) s = .next (s.left ((s.advance at_).answerBytes k (if s.hasDa k then some (State.bigBytes 2 (s.mwl k)) else none)))) ∧
    (exec (.getmrl at_ k) s = .next (s.left ((s.advance at_).answerBytes k
      (if s.hasDa k then some (State.bigBytes 2 (s.mrl k) ++ bytesOf 1 (s.i3cPort k).ibiMax) else none)))) ∧
    (exec (.rstact at_ k direct true e) s = .next (s.left ((s.advance at_).answerBytes k (if s.hasDa k then some [0x01, 0x01] else none)))) := by
  have answers : ∀ bs, (s.advance at_).cccGet k bs = (s.advance at_).answerBytes k (if s.hasDa k then some bs else none) := by
    intro bs
    cases h : s.hasDa k with
    | true => exact cccGet_reached (cccReaches_direct ready ((advance_hasDa s at_ k).trans h)) bs
    | false => exact cccGet_unreached (cccReaches_noAddress ((advance_hasDa s at_ k).trans h)) bs
  rw [eff_getpid s _ _ held, eff_getbcr s _ _ held, eff_getdcr s _ _ held, eff_getcaps s _ _ held, eff_getmxds s _ _ held, eff_getmwl s _ _ held,
    eff_getmrl s _ _ held, eff_rstact s _ _ _ _ _ held]
  simp only [if_pos hk, if_true, answers, advance_pid, advance_mwl, advance_mrl, advance_i3cPort, and_self]

/-! ### The obligations -/

/-- Settles O57: what reaches a port, and what each command that reaches it does. -/
theorem i3cSettings : Obligations.I3cSettings := by
  unfold Obligations.I3cSettings
  refine ⟨?_, ?_, ?_, ?_, ?_⟩
  · intro s at_ k da e len ibi code direct hdr won early bad acc bs held
    refine ⟨i3c_notReady held at_ k da e len ibi code direct hdr won early bad acc bs,
      i3c_noAddress held at_ k da e len ibi code hdr early bad acc bs, i3c_otherMode held at_ k code hdr early bad bs, fun h => ?_,
      i3c_directReads held at_ k e code direct hdr, fun h => ?_, fun far => ?_⟩
    · rw [eff_ibiSend s _ _ _ held]
      rcases h with disabled | empty
      · rw [ibiSend_unreached (s := s.advance at_) (.inr (.inr disabled))]
      · rw [ibiSend_empty (s := s.advance at_) empty]
    · rw [eff_targetReset s _ _ held, if_neg]
      rw [advance_i3cPort]
      omega
    · rw [eff_hotJoin s _ _ held, hotJoin, if_neg]
      omega
  · intro s at_ k action direct held hk ready
    obtain ⟨pid, bcr, dcr, caps, mxds, mwl, mrl, rstact⟩ := i3c_answers held at_ action direct hk ready
    rw [pid, bcr, dcr, caps, mxds, mwl, mrl, rstact]
    cases s.hasDa k <;> simp
  · intro s at_ k da won held hk ready
    obtain ⟨addr, valid⟩ := setDa_some (s.advance at_) k da
    rw [eff_setdasa s _ _ _ held, eff_setaasa s _ _ held, eff_entdaa s _ _ _ _ held, eff_entdaa s _ _ _ _ held, eff_entdaa s _ _ _ _ held,
      eff_setnewda s _ _ _ held, eff_rstdaa s _ _ held]
    simp only [ready, Bool.true_and, if_true, advance_hasDa]
    refine ⟨fun none => ?_, ?_, fun da => ⟨?_, ?_, ?_, ?_⟩, trivial, addr, valid, setDa_none _ k⟩
    · rw [none]
      exact ⟨rfl, rfl, rfl⟩
    · rw [if_neg (by simp)]
    · rw [if_pos (cccReaches_direct ready ((advance_hasDa s at_ k).trans da))]
    · rw [da]
      rfl
    · rw [da]
      rfl
    · rw [da]
      rfl
  · intro s at_ k e len ibi direct held hk ready da
    have reached : (s.advance at_).cccReaches k direct = true := cccReaches_ready ready da
    rw [eff_enec s _ _ _ _ held, eff_disec s _ _ _ _ held, eff_setmwl s _ _ _ _ held, eff_setmrl s _ _ _ _ _ held, eff_enthdr0 s _ _ held,
      eff_hdrExit s _ _ held, eff_rstact s _ _ _ _ _ held, eff_targetReset s _ _ held]
    simp only [reached, ready, Bool.true_and, if_true]
    refine ⟨trivial, trivial, fun h => ⟨eventControl_enint _ k h 0 (by decide), eventControl_enint _ k h 1 (by decide)⟩,
      fun h => ⟨eventControl_enhj _ k h 0 (by decide), eventControl_enhj _ k h 1 (by decide)⟩, trivial, setMwl_mwl _ k len, trivial,
      setMrl_mrl _ k len, trivial, trivial, fun h => ?_, fun h => ?_, fun armed => ?_⟩
    · simp [h]
    · simp [Nat.not_lt.mpr h]
    · rw [if_pos ⟨hk, armed⟩]
  · intro s at_ k held hk
    rw [eff_hotJoin s _ _ held]
    refine ⟨fun may => ?_, fun may => ?_⟩
    · have joins : (s.advance at_).hotJoin k = (s.advance at_).onI3c k fun p => { p with hotJoined := true } := if_pos ⟨hk, may⟩
      obtain ⟨mem, seals⟩ := onI3c_memory (s.advance at_) k fun p => { p with hotJoined := true }
      refine ⟨_, rfl, ?_, (left_mem _ _).trans (joins ▸ mem), (left_seals _ _).trans (joins ▸ seals), fun a _ follower => ?_⟩
      · rw [left_i3cPort, joins, i3cPort_onI3c]
      · rw [left_word _ _ a follower, joins, onI3c_word, advance_word]
    · have stays : (s.advance at_).hotJoin k = s.advance at_ := if_neg fun h => may h.2
      rw [stays]

end Sys2Proof.Machine
end

section
/-! PROOFS. I3C register writes and reads, and their responses (R503 to R507). -/

namespace Sys2Proof.Machine

namespace State

/-! ### What a transfer is refused for (R504, R506) -/

/-- R506: a WRITE's length is wrong. -/
def badWriteLen (s : State) (k : Nat) (bs : List Byte) (early : Bool) : Prop :=
  let n := (bs.length - 4) / 4
  s.mwl k < 1 + bs.length ∨ early = false ∧ (bs.length % 4 ≠ 0 ∨ n = 0) ∨ bs.length < 4 ∨ 16 < n

theorem writeCheck_badLen {s : State} {k : Nat} {bs : List Byte} {early : Bool} (h : s.badWriteLen k bs early) (addr : Nat) :
    s.writeCheck k addr bs early = some 4 := by
  unfold badWriteLen at h
  unfold writeCheck
  dsimp only at h ⊢
  by_cases long : s.mwl k < 1 + bs.length
  · exact if_pos long
  rw [if_neg long]
  by_cases part : (!early && (bs.length % 4 != 0 || (bs.length - 4) / 4 == 0 || decide (bs.length < 4))) = true
  · exact if_pos part
  rw [if_neg part]
  by_cases many : 16 < (bs.length - 4) / 4
  · exact if_pos many
  rw [if_neg many]
  have whole : early = false → ¬(bs.length % 4 ≠ 0 ∨ (bs.length - 4) / 4 = 0) := by
    rintro rfl parts
    apply part
    simp only [Bool.not_false, Bool.true_and, Bool.or_eq_true, bne_iff_ne, beq_iff_eq, decide_eq_true_eq]
    exact .inl parts
  rcases h with h | ⟨h, parts⟩ | h | h
  · exact absurd h long
  · exact absurd parts (whole h)
  · exact if_pos h
  · exact absurd h many

theorem writeCheck_goodLen {s : State} {k : Nat} {bs : List Byte} {early : Bool} (h : ¬s.badWriteLen k bs early) (addr : Nat) :
    s.writeCheck k addr bs early =
      if addr % 4 ≠ 0 then some 8 else if 0x1000 < addr % 0x1000 + 4 * ((bs.length - 4) / 4) then some 5 else none := by
  unfold badWriteLen at h
  simp only [not_or, not_and] at h
  obtain ⟨long, part, short, many⟩ := h
  have whole : ¬(!early && (bs.length % 4 != 0 || (bs.length - 4) / 4 == 0 || decide (bs.length < 4))) = true := by
    cases early
    · obtain ⟨rest, some⟩ := part rfl
      simp only [Bool.not_false, Bool.true_and, Bool.or_eq_true, bne_iff_ne, beq_iff_eq, decide_eq_true_eq, not_or]
      exact ⟨⟨rest, some⟩, short⟩
    · simp
  unfold writeCheck
  dsimp only
  rw [if_neg long, if_neg whole, if_neg many, if_neg short]

section Reached

variable {s : State} {k : Nat} {hdr : Bool} (ready : s.portReady k = true) (da : s.hasDa k = true)
  (mode : s.flag pgSYS Reg.SYS.I3C_STAT_HDR k = hdr)
include ready da mode

theorem not_unreached : ¬(!s.portReady k || !s.hasDa k || s.flag pgSYS Reg.SYS.I3C_STAT_HDR k != hdr) = true := by
  simp [ready, da, mode]

/-- R504: an access with a parity or CRC error. -/
def parityError (s : State) (k : Nat) : State :=
  (((s.bump pgSYS Reg.SYS.I3C_PERR 1 k).raise pgSYS 9).onI3c k fun p => { p with perr := true }).respond k 6 0 300 []

theorem i3cWrite_parity (code : Nat) (bs : List Byte) (early : Bool) : s.i3cWrite k hdr code bs early true = s.parityError k :=
  if_neg (not_unreached ready da mode)

theorem i3cRead_parity (bs : List Byte) : s.i3cRead k hdr bs true = s.parityError k := if_neg (not_unreached ready da mode)

theorem i3cWrite_badCode {code : Nat} (h : code ≠ 0x10) (bs : List Byte) (early : Bool) :
    s.i3cWrite k hdr code bs early false = s.respond k 3 0 300 [] :=
  (if_neg (not_unreached ready da mode)).trans (if_pos h)

/-- R506: a WRITE whose check fails. -/
theorem i3cWrite_refused {bs : List Byte} {early : Bool} {e : Nat} (h : s.writeCheck k (fieldOf bs 0 4) bs early = some e) :
    s.i3cWrite k hdr 0x10 bs early false = s.respond k e 0 300 [] := by
  unfold i3cWrite
  rw [if_neg (not_unreached ready da mode)]
  simp only [h]
  rfl

/-- R503, R506: a WRITE that is performed. -/
theorem i3cWrite_performed {bs : List Byte} {early : Bool} (h : s.writeCheck k (fieldOf bs 0 4) bs early = none) :
    s.i3cWrite k hdr 0x10 bs early false =
      (let n := (bs.length - 4) / 4
       let w := s.busWords (k + 1) (fieldOf bs 0 4) ((List.range n).map fun i => BitVec.ofNat 32 (fieldOf bs (4 + 4 * i) 4))
       let o := firstOutcome w.2
       if w.1.halted then w.1
       else if early then w.1.respond k 4 n (300 + 100 * n) []
       else w.1.respond k o.1 o.2 (300 + 100 * n) []) := by
  unfold i3cWrite
  rw [if_neg (not_unreached ready da mode)]
  simp only [h]
  rfl

/-- R506: a READ by its length, count and address. -/
theorem i3cRead_cases (bs : List Byte) : s.i3cRead k hdr bs false =
    (let need := if hdr then 6 else 5
     let addr := fieldOf bs 0 4
     let n := fieldOf bs 4 1
     let r := s.busReads (k + 1) n addr
     let o := firstOutcome (r.2.map (·.2))
     if bs.length < need then s
     else if need < bs.length ∨ n = 0 ∨ 16 < n ∨ s.mrl k < 4 + 4 * n then s.respond k 4 0 300 []
     else if addr % 4 ≠ 0 then s.respond k 8 0 300 []
     else if 0x1000 < addr % 0x1000 + 4 * n then s.respond k 5 0 300 []
     else r.1.respond k o.1 o.2 (300 + 100 * n + windowWait k addr n) (r.2.map (·.1))) :=
  if_neg (not_unreached ready da mode)

/-- R505, R507: a read of the response alone. -/
theorem responseRead_cases (code : Nat) : s.responseRead k hdr code =
    if hdr = true ∧ code ≠ 0xA0 then (s.respond k 3 0 300 []).answerBytes k none
    else if s.ns < (s.i3cPort k).ready then s.answerBytes k none
    else s.answerBytes k (some (s.response k)) := if_neg (not_unreached ready da mode)

end Reached

end State

open State

/-- Commands with the same effect leave the same. -/
theorem leaves_congr {s u v : State} (h : u = v) : (Host.Outcome.next (s.left u) : Host.Outcome State Fault Refusal) = .next (s.left v) := by
  rw [h]

/-! ### The obligation -/

/-- Settles O59: a WRITE by its check, a READ by its branches, and the response that a read fetches. -/
theorem i3cTransfers : Obligations.I3cTransfers := by
  unfold Obligations.I3cTransfers
  intro s at_ k code bs hdr early held hk ready da mode
  have da' : (s.advance at_).hasDa k = true := (advance_hasDa s at_ k).trans da
  rw [eff_i3cWrite s _ _ _ _ _ _ _ held, eff_i3cWrite s _ _ _ _ _ _ _ held, eff_i3cWrite s _ _ _ _ _ _ _ held, eff_i3cRead s _ _ _ _ _ held,
    eff_i3cRead s _ _ _ _ _ held, eff_responseRead s _ _ _ _ held, eff_responseRead s _ _ _ _ held, if_pos hk, if_pos hk,
    i3cWrite_parity ready da' mode, i3cRead_parity ready da' mode, i3cRead_cases ready da' mode, responseRead_cases ready da' mode]
  refine ⟨⟨fun other => ?_, fun bad => ?_, fun good odd => ?_, fun good even cross => ?_, fun good even within => ?_⟩,
    ⟨fun short => ?_, fun long bad => ?_, fun long good odd => ?_, fun long good even cross => ?_, fun long good even within => ?_⟩,
    fun ddr other => ?_, fun serves => ⟨fun early => ?_, fun due => ?_⟩, ⟨rfl, rfl⟩, ?_⟩
  · rw [i3cWrite_badCode ready da' mode other]
  · rw [i3cWrite_refused ready da' mode (writeCheck_badLen bad _)]
  · rw [i3cWrite_refused ready da' mode ((writeCheck_goodLen good _).trans (if_pos odd))]
  · rw [i3cWrite_refused ready da' mode ((writeCheck_goodLen good _).trans ((if_neg (by omega)).trans (if_pos cross)))]
  · rw [i3cWrite_performed ready da' mode ((writeCheck_goodLen good _).trans ((if_neg (by omega)).trans (if_neg (by omega))))]
  · exact leaves_congr (if_pos short)
  · exact leaves_congr ((if_neg (Nat.not_lt.mpr long)).trans (if_pos bad))
  · exact leaves_congr ((if_neg (Nat.not_lt.mpr long)).trans ((if_neg good).trans (if_pos odd)))
  · exact leaves_congr ((if_neg (Nat.not_lt.mpr long)).trans ((if_neg good).trans ((if_neg (by omega)).trans (if_pos cross))))
  · exact leaves_congr ((if_neg (Nat.not_lt.mpr long)).trans ((if_neg good).trans ((if_neg (by omega)).trans (if_neg (by omega)))))
  · rw [if_pos ⟨ddr, other⟩]
  · exact leaves_congr ((if_neg (by rintro ⟨ddr, other⟩; simp [ddr, other] at serves)).trans (if_pos early))
  · exact leaves_congr ((if_neg (by rintro ⟨ddr, other⟩; simp [ddr, other] at serves)).trans (if_neg (Nat.not_lt.mpr due)))
  · have other : s.flag pgSYS Reg.SYS.I3C_STAT_HDR k ≠ !hdr := by
      rw [mode]
      cases hdr <;> decide
    rw [responseRead_unreached (s := s.advance at_) (.inr (.inr other))]

end Sys2Proof.Machine
end

section
/-! PROOFS. The check row of a tile and its identity (R115, R116). -/

namespace Sys2Proof.Machine

/-! ### Sums -/

theorem sumInt_eq_sum (l : List Int) : sumInt l = l.sum := List.sum_eq_foldl.symm

/-- The sum of the products of two lists, by place. -/
theorem sum_zipWith_mul (a u : List Int) (h : a.length = u.length) :
    (a.zipWith (· * ·) u).sum = ∑ i ∈ Finset.range u.length, a.getD i 0 * u.getD i 0 := by
  induction a generalizing u with
  | nil =>
    rw [← h]
    rfl
  | cons x a ih =>
    cases u with
    | nil => simp at h
    | cons y u =>
      rw [List.zipWith_cons_cons, List.sum_cons, ih u (Nat.succ.inj h), List.length_cons, Finset.sum_range_succ', add_comm]
      rfl

/-- The sum over rows of their weighted sums is the weighted sum of the columns. -/
theorem sum_rows_columns (rows : List (List Int)) (w : Nat → Int) (n : Nat) :
    (rows.map fun r => ∑ i ∈ Finset.range n, r.getD i 0 * w i).sum =
      ∑ i ∈ Finset.range n, (rows.map fun r => r.getD i 0).sum * w i := by
  induction rows with
  | nil => simp
  | cons r rows ih => simp only [List.map_cons, List.sum_cons, ih, add_mul, Finset.sum_add_distrib]

/-- A sum of numbers within a bound. -/
theorem sum_within (l : List Int) (b : Int) (h : ∀ x ∈ l, -b ≤ x ∧ x ≤ b) : -(l.length * b) ≤ l.sum ∧ l.sum ≤ l.length * b := by
  induction l with
  | nil => simp
  | cons x l ih =>
    obtain ⟨low, high⟩ := ih fun y hy => h y (List.mem_cons_of_mem x hy)
    obtain ⟨xlow, xhigh⟩ := h x List.mem_cons_self
    rw [List.sum_cons, List.length_cons, Nat.cast_succ, add_mul, one_mul]
    constructor <;> omega

/-! ### The check row (R115) -/

/-- Sum of column `c`. -/
def colSum (rows : List (List Int)) (c : Nat) : Int := (rows.map fun r => r.getD c 0).sum

theorem colSums_eq (rows : List (List Int)) : colSums rows = (List.range 128).map (colSum rows) := by
  unfold colSums colSum
  simp only [sumInt_eq_sum]

theorem checkRow_codes (rows : List (List Int)) : (checkRow rows).1 = (List.range 128).map fun c => rnaDiv (colSum rows c) 128 := by
  unfold checkRow
  dsimp only
  rw [colSums_eq, List.map_map]
  rfl

theorem checkRow_residuals (rows : List (List Int)) :
    (checkRow rows).2 = (List.range 128).map fun c => colSum rows c - 128 * rnaDiv (colSum rows c) 128 := by
  unfold checkRow
  dsimp only
  rw [colSums_eq, List.map_map, List.zipWith_map, List.zipWith_self]
  rfl

theorem getD_map_range (f : Nat → Int) {n c : Nat} (h : c < n) : ((List.range n).map f).getD c 0 = f c := by
  simp [List.getD, h]

/-- R115: rounding to nearest, ties away from zero: 128 times the quotient is within 64 of the number, and a residual of 64 is of the
number's other sign. -/
theorem rnaDiv_residual (x : Int) : -64 ≤ x - 128 * rnaDiv x 128 ∧ x - 128 * rnaDiv x 128 ≤ 64 ∧
    (0 ≤ x → x - 128 * rnaDiv x 128 < 64) ∧ (x ≤ 0 → -64 < x - 128 * rnaDiv x 128) := by
  unfold rnaDiv
  split
  · omega
  split <;> omega

/-- R115: a column of 128 drive codes has a check code that is one. -/
theorem rnaDiv_code {x : Int} (low : -(128 * 511) ≤ x) (high : x ≤ 128 * 511) : -511 ≤ rnaDiv x 128 ∧ rnaDiv x 128 ≤ 511 := by
  unfold rnaDiv
  split
  · omega
  split <;> omega

theorem colSum_within {rows : List (List Int)} (tall : rows.length = 128) (codes : ∀ r ∈ rows, r.length = 128 ∧ ∀ d ∈ r, -511 ≤ d ∧ d ≤ 511)
    {c : Nat} (hc : c < 128) : -(128 * 511) ≤ colSum rows c ∧ colSum rows c ≤ 128 * 511 := by
  have column : ∀ x ∈ rows.map fun r => r.getD c 0, -511 ≤ x ∧ x ≤ 511 := by
    intro x hx
    obtain ⟨r, hr, rfl⟩ := List.mem_map.mp hx
    obtain ⟨wide, inRange⟩ := codes r hr
    have there : c < r.length := by omega
    rw [List.getD_eq_getElem _ _ there]
    exact inRange _ (List.getElem_mem there)
  simpa [tall, colSum] using sum_within _ 511 column

/-! ### The obligation -/

/-- Settles O60: the bounds of rounding, and the identity summed by columns instead of by rows. -/
theorem checkRowIdentity : Obligations.CheckRowIdentity := by
  unfold Obligations.CheckRowIdentity
  intro rows us tall wide codes chk rho dot
  have chk_eq : chk = (List.range 128).map fun c => rnaDiv (colSum rows c) 128 := checkRow_codes rows
  have rho_eq : rho = (List.range 128).map fun c => colSum rows c - 128 * rnaDiv (colSum rows c) 128 := checkRow_residuals rows
  have chk_length : chk.length = 128 := by rw [chk_eq, List.length_map, List.length_range]
  have rho_length : rho.length = 128 := by rw [rho_eq, List.length_map, List.length_range]
  have chk_at : ∀ c, c < 128 → chk.getD c 0 = rnaDiv (colSum rows c) 128 := fun c hc => by rw [chk_eq, getD_map_range _ hc]
  have rho_at : ∀ c, c < 128 → rho.getD c 0 = colSum rows c - 128 * rnaDiv (colSum rows c) 128 := fun c hc => by
    rw [rho_eq, getD_map_range _ hc]
  have dot_eq : ∀ a : List Int, a.length = 128 → dot a = ∑ i ∈ Finset.range 128, a.getD i 0 * us.getD i 0 := fun a ha => by
    rw [← wide]
    exact sum_zipWith_mul a us (ha.trans wide.symm)
  refine ⟨chk_length, rho_length, fun c hc => ?_, ?_⟩
  · obtain ⟨low, high⟩ := colSum_within tall codes hc
    obtain ⟨codeLow, codeHigh⟩ := rnaDiv_code low high
    obtain ⟨restLow, restHigh, positive, negative⟩ := rnaDiv_residual (colSum rows c)
    rw [chk_at c hc, rho_at c hc]
    exact ⟨by unfold colSum; omega, codeLow, codeHigh, restLow, restHigh, positive, negative⟩
  · have rows_dot : rows.map dot = rows.map fun r => ∑ i ∈ Finset.range 128, r.getD i 0 * us.getD i 0 :=
      List.map_congr_left fun r hr => dot_eq r (codes r hr).1
    rw [rows_dot, sum_rows_columns, dot_eq chk chk_length, dot_eq rho rho_length, Finset.mul_sum, ← Finset.sum_sub_distrib]
    refine Finset.sum_congr rfl fun c hc => ?_
    rw [chk_at c (Finset.mem_range.mp hc), rho_at c (Finset.mem_range.mp hc), ← colSum]
    ring

end Sys2Proof.Machine
end

section
/-! PROOFS. What reads and writes of memory leave alone (R237 to R243, R390). -/

namespace Sys2Proof.Machine

namespace State

/-- A reading that sees nothing of what reads of memory touch: registers behind the SYS page, flash, the ring of records and its sequence. -/
structure ReadBlind {β : Type} (g : State → β) : Prop extends RecordBlind g where
  setWord : ∀ t a w, 0x1000 ≤ a → g (t.setWord a w) = g t

/-- A reading that sees nothing of what writes to memory touch either: bytes, seals, blocks that ECC found, and the latest writes. -/
structure WriteBlind {β : Type} (g : State → β) : Prop extends ReadBlind g where
  mem : ∀ (t : State) x, g { t with mem := x } = g t
  seals : ∀ (t : State) x, g { t with seals := x } = g t
  eccBad : ∀ (t : State) x, g { t with cist := { t.cist with eccBad := x } } = g t
  written : ∀ (t : State) x, g { t with plan := { t.plan with written := x } } = g t

@[simp] theorem pgCistern_ne (c : Nat) : pgCistern c ≠ 0 := by
  unfold pgCistern
  omega

section Read

variable {β : Type} {g : State → β} (blind : ReadBlind g) (s : State)
include blind

theorem ReadBlind.wr {pg : Nat} (h : pg ≠ 0) (f : Field) (v i : Nat) : g (s.wr pg f v i) = g s := blind.setWord _ _ _ (regAddr_behind h _)

theorem ReadBlind.wr64 {pg : Nat} (h : pg ≠ 0) (f : Field) (v i : Nat) : g (s.wr64 pg f v i) = g s := by
  unfold State.wr64
  rw [blind.setWord _ _ _ (regAddr_behind h _), blind.setWord _ _ _ (regAddr_behind h _)]

theorem ReadBlind.bump64 {pg : Nat} (h : pg ≠ 0) (f : Field) (n i : Nat) : g (s.bump64 pg f n i) = g s := blind.wr64 s h f _ i

theorem ReadBlind.bump {pg : Nat} (h : pg ≠ 0) (f : Field) (n i : Nat) : g (s.bump pg f n i) = g s := blind.wr s h _ _ _

theorem ReadBlind.raise {pg : Nat} (h : pg ≠ 0) (b : Nat) : g (s.raise pg b) = g s := blind.wr s h _ _ _

theorem sealFailure_keeps (u : MemUnit) (a : Nat) (sl : Seal) : g (s.sealFailure u a sl) = g s := by
  unfold sealFailure
  dsimp only
  rw [record_keeps blind.toRecordBlind]
  split
  · rw [blind.raise _ (pgCistern_ne _), blind.bump _ (pgCistern_ne _)]
  · rw [blind.raise _ pgINTEG_ne, blind.bump _ pgINTEG_ne]

theorem countedRead_keeps (u : MemUnit) (n : Nat) : g (match u with
    | .cistern c => s.bump64 (pgCistern c) Reg.CISTERN.READ_BYTES_LO n
    | _ => s) = g s := by
  split
  · exact blind.bump64 _ (pgCistern_ne _) ..
  · rfl

theorem readBlock_keeps (a key n : Nat) : g (s.readBlock a key n).1 = g s := by
  unfold readBlock
  extract_lets bk sl u t
  have counted : g t = g s := countedRead_keeps blind s u n
  clear_value t u
  split
  · split
    · dsimp only
      rw [record_keeps blind.toRecordBlind, blind.wr _ (pgCistern_ne _), blind.wr _ (pgCistern_ne _), blind.raise _ (pgCistern_ne _),
        blind.bump _ (pgCistern_ne _), counted]
    · exact counted
  · dsimp only
    split
    · exact (sealFailure_keeps blind t u a sl).trans counted
    · exact counted

theorem readBlocks_keeps (map : Nat → Option Nat) (fuel a n : Nat) : g (s.readBlocks map fuel a n).1 = g s := by
  induction fuel generalizing s a n with
  | zero => rfl
  | succ fuel ih =>
    unfold readBlocks
    split
    · rfl
    · dsimp only
      split
      · exact (ih _ _ _).trans (readBlock_keeps blind s _ _ _)
      · rfl

/-- R239, R242: a read leaves alone whatever sees no counter, no event and no record. -/
theorem read_keeps (map : Nat → Option Nat) (a n : Nat) : g (s.read map a n).1 = g s := readBlocks_keeps blind s map _ a n

end Read

theorem putBytes_cist (s : State) (key : Nat) (bs : List Byte) : (s.putBytes key bs).cist = s.cist := by
  induction bs generalizing s key with
  | nil => rfl
  | cons b rest ih => exact ih _ _

section Write

variable {β : Type} {g : State → β} (blind : WriteBlind g) (s : State)
include blind

theorem putBytes_keeps (key : Nat) (bs : List Byte) : g (s.putBytes key bs) = g s := by
  induction bs generalizing s key with
  | nil => rfl
  | cons b rest ih => exact (ih _ _).trans (blind.mem s _)

theorem watch_keeps (c tid fmt key n : Nat) : g (s.watch c tid fmt key n) = g s := by
  refine each_keeps g _ (fun t i => ?_) _ s
  split
  · exact blind.wr _ (pgCistern_ne _) ..
  · rfl

theorem noteWrite_keeps (tid : Nat) : g (s.noteWrite tid) = g s := by
  unfold noteWrite
  split
  · rfl
  · exact blind.written s _

theorem setSeal_keeps (bk : Nat) (x : Seal) : g (s.setSeal bk x) = g s := blind.seals s _

theorem storeBlock_keeps (key : Nat) (bs : List Byte) (inc : Seal) : g (s.storeBlock key bs inc).1 = g s := by
  unfold storeBlock
  extract_lets bk whole src cist put counted
  have e1 : g put = g s := by
    have e : put = { src with cist := { src.cist with eccBad := dropAll bk s.cist.eccBad } } := by rw [putBytes_cist s key bs]
    rw [e]
    exact (blind.eccBad src _).trans (putBytes_keeps blind s key bs)
  have e2 : g counted = g s := by
    refine Eq.trans ?_ e1
    simp only [counted]
    split
    · rw [watch_keeps blind, blind.bump64 _ (pgCistern_ne _)]
    · rfl
  split
  · rfl
  · exact (noteWrite_keeps blind _ _).trans ((setSeal_keeps blind _ _ _).trans e2)

theorem store_keeps (key : Nat) (bs : List Byte) (inc : Seal) : g (s.store key bs inc).1 = g s := by
  unfold store
  split
  · rfl
  · exact (each_keeps g (fun t k => (t.storeBlock k bs inc).1) (fun t k => storeBlock_keeps blind t k bs inc) _ _).trans
      (storeBlock_keeps blind s key bs inc)

theorem writeBlocks_keeps (map : Nat → Option Nat) (sealOf : Nat → Seal) (fuel a : Nat) (bs : List Byte) :
    g (s.writeBlocks map sealOf fuel a bs).1 = g s := by
  induction fuel generalizing s a bs with
  | zero => rfl
  | succ fuel ih =>
    unfold writeBlocks
    split
    · rfl
    · dsimp only
      split
      · exact (ih _ _ _).trans (store_keeps blind s _ _ _)
      · rfl

/-- R237, R239: a write leaves alone whatever sees no memory, no counter and no record. -/
theorem write_keeps (map : Nat → Option Nat) (a : Nat) (bs : List Byte) (sealOf : Nat → Seal) : g (s.write map a bs sealOf).1 = g s :=
  writeBlocks_keeps blind s map sealOf _ a bs

end Write

theorem readBlind_wells : ReadBlind State.wells where
  setWord _ _ _ _ := rfl
  test _ _ _ _ _ := rfl
  flash _ _ := rfl
  seq _ _ := rfl
  ring _ _ := rfl

theorem writeBlind_wells : WriteBlind State.wells where
  toReadBlind := readBlind_wells
  mem _ _ := rfl
  seals _ _ := rfl
  eccBad _ _ := rfl
  written _ _ := rfl

end State

end Sys2Proof.Machine
end

section
/-! PROOFS. Planes of a well: their load, their swap, their refresh, and the lock of the local oscillator (R120 to R129, R216, R219). -/

namespace Sys2Proof.Machine

/-! ### The planes of a well -/

@[simp] theorem Well.plane_setPlane (x : Well) (b : Bool) (p : Plane) : (x.setPlane b p).plane b = p := by cases b <;> rfl

@[simp] theorem Well.plane_setPlane_not (x : Well) (b : Bool) (p : Plane) : (x.setPlane b p).plane (!b) = x.plane (!b) := by
  cases b <;> rfl

namespace State

section Wells

variable (s : State)

@[simp] theorem well_onWell (w : Nat) (f : Well → Well) : (s.onWell w f).well w = f (s.well w) := by
  simp [well, onWell, setWell, sparseGet_put]

theorem well_onWell_ne {v w : Nat} (h : v ≠ w) (f : Well → Well) : (s.onWell w f).well v = s.well v := by
  simp [well, onWell, setWell, sparseGet_put, h]

@[simp] theorem left_well (u : State) (w : Nat) : (s.left u).well w = u.well w := by simp [well]

theorem well_of_wells {s t : State} (h : s.wells = t.wells) (w : Nat) : s.well w = t.well w := by
  unfold well
  rw [h]

@[simp] theorem raise_well (pg b w : Nat) : (s.raise pg b).well w = s.well w := well_of_wells (raise_wells s pg b) w

@[simp] theorem wr_well (pg : Nat) (f : Field) (v i w : Nat) : (s.wr pg f v i).well w = s.well w := well_of_wells (wr_wells s pg f v i) w

@[simp] theorem bump_well (pg : Nat) (f : Field) (n i w : Nat) : (s.bump pg f n i).well w = s.well w := well_of_wells (bump_wells s pg f n i) w

@[simp] theorem bumpWrap_well (pg : Nat) (f : Field) (n i w : Nat) : (s.bumpWrap pg f n i).well w = s.well w :=
  well_of_wells (bumpWrap_wells s pg f n i) w

@[simp] theorem bump64_well (pg : Nat) (f : Field) (n i w : Nat) : (s.bump64 pg f n i).well w = s.well w :=
  well_of_wells (bump64_wells s pg f n i) w

/-- The counters of a well touch its window counts only (R155, R193). -/
theorem well_countWell (w a r u o n : Nat) (q : QfitCounts) :
    (s.countWell w a r u o n q).well w = { s.well w with qfit := (s.well w).qfit.plus ((⟨a, n, r, u, o⟩ : QfitCounts).less q) } := by
  unfold countWell
  simp only [well_onWell, bump64_well]

theorem well_countWell_ne {v w : Nat} (h : v ≠ w) (a r u o n : Nat) (q : QfitCounts) : (s.countWell w a r u o n q).well v = s.well v := by
  unfold countWell
  simp only [well_onWell_ne _ h, bump64_well]

@[simp] theorem countWell_mem (w a r u o n : Nat) (q : QfitCounts) : (s.countWell w a r u o n q).mem = s.mem := by
  unfold countWell
  rw [onWell_mem, bump64_mem, bump64_mem, bump64_mem, bump64_mem, bump64_mem]

/-! ### PLANE_LOAD and PLANE_READY -/

/-- R145: a tile whose row sums differ is counted and reported. -/
def rowsumReported (w n : Nat) : State :=
  if n = 0 then s else (s.bump (pgWell w) Reg.WELL.ROWSUM_MISMATCH n).raise (pgWell w) 13

theorem rowsumReported_well (w n v : Nat) : (s.rowsumReported w n).well v = s.well v := by
  simp [rowsumReported, apply_ite (State.well · v)]

theorem rowsumReported_mem (w n : Nat) : (s.rowsumReported w n).mem = s.mem := by simp [rowsumReported, apply_ite State.mem]

/-- R120, R125, R145: a plane is written, LOADING with its pass and its tile, after the mismatches and the clips of its load are counted. -/
theorem writePlane_eq (w : Nat) (p : PassRun) (b : Bool) (t : StagedTile) (i : ScaleItem) (rs : Option ScaleItem) :
    ∃ (n c : Nat) (pl : Plane) (scales : Well → List ScaleItem), pl.st = .loading ∧ pl.pass = p.slot ∧ pl.tile = p.loaded ∧
      s.writePlane w p b t i rs = (((s.rowsumReported w n).countWell w 0 c 0 0 0).onWell w fun x =>
        { x.setPlane b pl with scales := scales x }).putPass w { p with loaded := p.loaded + 1 } :=
  ⟨_, _, _, fun x => (x.scales.erase i).filter fun y => some y != rs, rfl, rfl, rfl, rfl⟩

variable (w : Nat) (p : PassRun) (b : Bool) (t : StagedTile) (i : ScaleItem) (rs : Option ScaleItem)

/-- R120, R125: the plane written is LOADING with its pass and tile, and the well's other plane stays. -/
theorem writePlane_planes :
    let x := (s.writePlane w p b t i rs).well w
    (x.plane b).st = .loading ∧ (x.plane b).pass = p.slot ∧ (x.plane b).tile = p.loaded ∧ x.plane (!b) = (s.well w).plane (!b) := by
  obtain ⟨n, c, pl, scales, st, pass, tile, e⟩ := writePlane_eq s w p b t i rs
  simp only [e, putPass, well_onWell, well_countWell, rowsumReported_well]
  cases b <;> exact ⟨st, pass, tile, rfl⟩

theorem writePlane_well_ne {v : Nat} (h : v ≠ w) : (s.writePlane w p b t i rs).well v = s.well v := by
  obtain ⟨n, c, pl, scales, -, -, -, e⟩ := writePlane_eq s w p b t i rs
  simp only [e, putPass, well_onWell_ne _ h, well_countWell_ne _ h, rowsumReported_well]

theorem writePlane_mem : (s.writePlane w p b t i rs).mem = s.mem := by
  obtain ⟨n, c, pl, scales, -, -, -, e⟩ := writePlane_eq s w p b t i rs
  rw [e, putPass, onWell_mem, onWell_mem, countWell_mem, rowsumReported_mem]

end Wells

section Loading

variable {s : State}

theorem planeLoad_none {w : Nat} (h : s.nextLoad w = none) : s.planeLoad w = s := by
  unfold planeLoad
  rw [h]

/-- R120, R219: what PLANE_LOAD does with the tile that is next, by what its scale input shows. -/
theorem planeLoad_next {w : Nat} {p : PassRun} {t : StagedTile} (h : s.nextLoad w = some (p, t)) :
    s.planeLoad w = match scaleItem (s.well w) p.desc 1 with
      | (none, none) => s
      | (none, some r) => s.mispaired w p.desc p.wbits r t
      | (some i, _) =>
        if !tagMatches p.wbits i t then s.mispaired w p.desc p.wbits i t
        else if Pd.xzp p.desc then
          match scaleItem (s.well w) p.desc 2 with
          | (none, none) => s
          | (none, some r) => s.mispaired w p.desc p.wbits r t
          | (some r, _) => if !tagMatches p.wbits r t then s.mispaired w p.desc p.wbits r t else s.writePlane w p (s.idlePlane w) t i (some r)
        else s.writePlane w p (s.idlePlane w) t i none := by
  unfold planeLoad
  rw [h] <;> rfl

variable {w : Nat} {p : PassRun} {t : StagedTile} (h : s.nextLoad w = some (p, t))
include h

theorem planeLoad_waits (item : scaleItem (s.well w) p.desc 1 = (none, none)) : s.planeLoad w = s := by
  rw [planeLoad_next h, item]

theorem planeLoad_passed {r : ScaleItem} (item : scaleItem (s.well w) p.desc 1 = (none, some r)) :
    s.planeLoad w = s.mispaired w p.desc p.wbits r t := by
  rw [planeLoad_next h, item]

section Scale

variable {i : ScaleItem} {x : Option ScaleItem} (item : scaleItem (s.well w) p.desc 1 = (some i, x))
include item

theorem planeLoad_skewed (tag : tagMatches p.wbits i t = false) : s.planeLoad w = s.mispaired w p.desc p.wbits i t := by
  simp [planeLoad_next h, item, tag]

variable (tag : tagMatches p.wbits i t = true)
include tag

theorem planeLoad_scaled (zp : Pd.xzp p.desc = false) : s.planeLoad w = s.writePlane w p (s.idlePlane w) t i none := by
  simp [planeLoad_next h, item, tag, zp]

variable (zp : Pd.xzp p.desc = true)
include zp

theorem planeLoad_sumsWait (sums : scaleItem (s.well w) p.desc 2 = (none, none)) : s.planeLoad w = s := by
  simp [planeLoad_next h, item, tag, zp, sums]

theorem planeLoad_sumsPassed {r : ScaleItem} (sums : scaleItem (s.well w) p.desc 2 = (none, some r)) :
    s.planeLoad w = s.mispaired w p.desc p.wbits r t := by
  simp [planeLoad_next h, item, tag, zp, sums]

theorem planeLoad_sumsSkewed {r : ScaleItem} {z : Option ScaleItem} (sums : scaleItem (s.well w) p.desc 2 = (some r, z))
    (skew : tagMatches p.wbits r t = false) : s.planeLoad w = s.mispaired w p.desc p.wbits r t := by
  simp [planeLoad_next h, item, tag, zp, sums, skew]

theorem planeLoad_summed {r : ScaleItem} {z : Option ScaleItem} (sums : scaleItem (s.well w) p.desc 2 = (some r, z))
    (tag' : tagMatches p.wbits r t = true) : s.planeLoad w = s.writePlane w p (s.idlePlane w) t i (some r) := by
  simp [planeLoad_next h, item, tag, zp, sums, tag']

end Scale

omit h

/-- R120, R125: what PLANE_READY does with a plane that is LOADING, by whether its tile showed a skew. -/
theorem planeReady_loading (st : ((s.well w).plane (s.idlePlane w)).st = .loading)
    (pass : (s.well w).passes.find? (fun p => p.slot = ((s.well w).plane (s.idlePlane w)).pass) = some p)
    (tile : (s.well w).staged.find? (fun t => t.queue = Pd.wq p.desc) = some t) :
    s.planeReady w = match t.skewed with
      | some k => s.pairSkew w (Pd.wq p.desc) (Pd.sq p.desc) (k.1, k.2.1) k.2.2.1 k.2.2.2
      | none => s.onWell w fun x =>
        { x.setPlane (s.idlePlane w) { (s.well w).plane (s.idlePlane w) with st := .ready } with staged := x.staged.erase t } := by
  unfold planeReady
  dsimp only
  rw [if_neg (not_not.mpr st), pass]
  dsimp only
  rw [tile] <;> rfl

end Loading

end State

open State

/-- Settles O21: PLANE_LOAD goes by the scale items of the next tile, and PLANE_READY by whether the tile showed a skew. -/
theorem planeLoading : Obligations.PlaneLoading := by
  refine ⟨fun s at_ w up => ?_, fun s at_ w up => ?_⟩
  · dsimp only
    rw [eff_planeLoad s at_ w up]
    refine ⟨fun none => leaves_congr (planeLoad_none none), fun p t next => ⟨?_, ?_, ?_, ?_, ?_⟩⟩
    · intro i x r item tag sums
      have written : (s.advance at_).planeLoad w = (s.advance at_).writePlane w p (s.idlePlane w) t i r := by
        obtain ⟨zp, rfl⟩ | ⟨zp, y, z, item', tag', rfl⟩ := sums
        · exact planeLoad_scaled next item tag zp
        · exact planeLoad_summed next item tag zp item' tag'
      obtain ⟨st, pass, tile, other⟩ := writePlane_planes (s.advance at_) w p (s.idlePlane w) t i r
      refine ⟨_, leaves_congr written, rfl, ?_⟩
      simp only [left_well, left_mem]
      exact ⟨st, pass, tile, other, writePlane_mem .., fun v ne => writePlane_well_ne (s.advance at_) _ _ _ _ _ _ ne⟩
    · exact fun item => leaves_congr (planeLoad_waits next item)
    · exact fun r item => leaves_congr (planeLoad_passed next item)
    · exact fun i x item tag => leaves_congr (planeLoad_skewed next item tag)
    · exact fun i x item tag zp => ⟨fun sums => leaves_congr (planeLoad_sumsWait next item tag zp sums),
        fun r sums => leaves_congr (planeLoad_sumsPassed next item tag zp sums),
        fun r z sums skew => leaves_congr (planeLoad_sumsSkewed next item tag zp sums skew)⟩
  · dsimp only
    rw [eff_planeReady s at_ w up]
    refine ⟨fun st => leaves_congr (if_pos st), fun p t st pass tile => ⟨fun fit => ?_, fun k skew => ?_⟩⟩
    · exact leaves_congr ((planeReady_loading (s := s.advance at_) st pass tile).trans (by rw [fit]; rfl))
    · exact leaves_congr ((planeReady_loading (s := s.advance at_) st pass tile).trans (by rw [skew]))

end Sys2Proof.Machine
end

section
/-! PROOFS. Swaps (R122, R123, R216), refreshes (R124) and the lock of a well's local oscillator (R129). -/

namespace Sys2Proof.Machine

namespace State

/-! ### Registers of the pages behind the comb pages -/

/-- The registers from the thermal page on are no part of a common register. -/
theorem regAddr_plain {pg : Nat} (h : 0x56 ≤ pg) (off : Nat) : regAddr pg off = pg * 0x1000 + off := by
  unfold regAddr canonReg
  rw [if_neg (by omega), if_neg (by omega)]

/-- No register of the pages from CAL on follows from the state by itself. -/
theorem regAddr_not_follower {pg : Nat} (h : 0x62 ≤ pg) (off : Nat) : regAddr pg off ∉ followers := by
  have bound : ∀ a ∈ followers, a < 0x62000 := by decide
  intro follows
  have := bound _ follows
  rw [regAddr_plain (by omega)] at this
  omega

theorem pgWell_ge (w : Nat) : 0x100 ≤ pgWell w := Nat.le_add_right _ _

theorem left_rd_well (s u : State) (w : Nat) (f : Field) : (s.left u).rd (pgWell w) f = u.rd (pgWell w) f :=
  left_rd s u (regAddr_not_follower (Nat.le_trans (by decide) (pgWell_ge w)) _)

theorem onWell_word (s : State) (w : Nat) (f : Well → Well) (a : Nat) : (s.onWell w f).word a = s.word a := rfl

theorem sameBut_left {s u : State} {extra : List Nat} (mem : u.mem = s.mem) (seals : u.seals = s.seals)
    (word : ∀ a, a ∉ extra → u.word a = s.word a) : sameBut extra s (s.left u) :=
  ⟨(left_mem s u).trans mem, (left_seals s u).trans seals, fun a out follows => (left_word s u a follows).trans (word a out)⟩

/-! ### Swaps -/

section Swap

variable (s : State) (w : Nat)

/-- R122, R125: the plane that was loaded carries the light, and the other one is EMPTY. -/
theorem swap_well : ∃ n, (s.swap w).well w = { ((s.well w).setPlane (!s.idlePlane w) {}).setPlane (s.idlePlane w)
    { (s.well w).plane (s.idlePlane w) with st := .active, since := n, sym0 := n } with
      activeB := s.idlePlane w, tileDone := false } := by
  unfold swap
  simp only [bumpWrap_well, well_onWell]
  exact ⟨_, rfl⟩

theorem swap_well_ne {v : Nat} (h : v ≠ w) : (s.swap w).well v = s.well v := by
  unfold swap
  rw [bumpWrap_well, well_onWell_ne _ h]

theorem swap_mem : (s.swap w).mem = s.mem := by
  unfold swap
  rw [bumpWrap_mem, onWell_mem]

theorem swap_seals : (s.swap w).seals = s.seals := by
  unfold swap
  rw [bumpWrap_seals, onWell_seals]

theorem swap_count : (s.swap w).rd (pgWell w) Reg.WELL.SWAP_COUNT = (s.rd (pgWell w) Reg.WELL.SWAP_COUNT + 1) % 2 ^ 32 := by
  unfold swap
  exact rd_wr _ _ _ _ _ (by decide)

theorem swap_word {a : Nat} (h : a ≠ regAddr (pgWell w) Reg.WELL.SWAP_COUNT.off) : (s.swap w).word a = s.word a := by
  unfold swap
  exact word_wr_ne _ _ _ _ _ _ h

end Swap

/-! ### Groups that swap -/

/-- A well that no command has touched waits in no group. -/
theorem touched_of_readyGroup {s : State} {v : Nat} (h : s.readyGroup v ≠ 0) : v ∈ s.wells.map (·.1) := by
  by_contra untouched
  have missing : ∀ l : List (Nat × Well), v ∉ l.map (·.1) → sparseFind l v = none := by
    intro l
    induction l with
    | nil => exact fun _ => rfl
    | cons e rest ih =>
      intro out
      simp only [List.map_cons, List.mem_cons, not_or] at out
      rw [sparseFind, if_neg (Ne.symm out.1), ih out.2]
  have fresh : s.well v = {} := by
    unfold well sparseGet
    rw [missing _ untouched]
    rfl
  apply h
  unfold readyGroup
  rw [fresh]
  cases s.idlePlane v <;> rfl

/-- Of a list without repetition, only `a` is chosen where `a` alone of its members meets the condition. -/
theorem filter_eq_singleton {α : Type} {l : List α} {P : α → Bool} {a : α} (nodup : l.Nodup) (mem : a ∈ l) (here : P a = true)
    (only : ∀ b ∈ l, P b = true → b = a) : l.filter P = [a] := by
  have chosen := nodup.filter P
  refine List.perm_singleton.mp ((List.perm_ext_iff_of_nodup chosen (List.nodup_singleton a)).mpr fun b => ?_)
  simp only [List.mem_filter, List.mem_singleton]
  exact ⟨fun h => only b h.1 h.2, fun h => h ▸ ⟨mem, here⟩⟩

section Group

variable {s : State} {g : Nat}

theorem groupReady_iff (ms : List Nat) :
    s.groupReady g ms = true ↔ ms ≠ [] ∧ ∀ w ∈ ms, s.maySwap w = true ∧ s.readyGroup w = g := by
  simp [groupReady]

/-- R123, R216: the groups of a number are the member lists of the wells that wait in it. -/
theorem waitingGroups (ms : List Nat) : ms ∈ (((s.wells.map (·.1)).filter fun w => s.readyGroup w == g).map s.groupMembers).dedup ↔
    ∃ w ∈ s.wells.map (·.1), s.readyGroup w = g ∧ s.groupMembers w = ms := by
  simp only [List.mem_dedup, List.mem_map, List.mem_filter, beq_iff_eq, and_assoc]

theorem groupStrobe_unready (h : ∀ w ∈ s.wells.map (·.1), s.readyGroup w = g → s.groupReady g (s.groupMembers w) ≠ true) :
    s.groupStrobe g = s := by
  have none := (List.filter_eq_nil_iff (p := s.groupReady g)).mpr fun ms group => by
    obtain ⟨w, touched, waits, rfl⟩ := (waitingGroups ms).mp group
    exact h w touched waits
  unfold groupStrobe
  dsimp only
  rw [none]
  exact ite_self s

theorem groupStrobe_ready {v : Nat} (hg : g ≠ 0) (waits : s.readyGroup v = g) (ready : s.groupReady g (s.groupMembers v) = true)
    (only : ∀ w ∈ s.wells.map (·.1), s.readyGroup w = g → s.groupReady g (s.groupMembers w) = true → s.groupMembers w = s.groupMembers v) :
    s.groupStrobe g = s.each (s.groupMembers v) fun t w => t.swap w := by
  unfold groupStrobe
  dsimp only
  have one := filter_eq_singleton (P := s.groupReady g) (List.nodup_dedup _) ((waitingGroups _).mpr
    ⟨v, touched_of_readyGroup (waits ▸ hg), waits, rfl⟩) ready fun ms group chosen => by
      obtain ⟨w, touched, waits', rfl⟩ := (waitingGroups ms).mp group
      exact only w touched waits' chosen
  rw [if_neg hg, one]
  exact if_pos ready

end Group

/-! ### Refreshes -/

section Refresh

variable (s : State) (w : Nat)

theorem refresh_begin : s.refresh w false =
    if ((s.well w).plane (s.well w).activeB).st = .active ∧ s.flag (pgWell w) Reg.WELL.OPT_CTL_REFRESH_EN ∧
        ((s.well w).plane (!(s.well w).activeB)).st ≠ .loading ∧
        ((s.well w).plane (s.well w).activeB).since + 40000 ≤ s.symbolNow w ∧ s.loadPossible w = false then
      s.onWell w fun x => x.setPlane (s.well w).activeB { (s.well w).plane (s.well w).activeB with st := .refreshing }
    else s := by
  unfold refresh
  rw [if_neg Bool.false_ne_true]

theorem refresh_end : s.refresh w true =
    if ((s.well w).plane (s.well w).activeB).st = .refreshing then
      (s.onWell w fun x => x.setPlane (s.well w).activeB
        { (s.well w).plane (s.well w).activeB with st := .active, since := s.symbolNow w }).bump (pgWell w) Reg.WELL.REFRESH_COUNT
    else s := by
  unfold refresh
  rw [if_pos rfl]

end Refresh

/-! ### The lock of the local oscillator -/

section LoLock

variable (s : State) (w : Nat)

/-- R129: LO_STAT shows whether the oscillator is locked, and its worst row with its error. -/
def loShows (locked row err : Nat) : Prop :=
  s.rd (pgWell w) Reg.WELL.LO_STAT_LO_LOCKED = locked ∧ s.rd (pgWell w) Reg.WELL.LO_STAT_WORST_ROW = row ∧
    s.rd (pgWell w) Reg.WELL.LO_STAT_WORST_ERR = err

/-- A field of a register of a well stays as another of that register is written. -/
theorem loStat_beside (f g : Field) {v : Nat} (same : g.at 0 = f.at 0)
    (apart : f.lsb + f.width ≤ 32 ∧ (g.lsb + g.width ≤ f.lsb ∨ f.lsb + f.width ≤ g.lsb)) : (s.wr (pgWell w) f v).rd (pgWell w) g = s.rd (pgWell w) g :=
  rd_wr_apart s (pgWell w) (pgWell w) f g v 0 0 (by rw [same]) apart.1 apart.2

theorem loWorst_shows {row err : Nat} (hr : row < 256) (he : err < 65536) (k : Nat) (hk : k < 2) :
    ((s.loWorst w row err).wr (pgWell w) Reg.WELL.LO_STAT_LO_LOCKED k).loShows w k row err := by
  unfold loWorst
  refine ⟨(rd_wr _ _ _ _ _ (by decide)).trans (Nat.mod_eq_of_lt hk), ?_, ?_⟩
  · rw [loStat_beside _ w Reg.WELL.LO_STAT_LO_LOCKED Reg.WELL.LO_STAT_WORST_ROW rfl (by decide),
      loStat_beside _ w Reg.WELL.LO_STAT_WORST_ERR Reg.WELL.LO_STAT_WORST_ROW rfl (by decide), rd_wr _ _ _ _ _ (by decide)]
    exact Nat.mod_eq_of_lt hr
  · rw [loStat_beside _ w Reg.WELL.LO_STAT_LO_LOCKED Reg.WELL.LO_STAT_WORST_ERR rfl (by decide), rd_wr _ _ _ _ _ (by decide),
      Nat.min_eq_left (by omega)]
    exact Nat.mod_eq_of_lt he

/-- LO_STAT shows the same in a state with the same word. -/
theorem loShows_of_word {s t : State} {w locked row err : Nat} (shows : s.loShows w locked row err)
    (word : t.word (regAddr (pgWell w) 0x054) = s.word (regAddr (pgWell w) 0x054)) : t.loShows w locked row err := by
  have same : ∀ f : Field, f.at 0 = 0x054 → t.rd (pgWell w) f = s.rd (pgWell w) f := by
    intro f h
    unfold rd
    rw [h, word]
  obtain ⟨h1, h2, h3⟩ := shows
  exact ⟨(same _ rfl).trans h1, (same _ rfl).trans h2, (same _ rfl).trans h3⟩

theorem loStat_apart (off : Nat) (h : 0x054 ≠ off) : regAddr (pgWell w) 0x054 ≠ regAddr (pgWell w) off := by
  have := pgWell_ge w
  rw [regAddr_plain (by omega), regAddr_plain (by omega)]
  omega

/-- R129: beyond 0.02 rad the lock is lost; beyond 0.05 rad the well is dark. -/
theorem loUnlock_lost {row err : Nat} (hr : row < 256) (he : err < 65536) (beyond : 200 < err) :
    (s.loUnlock w row err).loShows w 0 row err ∧ (s.loUnlock w row err).mem = s.mem ∧
      ((s.loUnlock w row err).well w).darkLo = ((s.well w).darkLo || decide (500 < err)) := by
  have shows := loWorst_shows s w hr he 0 (by decide)
  unfold loUnlock
  rw [if_neg (by omega)]
  dsimp only
  have wells : ((s.loWorst w row err).wr (pgWell w) Reg.WELL.LO_STAT_LO_LOCKED 0).well w = s.well w := by simp [loWorst]
  have mem : ((s.loWorst w row err).wr (pgWell w) Reg.WELL.LO_STAT_LO_LOCKED 0).mem = s.mem := by simp [loWorst]
  generalize (s.loWorst w row err).wr (pgWell w) Reg.WELL.LO_STAT_LO_LOCKED 0 = u at shows wells mem ⊢
  split
  next stays =>
    refine ⟨shows, mem, ?_⟩
    rw [wells] at stays ⊢
    obtain near | dark := stays
    · simp [near]
    · simp [dark]
  next darkens =>
    obtain ⟨far, -⟩ := not_or.mp darkens
    refine ⟨loShows_of_word shows ((onWell_word _ w _ _).trans (word_raise_ne _ _ _ _ (loStat_apart w _ (by decide)))), mem, ?_⟩
    rw [well_onWell]
    simp [Nat.lt_of_not_le far]

theorem therm_well (s : State) (x : ThermUnit) (w : Nat) : ({ s with therm := x } : State).well w = s.well w := rfl

theorem therm_apart : regAddr (pgWell w) 0x054 ≠ regAddr pgTHERM (Reg.THERM.STEP_WELLS_COUNT.at 0) := by
  have := pgWell_ge w
  rw [regAddr_plain (by omega), regAddr_plain (by decide)]
  unfold pgTHERM
  have : Reg.THERM.STEP_WELLS_COUNT.at 0 < 0x1000 := by decide
  omega

/-- R523: the end of a thermal step touches neither the lock nor memory. -/
theorem stepResume_lock {s : State} {w locked row err : Nat} (shows : s.loShows w locked row err) :
    (s.stepResume w).loShows w locked row err ∧ (s.stepResume w).mem = s.mem ∧ ((s.stepResume w).well w).darkLo = (s.well w).darkLo := by
  unfold stepResume
  split
  · refine ⟨loShows_of_word shows (word_wr_ne _ _ _ _ _ _ (therm_apart w)), wr_mem .., ?_⟩
    rw [wr_well]
    rw [therm_well, well_onWell]
  · exact ⟨shows, rfl, rfl⟩

/-- R129, R304, R307: within 0.02 rad the oscillator is locked, and the well is lit unless it was moved to another source. -/
theorem loRelock_locked {row err : Nat} (hr : row < 256) (he : err < 65536) (within : err ≤ 200) :
    (s.loRelock w row err).loShows w 1 row err ∧ (s.loRelock w row err).mem = s.mem ∧
      ((s.loRelock w row err).well w).darkLo = ((s.well w).darkLo && (s.well w).moved) := by
  have shows := loWorst_shows s w hr he 1 (by decide)
  unfold loRelock
  rw [if_neg (by omega)]
  dsimp only
  have wells : ((s.loWorst w row err).wr (pgWell w) Reg.WELL.LO_STAT_LO_LOCKED 1).well w = s.well w := by simp [loWorst]
  have mem : ((s.loWorst w row err).wr (pgWell w) Reg.WELL.LO_STAT_LO_LOCKED 1).mem = s.mem := by simp [loWorst]
  generalize (s.loWorst w row err).wr (pgWell w) Reg.WELL.LO_STAT_LO_LOCKED 1 = u at shows wells mem ⊢
  split
  next waits =>
    have lit : ((u.raise (pgWell w) 6).onWell w fun x => { x with darkLo := x.moved }).loShows w 1 row err :=
      loShows_of_word shows ((onWell_word _ w _ _).trans (word_raise_ne _ _ _ _ (loStat_apart w _ (by decide))))
    obtain ⟨shows', mem', dark'⟩ := stepResume_lock lit
    refine ⟨shows', mem'.trans mem, dark'.trans ?_⟩
    rw [well_onWell, raise_well, wells]
    simp only [Bool.and_eq_true] at waits
    simp [waits.1]
  next stays =>
    obtain ⟨shows', mem', dark'⟩ := stepResume_lock shows
    refine ⟨shows', mem'.trans mem, dark'.trans ?_⟩
    rw [wells]
    cases dark : (s.well w).darkLo
    · rfl
    · cases moved : (s.well w).moved
      · simp [dark, moved] at stays
      · rfl

end LoLock

end State

open State

/-! ### The obligations -/

/-- Settles O22: one swap per well of the strobe, by `swap_well`; a group swaps as a whole by `groupStrobe_ready`. -/
theorem planeSwaps : Obligations.PlaneSwaps := by
  refine ⟨fun s at_ w up => ?_, fun s at_ g up => ?_⟩
  · dsimp only
    rw [eff_swapStrobe s at_ w up]
    refine ⟨fun stays => leaves_congr (if_neg ?_), fun may alone => ?_⟩
    · rw [Bool.and_eq_true, beq_iff_eq]
      obtain no | group := stays
      · exact fun h => Bool.false_ne_true (no.symm.trans h.1)
      · exact fun h => group h.2
    · have swaps : (s.advance at_).swapStrobe w = (s.advance at_).swap w :=
        if_pos (by rw [Bool.and_eq_true, beq_iff_eq]; exact ⟨may, alone⟩)
      obtain ⟨n, here⟩ := swap_well (s.advance at_) w
      refine ⟨_, leaves_congr swaps, ?_⟩
      simp only [left_well, left_rd_well, here]
      refine ⟨?_, ?_, ?_, rfl, trivial, swap_count (s.advance at_) w, fun v ne => swap_well_ne (s.advance at_) w ne,
        sameBut_left (swap_mem (s.advance at_) w) (swap_seals (s.advance at_) w) fun a out =>
          swap_word (s.advance at_) w (List.ne_of_not_mem_cons out)⟩
      all_goals rw [advance_idlePlane, advance_well]; cases s.idlePlane w <;> rfl
  · dsimp only
    rw [eff_groupStrobe s at_ g up]
    refine ⟨fun zero => leaves_congr (if_pos zero), fun none => leaves_congr (groupStrobe_unready ?_), fun v hg waits ready only =>
      leaves_congr (groupStrobe_ready (s := s.advance at_) hg waits ((groupReady_iff _).mpr ready) ?_)⟩
    · exact fun w touched waits ready => none w touched waits ((groupReady_iff (s := s.advance at_) _).mp ready)
    · exact fun w touched waits ready => only w touched waits ((groupReady_iff (s := s.advance at_) _).mp ready)

/-- Settles O23: the branches of a refresh and of the lock's loss and return. -/
theorem refreshAndLock : Obligations.RefreshAndLock := by
  refine ⟨fun s at_ w up => ?_, fun s at_ w row err up hw hr he => ?_⟩
  · dsimp only
    rw [eff_refresh s at_ w false up, eff_refresh s at_ w true up]
    exact ⟨fun due => leaves_congr ((refresh_begin _ w).trans (if_pos due)), fun no => leaves_congr ((refresh_begin _ w).trans (if_neg no)),
      fun st => leaves_congr ((refresh_end _ w).trans (if_pos st)), fun st => leaves_congr ((refresh_end _ w).trans (if_neg st))⟩
  · dsimp only
    rw [eff_loUnlock s at_ w row err up, eff_loRelock s at_ w row err up]
    refine ⟨fun near => leaves_congr (if_pos near), fun beyond => ⟨_, rfl, ?_⟩, fun beyond => leaves_congr (if_pos beyond),
      fun within => ⟨_, rfl, ?_⟩⟩
    · obtain ⟨⟨locked, worst, error⟩, mem, dark⟩ := loUnlock_lost (s.advance at_) w hr he beyond
      simp only [left_rd_well, left_mem, left_well, wellDark]
      refine ⟨⟨locked, worst, error, mem⟩, dark, fun far => ?_⟩
      rw [dark]
      simp [far]
    · obtain ⟨⟨locked, worst, error⟩, mem, dark⟩ := loRelock_locked (s.advance at_) w hr he within
      simp only [left_rd_well, left_mem, left_well]
      exact ⟨⟨locked, worst, error, mem⟩, dark⟩

end Sys2Proof.Machine
end

section
/-! PROOFS. Pilot and QFIT windows (R131, R193 to R195, R379), and passes from SETUP to IDLE (R160 to R165). -/

namespace Sys2Proof.Machine

namespace State

/-! ### What the end of a pass leaves of the other wells and of the passes behind it -/

/-- The passes of a well, and every other well. -/
def passView (w : Nat) (s : State) : List PassRun × ({v : Nat // v ≠ w} → Well) := ((s.well w).passes, fun v => s.well v)

theorem passView_of_wells {s t : State} (h : s.wells = t.wells) (w : Nat) : s.passView w = t.passView w := by
  unfold passView well
  rw [h]

/-- Registers of a page behind the comb pages at two offsets. -/
theorem regAddr_ne {pg a b : Nat} (h : 0x100 ≤ pg) (ne : a ≠ b) : regAddr pg a ≠ regAddr pg b := by
  rw [regAddr_plain (by omega), regAddr_plain (by omega)]
  omega

theorem onWell_rdBit (s : State) (w : Nat) (f : Well → Well) (pg : Nat) (g : Field) (b : Nat) :
    (s.onWell w f).rdBit pg g b = s.rdBit pg g b := rfl

theorem rdBit_wr_ne (s : State) {pg pg' : Nat} {f g : Field} (v b : Nat) (h : regAddr pg' (g.at 0) ≠ regAddr pg (f.at 0)) :
    (s.wr pg f v).rdBit pg' g b = s.rdBit pg' g b := by
  unfold rdBit
  rw [rd_wr_ne _ _ _ _ _ _ _ _ h]

section PassView

variable (s : State) (w : Nat)

theorem writeBlind_passView : WriteBlind (passView w) where
  setWord _ _ _ _ := rfl
  test _ _ _ _ _ := rfl
  flash _ _ := rfl
  seq _ _ := rfl
  ring _ _ := rfl
  mem _ _ := rfl
  seals _ _ := rfl
  eccBad _ _ := rfl
  written _ _ := rfl

theorem captureBlind_passView : CaptureBlind (passView w) where
  setWord _ _ _ _ _ := rfl
  integ _ _ := rfl
  fences _ _ := rfl

theorem countWell_passView (a r u o n : Nat) (q : QfitCounts) : (s.countWell w a r u o n q).passView w = s.passView w := by
  unfold passView
  rw [well_countWell]
  exact congrArg (Prod.mk _) (funext fun v => well_countWell_ne s v.2 a r u o n q)

theorem advanceTail_passView : (s.advanceTail w).passView w = s.passView w := by
  unfold advanceTail passView
  rw [well_onWell, wr_well]
  exact congrArg (Prod.mk _) (funext fun v => by rw [well_onWell_ne _ v.2, wr_well])

/-- R152: the moon's reads of the statistics areas, one after the other. -/
theorem statReads_passView (l : List Nat) (n : Nat) (a : State × List ReadRes) :
    (l.foldl (fun (a : State × List ReadRes) b => let x := a.1.read a.1.mapNow b n; (x.1, a.2 ++ [x.2])) a).1.passView w = a.1.passView w := by
  induction l generalizing a with
  | nil => rfl
  | cons b rest ih => exact (ih _).trans (read_keeps (writeBlind_passView w).toReadBlind a.1 _ b n)

theorem normalise_passView (j : Config.NormJob) : (s.normalise w j).passView w = s.passView w := by
  unfold normalise
  extract_lets r f ps bad written
  have e1 : r.1.passView w = s.passView w := statReads_passView w j.stats (8 * j.nv) (s, [])
  have e2 : f.1.passView w = r.1.passView w := rfl
  have e3 : written.passView w = f.1.passView w := write_keeps (writeBlind_passView w) f.1 _ _ _ _
  exact (countWell_passView _ w ..).trans (e3.trans (e2.trans e1))

/-- A read that a pass makes only where the region has a length. -/
def readRegion (s : State) (a n : Nat) : State × ReadRes := if n = 0 then (s, {}) else s.read s.mapNow a n

theorem readRegion_passView (a n : Nat) : (s.readRegion a n).1.passView w = s.passView w := by
  unfold readRegion
  split
  · rfl
  · exact read_keeps (writeBlind_passView w).toReadBlind s _ a n

theorem chosen_passView {w : Nat} {c : Prop} [Decidable c] {a b : State × ReadRes} {x : List PassRun × ({v : Nat // v ≠ w} → Well)}
    (ha : a.1.passView w = x) (hb : b.1.passView w = x) : (if c then a else b).1.passView w = x := by
  split
  · exact ha
  · exact hb

/-- R211: the passes of a logical well are counted. -/
def passCounted (s : State) (w : Nat) : State :=
  match s.logicalOf w with
  | none => s
  | some n =>
    let c := sparsePut (fun _ => 0) s.pump.passCount n (sparseGet (fun _ => 0) s.pump.passCount n + 1)
    { s with pump := { s.pump with passCount := c } }

theorem passCounted_keeps {β : Type} {g : State → β} (pump : ∀ (t : State) x, g { t with pump := x } = g t) : g (s.passCounted w) = g s := by
  unfold passCounted
  split
  · rfl
  · exact pump s _

/-- R160: the last steps of a pass that has ended: it is counted and reported, and it leaves the well. -/
def passLeaves (s : State) (w : Nat) (p : PassRun) : State :=
  ((((s.bumpWrap (pgWell w) Reg.WELL.PASS_COUNT).raise (pgWell w) 9).passCounted w).advanceTail w).onWell w fun x =>
    let x := { x with passes := x.passes.drop 1 }
    let inWindow (e : Nat × List Byte) : Bool := x.pilot.passes.contains e || x.pilotDone.any fun q => q.passes.contains e
    { x with counted := ((if p.failed then [(p.slot, p.desc)] else []) ++ x.counted).filter inWindow }

theorem passLeaves_passView (p : PassRun) : ((s.passLeaves w p).well w).passes = (s.well w).passes.drop 1 ∧
    ∀ v, v ≠ w → (s.passLeaves w p).well v = s.well v := by
  have view : ((((s.bumpWrap (pgWell w) Reg.WELL.PASS_COUNT).raise (pgWell w) 9).passCounted w).advanceTail w).passView w = s.passView w :=
    (advanceTail_passView _ w).trans ((passCounted_keeps _ w fun _ _ => rfl).trans
      (passView_of_wells ((raise_wells _ _ _).trans (bumpWrap_wells _ _ _ _ _)) w))
  unfold passLeaves
  refine ⟨?_, fun v ne => ?_⟩
  · rw [well_onWell]
    exact congrArg (fun x => x.1.drop 1) view
  · rw [well_onWell_ne _ ne]
    exact congrFun (congrArg Prod.snd view) ⟨v, ne⟩

/-- R165: the end of a pass raises the well's event. -/
theorem passLeaves_raises (p : PassRun) : (s.passLeaves w p).rdBit (pgWell w) Reg.HDR.EVT_RAW 9 = true := by
  unfold passLeaves advanceTail
  rw [onWell_rdBit, onWell_rdBit, rdBit_wr_ne _ _ _ (regAddr_ne (pgWell_ge w) (by decide)),
    passCounted_keeps _ w (g := fun t => t.rdBit (pgWell w) Reg.HDR.EVT_RAW 9) fun _ _ => rfl, raised _ _ _ _ (by decide)]
  rfl

end PassView

/-- R160, R165: the end of the oldest pass, once it is in EPILOGUE, is that of a state with the same passes and the same other wells. -/
theorem passDone_ends {s : State} {w : Nat} {p : PassRun} {rest : List PassRun} (passes : (s.well w).passes = p :: rest) (st : p.st = 3)
    (P : State → Prop) (h : ∀ u : State, u.passView w = s.passView w → P (u.passLeaves w p)) : P (s.passDone w) := by
  have writes : ∀ (t : State) a b sl, (t.write t.mapNow a b sl).1.passView w = t.passView w :=
    fun t a b sl => write_keeps (writeBlind_passView w) t _ a b sl
  unfold passDone
  rw [passes]
  show P (if p.st ≠ 3 then s else _)
  rw [if_neg (not_not.mpr st)]
  extract_lets d pg rd opt epi r1 r2 r3 r4 r5 s1 g vecOn bad late sl bs out st live inv s2 s3 s4 s5 s6 s7
  have read : ∀ (t : State) a n, (rd t a n).1.passView w = t.passView w := fun t a n => readRegion_passView t w a n
  have e1 : r1.1.passView w = s.passView w := chosen_passView rfl (read _ _ _)
  have e2 : r2.1.passView w = s.passView w := chosen_passView e1 ((read _ _ _).trans e1)
  have e3 : r3.1.passView w = s.passView w := chosen_passView ((read _ _ _).trans e2) e2
  have e4 : r4.1.passView w = s.passView w := chosen_passView ((read _ _ _).trans e3) e3
  have e5 : s1.passView w = s.passView w := chosen_passView ((read _ _ _).trans e4) e4
  have e6 : s4.passView w = s.passView w := (writes _ _ _ _).trans ((countWell_passView s1 w ..).trans e5)
  have e7 : s5.passView w = s.passView w := by
    simp only [s5]
    repeat' split
    · exact (writes _ _ _ _).trans e6
    · exact (writes _ _ _ _).trans e6
    · exact e6
    · exact (markPass_keeps s1 (g := passView w) (fun _ _ => rfl) w d late).trans e5
    · exact e5
  have e8 : s6.passView w = s.passView w := by
    refine Eq.trans ?_ e7
    simp only [s6]
    split
    · exact each_keeps (passView w) _ (fun t j => normalise_passView t w j) _ s5
    · rfl
  exact h s7 ((commitCapture_keeps (captureBlind_passView w) s6 w p).trans e8)

theorem passDone_waits {s : State} {w : Nat} (h : ∀ p ∈ (s.well w).passes.head?, p.st ≠ 3) : s.passDone w = s := by
  unfold passDone
  cases passes : (s.well w).passes with
  | nil => rfl
  | cons p rest => exact if_pos (h p (by rw [passes]; rfl))

/-! ### The stages before -/

section Stages

variable {s : State} {w : Nat}

/-- R160: the descriptor that waits next for the well. -/
def nextDesc (s : State) (w : Nat) : List Byte :=
  s.bytesAt (s.passKey w ((s.passTail w + (s.well w).passes.length + (s.well w).stale) % 16)) 64

theorem passSetup_enters (may : s.mayEnter w (s.nextDesc w) = true) (good : s.refuseReason w (s.nextDesc w) = 0) :
    s.passSetup w = s.onWell w fun x => { x with passes := x.passes ++
      [{ slot := (s.passTail w + (s.well w).passes.length + (s.well w).stale) % 16, desc := s.nextDesc w, tick := s.tick.number }] } := by
  unfold passSetup
  unfold nextDesc at may good
  simp only [may, good]
  rfl

theorem passSetup_refused (may : s.mayEnter w (s.nextDesc w) = true) (bad : s.refuseReason w (s.nextDesc w) ≠ 0) :
    s.passSetup w = s.refusePass w (s.nextDesc w) (s.refuseReason w (s.nextDesc w)) := by
  unfold passSetup
  unfold nextDesc at may bad ⊢
  simp only [may]
  exact if_pos bad

theorem passSetup_waits (no : s.mayEnter w (s.nextDesc w) = false) : s.passSetup w = s := by
  unfold passSetup
  unfold nextDesc at no
  simp only [no]
  rfl

/-- R160: a tile that is modulated is behind its plane. -/
theorem runTile_done (s : State) (w : Nat) (p : PassRun) (pl : Plane) (errs : List (List Int)) (fault : Option (Nat × Nat)) :
    ((s.runTile w p pl errs fault).well w).tileDone = true := by
  have shape : ∃ (t : State) (f : Well → Well) (q : PassRun), s.runTile w p pl errs fault = (t.onWell w f).putPass w q ∧
      ∀ x, (f x).tileDone = true := ⟨_, _, _, rfl, fun _ => rfl⟩
  obtain ⟨t, f, q, e, done⟩ := shape
  rw [e, putPass, well_onWell, well_onWell]
  exact done _

variable {errs : List (List Int)} {fault : Option (Nat × Nat)}

theorem passRun_halted (halted : s.runs (pgWell w) ≠ true) : s.passRun w errs fault = s := by
  unfold passRun
  exact if_pos (by simpa using halted)

section Runs

variable (runs : s.runs (pgWell w) = true)
include runs

theorem passRun_tile {e : PassRun × Plane} (tile : s.readyTile w = some e) :
    s.passRun w errs fault = (s.onWell w fun x => { x with cleared := false }).runTile w e.1 e.2 errs fault := by
  unfold passRun
  rw [if_neg (by simp [runs]), tile]

variable (none : s.readyTile w = none)
include none

theorem passRun_idle (setup : (s.well w).passes.find? (fun p => p.st = 1) = .none) : s.passRun w errs fault = s := by
  unfold passRun
  rw [if_neg (by simp [runs]), none]
  dsimp only
  rw [setup]

variable {p : PassRun} (setup : (s.well w).passes.find? (fun p => p.st = 1) = some p)
include setup

theorem passRun_promotes (h : Pd.optical p.desc = true ∨ fault = .none) : s.passRun w errs fault = s.promote w p := by
  unfold passRun
  rw [if_neg (by simp [runs]), none]
  dsimp only
  rw [setup]
  dsimp only
  obtain optical | rfl := h
  · rw [optical]
    cases fault <;> rfl
  · rfl

theorem passRun_vectorOnly {f : Nat × Nat} (optical : Pd.optical p.desc = false) :
    s.passRun w errs (some f) = s.vectorOnlyFault w { p with st := 3 } f := by
  unfold passRun
  rw [if_neg (by simp [runs]), none]
  dsimp only
  rw [setup]
  dsimp only
  rw [optical]

end Runs

theorem passEpilogue_waits (none : (s.well w).passes.find? (fun p => p.st = 2 ∧ p.tile = Pd.kt p.desc) = .none) :
    s.passEpilogue w fault = s := by
  unfold passEpilogue
  rw [none]

theorem passEpilogue_ends {p : PassRun} (last : (s.well w).passes.find? (fun p => p.st = 2 ∧ p.tile = Pd.kt p.desc) = some p) :
    s.passEpilogue w fault =
      let r := match fault with
        | none => (s, p)
        | some f => s.residueFail w p p.codes p.blocks p.act f.1 f.2
      r.1.putPass w { r.2 with st := 3 } := by
  unfold passEpilogue
  rw [last] <;> rfl

end Stages

end State

open State

/-- Settles O25: each stage by its case; PASS_DONE by `passDone_ends`. -/
theorem passLifeCycle : Obligations.PassLifeCycle := by
  refine ⟨fun s at_ w up => ?_, fun s at_ w errs fault up => ?_, fun s at_ w up => ?_⟩
  · dsimp only
    rw [eff_passSetup s at_ w up]
    exact ⟨fun may good => leaves_congr (passSetup_enters (s := s.advance at_) may good),
      fun may bad => leaves_congr (passSetup_refused (s := s.advance at_) may bad),
      fun no => leaves_congr (passSetup_waits (s := s.advance at_) no)⟩
  · dsimp only
    rw [eff_passRun s at_ w errs fault up, eff_passEpilogue s at_ w fault up]
    refine ⟨fun e runs tile => ⟨_, leaves_congr (passRun_tile (s := s.advance at_) runs tile), rfl, ?_⟩,
      fun p runs none setup h => leaves_congr (passRun_promotes (s := s.advance at_) runs none setup h), ?_, ?_,
      fun p last => ⟨?_, ?_⟩, fun none => leaves_congr (passEpilogue_waits (s := s.advance at_) none)⟩
    · rw [left_well]
      exact runTile_done _ w _ _ _ _
    · rintro p f runs none setup optical rfl
      exact leaves_congr (passRun_vectorOnly (s := s.advance at_) runs none setup optical)
    · rintro (halted | ⟨none, setup⟩)
      · exact leaves_congr (passRun_halted (s := s.advance at_) halted)
      · by_cases runs : s.runs (pgWell w) = true
        · exact leaves_congr (passRun_idle (s := s.advance at_) runs none setup)
        · exact leaves_congr (passRun_halted (s := s.advance at_) runs)
    · rintro rfl
      exact leaves_congr (passEpilogue_ends (s := s.advance at_) last)
    · rintro f rfl
      exact leaves_congr (passEpilogue_ends (s := s.advance at_) last)
  · rw [eff_passDone s at_ w up]
    refine ⟨fun p rest passes st => ⟨_, rfl, ?_⟩, fun h => leaves_congr (passDone_waits (s := s.advance at_) h)⟩
    refine passDone_ends (s := s.advance at_) passes st
      (fun t => ((s.left t).well w).passes = rest ∧ (s.left t).rdBit (pgWell w) Reg.HDR.EVT_RAW 9 = true ∧
        ∀ v, v ≠ w → (s.left t).well v = s.well v) fun u view => ?_
    obtain ⟨next, others⟩ := passLeaves_passView u w p
    have passesKept : (u.well w).passes = p :: rest := (congrArg Prod.fst view).trans passes
    refine ⟨?_, ?_, fun v ne => ?_⟩
    · rw [left_well, next, passesKept]
      rfl
    · unfold rdBit
      rw [left_rd_well]
      exact passLeaves_raises u w p
    · rw [left_well, others v ne]
      exact congrFun (congrArg Prod.snd view) ⟨v, ne⟩

end Sys2Proof.Machine
end

section
/-! PROOFS. Pilot and QFIT windows (R131, R193 to R195, R379). -/

namespace Sys2Proof.Machine

theorem satAdd_lt (width x n : Nat) : satAdd width x n < 2 ^ width := by
  have : 0 < 2 ^ width := Nat.two_pow_pos width
  unfold satAdd
  omega

namespace State

/-! ### Registers of a well's page under the operations on it -/

section WellPage

variable (s : State) (w : Nat)

theorem rd_wr_well {f g : Field} (h : g.at 0 ≠ f.at 0) (v : Nat) : (s.wr (pgWell w) f v).rd (pgWell w) g = s.rd (pgWell w) g :=
  rd_wr_ne _ _ _ _ _ _ _ _ (regAddr_ne (pgWell_ge w) h)

theorem rd_wr64_well {f g : Field} (h : g.at 0 ≠ f.at 0) (h' : g.at 0 ≠ f.at 0 + 4) (v : Nat) :
    (s.wr64 (pgWell w) f v).rd (pgWell w) g = s.rd (pgWell w) g := by
  unfold rd wr64
  rw [word_setWord_ne _ _ _ _ (regAddr_ne (pgWell_ge w) h'), word_setWord_ne _ _ _ _ (regAddr_ne (pgWell_ge w) h)]

theorem rd_onWell (v : Nat) (f : Well → Well) (pg : Nat) (g : Field) : (s.onWell v f).rd pg g = s.rd pg g := rfl

theorem rd_raise_well {g : Field} (h : g.at 0 ≠ 0x010) (b : Nat) : (s.raise (pgWell w) b).rd (pgWell w) g = s.rd (pgWell w) g :=
  rd_wr_well s w h _

/-- R155: the saturation counters lie at 120H to 147H. -/
theorem rd_countWell {g : Field} (h : g.at 0 < 0x120 ∨ 0x148 ≤ g.at 0) (a r u o n : Nat) (q : QfitCounts) :
    (s.countWell w a r u o n q).rd (pgWell w) g = s.rd (pgWell w) g := by
  have apart : ∀ (t : State) (f : Field) n, 0x120 ≤ f.at 0 → f.at 0 < 0x144 → (t.bump64 (pgWell w) f n).rd (pgWell w) g = t.rd (pgWell w) g :=
    fun t f n lo hi => rd_wr64_well t w (by omega) (by omega) _
  unfold countWell
  dsimp only
  rw [rd_onWell, apart _ _ _ (by decide) (by decide), apart _ _ _ (by decide) (by decide), apart _ _ _ (by decide) (by decide),
    apart _ _ _ (by decide) (by decide), apart _ _ _ (by decide) (by decide)]

end WellPage

/-! ### Pilot windows -/

section Pilot

variable {s : State} {w : Nat}

theorem pilotWindowEnd_none (none : (s.well w).pilotDone = []) : s.pilotWindowEnd w = s := by
  unfold pilotWindowEnd
  dsimp only
  rw [none]

variable {p : PilotSums} {rest : List PilotSums} (window : (s.well w).pilotDone = p :: rest)
include window

/-- R131: the oldest completed window is taken. -/
def pilotTaken (s : State) (w : Nat) (rest : List PilotSums) : State := s.onWell w fun x => { x with pilotDone := rest }

theorem pilotWindowEnd_skip (skip : pilotSolve p (s.well w).phiRef (s.well w).gRef = none) :
    s.pilotWindowEnd w = (s.pilotTaken w rest).bump (pgWell w) Reg.WELL.PILOT_SKIP := by
  unfold pilotWindowEnd
  dsimp only
  rw [window]
  dsimp only
  rw [skip]
  rfl

/-- R131, R148: a solved window shows in PILOT_PHASE and PILOT_GAIN, and its clips are counted. -/
def pilotShown (s : State) (w : Nat) (r : Nat × Nat × Nat) : State :=
  ((s.wr (pgWell w) Reg.WELL.PILOT_PHASE r.1).wr (pgWell w) Reg.WELL.PILOT_GAIN r.2.1).countWell w 0 r.2.2 0 0 0

omit window in
theorem rd_pilotShown {g : Field} (h : g.at 0 < 0x058) (r : Nat × Nat × Nat) : (s.pilotShown w r).rd (pgWell w) g = s.rd (pgWell w) g := by
  have phase : Reg.WELL.PILOT_PHASE.at 0 = 0x058 := rfl
  have gain : Reg.WELL.PILOT_GAIN.at 0 = 0x05C := rfl
  unfold pilotShown
  rw [rd_countWell _ _ (by omega), rd_wr_well _ _ (by omega), rd_wr_well _ _ (by omega)]

/-- R131: the phase target of the local oscillator follows a solved window while tracking is on. -/
def pilotTracked (s : State) (w : Nat) (track : Bool) (phase : Nat) : State :=
  if track then s.onWell w fun x => { x with loTrim := trackMove x.loTrim phase } else s

omit window in
theorem rd_pilotTracked (track : Bool) (phase : Nat) (g : Field) : (s.pilotTracked w track phase).rd (pgWell w) g = s.rd (pgWell w) g := by
  unfold pilotTracked
  split
  · exact rd_onWell s w _ _ _
  · rfl

/-- R131, R379: a window that is solved drifts where it exceeds a threshold. -/
theorem pilotWindowEnd_solved {r : Nat × Nat × Nat} (solved : pilotSolve p (s.well w).phiRef (s.well w).gRef = some r) :
    s.pilotWindowEnd w =
      let v := ((s.pilotTaken w rest).pilotShown w r).pilotTracked w (s.flag (pgWell w) Reg.WELL.OPT_CTL_PILOT_TRACK) r.1
      if pilotExceeds r.1 r.2.1 (s.rd (pgWell w) Reg.WELL.PILOT_CTL_PHASE_THR) (s.rd (pgWell w) Reg.WELL.PILOT_CTL_GAIN_THR) then
        v.pilotDrift w p r.1 r.2.1
      else v.onWellCal w fun c => { c with pilotArmed := false } := by
  have flag : ((s.pilotTaken w rest).pilotShown w r).flag (pgWell w) Reg.WELL.OPT_CTL_PILOT_TRACK = s.flag (pgWell w) Reg.WELL.OPT_CTL_PILOT_TRACK := by
    unfold State.flag
    rw [rd_pilotShown (by decide)]
    rfl
  have kept : ∀ g : Field, g.at 0 < 0x058 →
      (((s.pilotTaken w rest).pilotShown w r).pilotTracked w (s.flag (pgWell w) Reg.WELL.OPT_CTL_PILOT_TRACK) r.1).rd (pgWell w) g =
        s.rd (pgWell w) g := fun g h => by
    rw [rd_pilotTracked, rd_pilotShown h]
    rfl
  rw [← kept _ (by decide), ← kept Reg.WELL.PILOT_CTL_GAIN_THR (by decide), ← flag]
  unfold pilotWindowEnd
  dsimp only
  rw [window]
  dsimp only
  rw [solved]
  rfl

end Pilot

/-! ### A window that drifts -/

section Drift

variable (s : State) (w : Nat)

/-- The events of a well. -/
def wellEvents (w : Nat) (s : State) : Nat := s.rd (pgWell w) Reg.HDR.EVT_RAW

theorem wr_wellEvents {pg : Nat} (h : 0x56 ≤ pg) (ne : pg ≠ pgWell w) {f : Field} (hf : f.at 0 < 0x1000) (v : Nat) :
    (s.wr pg f v).wellEvents w = s.wellEvents w := by
  refine rd_wr_ne _ _ _ _ _ _ _ _ ?_
  have := pgWell_ge w
  rw [regAddr_plain (by omega), regAddr_plain h]
  have : Reg.HDR.EVT_RAW.at 0 = 0x010 := rfl
  omega

theorem onWellCal_events (f : WellCal → WellCal) : (s.onWellCal w f).wellEvents w = s.wellEvents w := rfl

theorem pilotWithhold_events (e : Nat × List Byte) : (s.pilotWithhold w e).wellEvents w = s.wellEvents w := by
  have counts : ∀ t : State, (t.bump (pgWell w) Reg.WELL.WITHHELD_PASSES).wellEvents w = t.wellEvents w := fun t =>
    rd_wr_well t w (by decide) _
  unfold pilotWithhold
  split
  · dsimp only
    split
    · rfl
    · exact counts s
  · dsimp only
    rw [markPass_keeps _ (g := wellEvents w) fun _ _ => rfl]
    split
    · rfl
    · exact counts s

theorem recordBlind_events : RecordBlind (wellEvents w) where
  test t f v i h := by
    refine rd_wr_ne _ _ _ _ _ _ _ _ ?_
    have := pgWell_ge w
    rw [regAddr_plain (by omega), regAddr_plain (by decide)]
    unfold pgTEST
    have : Reg.HDR.EVT_RAW.at 0 = 0x010 := rfl
    omega
  flash _ _ := rfl
  seq _ _ := rfl
  ring _ _ := rfl

theorem driftFence_events (q : Nat) : (s.driftFence w q).wellEvents w = s.wellEvents w := by
  unfold driftFence
  have := pgWell_ge w
  refine (wr_wellEvents _ w (by decide) (by unfold pgCAL; omega) (by decide) _).trans ?_
  refine (wr_wellEvents _ w (by decide) (by unfold pgCAL; omega) (by decide) _).trans ?_
  exact askFence_keeps (g := wellEvents w) s (fun _ _ => rfl) w 3 q

/-- R131, R379: what a drift does to the passes with a symbol in the window. -/
theorem driftRecorded_events (en : Bool) (p : PilotSums) (phase gain : Nat) : (if en then
      let s := s.each p.passes fun s e => s.pilotWithhold w e
      ((s.wr pgINTEG Reg.INTEG.LAST_WELL w).wr pgINTEG Reg.INTEG.LAST_KIND 4).record (pgWell w) 4 0 1 phase gain
    else s.record (pgWell w) 4 0 0 phase gain).wellEvents w = s.wellEvents w := by
  have := pgWell_ge w
  have record : ∀ (t : State) a, (t.record (pgWell w) 4 0 a phase gain).wellEvents w = t.wellEvents w :=
    fun t a => record_keeps (recordBlind_events w) t (pgWell w) 4 0 a phase gain 0 []
  split
  · refine (record _ _).trans ?_
    refine (wr_wellEvents _ w (by decide) (by unfold pgINTEG; omega) (by decide) _).trans ?_
    refine (wr_wellEvents _ w (by decide) (by unfold pgINTEG; omega) (by decide) _).trans ?_
    exact each_keeps (wellEvents w) _ (fun t e => pilotWithhold_events t w e) _ s
  · exact record _ _

/-- R131: a window that drifts raises PILOT_DRIFT. -/
theorem pilotDrift_raises (p : PilotSums) (phase gain : Nat) :
    (s.pilotDrift w p phase gain).rdBit (pgWell w) Reg.HDR.EVT_RAW 4 = true := by
  have shown : (s.pilotDrift w p phase gain).wellEvents w = (s.raise (pgWell w) 4).wellEvents w := by
    unfold pilotDrift
    extract_lets pg s1 en held s2
    have e1 : s1.wellEvents w = (s.raise (pgWell w) 4).wellEvents w := rd_wr_well _ w (by decide) _
    have e2 : s2.wellEvents w = s1.wellEvents w := driftRecorded_events s1 w en p phase gain
    split
    · exact (onWellCal_events _ w _).trans ((driftFence_events s2 w _).trans (e2.trans e1))
    · exact (onWellCal_events _ w _).trans (e2.trans e1)
  have bit : (s.raise (pgWell w) 4).rdBit (pgWell w) Reg.HDR.EVT_RAW 4 = true := by
    rw [raised _ _ _ _ (by decide)]
    rfl
  exact (congrArg (bitAt · 4) shown).trans bit

end Drift

/-! ### QFIT windows -/

section Qfit

variable (s : State) (w : Nat)

/-- R193, R194: a fraction of the window: 0 where its denominator is too small. -/
def qfitFraction (n d : Nat) : Nat := if qfitEvaluated d (s.rd (pgWell w) Reg.WELL.QFIT_CTL_MIN_LOG2) then qfitFrac n d else 0

/-- R195: a fraction of the window exceeds its limit. -/
def qfitBeyond (n d thr : Nat) : Bool := qfitEvaluated d (s.rd (pgWell w) Reg.WELL.QFIT_CTL_MIN_LOG2) && qfitExceeds n d thr

/-- R194: the three fractions are shown. -/
def qfitShown (adc req ufl : Nat) : State :=
  ((s.wr (pgWell w) Reg.WELL.QFIT_FRAC_ADC adc).wr (pgWell w) Reg.WELL.QFIT_FRAC_REQ req).wr (pgWell w) Reg.WELL.QFIT_FRAC_UFL ufl

/-- R195: the fractions beyond their limits are named, reported and counted. -/
def qfitReported (a r u : Bool) (b : Nat) : State :=
  let s := ((s.wr (pgWell w) Reg.WELL.QFIT_STAT_ADC (b2n a)).wr (pgWell w) Reg.WELL.QFIT_STAT_REQ (b2n r)).wr (pgWell w) Reg.WELL.QFIT_STAT_UFL (b2n u)
  ((s.raise (pgWell w) 15).bump (pgWell w) Reg.WELL.QFIT_COUNT).wr64 (pgWell w) Reg.WELL.QFIT_TICK_LO b

/-- R193: in the last tick of a window, a well that is ON and has counted the window whole evaluates it once. -/
def qfitDue : Prop :=
  s.qfitCloses w s.tick.number s.nextTickNo = true ∧ s.isOn (pgWell w) = true ∧ s.flag (pgWell w) Reg.WELL.QFIT_CTL_EN = true ∧
    (s.well w).qfitWait = false ∧ (s.well w).qfitDone ≠ s.nextTickNo

theorem qfitWindow_waits (h : ¬s.qfitDue w) : s.qfitWindow w = s := by
  unfold qfitWindow
  split
  next closes =>
    unfold qfitEvaluate
    refine if_pos ?_
    by_contra no
    simp only [Bool.or_eq_true, Bool.not_eq_true', decide_eq_true_eq, not_or, Bool.not_eq_false, Bool.not_eq_true] at no
    obtain ⟨⟨⟨on, en⟩, whole⟩, fresh⟩ := no
    exact h ⟨closes, on, en, whole, fresh⟩
  · rfl

/-- R193 to R195: the evaluation of a window. -/
theorem qfitWindow_due (h : s.qfitDue w) :
    let q := (s.well w).qfit
    let a := s.qfitBeyond w q.clips q.samples (s.rd (pgWell w) Reg.WELL.QFIT_ADC_PPM)
    let r := s.qfitBeyond w q.req q.outputs (s.rd (pgWell w) Reg.WELL.QFIT_REQ_PPM)
    let u := s.qfitBeyond w q.ufl q.outputs (s.rd (pgWell w) Reg.WELL.QFIT_UFL_PPM)
    let shown := s.qfitShown w (s.qfitFraction w q.clips q.samples) (s.qfitFraction w q.req q.outputs) (s.qfitFraction w q.ufl q.outputs)
    s.qfitWindow w = (if a || r || u then shown.qfitReported w a r u s.nextTickNo else shown).onWell w fun x => { x with qfitDone := s.nextTickNo } := by
  obtain ⟨closes, on, en, whole, fresh⟩ := h
  dsimp only
  unfold qfitWindow
  rw [if_pos closes]
  unfold qfitEvaluate
  dsimp only
  rw [if_neg (by simp [on, en, whole, fresh])]
  rfl

theorem rd_qfitShown (adc req ufl : Nat) :
    (s.qfitShown w adc req ufl).rd (pgWell w) Reg.WELL.QFIT_FRAC_ADC = adc % 2 ^ Reg.WELL.QFIT_FRAC_ADC.width ∧
    (s.qfitShown w adc req ufl).rd (pgWell w) Reg.WELL.QFIT_FRAC_REQ = req % 2 ^ Reg.WELL.QFIT_FRAC_REQ.width ∧
    (s.qfitShown w adc req ufl).rd (pgWell w) Reg.WELL.QFIT_FRAC_UFL = ufl % 2 ^ Reg.WELL.QFIT_FRAC_UFL.width := by
  unfold qfitShown
  refine ⟨?_, ?_, rd_wr _ _ _ _ _ (by decide)⟩
  · rw [rd_wr_well _ _ (by decide), rd_wr_well _ _ (by decide)]
    exact rd_wr _ _ _ _ _ (by decide)
  · rw [rd_wr_well _ _ (by decide)]
    exact rd_wr _ _ _ _ _ (by decide)

theorem rd_qfitShown_ne {g : Field} (h : g.at 0 < 0x214 ∨ 0x21C < g.at 0) (adc req ufl : Nat) :
    (s.qfitShown w adc req ufl).rd (pgWell w) g = s.rd (pgWell w) g := by
  have a1 : Reg.WELL.QFIT_FRAC_ADC.at 0 = 0x214 := rfl
  have a2 : Reg.WELL.QFIT_FRAC_REQ.at 0 = 0x218 := rfl
  have a3 : Reg.WELL.QFIT_FRAC_UFL.at 0 = 0x21C := rfl
  unfold qfitShown
  rw [rd_wr_well _ _ (by omega), rd_wr_well _ _ (by omega), rd_wr_well _ _ (by omega)]

/-- R195: what a report writes of the well's page is QFIT_STAT, the event, the count and the tick. -/
theorem rd_qfitReported_ne {g : Field} (h : 0x214 ≤ g.at 0 ∧ g.at 0 < 0x220) (a r u : Bool) (b : Nat) :
    (s.qfitReported w a r u b).rd (pgWell w) g = s.rd (pgWell w) g := by
  have a1 : Reg.WELL.QFIT_STAT_ADC.at 0 = 0x210 := rfl
  have a2 : Reg.WELL.QFIT_STAT_REQ.at 0 = 0x210 := rfl
  have a3 : Reg.WELL.QFIT_STAT_UFL.at 0 = 0x210 := rfl
  have a4 : Reg.WELL.QFIT_COUNT.at 0 = 0x220 := rfl
  have a5 : Reg.WELL.QFIT_TICK_LO.at 0 = 0x224 := rfl
  unfold qfitReported bump
  dsimp only
  rw [rd_wr64_well _ _ (by omega) (by omega), rd_wr_well _ _ (by omega), rd_raise_well _ _ (by omega), rd_wr_well _ _ (by omega),
    rd_wr_well _ _ (by omega), rd_wr_well _ _ (by omega)]

/-- A field of QFIT_STAT beside the one that is written. -/
theorem qfitStat_beside (f g : Field) {v : Nat} (same : g.at 0 = f.at 0)
    (apart : f.lsb + f.width ≤ 32 ∧ (g.lsb + g.width ≤ f.lsb ∨ f.lsb + f.width ≤ g.lsb)) : (s.wr (pgWell w) f v).rd (pgWell w) g = s.rd (pgWell w) g :=
  loStat_beside s w f g same apart

/-- R195: what a report shows. -/
theorem qfitReported_shows (a r u : Bool) (b : Nat) :
    let t := s.qfitReported w a r u b
    t.rdBit (pgWell w) Reg.HDR.EVT_RAW 15 = true ∧ t.rd (pgWell w) Reg.WELL.QFIT_STAT_ADC = b2n a ∧
      t.rd (pgWell w) Reg.WELL.QFIT_STAT_REQ = b2n r ∧ t.rd (pgWell w) Reg.WELL.QFIT_STAT_UFL = b2n u ∧
      t.rd (pgWell w) Reg.WELL.QFIT_COUNT = satAdd Reg.WELL.QFIT_COUNT.width (s.rd (pgWell w) Reg.WELL.QFIT_COUNT) 1 := by
  have one : ∀ x : Bool, b2n x % 2 ^ 1 = b2n x := by decide
  dsimp only
  unfold qfitReported
  dsimp only
  have stat : ∀ (t : State) (g : Field), g.at 0 = 0x210 →
      (((t.raise (pgWell w) 15).bump (pgWell w) Reg.WELL.QFIT_COUNT).wr64 (pgWell w) Reg.WELL.QFIT_TICK_LO b).rd (pgWell w) g =
        t.rd (pgWell w) g := by
    intro t g at_
    have a4 : Reg.WELL.QFIT_COUNT.at 0 = 0x220 := rfl
    have a5 : Reg.WELL.QFIT_TICK_LO.at 0 = 0x224 := rfl
    unfold bump
    rw [rd_wr64_well _ _ (by omega) (by omega), rd_wr_well _ _ (by omega), rd_raise_well _ _ (by omega)]
  refine ⟨?_, ?_, ?_, ?_, ?_⟩
  · unfold rdBit bump
    rw [rd_wr64_well _ _ (by decide) (by decide), rd_wr_well _ _ (by decide)]
    exact (raised _ _ 15 15 (by decide)).trans (by rfl)
  · rw [stat _ _ rfl, qfitStat_beside _ _ Reg.WELL.QFIT_STAT_UFL Reg.WELL.QFIT_STAT_ADC rfl (by decide),
      qfitStat_beside _ _ Reg.WELL.QFIT_STAT_REQ Reg.WELL.QFIT_STAT_ADC rfl (by decide)]
    exact (rd_wr _ _ _ _ _ (by decide)).trans (one a)
  · rw [stat _ _ rfl, qfitStat_beside _ _ Reg.WELL.QFIT_STAT_UFL Reg.WELL.QFIT_STAT_REQ rfl (by decide)]
    exact (rd_wr _ _ _ _ _ (by decide)).trans (one r)
  · rw [stat _ _ rfl]
    exact (rd_wr _ _ _ _ _ (by decide)).trans (one u)
  · rw [rd_wr64_well _ _ (by decide) (by decide)]
    unfold bump
    rw [rd_wr _ _ _ _ _ (by decide), rd_raise_well _ _ (by decide), rd_wr_well _ _ (by decide), rd_wr_well _ _ (by decide),
      rd_wr_well _ _ (by decide)]
    exact Nat.mod_eq_of_lt (satAdd_lt _ _ _)

theorem qfitEvaluated_wells (adc req ufl : Nat) (c a r u : Bool) (b : Nat) :
    (if c then (s.qfitShown w adc req ufl).qfitReported w a r u b else s.qfitShown w adc req ufl).wells = s.wells := by
  have shown : (s.qfitShown w adc req ufl).wells = s.wells := by rw [qfitShown, wr_wells, wr_wells, wr_wells]
  split
  · rw [qfitReported, wr64_wells, bump_wells, raise_wells, wr_wells, wr_wells, wr_wells, shown]
  · exact shown

theorem qfitEvaluated_mem (adc req ufl : Nat) (c a r u : Bool) (b : Nat) :
    (if c then (s.qfitShown w adc req ufl).qfitReported w a r u b else s.qfitShown w adc req ufl).mem = s.mem := by
  have shown : (s.qfitShown w adc req ufl).mem = s.mem := by rw [qfitShown, wr_mem, wr_mem, wr_mem]
  split
  · rw [qfitReported, wr64_mem, bump_mem, raise_mem, wr_mem, wr_mem, wr_mem, shown]
  · exact shown

theorem qfitWindow_frame (h : s.qfitDue w) : ((s.qfitWindow w).well w).qfitDone = s.nextTickNo ∧ (s.qfitWindow w).mem = s.mem ∧
    ∀ v, v ≠ w → (s.qfitWindow w).well v = s.well v := by
  have e := qfitWindow_due s w h
  dsimp only at e
  rw [e]
  refine ⟨by rw [well_onWell], ?_, fun v ne => ?_⟩
  · rw [onWell_mem, qfitEvaluated_mem]
  · rw [well_onWell_ne _ ne]
    exact well_of_wells (qfitEvaluated_wells ..) v

/-- R194, R195: the registers of the well after its window is evaluated. -/
theorem qfitWindow_shows (h : s.qfitDue w) :
    let t := s.qfitWindow w
    let q := (s.well w).qfit
    let a := s.qfitBeyond w q.clips q.samples (s.rd (pgWell w) Reg.WELL.QFIT_ADC_PPM)
    let r := s.qfitBeyond w q.req q.outputs (s.rd (pgWell w) Reg.WELL.QFIT_REQ_PPM)
    let u := s.qfitBeyond w q.ufl q.outputs (s.rd (pgWell w) Reg.WELL.QFIT_UFL_PPM)
    t.rd (pgWell w) Reg.WELL.QFIT_FRAC_ADC = s.qfitFraction w q.clips q.samples % 2 ^ Reg.WELL.QFIT_FRAC_ADC.width ∧
    t.rd (pgWell w) Reg.WELL.QFIT_FRAC_REQ = s.qfitFraction w q.req q.outputs % 2 ^ Reg.WELL.QFIT_FRAC_REQ.width ∧
    t.rd (pgWell w) Reg.WELL.QFIT_FRAC_UFL = s.qfitFraction w q.ufl q.outputs % 2 ^ Reg.WELL.QFIT_FRAC_UFL.width ∧
    ((a || r || u) = true → t.rdBit (pgWell w) Reg.HDR.EVT_RAW 15 = true ∧ t.rd (pgWell w) Reg.WELL.QFIT_STAT_ADC = b2n a ∧
      t.rd (pgWell w) Reg.WELL.QFIT_STAT_REQ = b2n r ∧ t.rd (pgWell w) Reg.WELL.QFIT_STAT_UFL = b2n u ∧
      t.rd (pgWell w) Reg.WELL.QFIT_COUNT = satAdd Reg.WELL.QFIT_COUNT.width (s.rd (pgWell w) Reg.WELL.QFIT_COUNT) 1) ∧
    ((a || r || u) = false → t.rd (pgWell w) Reg.WELL.QFIT_COUNT = s.rd (pgWell w) Reg.WELL.QFIT_COUNT) := by
  have e := qfitWindow_due s w h
  dsimp only at e ⊢
  rw [e, rd_onWell, rd_onWell, rd_onWell, rd_onWell, rd_onWell, rd_onWell, rd_onWell, onWell_rdBit]
  generalize s.qfitBeyond w (s.well w).qfit.clips _ _ = a
  generalize s.qfitBeyond w (s.well w).qfit.req _ _ = r
  generalize s.qfitBeyond w (s.well w).qfit.ufl _ _ = u
  generalize s.qfitFraction w (s.well w).qfit.clips _ = adc
  generalize s.qfitFraction w (s.well w).qfit.req _ = req
  generalize s.qfitFraction w (s.well w).qfit.ufl _ = ufl
  obtain ⟨fracAdc, fracReq, fracUfl⟩ := rd_qfitShown s w adc req ufl
  have count : (s.qfitShown w adc req ufl).rd (pgWell w) Reg.WELL.QFIT_COUNT = s.rd (pgWell w) Reg.WELL.QFIT_COUNT :=
    rd_qfitShown_ne s w (by decide) adc req ufl
  by_cases any : (a || r || u) = true
  · rw [if_pos any, rd_qfitReported_ne _ _ (by decide), rd_qfitReported_ne _ _ (by decide), rd_qfitReported_ne _ _ (by decide)]
    have shows := qfitReported_shows (s.qfitShown w adc req ufl) w a r u s.nextTickNo
    dsimp only at shows
    rw [count] at shows
    exact ⟨fracAdc, fracReq, fracUfl, fun _ => shows, fun no => absurd (any.symm.trans no) (by decide)⟩
  · rw [if_neg any]
    exact ⟨fracAdc, fracReq, fracUfl, fun yes => absurd yes any, fun _ => count⟩

end Qfit

end State

open State

/-- Settles O24: a solved pilot window by `pilotWindowEnd_solved`, a QFIT window by `qfitWindow_due`. -/
theorem windowsEvaluated : Obligations.WindowsEvaluated := by
  refine ⟨fun s at_ w up => ?_, fun s at_ w up _ => ?_⟩
  · rw [eff_pilotWindowEnd s at_ w up]
    refine ⟨fun none => leaves_congr (pilotWindowEnd_none (s := s.advance at_) none), fun p rest window => ⟨fun skip => ?_, fun r solved => ?_⟩⟩
    · exact leaves_congr (pilotWindowEnd_skip (s := s.advance at_) window skip)
    · have e := pilotWindowEnd_solved (s := s.advance at_) window solved
      dsimp only at e ⊢
      exact ⟨fun within => leaves_congr (e.trans (if_neg (fun h => Bool.false_ne_true (within.symm.trans h)))),
        fun beyond => ⟨leaves_congr (e.trans (if_pos beyond)), pilotDrift_raises _ w p r.1 r.2.1⟩⟩
  · dsimp only
    rw [eff_qfitWindow s at_ w up]
    refine ⟨fun no => leaves_congr (qfitWindow_waits (s.advance at_) w no), fun due => ⟨_, rfl, ?_⟩⟩
    obtain ⟨done, mem, others⟩ := qfitWindow_frame (s.advance at_) w due
    obtain ⟨adc, req, ufl, beyond, within⟩ := qfitWindow_shows (s.advance at_) w due
    simp only [rdBit, left_rd_well, left_well, left_mem]
    exact ⟨done, mem, others, adc, req, ufl, beyond, within⟩

end Sys2Proof.Machine
end

section
/-! PROOFS. The queues of the pumps: their commands, transfers and data (R199 to R224, R574, R575). -/

namespace Sys2Proof.Machine

namespace State

/-- A module whose queue 0 is STOPPING, with nothing in it. -/
def stoppingQueue : State := ({} : State).wr (pgPumpq 0) Reg.HDR.STATE_ST 3

/-- A queue whose oldest transfer has its answer: the word that resets the module, for SYS.CLEAR (R78, R442). -/
def answeredReset : Queue where
  inflight := [{ bytes := 0, dests := [], tags := [7] }]
  exec := some { slot := 0, desc := [], got := [(7, registerBase + 0x04C, [0x00, 0x01, 0xC3, 0xA5], false, 0)] }

/-- A module whose queue 0 is in that state. -/
def resetAnswered : State := ({} : State).onQueue 0 fun _ => answeredReset

/-! ### The transfers of a data command -/

section MoveOp

variable {s : State} {q op : Nat}

theorem askAll_exec (s : State) (l : List Nat) (q : Nat) : (s.askAll l).exec? q = s.exec? q := by
  have asks : (s.each l fun t q => t.askBuffers q).pump.queues = s.pump.queues := by
    refine each_keeps (fun t => t.pump.queues) _ (fun t q => ?_) l s
    unfold askBuffers
    split <;> rfl
  unfold exec? queue
  exact congrArg (fun l => (sparseGet (fun _ => ({} : Queue)) l q).exec) asks

theorem moveOp_other (h : ∀ e, s.exec? q = some e → Qd.op e.desc ≠ op) : s.moveOp q op = s := by
  unfold moveOp issueAll
  cases engine : s.exec? q with
  | none => rfl
  | some e => exact if_pos (h e engine)

section Own

variable {e : Exec} (engine : s.exec? q = some e) (own : Qd.op e.desc = op)
include engine own

/-- R196, R211: the queue asks for the credits of its next transfer, which issues where they are granted; the others follow. -/
theorem moveOp_own : s.moveOp q op =
    if ((s.askAll [q]).issuable q).isSome then ((s.askAll [q]).issueOne q).issueAll q op 64 else s.askAll [q] := by
  unfold moveOp
  rw [issueAll, engine]
  exact if_neg (not_not.mpr own)

theorem moveOp_starved (none : (s.askAll [q]).issuable q = none) : s.moveOp q op = s.askAll [q] := by
  rw [moveOp_own engine own, none]
  rfl

theorem moveOp_issues {n : Nat} (grants : (s.askAll [q]).issuable q = some n) :
    s.moveOp q op = ((s.askAll [q]).issueOne q).issueAll q op 64 := by
  rw [moveOp_own engine own, grants]
  rfl

end Own

/-- R202, R208: a descriptor that may not move anything completes with the reason. -/
def issueFails (s : State) (q : Nat) (e : Exec) : State :=
  ((s.startFault q e).1.onQueue q fun y => { y with exec := some { e with code := (s.startFault q e).2 } }).completeExec q

/-- R196, R208, R230: what follows from the data `m` that the next transfer has moved. -/
def issueMoved (s : State) (q : Nat) (e : Exec) (m : State × Moved) : State :=
  let f := s.startFault q e
  let started := m.2.bytes != 0 || !m.2.codes.isEmpty
  let t := m.1.onQueue q fun y => { y with exec := y.exec.map fun z => { f.1.afterMove e m.2 started with got := z.got } }
  (if started then t.startTransfer q m.2.bytes (ceilDiv (f.1.fetchBytes e) 512) m.2 else t.dropAsked q).flushOrEnd q

/-- R230: the turns at the link ports that the next transfer takes. -/
def turnsTaken (s : State) (q : Nat) (e : Exec) : State :=
  (s.startFault q e).1.each ((s.startFault q e).1.linkCisterns e) fun t c => t.takeTurn c (Qd.cls e.desc) (queueDie q)

theorem issueOne_granted {e : Exec} {n : Nat} (engine : s.exec? q = some e) (grants : s.issuable q = some n) :
    s.issueOne q = if 3 ≤ (s.startFault q e).2 then s.issueFails q e else s.issueMoved q e ((s.turnsTaken q e).moveNext q e n) := by
  unfold issueOne
  rw [grants, engine]
  rfl

section Granted

variable {e : Exec} {n : Nat} (engine : s.exec? q = some e) (own : Qd.op e.desc = op) (grants : (s.askAll [q]).issuable q = some n)
include engine own grants

theorem moveOp_fails (faulty : 3 ≤ ((s.askAll [q]).startFault q e).2) :
    s.moveOp q op = ((s.askAll [q]).issueFails q e).issueAll q op 64 := by
  rw [moveOp_issues engine own grants, issueOne_granted ((askAll_exec s [q] q).trans engine) grants, if_pos faulty]

theorem moveOp_moves {m : State × Moved} (moves : ((s.askAll [q]).turnsTaken q e).moveNext q e n = m)
    (good : ((s.askAll [q]).startFault q e).2 < 3) : s.moveOp q op = ((s.askAll [q]).issueMoved q e m).issueAll q op 64 := by
  rw [moveOp_issues engine own grants, issueOne_granted ((askAll_exec s [q] q).trans engine) grants, if_neg (Nat.not_le.mpr good), moves]

end Granted

end MoveOp

end State

open State

/-- Settles O28: `moveOp` by the descriptor's opcode, the credits, and whether it may move anything. -/
theorem dataCommandsMove : Obligations.DataCommandsMove := by
  intro s at_ q up
  dsimp only
  rw [eff_copy s at_ q up, eff_tile s at_ q up, eff_multicast s at_ q up, eff_scales s at_ q up, eff_gather s at_ q up,
    eff_scatter s at_ q up, eff_stats s at_ q up, eff_reduce s at_ q up]
  have other : ∀ op, (∀ e, s.exec? q = some e → Qd.op e.desc ≠ op) → _ := fun op h => leaves_congr (s := s) (moveOp_other (s := s.advance at_) h)
  refine ⟨other 1, other 2, other 3, other 4, other 5, other 6, other 7, other 8, fun e engine => ?_⟩
  have starved : ∀ op, Qd.op e.desc = op → ((s.advance at_).askAll [q]).issuable q = none → _ := fun op own none =>
    leaves_congr (s := s) (moveOp_starved (s := s.advance at_) engine own none)
  refine ⟨starved 1, starved 2, starved 3, starved 4, starved 5, starved 6, starved 7, starved 8, fun n grants => ?_⟩
  have fails : ∀ op, Qd.op e.desc = op → 3 ≤ (((s.advance at_).askAll [q]).startFault q e).2 → _ := fun op own faulty =>
    leaves_congr (s := s) (moveOp_fails (s := s.advance at_) engine own grants faulty)
  have moves : ∀ op m, Qd.op e.desc = op → (((s.advance at_).askAll [q]).turnsTaken q e).moveNext q e n = m →
      (((s.advance at_).askAll [q]).startFault q e).2 < 3 → _ := fun op m own moved good =>
    leaves_congr (s := s) (moveOp_moves (s := s.advance at_) engine own grants moved good)
  exact ⟨fails 1, fails 2, fails 3, fails 4, fails 5, fails 6, fails 7, fails 8,
    fun own => moves 1 _ own (by simp only [moveNext, own, turnsTaken]), fun own => moves 2 _ own (by simp only [moveNext, own, turnsTaken]), fun own => moves 3 _ own (by simp only [moveNext, own, turnsTaken]),
    fun own => moves 4 _ own (by simp only [moveNext, own, turnsTaken]), fun own => moves 5 _ own (by simp only [moveNext, own, turnsTaken]), fun own => moves 6 _ own (by simp only [moveNext, own, turnsTaken]),
    fun own => moves 7 _ own (by simp only [moveNext, own, turnsTaken]), fun own => moves 8 _ own (by simp only [moveNext, own, turnsTaken])⟩

/-- Refutes O27: the answer that a transfer waited for may be a write to SYS.CLEAR that resets the module, so that nothing is left of the
queue's descriptor to be acknowledged. -/
theorem not_transfersCounted : ¬ Obligations.TransfersCounted := by
  unfold Obligations.TransfersCounted
  intro h
  have counted := ((h.2 resetAnswered 0 0 { bytes := 0, dests := [], tags := [7] } []
    { slot := 0, desc := [], got := [(7, registerBase + 0x04C, [0x00, 0x01, 0xC3, 0xA5], false, 0)] } (by decide) rfl rfl).2
    (by decide +kernel) (by decide +kernel)).2 (by decide +kernel)
  exact absurd counted.2 (by decide +kernel)

/-- Refutes O26: DESC_ISSUE of a queue that is STOPPING and has nothing in flight completes the queue's drain, besides fetching (R223). -/
theorem not_queueCommands : ¬ Obligations.QueueCommands := by
  unfold Obligations.QueueCommands
  intro h
  have up : stoppingQueue.coreUp = true := by decide
  have fetches := (h.1 stoppingQueue 0 0 0 0).2.1 up rfl
  rw [eff_descIssue _ _ _ up] at fetches
  have same := congrArg (fun t : State => t.txn.drainDone) (Host.Outcome.next.inj fetches)
  simp only [left_txn] at same
  exact absurd same (by decide +kernel)

end Sys2Proof.Machine
end

section
/-! PROOFS. Barrier targets (R207), the counters and the tracked maximum of a well (R154, R165), and trims (R339). -/

namespace Sys2Proof.Machine

namespace State

section Barrier

variable (s : State) (d i target : Nat)

theorem pgWdie_ge : 0x70 ≤ pgWdie d := Nat.le_add_right _ _

/-- BAR_CFG and BAR_STAT of two barriers of a die are apart. -/
theorem barCfg_ne_barStat (i j : Nat) :
    regAddr (pgWdie d) (Reg.WDIE.BAR_STAT_COUNT.at j) ≠ regAddr (pgWdie d) (Reg.WDIE.BAR_CFG_TARGET.at i) := by
  have := pgWdie_ge d
  rw [regAddr_plain (by omega), regAddr_plain (by omega)]
  have stat : Reg.WDIE.BAR_STAT_COUNT.at j = 0x204 + 8 * j := congrArg (0x204 + ·) (Nat.mul_comm j 8)
  have cfg : Reg.WDIE.BAR_CFG_TARGET.at i = 0x200 + 8 * i := congrArg (0x200 + ·) (Nat.mul_comm i 8)
  omega

/-- R207: a barrier whose count has reached its target is released: its generation counts and its count is 0. -/
def barReleased : State :=
  ((s.wr (pgWdie d) Reg.WDIE.BAR_CFG_TARGET target i).bumpWrap (pgWdie d) Reg.WDIE.BAR_STAT_GEN 1 i).wr (pgWdie d) Reg.WDIE.BAR_STAT_COUNT 0 i

variable {i target}

theorem barTarget_eq (hi : i < 16) (ht : target < 2 ^ 16) : s.barTarget d i target =
    if target ≠ 0 ∧ target ≤ s.rd (pgWdie d) Reg.WDIE.BAR_STAT_COUNT i then s.barReleased d i target
    else s.wr (pgWdie d) Reg.WDIE.BAR_CFG_TARGET target i := by
  have die : (16 * d + i) / 16 = d := by omega
  have bar : (16 * d + i) % 16 = i := by omega
  have shown : (s.wr (pgWdie d) Reg.WDIE.BAR_CFG_TARGET target i).rd (pgWdie d) Reg.WDIE.BAR_CFG_TARGET i = target :=
    (rd_wr _ _ _ _ _ (by decide)).trans (Nat.mod_eq_of_lt ht)
  unfold barTarget barCheck
  rw [die, bar]
  dsimp only
  rw [shown, rd_wr_ne _ _ _ _ _ _ _ _ (barCfg_ne_barStat d i i)]
  rfl

theorem barReleased_count : (s.barReleased d i target).rd (pgWdie d) Reg.WDIE.BAR_STAT_COUNT i = 0 := rd_wr _ _ _ _ _ (by decide)

theorem barReleased_gen : (s.barReleased d i target).rd (pgWdie d) Reg.WDIE.BAR_STAT_GEN i =
    (s.rd (pgWdie d) Reg.WDIE.BAR_STAT_GEN i + 1) % 2 ^ Reg.WDIE.BAR_STAT_GEN.width := by
  unfold barReleased bumpWrap
  rw [rd_wr_apart _ _ _ Reg.WDIE.BAR_STAT_COUNT Reg.WDIE.BAR_STAT_GEN _ _ _ rfl (by decide) (by decide), rd_wr _ _ _ _ _ (by decide),
    rd_wr_ne _ _ _ Reg.WDIE.BAR_CFG_TARGET Reg.WDIE.BAR_STAT_GEN _ _ _ (barCfg_ne_barStat d i i)]

theorem barReleased_mem : (s.barReleased d i target).mem = s.mem := by
  unfold barReleased
  rw [wr_mem, bumpWrap_mem, wr_mem]

theorem barReleased_seals : (s.barReleased d i target).seals = s.seals := by
  unfold barReleased
  rw [wr_seals, bumpWrap_seals, wr_seals]

theorem barReleased_word {a : Nat} (cfg : a ≠ regAddr (pgWdie d) (Reg.WDIE.BAR_CFG_TARGET.at i))
    (stat : a ≠ regAddr (pgWdie d) (Reg.WDIE.BAR_STAT_COUNT.at i)) : (s.barReleased d i target).word a = s.word a := by
  unfold barReleased bumpWrap
  rw [word_wr_ne _ _ _ _ _ _ stat, word_wr_ne _ _ Reg.WDIE.BAR_STAT_GEN _ _ _ stat, word_wr_ne _ _ _ _ _ _ cfg]

end Barrier

/-! ### Counters of a well -/

section Counters

variable (s : State) (w : Nat)

/-- A register is 0 once it is cleared, and stays as others are. -/
theorem cleared_word (l : List Nat) (a : Nat) : (s.each l fun t i => t.setWord (regAddr (pgWell w) (0x120 + 4 * i)) 0).word a =
    if a ∈ l.map (fun i => regAddr (pgWell w) (0x120 + 4 * i)) then 0 else s.word a := by
  induction l generalizing s with
  | nil => rfl
  | cons i rest ih =>
    refine (ih _).trans ?_
    rw [word_setWord]
    by_cases later : a ∈ rest.map (fun i => regAddr (pgWell w) (0x120 + 4 * i))
    · simp [later]
    · by_cases here : a = regAddr (pgWell w) (0x120 + 4 * i)
      · simp [here]
      · simp [later, here]

theorem cntClr_mem : (s.cntClr w).mem = s.mem := each_keeps State.mem (fun t i => t.setWord (regAddr (pgWell w) (0x120 + 4 * i)) 0) (fun _ _ => rfl) _ s

theorem cntClr_seals : (s.cntClr w).seals = s.seals := each_keeps State.seals (fun t i => t.setWord (regAddr (pgWell w) (0x120 + 4 * i)) 0) (fun _ _ => rfl) _ s

/-- R154: a write of TENSOR_MAXABS stores the word written. -/
theorem tensorMaxabs_written (v : Nat) (h : w < 832) {path : Nat} (unlocked : s.lockedOut path (pgWell w) = false) :
    s.regWrite path (pgWell w * 0x1000 + 0x148) v = s.plainWrite .well (pgWell w) 0x148 (BitVec.ofNat 32 v) :=
  regWrite_effect s path (pgWell w) 0x148 v .well (pageKind_well h) (by decide) (by decide)
    (ctlAt_page (by decide) (by unfold pgWell; omega)) (by decide) rfl (by decide) unlocked

theorem tensorMaxabs_word (old v : Word) : plainWord .well 0x148 old v = v := by
  have rw : accMask .well .rw 0x148 = 2 ^ 32 - 1 := by decide
  have w1c : accMask .well .w1c 0x148 = 0 := by decide
  refine BitVec.eq_of_getLsbD_eq fun i hi => ?_
  have bit : (2 ^ 32 - 1).testBit i = true := by rw [Nat.testBit_two_pow_sub_one]; exact decide_eq_true hi
  rw [plainWord_bit _ _ _ _ hi, rw, w1c, bit]
  simp

end Counters

/-! ### Trims -/

section Trims

variable {s : State} {c : Nat}

theorem trimWrite_bad (v : Nat) (h : trimWidth (s.trimSel c).2 = none) : s.trimWrite c v = s.wr (pgCluster c) Reg.CLUSTER.TRIM_STAT_BAD_ADDR 1 := by
  unfold trimWrite
  dsimp only
  rw [h]

theorem trimWrite_eq (v : Nat) {n : Nat} (h : trimWidth (s.trimSel c).2 = some n) : s.trimWrite c v =
    if (s.logicalOf (s.trimSel c).1).isSome then s.wr (pgCluster c) Reg.CLUSTER.TRIM_STAT_BUSY 1
    else s.putTrim (s.trimSel c).1 (s.trimSel c).2 n v := by
  unfold trimWrite
  dsimp only
  rw [h]

end Trims

end State

open State

/-- Settles O29: barriers by `barTarget_eq`, counters by `cleared_word`, the maximum as a plain write, trims by their address. -/
theorem unitRegisterCommands : Obligations.UnitRegisterCommands := by
  refine ⟨fun s at_ path die i target up hd hi ht => ?_, fun s at_ path w c v => ⟨fun up hw => ⟨?_, ?_⟩, fun up hc => ⟨fun bad => ?_, fun n h => ⟨?_, ?_⟩⟩⟩⟩
  · rw [eff_barCfgWrite s at_ path die i target hd hi up, Nat.mod_eq_of_lt ht]
    have e := barTarget_eq (s.advance at_) die hi ht
    refine ⟨fun below => leaves_congr (e.trans (if_neg ?_)), fun pos reached => ⟨_, leaves_congr (e.trans (if_pos ⟨Nat.pos_iff_ne_zero.mp pos, reached⟩)), ?_⟩⟩
    · rintro ⟨ne, reached⟩
      exact below.elim ne (Nat.not_lt.mpr reached)
    · have off : ∀ f : Field, regAddr (pgWdie die) (f.at i) ∉ followers := fun f => regAddr_not_follower (Nat.le_trans (by decide) (pgWdie_ge die)) _
      rw [left_rd _ _ (off _), left_rd _ _ (off _)]
      exact ⟨barReleased_count (s.advance at_) die, barReleased_gen (s.advance at_) die, sameBut_left (barReleased_mem (s.advance at_) die)
        (barReleased_seals (s.advance at_) die) fun a out => barReleased_word (s.advance at_) die
          (List.ne_of_not_mem_cons out) (List.ne_of_not_mem_cons (List.not_mem_of_not_mem_cons out))⟩
  · rw [eff_cntClr s at_ path w hw up]
    refine ⟨_, rfl, fun i hi => ?_, sameBut_left (cntClr_mem (s.advance at_) w) (cntClr_seals (s.advance at_) w) fun a out => ?_⟩
    · rw [left_word _ _ _ (regAddr_not_follower (Nat.le_trans (by decide) (pgWell_ge w)) _)]
      exact (cleared_word (s.advance at_) w (List.range 10) _).trans (if_pos (List.mem_map.mpr ⟨i, List.mem_range.mpr hi, rfl⟩))
    · exact (cleared_word (s.advance at_) w (List.range 10) a).trans (if_neg out)
  · rw [exec_tensorMaxabsWrite, execTensorMaxabsWrite, onBus_up s at_ path _ (pathUp_held up) (pathUp_runs up), if_pos hw,
      tensorMaxabs_written (s.advance at_) w v hw (pathUp_unlocked up)]
    have word := fun a => (plainWrite_word (s.advance at_) (pgWell w) (BitVec.ofNat 32 v) (k := .well) (off := 0x148) (by decide) a).trans
      (by rw [tensorMaxabs_word])
    obtain ⟨mem, seals⟩ := plainWrite_memory (s.advance at_) (pgWell w) (BitVec.ofNat 32 v) (k := .well) (off := 0x148) (by decide)
    refine ⟨_, rfl, ?_, sameBut_left mem seals fun a out => (word a).trans (if_neg (List.ne_of_not_mem_cons out))⟩
    rw [left_rd_well]
    have here := (word (regAddr (pgWell w) (Reg.WELL.TENSOR_MAXABS.at 0))).trans (if_pos rfl)
    unfold rd
    rw [here, bits_eq, BitVec.toNat_ofNat]
    show v % 2 ^ 32 / 2 ^ 0 % 2 ^ 32 = v % 2 ^ 32
    omega
  · rw [eff_trimDataWrite s at_ path c v hc up]
    exact leaves_congr (trimWrite_bad (s := s.advance at_) _ bad)
  · rw [eff_trimDataWrite s at_ path c v hc up]
    exact fun mapped => leaves_congr ((trimWrite_eq (s := s.advance at_) _ h).trans (if_pos mapped))
  · rw [eff_trimDataWrite s at_ path c v hc up]
    exact fun unmapped => leaves_congr ((trimWrite_eq (s := s.advance at_) _ h).trans (if_neg (fun mapped => by simp [unmapped] at mapped)))

end Sys2Proof.Machine
end

section
/-! PROOFS. Cisterns: accesses, scrub, optimiser steps and row-sum builds (R230 to R256). -/

namespace Sys2Proof.Machine

namespace State

variable {s : State}

/-! ### Accesses -/

section Access

variable {cls die a ecc key c : Nat} {damaged : Bool} {data : List Byte} {sl : Seal}

theorem cisternAccess_dark (h : ∀ key c, s.resolve s.mapNow a = .mem key → unitOf key = .cistern c → s.linkLit die = false) :
    s.cisternAccess cls die a ecc damaged data sl = s := by
  unfold cisternAccess
  split
  next key place =>
    split
    next c unit => exact if_pos (by rw [h key c place unit]; rfl)
    · rfl
  · rfl

variable (place : s.resolve s.mapNow a = .mem key) (unit : unitOf key = .cistern c) (lit : s.linkLit die = true)
include place unit lit

theorem cisternAccess_read : s.cisternAccess cls die a ecc damaged [] sl =
    ((((s.takeTurn c cls die).eccFinds c key ecc).damage key damaged).readBlock (a / 4096 * 4096) (key / 4096 * 4096) 4096).1 := by
  unfold cisternAccess
  rw [place]
  dsimp only
  rw [unit]
  dsimp only
  rw [if_neg (by simp [lit])]
  rfl

/-- R239, R241: a write to a block goes by what ECC holds of the block and by the incoming seal. -/
theorem cisternAccess_write (some : data ≠ []) : s.cisternAccess cls die a ecc damaged data sl =
    if (s.cist.eccBad.contains (key / 4096) && (data.take (4096 - a % 4096)).length != 4096) = true then (s.takeTurn c cls die).failWriters a 8
    else ((if sl.bad then ((s.takeTurn c cls die).sealFailure (.cistern c) a sl).failWriters a 7 else s.takeTurn c cls die).store key
      (data.take (4096 - a % 4096)) { sl with withheld := sl.withheld || sl.bad, bad := false }).1 := by
  unfold cisternAccess
  rw [place]
  dsimp only
  rw [unit]
  dsimp only
  rw [if_neg (by simp [lit]), if_neg (by simp [some])]
  rfl

variable (some : data ≠ [])
include some

theorem cisternAccess_refused (held : key / 4096 ∈ s.cist.eccBad) (part : (data.take (4096 - a % 4096)).length ≠ 4096) :
    s.cisternAccess cls die a ecc damaged data sl = (s.takeTurn c cls die).failWriters a 8 :=
  (cisternAccess_write place unit lit some).trans (if_pos (by simp only [List.contains_iff_mem.mpr held, bne_iff_ne.mpr part]; rfl))

theorem cisternAccess_stored (whole : key / 4096 ∉ s.cist.eccBad ∨ (data.take (4096 - a % 4096)).length = 4096) :
    s.cisternAccess cls die a ecc damaged data sl =
      ((if sl.bad then ((s.takeTurn c cls die).sealFailure (.cistern c) a sl).failWriters a 7 else s.takeTurn c cls die).store key
        (data.take (4096 - a % 4096)) { sl with withheld := sl.withheld || sl.bad, bad := false }).1 := by
  refine (cisternAccess_write place unit lit some).trans (if_neg ?_)
  rw [Bool.and_eq_true, List.contains_iff_mem, bne_iff_ne]
  exact fun h => whole.elim (fun out => out h.1) h.2

end Access

/-! ### Scrub -/

theorem patrolScrub_on {c : Nat} {finds : List Nat} (on : s.isOn (pgCistern c) = true) (en : s.flag (pgCistern c) Reg.CISTERN.SCRUB_EN = true) :
    s.patrolScrub c finds = s.each (finds.take (s.rd (pgCistern c) Reg.CISTERN.SCRUB_DEBT + s.scrubQuota c)) fun t e => t.scrubOne c e := by
  unfold patrolScrub
  exact if_neg (by simp [on, en])

theorem patrolScrub_off {c : Nat} {finds : List Nat}
    (off : ¬(s.isOn (pgCistern c) = true ∧ s.flag (pgCistern c) Reg.CISTERN.SCRUB_EN = true)) : s.patrolScrub c finds = s := by
  unfold patrolScrub
  refine if_pos ?_
  by_contra no
  simp only [Bool.or_eq_true, Bool.not_eq_true', not_or, Bool.not_eq_false] at no
  exact off no

/-! ### The optimiser -/

section Optimiser

variable {c op : Nat}

theorem optRun_none (h : s.optOf c = []) : s.optRun c op = s := by
  unfold optRun
  rw [h]

theorem optDone_none (h : s.optOf c = []) : s.optDone c = s := by
  unfold optDone
  rw [h]

variable {x : OptCmd} {rest : List OptCmd} (queue : s.optOf c = x :: rest)
include queue

/-- R254: the command runs once, in the row of its OP, where it is valid. -/
theorem optRun_eq : s.optRun c op =
    if (x.done.isSome || Oc.op x.words != op || s.optErrorAt x.words != 0) = true then s
    else s.ownWork fun v => let r := v.optBlocks c x; r.1.setOpt c ({ x with done := some (if r.2 then 4 else 0) } :: rest) := by
  unfold optRun
  rw [queue]

theorem optRun_runs (waits : x.done = none) (valid : s.optErrorAt x.words = 0) (own : Oc.op x.words = op) :
    s.optRun c op = s.ownWork fun v => let r := v.optBlocks c x; r.1.setOpt c ({ x with done := some (if r.2 then 4 else 0) } :: rest) :=
  (optRun_eq queue).trans (if_neg (by simp [waits, valid, own]))

theorem optRun_other (other : Oc.op x.words ≠ op) : s.optRun c op = s := (optRun_eq queue).trans (if_pos (by simp [other]))

theorem optRun_idle (idle : x.done ≠ none ∨ s.optErrorAt x.words ≠ 0) : s.optRun c op = s := by
  refine (optRun_eq queue).trans (if_pos ?_)
  obtain done | invalid := idle
  · simp [Option.isSome_iff_ne_none.mpr done]
  · simp [invalid]

theorem optDone_waits (waits : x.done = none) (valid : s.optErrorAt x.words = 0) : s.optDone c = s := by
  unfold optDone
  rw [queue]
  exact if_pos (by simp [waits, valid])

/-- R256: a command that has run, or that cannot, ends with its code. -/
theorem optDone_ends {e : Nat} (code : x.done = some e ∨ x.done = none ∧ e = s.optErrorAt x.words ∧ e ≠ 0) :
    s.optDone c =
      let t := (((s.setOpt c rest).wr (pgCistern c) Reg.CISTERN.OPT_STAT_ERR e).bumpWrap (pgCistern c) Reg.CISTERN.OPT_DONE).raise (pgCistern c) 8
      let v := if Oc.arrive x.words = true ∧ Oc.bar x.words < 64 then t.arriveAt (Oc.bar x.words) else t
      if e = 0 then v else v.raise (pgCistern c) 10 := by
  have err : x.done.getD (s.optErrorAt x.words) = e := by
    obtain done | ⟨waits, rfl, -⟩ := code
    · rw [done]
      rfl
    · rw [waits]
      rfl
  have ends : ¬(x.done.isNone && s.optErrorAt x.words == 0) = true := by
    obtain done | ⟨waits, rfl, bad⟩ := code
    · simp [done]
    · simp [bad]
  unfold optDone
  rw [queue]
  dsimp only
  rw [if_neg ends, err]
  simp only [Bool.and_eq_true, decide_eq_true_eq]

end Optimiser

end State

open State

/-- Settles O30: accesses by what ECC holds and by the incoming seal, the optimiser by its running command, builds by what is asked for. -/
theorem cisternCommands : Obligations.CisternCommands := by
  refine ⟨fun s at_ cls die a ecc tid blk gen fmt wh dl damaged crcOk data up => ?_, fun s at_ c a finds up hc => ?_⟩
  · dsimp only
    rw [eff_cisternAccess s at_ ⟨cls, die, a⟩ ecc damaged data tid blk gen fmt wh dl crcOk up]
    refine ⟨fun key c place unit lit => ⟨?_, fun some held part => ?_, fun some whole good => ?_, fun some whole bad => ?_⟩, fun dark => ?_⟩
    · rintro rfl
      exact leaves_congr (cisternAccess_read (s := s.advance at_) place unit lit)
    · exact leaves_congr (cisternAccess_refused (s := s.advance at_) place unit lit some held part)
    · subst good
      exact leaves_congr ((cisternAccess_stored (s := s.advance at_) place unit lit some whole).trans (by simp))
    · subst bad
      exact leaves_congr ((cisternAccess_stored (s := s.advance at_) place unit lit some whole).trans (by simp))
    · exact leaves_congr (cisternAccess_dark (s := s.advance at_) dark)
  · dsimp only
    rw [eff_patrolScrub s at_ c finds up, eff_sgdMomentum s at_ c up, eff_adamw s at_ c up, eff_optDone s at_ c up, eff_rowsumBuild s at_ a up,
      eff_rowsumDone s at_ a up, if_pos hc, if_pos hc, if_pos hc, if_pos hc]
    have two : (1 : Nat) ≠ 2 := by decide
    refine ⟨fun on en => leaves_congr (patrolScrub_on (s := s.advance at_) on en), fun off => leaves_congr (patrolScrub_off (s := s.advance at_) off),
      fun empty => ⟨leaves_congr (optRun_none (s := s.advance at_) empty), leaves_congr (optRun_none (s := s.advance at_) empty),
        leaves_congr (optDone_none (s := s.advance at_) empty)⟩,
      fun x rest queue => ⟨fun waits valid own => ⟨?_, ?_⟩, fun waits valid own => ⟨?_, ?_⟩, fun idle => ⟨?_, ?_⟩, fun waits valid => ?_, fun e code => ?_⟩,
      fun asked => leaves_congr (if_pos asked), fun no => leaves_congr (if_neg (by rw [no]; decide)), fun built => ?_, fun no => ?_⟩
    · exact leaves_congr (optRun_runs (s := s.advance at_) queue waits valid own)
    · exact leaves_congr (optRun_other (s := s.advance at_) queue (own ▸ two))
    · exact leaves_congr (optRun_runs (s := s.advance at_) queue waits valid own)
    · exact leaves_congr (optRun_other (s := s.advance at_) queue (own ▸ two.symm))
    · exact leaves_congr (optRun_idle (s := s.advance at_) queue idle)
    · exact leaves_congr (optRun_idle (s := s.advance at_) queue idle)
    · exact leaves_congr (optDone_waits (s := s.advance at_) queue waits valid)
    · exact leaves_congr (optDone_ends (s := s.advance at_) queue code)
    · exact leaves_congr (if_neg (by rw [advance_cist, List.contains_iff_mem.mpr built]; decide))
    · exact leaves_congr (if_pos (by simpa using no))

end Sys2Proof.Machine
end

section
/-! PROOFS. The service commands (R270 to R276), light sources (R294 to R308), shutters and monitors (R315 to R336). -/

namespace Sys2Proof.Machine

namespace State

variable {s : State}

/-! ### The service -/

theorem svcLoad_empty (h : s.svcSt = 0) : s.svcLoad =
    let t := (s.setSvc 1).readTables (s.rd pgBOOT Reg.BOOT.SVC_ADDR_LO_ADDR * 4096 + s.rd pgBOOT Reg.BOOT.SVC_ADDR_HI_ADDR * 2 ^ 32)
    if t.loadReason = 0 then t else s.svcRefuse t.loadReason := by
  unfold svcLoad
  exact if_neg (not_not.mpr h)

/-! ### Sources that warm -/

section Sources

variable {i : Nat}

/-- R294: the lines of a warming source are on target and have been for 100 ms. -/
def warmStable (s : State) (i : Nat) : Prop :=
  let x := s.source i
  let target := toSigned (s.rd (pgComb i) Reg.COMB.LOOP_TARGET) 16
  x.cs = 1 ∧ x.heldClear = false ∧ x.taps ≠ [] ∧ (∀ t ∈ x.taps, target - 20 ≤ t ∧ t ≤ target + 20) ∧ max x.warmAt x.offAt + 100000000 ≤ s.ns

/-- R294: a warming source has not locked for 3 s. -/
def warmLate (s : State) (i : Nat) : Prop :=
  (s.source i).cs = 1 ∧ (s.source i).heldClear = false ∧ (s.source i).warmAt + 3000000000 ≤ s.ns

theorem spareReady_stable (h : s.warmStable i) : s.spareReady i =
    if (s.source i).warmBoot then (s.setCs i 3).onSource i fun x => { x with warmBoot := false, relit := false }
    else (s.setCs i 2).raise (pgComb i) 5 := by
  obtain ⟨warming, free, some, near, since⟩ := h
  unfold spareReady
  refine if_neg ?_
  simp only [Bool.or_eq_true, bne_iff_ne, Bool.not_eq_true', Bool.and_eq_false_iff, List.all_eq_false,
    decide_eq_true_eq, not_or, not_and]
  simp only [Bool.not_eq_false', not_lt]
  refine ⟨⟨⟨fun h => h warming, by simp [free]⟩, by simpa [some] using near⟩, since⟩

theorem spareReady_waits (h : ¬s.warmStable i) : s.spareReady i = s := by
  unfold spareReady
  refine if_pos ?_
  by_contra no
  simp only [Bool.or_eq_true, bne_iff_ne, Bool.not_eq_true', decide_eq_true_eq, not_or, ne_eq, not_not, Bool.not_eq_true, Bool.not_eq_false,
    Bool.and_eq_true, not_lt, List.all_eq_true] at no
  obtain ⟨⟨⟨warming, free⟩, some, near⟩, since⟩ := no
  exact h ⟨warming, free, by simpa [List.isEmpty_eq_false_iff] using some, near, since⟩

/-- R294, R298: a source that has not locked is dark and FAILED for good. -/
def warmFailed (s : State) (i : Nat) : State := (s.darken i 7 (s.biasClr i)).onFlash fun f => { f with failed := addOnce i f.failed }

theorem warmingTimeout_late (h : s.warmLate i) : s.warmingTimeout i =
    if (s.source i).warmBoot && decide ((s.source i).region < 4) then
      { s.warmFailed i with light := { (s.warmFailed i).light with forceNext := addOnce (s.source i).region (s.warmFailed i).light.forceNext } }
    else (s.warmFailed i).onSource i fun x => { x with region := 7 } := by
  obtain ⟨warming, free, since⟩ := h
  unfold warmingTimeout
  exact if_neg (by simp [warming, free, since])

theorem warmingTimeout_waits (h : ¬s.warmLate i) : s.warmingTimeout i = s := by
  unfold warmingTimeout
  refine if_pos ?_
  by_contra no
  simp only [Bool.or_eq_true, bne_iff_ne, decide_eq_true_eq, not_or, ne_eq, not_not, Bool.not_eq_true, not_lt] at no
  exact h ⟨no.1.1, no.1.2, no.2⟩

theorem mem_addOnce {α : Type} [DecidableEq α] (x : α) (l : List α) : x ∈ addOnce x l := by
  unfold addOnce
  split
  next there => exact List.contains_iff_mem.mp there
  next => exact List.mem_append_right _ List.mem_cons_self

theorem warmFailed_failed : i ∈ (s.warmFailed i).boot.flash.failed := mem_addOnce i _

theorem warmFailed_cs : ((s.warmFailed i).source i).cs = 7 := by
  unfold warmFailed
  rw [source_of_light (onFlash_light _ _), darken_cs, if_pos rfl]

end Sources

theorem and_decide_iff {b : Bool} {p : Prop} [Decidable p] : (b && decide p) = true ↔ b = true ∧ p := by simp

/-! ### Wells that stay dark -/

/-- R400: a fence asked for is there, with the lower of its causes. -/
theorem askFence_asked (w c q : Nat) : ∃ e ∈ (s.askFence w c q).fault.fences, e.1 = w ∧ e.2.1 ≤ c := by
  unfold askFence
  dsimp only
  cases found : s.fault.fences.find? fun e => e.1 == w with
  | none => exact ⟨(w, c, q), List.mem_append_right _ List.mem_cons_self, rfl, Nat.le_refl c⟩
  | some e =>
    have here : e.1 = w := by simpa using List.find?_some found
    have member := List.mem_of_find?_eq_some found
    dsimp only
    split
    · exact ⟨(w, c, q), List.mem_map.mpr ⟨e, member, if_pos (beq_iff_eq.mpr here)⟩, rfl, Nat.le_refl c⟩
    next higher => exact ⟨e, member, here, Nat.not_lt.mp higher⟩

/-- R308: a well has been dark for ten ticks, and no forced handover has moved it. -/
def lightStarved (s : State) (w : Nat) : Prop :=
  (s.well w).darkLight = true ∧ 10 ≤ (s.well w).darkTicks ∧ (s.well w).saved = false ∧ s.lightSuspended = false ∧ s.st (pgWell w) ≠ 4

theorem darkFence_starved {w : Nat} (h : s.lightStarved w) : s.darkFence w = s.askFence w 6 := by
  obtain ⟨dark, ticks, stays, lit, fenced⟩ := h
  unfold darkFence
  exact if_pos (by simp [dark, ticks, stays, lit, fenced])

theorem darkFence_waits {w : Nat} (h : ¬s.lightStarved w) : s.darkFence w = s := by
  unfold darkFence
  refine if_neg fun yes => h ?_
  simp only [Bool.and_eq_true, decide_eq_true_eq, Bool.not_eq_true', bne_iff_ne] at yes
  exact ⟨yes.1.1.1.1, yes.1.1.1.2, yes.1.1.2, yes.1.2, yes.2⟩

/-- R298: a command of a source that is IN SERVICE is noted. -/
theorem combCmd_serving {i : Nat} (h : (s.source i).cs = 3) (hand pre : Bool) :
    s.combCmd i hand pre = s.onSource i fun x => { x with cmdHandover := x.cmdHandover || hand, cmdPrewarm := x.cmdPrewarm || pre } := by
  unfold combCmd
  exact if_neg (by simp [h])

theorem combCmd_other {i : Nat} (h : (s.source i).cs ≠ 3) (hand pre : Bool) : s.combCmd i hand pre = s := by
  unfold combCmd
  exact if_pos (by simp [h])

/-! ### Shutters -/

theorem aprProbe_opening (s : State) (p : Nat) : s.aprProbe p false =
    if bitAt s.light.closed p && s.isOn (pgHport p) && s.pins.optoffN && p < 32 then
      { s with light := { s.light with probing := addOnce p s.light.probing } } else s := by
  unfold aprProbe
  exact if_neg Bool.false_ne_true

theorem aprProbe_ended (s : State) (p : Nat) : s.aprProbe p true = { s with light := { s.light with probing := dropAll p s.light.probing } } := by
  unfold aprProbe
  exact if_pos rfl

/-! ### Monitor reads -/

section Monitor

variable {bank w ch : Nat} {value m : Int}

theorem monitorRead_well (hb : bank < 3) (hw : w < 832) (hch : ch < bankChannels bank) : s.monitorRead bank w ch value m = s.monitorWell bank w ch value m := by
  unfold monitorRead
  rw [if_neg (Nat.not_le.mpr hch), if_neg (by omega), if_pos ⟨hb, hw⟩]

theorem monitorRead_comb (hb : bank = 3) (hw : w < 6) (hch : ch < bankChannels bank) : s.monitorRead bank w ch value m = s.monitorComb w m := by
  unfold monitorRead
  rw [if_neg (Nat.not_le.mpr hch), if_pos hb, if_pos hw]

/-- R335: the output of a channel. -/
def channelOut (s : State) (bank w ch : Nat) (value : Int) : Int := if bank = 2 then s.heaterOut w ch else s.dataOut bank w ch value

/-- R335: the run of misses of a channel. -/
def setRun (s : State) (bank w ch n : Nat) : State :=
  { s with conv := { s.conv with monRuns := sparsePut (fun _ => 0) s.conv.monRuns ((w * 4 + bank) * 1024 + ch) n } }

def channelRun (s : State) (bank w ch : Nat) : Nat := sparseGet (fun _ => 0) s.conv.monRuns ((w * 4 + bank) * 1024 + ch)

/-- R336: a miss is the failure of the channel. -/
def missFails (s : State) (bank w ch : Nat) : Prop :=
  s.channelRun bank w ch ≠ 16 ∧ s.rd (pgWdie (dieOf w)) Reg.WDIE.MON_CTL_FAIL_N ≤ s.channelRun bank w ch + 1

/-- R336: a failure is shown, counted and answered. -/
def reportChannel (s : State) (bank w ch : Nat) : State :=
  let pg := pgWdie (dieOf w)
  (((((s.wr pg Reg.WDIE.MON_LAST_WELL (w % 208)).wr pg Reg.WDIE.MON_LAST_BANK bank).wr pg Reg.WDIE.MON_LAST_CH ch).bump pg Reg.WDIE.MON_FAILS).raise pg 4).askFence w 5

/-- R335, R336: a miss. -/
def channelMissed (s : State) (bank w ch : Nat) : State :=
  let fails := s.channelRun bank w ch != 16 && decide (s.rd (pgWdie (dieOf w)) Reg.WDIE.MON_CTL_FAIL_N ≤ s.channelRun bank w ch + 1)
  let t := (s.bump (pgWdie (dieOf w)) Reg.WDIE.MON_MISS).setRun bank w ch (if fails then 16 else min 16 (s.channelRun bank w ch + 1))
  if fails then t.reportChannel bank w ch else t

theorem monitorWell_still (still : ¬(bank = 2 ∧ s.heaterMoving w ch = true)) : s.monitorWell bank w ch value m =
    if s.monPasses bank w (s.rd (pgWdie (dieOf w)) Reg.WDIE.MON_CTL_WIN) (s.channelOut bank w ch value) m then s.setRun bank w ch 0
    else s.channelMissed bank w ch := by
  unfold monitorWell
  exact if_neg still

variable (still : ¬(bank = 2 ∧ s.heaterMoving w ch = true))
  (differs : s.monPasses bank w (s.rd (pgWdie (dieOf w)) Reg.WDIE.MON_CTL_WIN) (s.channelOut bank w ch value) m = false)

include still differs

theorem monitorWell_missed (no : ¬s.missFails bank w ch) : s.monitorWell bank w ch value m =
    (s.bump (pgWdie (dieOf w)) Reg.WDIE.MON_MISS).setRun bank w ch (min 16 (s.channelRun bank w ch + 1)) := by
  have fails : (s.channelRun bank w ch != 16 && decide (s.rd (pgWdie (dieOf w)) Reg.WDIE.MON_CTL_FAIL_N ≤ s.channelRun bank w ch + 1)) = false :=
    Bool.eq_false_iff.mpr fun yes => no (by simpa [missFails] using yes)
  rw [monitorWell_still still, if_neg (by simp [differs])]
  unfold channelMissed
  rw [fails]
  exact if_neg Bool.false_ne_true

theorem monitorWell_failed (yes : s.missFails bank w ch) : s.monitorWell bank w ch value m =
    ((s.bump (pgWdie (dieOf w)) Reg.WDIE.MON_MISS).setRun bank w ch 16).reportChannel bank w ch := by
  have fails : (s.channelRun bank w ch != 16 && decide (s.rd (pgWdie (dieOf w)) Reg.WDIE.MON_CTL_FAIL_N ≤ s.channelRun bank w ch + 1)) = true := by
    simpa [missFails] using yes
  rw [monitorWell_still still, if_neg (by simp [differs])]
  unfold channelMissed
  rw [fails]
  exact if_pos rfl

end Monitor

theorem onSource_word (s : State) (i : Nat) (f : Source → Source) (a : Nat) : (s.onSource i f).word a = s.word a := by
  unfold onSource setSource
  split <;> rfl

theorem onSource_rd (s : State) (i : Nat) (f : Source → Source) (pg : Nat) (r : Field) : (s.onSource i f).rd pg r = s.rd pg r := by
  unfold rd
  rw [onSource_word]

theorem monitorComb_missed {i : Nat} {m : Int} (still : s.biasMoving i = false)
    (differs : s.monPasses 3 i (s.rd pgSYS Reg.SYS.BIAS_MON_WIN) (s.biasOut i) m = false) : s.monitorComb i m =
    let n := min 15 ((s.source i).monRun + 1)
    let low := s.onSource i fun x => { x with monRun := n, monSwept := false }
    if s.rd pgSYS Reg.SYS.BIAS_MON_FAIL_N ≤ n ∧ litCs (s.source i).cs = true then low.sourceFail i 0 0 else low := by
  unfold monitorComb
  rw [if_neg (by simp [still]), if_neg (by simp [differs])]
  dsimp only
  rw [onSource_rd, onSource_cs s i i (f := fun x => { x with monRun := min 15 ((s.source i).monRun + 1), monSwept := false }) fun _ => rfl]
  exact if_congr (by simp) rfl rfl

end State

open State

/-- Settles O31: each service command by the state of the service. -/
theorem serviceCommands : Obligations.ServiceCommands := by
  intro s at_ path up
  dsimp only
  rw [eff_svcLoad s at_ path up, eff_svcStart s at_ path up, eff_svcStop s at_ path up, eff_svcUnload s at_ path up]
  refine ⟨fun empty => leaves_congr (svcLoad_empty (s := s.advance at_) empty), fun loaded fresh first => ?_, fun loaded again => ?_, fun runs fresh => ?_,
    fun runs again => ?_, fun loaded => leaves_congr (if_neg (not_not.mpr loaded)), fun st => leaves_congr (if_pos st),
    fun st => leaves_congr (if_pos st), fun st => leaves_congr (if_pos st), fun st => leaves_congr (if_pos st)⟩
  · exact leaves_congr ((if_neg (not_not.mpr loaded)).trans (if_neg (by rw [advance_plan, fresh, first]; decide)))
  · exact leaves_congr ((if_neg (not_not.mpr loaded)).trans (if_pos again))
  · exact leaves_congr ((if_neg (not_not.mpr runs)).trans (if_neg (by rw [advance_plan, fresh]; decide)))
  · exact leaves_congr ((if_neg (not_not.mpr runs)).trans (if_pos again))

/-- Settles O33: sources by `warmStable` and `warmLate`, wells by `lightStarved`. -/
theorem lightSources : Obligations.LightSources := by
  refine ⟨fun s at_ path i up hi => ?_, fun s at_ i w taps rx up hi => ?_⟩
  · rw [eff_cmdPrewarm s at_ path i hi up, eff_cmdHandover s at_ path i hi up]
    exact ⟨fun serving => ⟨leaves_congr ((combCmd_serving (s := s.advance at_) serving false true).trans (by simp)),
      leaves_congr ((combCmd_serving (s := s.advance at_) serving true false).trans (by simp))⟩,
      fun other => ⟨leaves_congr (combCmd_other (s := s.advance at_) other _ _), leaves_congr (combCmd_other (s := s.advance at_) other _ _)⟩⟩
  · dsimp only
    rw [eff_spareReady s at_ i up, eff_warmingTimeout s at_ i up, eff_lightSample s at_ taps rx up, eff_darkFence s at_ w up, if_pos hi, if_pos hi]
    refine ⟨fun stable cold => leaves_congr ?_, fun stable boot => leaves_congr ?_, fun no => leaves_congr (spareReady_waits no),
      ⟨fun late boot region => leaves_congr ?_, fun late other => leaves_congr ?_, warmFailed_failed (s := s.advance at_) (i := i), warmFailed_cs (s := s.advance at_) (i := i)⟩,
      fun no => leaves_congr (warmingTimeout_waits no), rfl,
      fun dark => ⟨leaves_congr (darkFence_starved (s := s.advance at_) dark), askFence_asked (s := s.advance at_) w 6 _⟩, fun no => leaves_congr (darkFence_waits (s := s.advance at_) no)⟩
    · exact (spareReady_stable (s := s.advance at_) stable).trans (if_neg (ne_true_of_eq_false cold))
    · exact (spareReady_stable (s := s.advance at_) stable).trans (if_pos boot)
    · exact (warmingTimeout_late (s := s.advance at_) late).trans (if_pos (and_decide_iff.mpr ⟨boot, region⟩))
    · exact (warmingTimeout_late (s := s.advance at_) late).trans (if_neg (mt and_decide_iff.mp other))

/-- Settles O34: a shutter by `shutterMay`, a monitor read by whether the output moves, the value agrees and the run has come to FAIL_N. -/
theorem shuttersAndMonitors : Obligations.ShuttersAndMonitors := by
  refine ⟨fun s at_ p up hp => ?_, fun s at_ bank w ch value m up hch => ?_⟩
  · dsimp only
    rw [eff_aprClose s at_ p up, eff_aprProbe s at_ p false up, eff_aprProbe s at_ p true up, eff_aprOpen s at_ p up]
    exact ⟨fun opened => leaves_congr (if_neg (by simp [opened, hp])), fun closed => leaves_congr (if_pos (by simp [closed])),
      fun may => leaves_congr ((aprProbe_opening _ p).trans (if_pos (by simpa [hp, and_assoc] using may))), fun may => leaves_congr (if_pos (by simpa [hp, and_assoc] using may)),
      fun no => leaves_congr ((aprProbe_opening _ p).trans (if_neg (by simpa [hp, and_assoc] using no))), fun no => leaves_congr (if_neg (by simpa [hp, and_assoc] using no)),
      leaves_congr (aprProbe_ended _ p)⟩
  · dsimp only
    rw [eff_monitorRead s at_ bank w ch value m up]
    refine ⟨fun hb hw moves => leaves_congr ((monitorRead_well hb hw hch).trans (if_pos (not_not.mp moves))),
      fun hb hw still agrees => leaves_congr ((monitorRead_well hb hw hch).trans ((monitorWell_still still).trans (if_pos agrees))),
      fun hb hw still differs no => leaves_congr ((monitorRead_well hb hw hch).trans (monitorWell_missed still differs no)),
      fun hb hw still differs fails => leaves_congr ((monitorRead_well hb hw hch).trans (monitorWell_failed still differs fails)),
      fun hb hw moves => leaves_congr ((monitorRead_comb hb hw hch).trans (if_pos moves)),
      fun hb hw still agrees => leaves_congr ((monitorRead_comb hb hw hch).trans ((if_neg (by simp [still])).trans (if_pos agrees))),
      fun hb hw still differs dies => leaves_congr ((monitorRead_comb hb hw hch).trans ((monitorComb_missed still differs).trans (if_pos dies))),
      fun hb hw still differs no => leaves_congr ((monitorRead_comb hb hw hch).trans ((monitorComb_missed still differs).trans (if_neg no)))⟩

end Sys2Proof.Machine
end

section
/-! PROOFS. Calibration: the reference check, demands, measurement passes, lanes and comb lines (R344 to R367, R403). -/

namespace Sys2Proof.Machine

namespace State

variable {s : State}

/-! ### The registers that SAFE leaves alone -/

section LowWords

/-- The registers before the INTEG page, which passes and records do not write. -/
theorem passBlind_word {a : Nat} (h : a < 0x63000) : PassBlind fun t => t.word a where
  setWord t pg off w hp := by
    have ge : 0x63 ≤ pg := by
      rcases hp with rfl | ⟨w, rfl⟩
      · decide
      · exact Nat.le_trans (by decide) (pgWell_ge w)
    refine word_setWord_ne _ _ _ _ ?_
    rw [regAddr_plain (by omega)]
    omega
  seals _ _ := rfl
  wells _ _ := rfl
  integ _ _ := rfl
  fences _ _ := rfl

theorem recordBlind_word {a : Nat} (h : a < 0x63000) : RecordBlind fun t => t.word a where
  test t f v i _ := by
    refine word_wr_ne _ _ _ _ _ _ ?_
    rw [regAddr_plain (by decide), show pgTEST = 0x64 from rfl]
    omega
  flash _ _ := rfl
  seq _ _ := rfl
  ring _ _ := rfl

theorem safetyNoted_word (s : State) (input : Nat) (hard : Bool) {a : Nat} (h : a < 0x63000) : (s.safetyNoted input hard).word a = s.word a := by
  rw [← record_keeps (recordBlind_word h) s pgSYS 15 1 5 input 0 0 []]
  unfold safetyNoted
  generalize s.record pgSYS 15 1 5 input 0 = t
  rfl

theorem stopPlan_word (s : State) (a : Nat) : s.stopPlan.word a = s.word a := by
  unfold stopPlan
  split <;> rfl

/-- R416: SAFE leaves the registers before the INTEG page alone but for MODULE_STATE. -/
theorem safety_word (s : State) (input : Nat) (hard : Bool) {a : Nat} (h : a < 0x63000) (h' : a ≠ regAddr pgSYS (Reg.SYS.MODULE_STATE_MS.at 0)) :
    (s.safety input hard).word a = s.word a := by
  rw [safety_eq]
  split
  · exact safetyNoted_word s input hard h
  · unfold workEnded
    rw [each_keeps (fun t => t.word a) _ fun t w => abandonAll_keeps (passBlind_word h) t w false]
    have withheld : ∀ t : State, t.withholdUnfinished.word a = t.word a := fun _ => rfl
    rw [withheld, stopPlan_word, word_raise_ne _ _ _ _ (by rw [regAddr_plain (by decide), show pgTEST = 0x64 from rfl]; omega), word_wr_ne _ _ _ _ _ _ h',
      safetyNoted_word s input hard h]

end LowWords

/-! ### The reference check -/

section Reference

variable (fault : Bool) (iref hspan mon : Int)

/-- R344: the deviations and the result are shown. -/
def refShown (s : State) (fault : Bool) (iref hspan mon : Int) : State :=
  (((s.wr pgCAL Reg.CAL.REF_DEV_IREF (ofSigned iref 32)).wr pgCAL Reg.CAL.REF_DEV_HSPAN (ofSigned hspan 32)).wr pgCAL
    Reg.CAL.REF_DEV_MON (ofSigned mon 32)).wr pgCAL Reg.CAL.REF_STAT_RESULT (refResult fault [iref, hspan, mon])

theorem refResult_bounds (fault : Bool) (d : List Int) : 1 ≤ refResult fault d ∧ refResult fault d ≤ 4 := by
  unfold refResult
  dsimp only
  repeat' split
  all_goals exact ⟨by decide, by decide⟩

/-- R345: the event of a result 2, 3 or 4, the last of which enters SAFE. -/
theorem refCheck_eq (s : State) : let r := refResult fault [iref, hspan, mon]
    s.refCheck fault iref hspan mon = if r = 1 then s.refShown fault iref hspan mon
      else if r = 4 then ((s.refShown fault iref hspan mon).raise pgCAL 6).safety 140 true
      else (s.refShown fault iref hspan mon).raise pgCAL (r + 2) := by
  have bounds := refResult_bounds fault [iref, hspan, mon]
  obtain ⟨low, high⟩ := bounds
  unfold refCheck refShown
  generalize refResult fault [iref, hspan, mon] = r at low high ⊢
  obtain rfl | rfl | rfl | rfl : r = 1 ∨ r = 2 ∨ r = 3 ∨ r = 4 := by omega
  · rfl
  · rfl
  · rfl
  · rfl

theorem refCheck_word (s : State) {a : Nat} (h : a < 0x63000) (h' : a ≠ regAddr pgSYS (Reg.SYS.MODULE_STATE_MS.at 0))
    (h'' : a ≠ regAddr pgCAL 0x010) : (s.refCheck fault iref hspan mon).word a = (s.refShown fault iref hspan mon).word a := by
  rw [refCheck_eq]
  split
  · rfl
  split
  · rw [safety_word _ _ _ h h', word_raise_ne _ _ _ _ h'']
  · exact word_raise_ne _ _ _ _ h''

theorem ofSigned_lt (x : Int) (w : Nat) : ofSigned x w < 2 ^ w := by
  have pos : (0 : Int) < ((2 ^ w : Nat) : Int) := by exact_mod_cast Nat.two_pow_pos w
  have low := Int.emod_nonneg x (ne_of_gt pos)
  have high := Int.emod_lt_of_pos x pos
  unfold ofSigned
  omega

theorem refShown_shows (s : State) : let t := s.refShown fault iref hspan mon
    t.rd pgCAL Reg.CAL.REF_DEV_IREF = ofSigned iref 32 ∧ t.rd pgCAL Reg.CAL.REF_DEV_HSPAN = ofSigned hspan 32 ∧
      t.rd pgCAL Reg.CAL.REF_DEV_MON = ofSigned mon 32 ∧ t.rd pgCAL Reg.CAL.REF_STAT_RESULT = refResult fault [iref, hspan, mon] := by
  have bounds := (refResult_bounds fault [iref, hspan, mon]).2
  unfold refShown
  refine ⟨?_, ?_, ?_, ?_⟩
  · rw [rd_wr_ne _ _ _ _ _ _ _ _ (by decide), rd_wr_ne _ _ _ _ _ _ _ _ (by decide), rd_wr_ne _ _ _ _ _ _ _ _ (by decide), rd_wr _ _ _ _ _ (by decide)]
    exact Nat.mod_eq_of_lt (ofSigned_lt iref 32)
  · rw [rd_wr_ne _ _ _ _ _ _ _ _ (by decide), rd_wr_ne _ _ _ _ _ _ _ _ (by decide), rd_wr _ _ _ _ _ (by decide)]
    exact Nat.mod_eq_of_lt (ofSigned_lt hspan 32)
  · rw [rd_wr_ne _ _ _ _ _ _ _ _ (by decide), rd_wr _ _ _ _ _ (by decide)]
    exact Nat.mod_eq_of_lt (ofSigned_lt mon 32)
  · rw [rd_wr _ _ _ _ _ (by decide)]
    exact Nat.mod_eq_of_lt (Nat.lt_of_le_of_lt bounds (by decide))

theorem refCheck_shows (s : State) : let t := s.refCheck fault iref hspan mon
    t.rd pgCAL Reg.CAL.REF_DEV_IREF = ofSigned iref 32 ∧ t.rd pgCAL Reg.CAL.REF_DEV_HSPAN = ofSigned hspan 32 ∧
      t.rd pgCAL Reg.CAL.REF_DEV_MON = ofSigned mon 32 ∧ t.rd pgCAL Reg.CAL.REF_STAT_RESULT = refResult fault [iref, hspan, mon] := by
  obtain ⟨i, h, m, r⟩ := refShown_shows fault iref hspan mon s
  unfold rd at i h m r ⊢
  dsimp only
  rw [refCheck_word _ _ _ _ _ (by decide) (by decide) (by decide), refCheck_word _ _ _ _ _ (by decide) (by decide) (by decide),
    refCheck_word _ _ _ _ _ (by decide) (by decide) (by decide), refCheck_word _ _ _ _ _ (by decide) (by decide) (by decide)]
  exact ⟨i, h, m, r⟩

theorem refCheck_event (s : State) (h : 2 ≤ refResult fault [iref, hspan, mon]) :
    (s.refCheck fault iref hspan mon).rdBit pgCAL Reg.HDR.EVT_RAW (refResult fault [iref, hspan, mon] + 2) = true := by
  have bounds := (refResult_bounds fault [iref, hspan, mon]).2
  rw [refCheck_eq]
  rw [if_neg (by omega)]
  split
  next four =>
    rw [four]
    unfold rdBit rd
    rw [safety_word _ _ _ (by decide) (by decide)]
    refine (raised (s.refShown fault iref hspan mon) pgCAL 6 6 (by decide)).trans ?_
    simp
  next => simp [raised _ _ _ _ (show refResult fault [iref, hspan, mon] + 2 < 32 by omega)]

theorem refCheck_safe (s : State) (h : refResult fault [iref, hspan, mon] = 4) :
    (s.refCheck fault iref hspan mon).rd pgSYS Reg.SYS.MODULE_STATE_MS = 4 := by
  rw [refCheck_eq]
  rw [if_neg (by omega), if_pos h, safety_moduleState]

end Reference

theorem calLate_iff (w : Nat) : s.calLate w = true ↔ s.calDue w + s.calTicks Reg.CAL.OVERDUE_MS < s.tick.number := by
  unfold calLate
  exact decide_eq_true_iff

/-! ### The relief copier -/

theorem readBlind_cal : ReadBlind State.cal where
  setWord _ _ _ _ := rfl
  test _ _ _ _ _ := rfl
  flash _ _ := rfl
  seq _ _ := rfl
  ring _ _ := rfl

theorem copyPool_cal (s : State) (a b : Nat) : (s.copyPool a b).cal = s.cal :=
  each_keeps State.cal _ (fun t _ => sealFailure_keeps readBlind_cal t _ _ _) _ _

theorem poolCopied_waits {x : StandIn} (h : x.begun = false ∧ x.copied = false) : s.poolCopied x =
    let t := s.copyPool x.orig x.relief
    { t with cal := { t.cal with standins := t.cal.standins.map fun y => if y == x then { y with copied := true } else y } } := by
  unfold poolCopied
  exact if_neg (by simp [h])

end State

open State

/-- Settles O35: the reference check by its result; the demands by their conditions. -/
theorem calibrationDemands : Obligations.CalibrationDemands := by
  refine ⟨fun s at_ path fault iref hspan mon up => ?_, fun s at_ w up hw => ?_⟩
  · dsimp only
    rw [eff_refcheck s at_ path fault iref hspan mon up, eff_wellNow s at_ path up, eff_laneNow s at_ path up, eff_combNow s at_ path up]
    refine ⟨fun runs => leaves_congr (if_pos runs), fun stands => ⟨_, rfl, ?_⟩, fun well => leaves_congr (if_pos well),
      fun none => leaves_congr (if_neg (Nat.not_lt.mpr none)), rfl, fun source => leaves_congr (if_pos source), fun none => leaves_congr (if_neg (Nat.not_lt.mpr none))⟩
    have checked : (s.advance at_).refCheckAsked fault iref hspan mon = (s.advance at_).refCheck fault iref hspan mon := if_neg (by
      rw [advance_planRunning, stands]
      exact Bool.false_ne_true)
    have cal (off : Nat) : regAddr pgCAL off ∉ followers := regAddr_not_follower (by decide) off
    rw [checked]
    have shows := refCheck_shows fault iref hspan mon (s.advance at_)
    have event := refCheck_event fault iref hspan mon (s.advance at_)
    have safe := refCheck_safe fault iref hspan mon (s.advance at_)
    generalize (s.advance at_).refCheck fault iref hspan mon = t at shows event safe ⊢
    rw [left_rd _ _ (cal _), left_rd _ _ (cal _), left_rd _ _ (cal _), left_rd _ _ (cal _)]
    obtain ⟨i, h, m, r⟩ := shows
    refine ⟨i, h, m, r, fun loud => ?_, fun four => left_moduleState _ _ (safe four) (by decide) (by decide)⟩
    unfold rdBit
    rw [left_rd _ _ (cal _)]
    exact event loud
  · dsimp only
    rw [eff_calEligible s at_ w up, eff_calOverdue s at_ w up, eff_poolCopyDone s at_ w up, eff_ftEligible s at_ w up]
    refine ⟨fun due => leaves_congr (if_pos ⟨hw, due⟩), fun early => leaves_congr (if_neg fun h => early h.2), fun late => leaves_congr (if_pos ?_),
      fun no => leaves_congr (if_neg ?_), fun x found => ?_, fun none => ?_, fun due => leaves_congr (if_pos ⟨hw, due⟩), fun early => leaves_congr (if_neg fun h => early h.2)⟩
    · simpa [calLate_iff, and_assoc] using late
    · simpa [calLate_iff, and_assoc] using no
    · have waits : x.begun = false ∧ x.copied = false := by
        have found := List.find?_some found
        simp only [Bool.and_eq_true, Bool.not_eq_true'] at found
        exact ⟨found.1.2, found.2⟩
      refine ⟨_, rfl, ?_, ?_⟩
      · dsimp only
        rw [left_mem, advance_cal, found]
        dsimp only
        rw [poolCopied_waits waits]
      · dsimp only
        rw [left_cal, advance_cal, found]
        dsimp only
        rw [poolCopied_waits waits]
        dsimp only
        rw [copyPool_cal]
        rfl
    · dsimp only
      rw [advance_cal, none]

end Sys2Proof.Machine
end

section
/-! PROOFS. Steps of well, lane and comb calibration (R302, R347, R348, R363 to R365). -/

namespace Sys2Proof.Machine

namespace State

variable {s : State}

/-! ### Measurement passes -/

section Measure

variable {w : Nat} {ps : CalPass} {q : CalSeq}

/-- R347, R302: a measurement pass ends at its instant, once a moved well is locked. -/
def passEnds (s : State) (w : Nat) (q : CalSeq) : Prop :=
  q.start + passEndNs (q.passes + 1) ≤ s.ns ∧ ((s.well w).moved = false ∨ s.flag (pgWell w) Reg.WELL.LO_STAT_LO_LOCKED = true)

/-- R347: a sequence with the pass that has ended. -/
def withPass (q : CalSeq) (ps : CalPass) : CalSeq :=
  { q with
    passes := q.passes + 1, gains := ps.gains, phases := ps.phases, sigma := ps.sigma, trims := ps.trims, heat := ps.heat, phi := ps.phi, g := ps.g }

/-- R347, R371: a sequence with the means of an agreed pair. -/
def withMeans (q : CalSeq) (ps : CalPass) : CalSeq :=
  let sg (i : Nat) : Nat := max (q.sigma.getD i 0) (ps.sigma.getD i 0)
  { withPass q ps with
    result := 1, noise := (List.range 5).map (noiseOf (sg 0) (sg 1) (sg 2)), trims := meanTrims q.trims ps.trims, heat := meanHeat q.heat ps.heat
    phi := meanF32 q.phi ps.phi, g := meanF32 q.g ps.g }

/-- R347 to R350: what a pass that has ended does. -/
def passEnded (s : State) (w : Nat) (q : CalSeq) (ps : CalPass) : State :=
  let s := s.lastRetries w q.retries
  if q.passes = 0 then s.putSeq (withPass q ps)
  else if passesAgree q.gains ps.gains q.phases ps.phases then
    let weak := s.weakRows w q.gains ps.gains (meanTrims q.trims ps.trims)
    if weak.isEmpty then s.putSeq (withMeans q ps) else (s.putSeq { withPass q ps with result := 2, weak := weak }).weakFence w weak q.forReturn
  else if 3 ≤ q.retries then
    let s := s.putSeq { withPass q ps with result := 2 }
    if q.forReturn then ((s.onFt w fun f => { f with weakReturn := false }).bump pgCAL Reg.CAL.DRIFT_FENCES).raise pgCAL 8 else s.driftFence w s.fault.seq
  else (((s.putSeq { withPass q ps with retries := q.retries + 1 }).lastRetries w (q.retries + 1)).bump pgCAL Reg.CAL.WELL_RETRIES).raise pgCAL 7

theorem calMeasure_none (h : (s.cal.seqs.find? fun q => q.well == w && q.result == 0) = none) : s.calMeasure w ps = s := by
  unfold calMeasure
  rw [h]

theorem calMeasure_some (h : (s.cal.seqs.find? fun q => q.well == w && q.result == 0) = some q) : s.calMeasure w ps =
    if s.ns < q.start + passEndNs (q.passes + 1) || ((s.well w).moved && !s.flag (pgWell w) Reg.WELL.LO_STAT_LO_LOCKED) then s
    else s.passEnded w q ps := by
  unfold calMeasure
  rw [h]
  rfl

theorem calMeasure_waits (h : (s.cal.seqs.find? fun q => q.well == w && q.result == 0) = some q) (no : ¬s.passEnds w q) :
    s.calMeasure w ps = s := by
  rw [calMeasure_some h]
  refine if_pos ?_
  unfold passEnds at no
  by_contra yes
  simp only [Bool.or_eq_true, decide_eq_true_eq, Bool.and_eq_true, Bool.not_eq_true', not_or, not_and, Bool.not_eq_false, not_lt] at yes
  refine no ⟨yes.1, ?_⟩
  cases moved : (s.well w).moved
  · exact .inl rfl
  · exact .inr (yes.2 moved)

theorem calMeasure_ends (h : (s.cal.seqs.find? fun q => q.well == w && q.result == 0) = some q) (yes : s.passEnds w q) :
    s.calMeasure w ps = s.passEnded w q ps := by
  obtain ⟨late, locked⟩ := yes
  rw [calMeasure_some h]
  refine if_neg ?_
  simp only [Bool.or_eq_true, decide_eq_true_eq, Bool.and_eq_true, Bool.not_eq_true', not_or, not_and, Bool.not_eq_false, not_lt]
  exact ⟨late, fun moved => locked.resolve_left (by simp [moved])⟩

theorem passEnded_first (h : q.passes = 0) : s.passEnded w q ps = (s.lastRetries w q.retries).putSeq (withPass q ps) := by
  unfold passEnded
  exact if_pos h

variable (later : q.passes ≠ 0)
include later

theorem passEnded_agreed (agree : passesAgree q.gains ps.gains q.phases ps.phases = true) : s.passEnded w q ps =
    let s := s.lastRetries w q.retries
    let weak := s.weakRows w q.gains ps.gains (meanTrims q.trims ps.trims)
    if weak.isEmpty then s.putSeq (withMeans q ps) else (s.putSeq { withPass q ps with result := 2, weak := weak }).weakFence w weak q.forReturn := by
  unfold passEnded
  exact (if_neg later).trans (if_pos agree)

theorem passEnded_failed (differ : passesAgree q.gains ps.gains q.phases ps.phases = false) (last : 3 ≤ q.retries) : s.passEnded w q ps =
    let s := (s.lastRetries w q.retries).putSeq { withPass q ps with result := 2 }
    if q.forReturn then ((s.onFt w fun f => { f with weakReturn := false }).bump pgCAL Reg.CAL.DRIFT_FENCES).raise pgCAL 8
    else s.driftFence w s.fault.seq := by
  unfold passEnded
  exact (if_neg later).trans ((if_neg (by simp [differ])).trans (if_pos last))

theorem passEnded_repeated (differ : passesAgree q.gains ps.gains q.phases ps.phases = false) (more : q.retries < 3) : s.passEnded w q ps =
    ((((s.lastRetries w q.retries).putSeq { withPass q ps with retries := q.retries + 1 }).lastRetries w (q.retries + 1)).bump pgCAL
      Reg.CAL.WELL_RETRIES).raise pgCAL 7 := by
  unfold passEnded
  exact (if_neg later).trans ((if_neg (by simp [differ])).trans (if_neg (Nat.not_le.mpr more)))

end Measure

/-! ### Lanes -/

section Lanes

variable {p k : Nat}

/-- R363: a port whose lanes may be calibrated. -/
def lanesMay (s : State) (p : Nat) : Prop :=
  p < 32 ∧ s.isOn pgCAL = true ∧ s.flag pgCAL Reg.CAL.ENABLES_LANE = true ∧ 4 ≤ s.rd (pgHport p) Reg.HPORT.LINK_STAT_LANES ∧
    ∀ j, j < 16 → (s.laneCal p j).out = false

theorem lanesMay_iff : s.lanesMay p ↔ (p < 32 && s.isOn pgCAL && s.flag pgCAL Reg.CAL.ENABLES_LANE &&
    decide (4 ≤ s.rd (pgHport p) Reg.HPORT.LINK_STAT_LANES) && !(List.range 16).any fun k => (s.laneCal p k).out) = true := by
  unfold lanesMay
  simp [and_assoc]

theorem laneRecal_turn (may : s.lanesMay p) (h : s.laneTurn p = some k) : s.laneRecal p =
    ((s.passTurn p k).onLaneCal p k fun c => { c with out := true, now := false, last := s.tick.number }).onPort p fun x =>
      { x with drops := addOnce k x.drops } := by
  unfold laneRecal
  dsimp only
  rw [if_pos (lanesMay_iff.mp may), h]

theorem laneRecal_waits (no : ¬(s.lanesMay p ∧ (s.laneTurn p).isSome = true)) : s.laneRecal p = s := by
  unfold laneRecal
  dsimp only
  split
  next may =>
    have none : s.laneTurn p = none := by simpa [lanesMay_iff.mpr may] using no
    rw [none]
  next => rfl

variable {values : List Int} {mo mn : Nat}

/-- R364: the new values of a lane are taken. -/
def laneGood (p k : Nat) (values : List Int) (mo mn : Nat) : Prop := laneWithin p k values = true ∧ 9 * mo ≤ 10 * mn

/-- R364: the new values of a lane are rejected. -/
def laneRejected (s : State) (p k : Nat) : State :=
  (((s.onPort p fun x => { x with trained := addOnce k x.trained }).onLaneCal p k fun c => { c with
    out := false, consec := min 255 ((s.laneCal p k).consec + 1), rejects := satAdd 16 c.rejects 1 }).bump pgCAL Reg.CAL.LANE_REJECTS).raise pgCAL 11

theorem laneResult_out (out : (s.laneCal p k).out = true) : s.laneResult p k values mo mn =
    if laneWithin p k values && decide (9 * mo ≤ 10 * mn) then
      (s.onPort p fun x => { x with trained := addOnce k x.trained }).onLaneCal p k fun c =>
        { c with out := false, measured := true, consec := 0, values := values }
    else if (s.laneCal p k).consec + 1 = 3 then (s.laneRejected p k).raise pgCAL 12 else s.laneRejected p k := by
  unfold laneResult
  rw [if_neg (by simp [out])]
  rfl

end Lanes

/-! ### Comb lines -/

section Combs

variable {i : Nat} {lines : List (Int × Int × Int)}

/-- R365: a comb recalibration is due. -/
def combDue (s : State) (i : Nat) (lines : List (Int × Int × Int)) : Prop :=
  i < 6 ∧ s.isOn pgCAL = true ∧ s.flag pgCAL Reg.CAL.ENABLES_COMB = true ∧ litCs (s.source i).cs = true ∧
    (s.source i).cs ≠ 4 ∧ (s.source i).cs ≠ 5 ∧
    ((s.combCal i).now = true ∨ (s.combCal i).last + s.calTicks Reg.CAL.COMB_INTERVAL_MS ≤ s.tick.number) ∧ lines.length = 16

/-- R365: a line's result is plausible. -/
def lineOk (s : State) (i : Nat) (lines : List (Int × Int × Int)) (e : (Int × Int × Int) × Nat) : Bool :=
  linePlausible ((s.combCal i).corr.getD e.2 0) (lines.map (·.2.1)) e.2 e.1.1 e.1.2.2

/-- R365: the line's result as the recalibration keeps it: whether it is plausible, the new correction and the old. -/
def lineRes (s : State) (i : Nat) (lines : List (Int × Int × Int)) (e : (Int × Int × Int) × Nat) : Bool × Int × Int :=
  (s.lineOk i lines e, e.1.1, (s.combCal i).corr.getD e.2 0)

/-- R365: the results of a comb are staged. -/
def combStaged (s : State) (i : Nat) (lines : List (Int × Int × Int)) : State :=
  let res := lines.zipIdx.map (s.lineRes i lines)
  s.onCombCal i fun c => { c with
    now := false, last := s.tick.number, measured := true, linesRej := res.zipIdx.foldl (fun a r => if r.1.1 then a else a + 2 ^ r.2) 0
    staged := res.map fun r => if r.1 then r.2.1 else r.2.2
    stagedFreq := (lines.zip res).zipIdx.map fun e => c.freq.getD e.2 0 + if e.1.2.1 then e.1.1.2.2 else 0 }

theorem combRecal_due (h : s.combDue i lines) : s.combRecal i lines =
    let bad := ((lines.zipIdx.map (s.lineRes i lines)).filter fun r => !r.1).length
    if bad = 0 then s.combStaged i lines else ((s.combStaged i lines).bump pgCAL Reg.CAL.COMB_REJECTS bad).raise pgCAL 13 := by
  obtain ⟨src, on, enabled, lit, calm, still, due, whole⟩ := h
  unfold combRecal
  refine if_neg ?_
  simpa [on, enabled, lit, calm, still, whole, src] using fun no => due.resolve_left (by simp [no])

theorem combRecal_waits (no : ¬s.combDue i lines) : s.combRecal i lines = s := by
  unfold combRecal
  refine if_pos ?_
  by_contra yes
  simp only [Bool.or_eq_true, decide_eq_true_eq, Bool.not_eq_true', beq_iff_eq, bne_iff_ne, not_or, Bool.not_eq_false, not_le, ne_eq, not_not] at yes
  obtain ⟨⟨⟨⟨⟨⟨⟨src, on⟩, enabled⟩, lit⟩, calm⟩, still⟩, due⟩, whole⟩ := yes
  refine no ⟨src, on, enabled, lit, calm, still, ?_, whole⟩
  simpa using due

theorem combCal_onCombCal (s : State) (i : Nat) (f : CalRec → CalRec) : (s.onCombCal i f).combCal i = f (s.combCal i) := by
  unfold onCombCal combCal
  dsimp only
  rw [sparseGet_put, if_pos rfl]

theorem staged_list (s : State) (i : Nat) (lines : List (Int × Int × Int)) :
    ((lines.zipIdx.map (s.lineRes i lines)).map fun r => if r.1 then r.2.1 else r.2.2) =
      lines.zipIdx.map fun e => if s.lineOk i lines e then e.1.1 else (s.combCal i).corr.getD e.2 0 := by
  rw [List.map_map]
  rfl

theorem stagedFreq_list (s : State) (i : Nat) (lines : List (Int × Int × Int)) (freq : List Int) :
    ((lines.zip (lines.zipIdx.map (s.lineRes i lines))).zipIdx.map fun e => freq.getD e.2 0 + if e.1.2.1 then e.1.1.2.2 else 0) =
      lines.zipIdx.map fun e => freq.getD e.2 0 + if s.lineOk i lines e then e.1.2.2 else 0 := by
  refine List.ext_getElem (by simp) fun n _ _ => ?_
  simp [lineRes]

theorem rejected_list (s : State) (i : Nat) (lines : List (Int × Int × Int)) :
    ((lines.zipIdx.map (s.lineRes i lines)).filter fun r => !r.1).length = (lines.zipIdx.filter fun e => !s.lineOk i lines e).length := by
  rw [List.filter_map, List.length_map]
  rfl

/-- R365: a mask of rejected lines is 0 when none is rejected. -/
theorem mask_none (l : List ((Bool × Int × Int) × Nat)) (h : ∀ r ∈ l, r.1.1 = true) (a : Nat) :
    l.foldl (fun a r => if r.1.1 then a else a + 2 ^ r.2) a = a := by
  induction l generalizing a with
  | nil => rfl
  | cons r rest ih =>
    rw [List.foldl_cons, if_pos (h r List.mem_cons_self)]
    exact ih (fun x hx => h x (List.mem_cons_of_mem _ hx)) a

theorem combStaged_mask (h : ∀ e ∈ lines.zipIdx, s.lineOk i lines e = true) : ((s.combStaged i lines).combCal i).linesRej = 0 := by
  unfold combStaged
  dsimp only
  rw [combCal_onCombCal]
  refine mask_none _ (fun r hr => ?_) 0
  have kept : r.1 ∈ lines.zipIdx.map (s.lineRes i lines) := List.fst_mem_of_mem_zipIdx hr
  obtain ⟨e, he, same⟩ := List.mem_map.mp kept
  rw [← same]
  exact h e he

/-- R365: what the staging shows, whether or not lines are rejected. -/
theorem combRecal_cal (h : s.combDue i lines) : (s.combRecal i lines).cal = (s.combStaged i lines).cal := by
  rw [combRecal_due h]
  dsimp only
  split
  · rfl
  · rw [raise_cal, bump_cal]

/-- R365: rejected lines are counted and reported. -/
theorem combRejected (t : State) (n : Nat) : let v := (t.bump pgCAL Reg.CAL.COMB_REJECTS n).raise pgCAL 13
    v.rdBit pgCAL Reg.HDR.EVT_RAW 13 = true ∧ v.rd pgCAL Reg.CAL.COMB_REJECTS = satAdd Reg.CAL.COMB_REJECTS.width (t.rd pgCAL Reg.CAL.COMB_REJECTS) n := by
  refine ⟨by simp [raised _ _ _ _ (show 13 < 32 by decide)], ?_⟩
  rw [rd_raise_ne _ _ _ _ _ _ (by decide)]
  unfold bump
  rw [rd_wr _ _ _ _ _ (by decide)]
  exact Nat.mod_eq_of_lt (satAdd_lt _ _ _)

theorem combCal_of_cal {s t : State} (h : t.cal = s.cal) (i : Nat) : t.combCal i = s.combCal i := by
  unfold combCal
  rw [h]

end Combs

end State

open State

/-- Settles O36: the outcomes of a pass, of a lane and of a comb. -/
theorem calibrationSteps : Obligations.CalibrationSteps := by
  intro s at_ w p k i ps lines values mo mn up
  dsimp only
  rw [eff_calMeasurePass s at_ w ps up, eff_laneRecal s at_ p up, eff_laneCalResult s at_ p k values mo mn up, eff_combRecal s at_ i lines up]
  refine ⟨fun none => leaves_congr (calMeasure_none none), fun q found => ?_, ⟨fun k may turn => ?_, fun no => ?_⟩, ⟨fun inside => ?_, fun out good => ?_, fun out bad first => ?_, fun out bad third => ?_⟩, fun due => ?_, fun no => ?_⟩
  · have ends : (s.advance at_).passEnds w q → (s.advance at_).calMeasure w ps = (s.advance at_).passEnded w q ps := calMeasure_ends found
    refine ⟨fun no => leaves_congr (calMeasure_waits found no), fun yes first => leaves_congr ((ends yes).trans (passEnded_first first)),
      fun yes later agree strong => ⟨withMeans q ps, leaves_congr ((ends yes).trans ((passEnded_agreed later agree).trans (if_pos (List.isEmpty_iff.mpr strong)))),
        rfl, rfl, rfl, rfl, rfl, rfl, rfl⟩,
      fun yes later agree weak => leaves_congr ((ends yes).trans ((passEnded_agreed later agree).trans (if_neg (mt List.isEmpty_iff.mp weak)))),
      fun yes later differ more => leaves_congr ((ends yes).trans (passEnded_repeated later differ more)),
      fun yes later differ last returns => leaves_congr ((ends yes).trans ((passEnded_failed later differ last).trans (if_pos returns))),
      fun yes later differ last stays => leaves_congr ((ends yes).trans ((passEnded_failed later differ last).trans (if_neg (by simp [stays]))))⟩
  · exact leaves_congr (laneRecal_turn (s := s.advance at_) may turn)
  · exact leaves_congr (laneRecal_waits (s := s.advance at_) no)
  · exact leaves_congr (if_pos (by rw [advance_laneCal, inside]; rfl))
  · exact leaves_congr ((laneResult_out (s := s.advance at_) out).trans (if_pos (and_decide_iff.mpr good)))
  · exact leaves_congr ((laneResult_out (s := s.advance at_) out).trans ((if_neg (mt and_decide_iff.mp bad)).trans (if_neg fun h => first (Nat.succ_injective h))))
  · exact leaves_congr ((laneResult_out (s := s.advance at_) out).trans ((if_neg (mt and_decide_iff.mp bad)).trans (if_pos (congrArg Nat.succ third))))
  · have due' : (s.advance at_).combDue i lines := due
    have cal : ((s.left ((s.advance at_).combRecal i lines)).combCal i) = (((s.advance at_).combStaged i lines).combCal i) :=
      combCal_of_cal ((left_cal _ _).trans (combRecal_cal due')) i
    have rejects := combRecal_due due'
    rw [rejected_list] at rejects
    refine ⟨_, rfl, ?_⟩
    rw [cal]
    have shown : ((s.advance at_).combStaged i lines).combCal i = _ := combCal_onCombCal _ _ _
    refine ⟨by rw [shown], by rw [shown]; rfl, ?_, ?_, fun all => ⟨combStaged_mask (s := s.advance at_) all, ?_⟩, fun some => ?_⟩
    · rw [shown]
      exact staged_list _ _ _
    · rw [shown]
      exact stagedFreq_list _ _ _ _
    · rw [if_pos] at rejects
      · rw [rejects]
        exact sameBut_left rfl rfl fun _ _ => rfl
      · rw [List.length_eq_zero_iff, List.filter_eq_nil_iff]
        exact fun e he => by rw [show (s.advance at_).lineOk i lines e = true from all e he]; decide
    · obtain ⟨e, he, bad⟩ := some
      rw [if_neg] at rejects
      · have cal (off : Nat) : regAddr pgCAL off ∉ followers := regAddr_not_follower (by decide) off
        unfold rdBit
        rw [left_rd _ _ (cal _), left_rd _ _ (cal _), rejects]
        exact combRejected _ _
      · rw [List.length_eq_zero_iff, List.filter_eq_nil_iff]
        exact fun all => all e he (by rw [show (s.advance at_).lineOk i lines e = false from bad]; rfl)
  · exact leaves_congr (combRecal_waits (s := s.advance at_) no)

end Sys2Proof.Machine
end

section
/-! PROOFS. Repeats, field-test sessions, test commands and fleet packages (R382, R401 to R411, R421, R423). -/

namespace Sys2Proof.Machine

namespace State

variable {s : State} {w : Nat}

/-! ### Repeats and sessions -/

theorem repeatStep_runs {x : Session} {c : Capture} {errs : List (List Int)} {residue : Bool} (hx : s.sessionOn w [3] = some x)
    (hc : (s.integ.captures.find? fun c => c.well == w && c.state == 1) = some c) : s.repeatStep w errs residue =
    let s := (s.bump pgINTEG Reg.INTEG.REPEATS).wr (pgWell w) Reg.WELL.REPEAT_STAT_ST 0
    (if s.repeatFails w c errs residue then s.repeatPermanent w c else s.repeatPasses w c).endSession x (!s.repeatFails w c errs residue) := by
  unfold repeatStep
  rw [hx, hc]

theorem repeatStep_waits {errs : List (List Int)} {residue : Bool}
    (h : s.sessionOn w [3] = none ∨ (s.integ.captures.find? fun c => c.well == w && c.state == 1) = none) : s.repeatStep w errs residue = s := by
  unfold repeatStep
  split
  next hx hc => simp [hx, hc] at h
  next => rfl

theorem fieldTest_none {r : SessionRun} (h : s.sessionOn w [1, 2] = none) : s.fieldTest w r = s := by
  unfold fieldTest
  rw [h]

theorem fieldTest_early {r : SessionRun} {x : Session} (h : s.sessionOn w [1, 2] = some x) (early : s.ns < x.start + 1920000) : s.fieldTest w r = s := by
  unfold fieldTest
  rw [h]
  exact if_pos early

/-- R404, R410: what the session's record shows. -/
def sessionShown (v : State) (w : Nat) (x : Session) (r : SessionRun) (last : Nat) : State :=
  (v.onFt w fun f => { f with
    tick := v.tick.number, count := satAdd 32 f.count 1, host := v.hostNow, last := last
    nextFleet := if x.kind = 1 ∧ v.flag pgTEST Reg.TEST.FT_CTL_FLEET_EN ∧ fleetCount x.package ≠ 0 then
        (f.nextFleet + min r.fleetRun 256) % fleetCount x.package
      else f.nextFleet }).bump pgTEST Reg.TEST.FT_SESSIONS

/-- R410: the reference runs of a session. -/
def crossChecked (s : State) (w : Nat) (r : SessionRun) : State := if s.flag pgTEST Reg.TEST.FT_CTL_LOCAL_EN then s.crossCheck w r.reference else s

/-- R405: the verdict of a session. -/
def sessionEnded (v : State) (w : Nat) (x : Session) (r : SessionRun) : Option (Nat × Nat) → State
  | none => (v.sessionShown w x r 1).sessionPasses x
  | some e => (v.sessionShown w x r (e.1 + 1)).sessionFails x e.1 e.2

theorem fieldTest_ends {r : SessionRun} {x : Session} (h : s.sessionOn w [1, 2] = some x) (late : x.start + 1920000 ≤ s.ns) :
    s.fieldTest w r = (s.crossChecked w r).sessionEnded w x r ((s.crossChecked w r).sessionFailure x r) := by
  unfold fieldTest
  rw [h]
  refine (if_neg (Nat.not_lt.mpr late)).trans ?_
  unfold crossChecked
  dsimp only
  generalize (if s.flag pgTEST Reg.TEST.FT_CTL_LOCAL_EN = true then s.crossCheck w r.reference else s) = v
  cases v.sessionFailure x r with
  | none => rfl
  | some e => rfl

/-! ### Test commands -/

/-- R401: a fenced well may still return. -/
theorem demandReturn_may (h : s.returnable w = true ∧ (s.ftRec w).returns < s.rd pgTEST Reg.TEST.FT_CTL_RET_MAX ∧ s.st (pgWell w) = 4) :
    s.demandReturn w = s.onFt w fun f => { f with returnDemand := true } := by
  unfold demandReturn
  exact if_pos (by simp [h])

theorem demandReturn_not (h : ¬(s.returnable w = true ∧ (s.ftRec w).returns < s.rd pgTEST Reg.TEST.FT_CTL_RET_MAX ∧ s.st (pgWell w) = 4)) :
    s.demandReturn w = s := by
  unfold demandReturn
  exact if_neg fun yes => h (by simpa [and_assoc] using yes)

/-- R423: the address of a package. -/
def fleetAddr (s : State) : Nat := s.rd pgTEST Reg.TEST.FLEET_ADDR_LO_ADDR * 4096 + s.rd pgTEST Reg.TEST.FLEET_ADDR_HI_ADDR * 2 ^ 32

/-- R423: the outcome of a FLEET_LOAD: its reason is shown, and the package kept or refused. -/
def fleetOutcome (s : State) (r : Nat × List Byte) : State :=
  let t := s.wr pgTEST Reg.TEST.FLEET_STAT_REASON r.1
  if r.1 ≠ 0 then (t.wr pgTEST Reg.TEST.FLEET_STAT_ST 3).raise pgTEST 8
  else ({ t with fault := { t.fault with fleetNext := r.2 } }).wr pgTEST Reg.TEST.FLEET_STAT_ST 1

theorem fleetLoad_on (on : s.isOn pgTEST = true) : s.fleetLoad = s.fleetOutcome (s.fleetReason s.fleetAddr) := by
  unfold fleetLoad
  exact if_neg (by simp [on])

/-- FLEET_STAT's other field and its page stay as ST is written. -/
theorem reason_wr_st (t : State) (v : Nat) : (t.wr pgTEST Reg.TEST.FLEET_STAT_ST v).rd pgTEST Reg.TEST.FLEET_STAT_REASON = t.rd pgTEST Reg.TEST.FLEET_STAT_REASON :=
  rd_wr_apart t pgTEST pgTEST Reg.TEST.FLEET_STAT_ST Reg.TEST.FLEET_STAT_REASON v 0 0 (by decide) (by decide) (by decide)

theorem fleetOutcome_shows (s : State) (r : Nat × List Byte) : let t := s.fleetOutcome r
    t.rd pgTEST Reg.TEST.FLEET_STAT_REASON = r.1 % 2 ^ Reg.TEST.FLEET_STAT_REASON.width ∧
      t.rd pgTEST Reg.TEST.FLEET_STAT_ST = (if r.1 = 0 then 1 else 3) ∧ t.fault.fleetNext = (if r.1 = 0 then r.2 else s.fault.fleetNext) := by
  have reason : (s.wr pgTEST Reg.TEST.FLEET_STAT_REASON r.1).rd pgTEST Reg.TEST.FLEET_STAT_REASON = r.1 % 2 ^ Reg.TEST.FLEET_STAT_REASON.width :=
    rd_wr _ _ _ _ _ (by decide)
  have fault : (s.wr pgTEST Reg.TEST.FLEET_STAT_REASON r.1).fault = s.fault := wr_fault ..
  unfold fleetOutcome
  generalize s.wr pgTEST Reg.TEST.FLEET_STAT_REASON r.1 = t at reason fault
  dsimp only
  by_cases good : r.1 = 0
  · rw [if_neg (not_not.mpr good), if_pos good, if_pos good]
    refine ⟨(reason_wr_st _ _).trans reason, rd_wr _ _ _ _ _ (by decide), ?_⟩
    rw [wr_fault]
  · rw [if_pos good, if_neg good, if_neg good]
    refine ⟨?_, ?_, ?_⟩
    · rw [rd_raise_ne _ _ _ _ _ _ (by decide), reason_wr_st, reason]
    · rw [rd_raise_ne _ _ _ _ _ _ (by decide)]
      exact rd_wr _ _ _ _ _ (by decide)
    · rw [raise_fault, wr_fault, fault]

theorem fleetActive_off (h : s.fault.fleetNext = [] ∨ s.isOn pgTEST = false) : s.fleetActive = s := by
  unfold fleetActive
  exact if_pos (by simpa using h)

/-- R408: a package's flash copy, and the wells' turns in it. -/
def fleetKept (s : State) : State :=
  let t := ({ s with fault := { s.fault with fleetNext := [] } }).onFlash fun f => { f with fleet := s.fault.fleetNext }
  (t.fault.ft.map (·.1)).foldl (fun (t : State) w => t.onFt w fun f => { f with nextFleet := 0 }) t

theorem fleetActive_on (some : s.fault.fleetNext ≠ []) (on : s.isOn pgTEST = true) : s.fleetActive =
    (((s.fleetKept.wr pgTEST Reg.TEST.FLEET_STAT_ST 2).wr pgTEST Reg.TEST.FLEET_STAT_COUNT (fleetCount s.fault.fleetNext)).wr pgTEST
      Reg.TEST.FLEET_VERSION (fieldOf s.fault.fleetNext 8 4)).raise pgTEST 7 := by
  unfold fleetActive
  exact if_neg (by simp [some, on])

theorem fleetKept_kept : s.fleetKept.boot.flash.fleet = s.fault.fleetNext ∧ s.fleetKept.fault.fleetNext = [] := by
  have turns : (s.fleetKept.boot.flash.fleet, s.fleetKept.fault.fleetNext) = (s.fault.fleetNext, []) :=
    each_keeps (fun t => (t.boot.flash.fleet, t.fault.fleetNext)) (fun t w => t.onFt w fun f => { f with nextFleet := 0 }) (fun _ _ => rfl) _ _
  exact ⟨congrArg Prod.fst turns, congrArg Prod.snd turns⟩

/-- R408: what a package that becomes active leaves. -/
theorem fleetActive_shows (some : s.fault.fleetNext ≠ []) (on : s.isOn pgTEST = true) : let t := s.fleetActive
    t.boot.flash.fleet = s.fault.fleetNext ∧ t.fault.fleetNext = [] ∧ t.rd pgTEST Reg.TEST.FLEET_STAT_ST = 2 ∧
      t.rdBit pgTEST Reg.HDR.EVT_RAW 7 = true ∧ t.rd pgTEST Reg.TEST.FLEET_VERSION = fieldOf s.fault.fleetNext 8 4 % 2 ^ Reg.TEST.FLEET_VERSION.width := by
  obtain ⟨flash, next⟩ := fleetKept_kept (s := s)
  rw [fleetActive_on some on]
  generalize s.fleetKept = t at flash next
  refine ⟨?_, ?_, ?_, by simp [raised _ _ _ _ (show 7 < 32 by decide)], ?_⟩
  · rw [raise_boot, wr_boot, wr_boot, wr_boot, flash]
  · rw [raise_fault, wr_fault, wr_fault, wr_fault, next]
  · rw [rd_raise_ne _ _ _ _ _ _ (by decide), rd_wr_ne _ _ _ _ _ _ _ _ (by decide),
      rd_wr_apart _ pgTEST pgTEST Reg.TEST.FLEET_STAT_COUNT Reg.TEST.FLEET_STAT_ST _ 0 0 (by decide) (by decide) (by decide)]
    exact rd_wr _ _ _ _ _ (by decide)
  · rw [rd_raise_ne _ _ _ _ _ _ (by decide)]
    exact rd_wr _ _ _ _ _ (by decide)

end State

open State

/-- Settles O37: a repeat and a session each by whether one is in progress and has come to its end. -/
theorem fieldTests : Obligations.FieldTests := by
  refine ⟨fun s at_ w errs residue up => ?_, fun s at_ w r up => ?_⟩
  · dsimp only
    rw [eff_repeatRun s at_ w errs residue up]
    exact ⟨fun x c session capture => leaves_congr (repeatStep_runs (s := s.advance at_) session capture),
      fun none => leaves_congr (repeatStep_waits (s := s.advance at_) none)⟩
  · dsimp only
    rw [eff_fieldTestSession s at_ w r up]
    refine ⟨fun none => leaves_congr (fieldTest_none (s := s.advance at_) none), fun x session =>
      ⟨fun early => leaves_congr (fieldTest_early (s := s.advance at_) session early), fun late => ?_⟩⟩
    have ends := fieldTest_ends (s := s.advance at_) (r := r) session late
    refine ⟨fun passes => leaves_congr (ends.trans ?_), fun e fails => leaves_congr (ends.trans ?_)⟩
    · exact congrArg (sessionEnded _ w x r) passes
    · exact congrArg (sessionEnded _ w x r) fails

/-- Settles O38: each test command by its condition, and a fleet package at its boundary. -/
theorem testCommands : Obligations.TestCommands := by
  have test (off : Nat) : regAddr pgTEST off ∉ followers := regAddr_not_follower (by decide) off
  refine ⟨fun s at_ path up => ?_, fun s at_ up => ?_⟩
  · dsimp only
    rw [eff_testNow s at_ path up, eff_returnNow s at_ path up, eff_fleetLoad s at_ path up, eff_recPop s at_ path up]
    refine ⟨fun well => leaves_congr (if_pos well), fun none => leaves_congr (if_neg (Nat.not_lt.mpr none)),
      fun returns => leaves_congr ((if_pos returns.1).trans (demandReturn_may (s := s.advance at_) returns.2)), fun no => leaves_congr ?_,
      fun on => ⟨_, rfl, ?_⟩, fun off => leaves_congr (if_pos (by rw [advance_isOn, off]; rfl)), fun x rest ring => ⟨_, rfl, ?_⟩, fun empty => leaves_congr ?_⟩
    · unfold returnNow
      split
      next well => exact demandReturn_not (s := s.advance at_) fun may => no ⟨well, may⟩
      next => rfl
    · have addr : (s.advance at_).fleetAddr = s.fleetAddr := rfl
      rw [left_rd _ _ (test _), left_rd _ _ (test _), left_fault, fleetLoad_on (s := s.advance at_) on, addr, advance_fleetReason]
      exact fleetOutcome_shows (s.advance at_) (s.fleetReason s.fleetAddr)
    · have popped : (s.advance at_).recPop = ({ s.advance at_ with fault := { s.fault with ring := rest } } : State).wr pgTEST Reg.TEST.REC_PAGE_PAGE 0 := by
        unfold recPop
        rw [show (s.advance at_).fault.ring = x :: rest from ring]
        rfl
      rw [left_rd _ _ (test _), left_fault, left_mem, popped]
      exact ⟨by rw [wr_fault], rd_wr _ _ _ _ _ (by decide), wr_mem ..⟩
    · unfold recPop
      rw [show (s.advance at_).fault.ring = [] from empty]
  · rw [eff_fleetActive s at_ up]
    refine ⟨fun boundary some on => ⟨_, rfl, ?_⟩, fun no => leaves_congr ?_⟩
    · have shows := fleetActive_shows (s := s.advance at_) some on
      unfold rdBit at shows ⊢
      rw [if_pos boundary, left_boot, left_fault, left_rd _ _ (test _), left_rd _ _ (test _), left_rd _ _ (test _)]
      exact shows
    · split
      next boundary => exact fleetActive_off (s := s.advance at_) (no.resolve_left (not_not.mpr boundary))
      next => rfl

end Sys2Proof.Machine
end

section
/-! PROOFS. Watchdogs, lockstep and the monitor (R417, R418): what the overruns of a die's work leave alone, and the obligation. -/

namespace Sys2Proof.Machine

namespace State

/-- What a die's event is judged by: the edges of the event controllers, the latest events of the dies, the tick's number; and the sensors. -/
def dieView (s : State) : List (Nat × Nat) × List (Nat × Nat) × Nat × ThermUnit := (s.evt.edges, s.fault.dieEvents, s.tick.number, s.therm)

theorem writeBlind_dieView : WriteBlind dieView where
  setWord _ _ _ _ := rfl
  test _ _ _ _ _ := rfl
  flash _ _ := rfl
  seq _ _ := rfl
  ring _ _ := rfl
  mem _ _ := rfl
  seals _ _ := rfl
  eccBad _ _ := rfl
  written _ _ := rfl

theorem passBlind_dieView : PassBlind dieView where
  setWord _ _ _ _ _ := rfl
  seals _ _ := rfl
  wells _ _ := rfl
  integ _ _ := rfl
  fences _ _ := rfl

section View

variable (s : State)

@[simp] theorem setWord_dieView (a : Nat) (w : Word) : (s.setWord a w).dieView = s.dieView := rfl

@[simp] theorem wr_dieView (pg : Nat) (f : Field) (v i : Nat) : (s.wr pg f v i).dieView = s.dieView := rfl

@[simp] theorem raise_dieView (pg b : Nat) : (s.raise pg b).dieView = s.dieView := rfl

@[simp] theorem bump_dieView (pg : Nat) (f : Field) (n i : Nat) : (s.bump pg f n i).dieView = s.dieView := rfl

@[simp] theorem bumpWrap_dieView (pg : Nat) (f : Field) (n i : Nat) : (s.bumpWrap pg f n i).dieView = s.dieView := rfl

@[simp] theorem onQueue_dieView (q : Nat) (f : Queue → Queue) : (s.onQueue q f).dieView = s.dieView := rfl

@[simp] theorem setQst_dieView (q : Nat) (x : Qst) : (s.setQst q x).dieView = s.dieView := rfl

theorem returnCredits_dieView (q : Nat) (t : Transfer) : (s.returnCredits q t).dieView = s.dieView := by
  unfold returnCredits
  dsimp only
  rw [wr_dieView, wr_dieView]
  rfl

theorem overrun_dieView (pg tick step pass : Nat) : (s.overrun pg tick step pass).dieView = s.dieView := by
  unfold overrun
  dsimp only
  rw [raise_dieView, bump_dieView]
  rfl

@[simp] theorem ite_dieView (c : Prop) [Decidable c] (a b : State) : (if c then a else b).dieView = if c then a.dieView else b.dieView :=
  apply_ite dieView c a b

@[simp] theorem each_dieView {α : Type} (l : List α) {f : State → α → State} (h : ∀ t a, (f t a).dieView = t.dieView) :
    (s.each l f).dieView = s.dieView :=
  each_keeps dieView f h l s

theorem wr64_dieView (pg : Nat) (f : Field) (v i : Nat) : (s.wr64 pg f v i).dieView = s.dieView := rfl

theorem bump64_dieView (pg : Nat) (f : Field) (n i : Nat) : (s.bump64 pg f n i).dieView = s.dieView := rfl

/-! ### Overruns of wells -/

theorem overrunWell_dieView (w : Nat) : (s.overrunWell w).dieView = s.dieView := by
  unfold overrunWell
  dsimp only
  split
  · rfl
  · rw [abandonAll_keeps passBlind_dieView]
    exact each_dieView s _ fun t d => overrun_dieView t _ _ _ _

/-! ### Overruns of queues -/

theorem flushReleases_dieView : s.flushReleases.dieView = s.dieView := by
  refine each_dieView s _ fun t f => ?_
  split
  · rfl
  · rfl

theorem acknowledge_dieView (q : Nat) : (s.acknowledge q).dieView = s.dieView := by
  unfold acknowledge
  split
  · rfl
  · dsimp only
    split
    · rfl
    · rw [flushReleases_dieView, onQueue_dieView, bump64_dieView, returnCredits_dieView]

theorem finishFlight_dieView (q : Nat) : (s.finishFlight q).dieView = s.dieView := by
  unfold finishFlight
  dsimp only
  rw [onQueue_dieView]
  refine (each_keeps dieView (fun t x => t.returnCredits q x) (fun t x => returnCredits_dieView t q x) _ _).trans ?_
  exact each_dieView s _ fun t _ => acknowledge_dieView t q

theorem offLinks_dieView (t : State) : (s.offLinks t).dieView = t.dieView :=
  each_dieView t _ fun u c => (wr64_dieView (u.wr64 (pgCistern c) _ _) _ _ _ _).trans (wr64_dieView u _ _ _ _)

theorem stampStats_dieView (d : List Byte) : (s.stampStats d).dieView = s.dieView := by
  unfold stampStats
  split
  next key _ =>
    have kept := (offLinks_dieView s (s.store key (stampBytes s.now) (s.blockSeal (key / 4096))).1).trans (store_keeps writeBlind_dieView s _ _ _)
    dsimp only
    generalize s.offLinks (s.store key (stampBytes s.now) (s.blockSeal (key / 4096))).1 = t at kept ⊢
    exact kept
  next => rfl

theorem putStatus_dieView (q slot code gen : Nat) : (s.putStatus q slot code gen).dieView = s.dieView := by
  unfold putStatus
  split
  · rfl
  split
  · exact store_keeps writeBlind_dieView s _ _ _
  · rfl

theorem arriveAt_dieView (b : Nat) : (s.arriveAt b).dieView = s.dieView := by simp [arriveAt, barCheck]

theorem lastErr_dieView (q code slot gen : Nat) : (s.lastErr q code slot gen).dieView = s.dieView := by simp [lastErr]

theorem completeDesc_dieView (q slot : Nat) (d : List Byte) (code : Nat) : (s.completeDesc q slot d code).dieView = s.dieView := by
  simp [completeDesc, lastErr_dieView, arriveAt_dieView, putStatus_dieView, stampStats_dieView]

theorem markDest_dieView (q : Nat) (d : List Byte) (first : Nat) : (s.markDest q d first).dieView = s.dieView := by
  have region (t : State) (map : Nat → Option Nat) (sl : Nat → Seal) (a n : Nat) : (t.markRegion map sl a n).dieView = t.dieView :=
    markRegion_keeps t (g := dieView) (fun _ _ => rfl) map sl a n
  unfold markDest
  extract_lets sl map mark
  have marked (t : State) (a n : Nat) : (mark t a n).dieView = t.dieView := by simp [mark, region]
  split
  · exact marked _ _ _
  · exact marked _ _ _
  · exact each_dieView s _ fun t w => region t _ _ _ _
  · exact marked _ _ _
  · exact marked _ _ _
  · refine each_dieView s _ fun t i => ?_
    split
    · split
      · rfl
      · exact marked _ _ _
    · rfl
  · rfl

theorem setExec_dieView (q : Nat) (e : Option Exec) : (s.setExec q e).dieView = s.dieView := by
  unfold setExec
  cases e with
  | none => rfl
  | some e => rfl

theorem endExec_dieView (q : Nat) (all : Option Nat) : (s.endExec q all).dieView = s.dieView := by
  unfold endExec
  split
  · rfl
  · rw [setExec_dieView]
    exact each_dieView s _ fun t x => completeDesc_dieView t q _ _ _

theorem haltQueue_dieView (q : Nat) : (s.haltQueue q).dieView = s.dieView := by simp [haltQueue, endExec_dieView]

theorem expireExec_dieView (q : Nat) : (s.expireExec q).dieView = s.dieView := by
  unfold expireExec
  dsimp only
  refine Eq.trans ?_ (finishFlight_dieView s q)
  generalize s.finishFlight q = t
  split
  · rfl
  split
  · exact haltQueue_dieView t q
  split
  · rw [setQst_dieView, endExec_dieView]
  · rw [overrun_dieView, setQst_dieView, endExec_dieView]
    exact each_dieView t _ fun u x => markDest_dieView u q _ _

theorem expireDesc_dieView (q slot : Nat) (d : List Byte) : (s.expireDesc q slot d).dieView = s.dieView := by
  unfold expireDesc
  rw [overrun_dieView, completeDesc_dieView, markDest_dieView]

theorem expireShadow_dieView (q : Nat) : (s.expireShadow q).dieView = s.dieView := by
  unfold expireShadow
  split
  · rfl
  split
  · rw [expireDesc_dieView, wr_dieView, onQueue_dieView]
  · rfl

theorem readSlot_dieView (q slot : Nat) : (s.readSlot q slot).1.dieView = s.dieView := by
  unfold readSlot
  dsimp only
  split
  · rfl
  · exact read_keeps writeBlind_dieView.toReadBlind s _ _ _

theorem expireGo_dieView (q pg fuel : Nat) : (expireQueue.go s q pg fuel).dieView = s.dieView := by
  induction fuel generalizing s with
  | zero => rfl
  | succ fuel ih =>
    unfold expireQueue.go
    split
    · rfl
    · dsimp only
      split
      · rfl
      · rw [ih, expireDesc_dieView, wr_dieView, readSlot_dieView]

theorem expireQueue_dieView (q : Nat) : (s.expireQueue q).dieView = s.dieView := by
  have executing : (match s.exec? q with
      | some e => if s.expired e.desc then s.expireExec q else s
      | none => s).dieView = s.dieView := by
    split
    · split
      · exact expireExec_dieView s q
      · rfl
    · rfl
  unfold expireQueue
  extract_lets pg t
  have executed : t.dieView = s.dieView := executing
  clear_value t
  split
  · exact executed
  · rw [expireGo_dieView, expireShadow_dieView, executed]

end View

/-! ### The die's event -/

/-- R417: the tick's work of a die is withheld as an overrun. -/
def dieOverrun (s : State) (d input : Nat) : State :=
  let s := s.edge 97 input
  let s := s.each (s.usedWells.filter fun w => dieOf w == d) fun s w => s.overrunWell w
  s.each (s.usedQueues.filter fun q => queueDie q == d) fun s q => s.expireQueue q

theorem dieOverrun_dieView (s : State) (d input : Nat) : (s.dieOverrun d input).dieView = (s.edge 97 input).dieView := by
  unfold dieOverrun
  exact (each_dieView _ _ fun t q => expireQueue_dieView t q).trans (each_dieView _ _ fun t w => overrunWell_dieView t w)

/-- R417: the die's event is remembered with its tick. -/
def dieNoted (s : State) (d input : Nat) : State :=
  let t := s.dieOverrun d input
  { t with fault := { t.fault with dieEvents := t.fault.dieEvents.filter (fun e => e.1 != d) ++ [(d, t.tick.number)] } }

theorem dieEvent_eq (s : State) (d input : Nat) : s.dieEvent d input =
    if s.fault.dieEvents.any fun e => e.1 == d && decide (s.tick.number < e.2 + 1000) then (s.dieNoted d input).safetyEdge 145
    else s.dieNoted d input := by
  have view := dieOverrun_dieView s d input
  have events : (s.dieOverrun d input).fault.dieEvents = s.fault.dieEvents := congrArg (fun v => v.2.1) view
  have number : (s.dieOverrun d input).tick.number = s.tick.number := congrArg (fun v => v.2.2.1) view
  rw [← events, ← number]
  rfl

theorem mem_addOnce_of_mem {α : Type} [DecidableEq α] {x y : α} {l : List α} (h : x ∈ l) : x ∈ addOnce y l := by
  unfold addOnce
  split
  · exact h
  · exact List.mem_append_left _ h

theorem dieNoted_edge (s : State) (d input : Nat) : (97, input) ∈ (s.dieNoted d input).evt.edges := by
  have edges : (s.dieNoted d input).evt.edges = (s.edge 97 input).evt.edges := congrArg (fun v => v.1) (dieOverrun_dieView s d input)
  rw [edges]
  exact mem_addOnce _ _

theorem dieNoted_event (s : State) (d input : Nat) : (d, s.tick.number) ∈ (s.dieNoted d input).fault.dieEvents := by
  have number : (s.dieOverrun d input).tick.number = s.tick.number := congrArg (fun v => v.2.2.1) (dieOverrun_dieView s d input)
  rw [← number]
  exact List.mem_append_right _ List.mem_cons_self

/-! ### SAFE -/

theorem safety_dieView (s : State) (input : Nat) (hard : Bool) : (s.safety input hard).dieView = s.dieView := by
  have noted : (s.safetyNoted input hard).dieView = s.dieView := by
    rw [← record_keeps writeBlind_dieView.toRecordBlind s pgSYS 15 1 5 input 0 0 []]
    unfold safetyNoted
    generalize s.record pgSYS 15 1 5 input 0 = t
    rfl
  rw [safety_eq]
  split
  · exact noted
  · unfold workEnded
    rw [each_keeps dieView _ fun t w => abandonAll_keeps passBlind_dieView t w false]
    have stopped (t : State) : t.stopPlan.withholdUnfinished.dieView = t.dieView := by
      unfold stopPlan
      split
      · rfl
      · rfl
    rw [stopped, raise_dieView, wr_dieView, noted]

/-- R417, R418: the edge of a safety input stays, and enters SAFE. -/
theorem safetyEdge_keeps (s : State) (input : Nat) :
    (∀ e ∈ s.evt.edges, e ∈ (s.safetyEdge input).evt.edges) ∧ (s.safetyEdge input).fault.dieEvents = s.fault.dieEvents ∧
      (s.safetyEdge input).rd pgSYS Reg.SYS.MODULE_STATE_MS = 4 := by
  have view := safety_dieView (s.edge 97 input) input true
  have safe := safety_moduleState (s.edge 97 input) input true
  unfold safetyEdge
  dsimp only
  generalize (s.edge 97 input).safety input true = t at view safe ⊢
  have edges : t.evt.edges = addOnce (97, input) s.evt.edges := congrArg (fun v => v.1) view
  have events : t.fault.dieEvents = s.fault.dieEvents := congrArg (fun v => v.2.1) view
  refine ⟨fun e he => ?_, events, safe⟩
  show e ∈ t.evt.edges
  rw [edges]
  exact mem_addOnce_of_mem he

theorem ibiRequest_edges (s : State) (c id : Nat) : (s.ibiRequest c id).evt.edges = s.evt.edges := by
  unfold ibiRequest
  dsimp only
  repeat' split
  all_goals rfl

theorem ibiPass_edges (s : State) : (ibiPass s).evt.edges = s.evt.edges :=
  each_keeps (fun t => t.evt.edges) (fun t (e : Nat × Nat) => t.ibiRequest e.1 e.2) (fun t e => ibiRequest_edges t e.1 e.2) _ { s with evt := { s.evt with standing := s.standingSources } }

/-- R90: what follows from a state by itself takes no edge of a source away. -/
theorem left_edges (s u : State) : (s.left u).evt.edges = u.evt.edges := by
  have derived : (derive s u).evt.edges = u.evt.edges := by
    unfold derive
    rw [ibiPass_edges, ibiPass_edges]
    exact follow_keeps (fun t => t.evt.edges) (fun _ _ => rfl) (fun _ _ => rfl) (fun _ _ => rfl) (fun _ _ => rfl) (fun _ _ => rfl) s u
  rw [left_eq]
  unfold settle
  dsimp only
  split
  · rfl
  · exact derived

/-- R417: the service planets have missed their watchdog. -/
def serviceMissed (s : State) : State := { s with fault := { s.fault with svcMiss := some s.ns } }

section Service

variable {s : State}

theorem watchdogMiss_die {die : Nat} (h : die < 4) : s.watchdogMiss die = s.dieEvent die (133 + die) := by
  unfold watchdogMiss
  exact if_pos h

theorem watchdogMiss_first (h : s.fault.svcMiss = none) : s.watchdogMiss 4 = s.serviceMissed.safety 128 true := by
  unfold watchdogMiss
  exact (if_neg (by decide)).trans (if_pos (by simp [h]))

theorem watchdogMiss_again (h : s.fault.svcMiss.isSome = true) : s.watchdogMiss 4 = s := by
  unfold watchdogMiss
  exact (if_neg (by decide)).trans (if_neg (by simp [Option.isSome_iff_ne_none.mp h]))

theorem serviceWatchdogReset_none (h : s.fault.svcMiss = none) : s.serviceWatchdogReset = s := by
  unfold serviceWatchdogReset
  rw [h]

variable {t0 : Nat} (h : s.fault.svcMiss = some t0)
include h

theorem serviceWatchdogReset_late (late : t0 + 1000000000 ≤ s.ns) : s.serviceWatchdogReset = s.resetState causeWatchdog := by
  unfold serviceWatchdogReset
  rw [h]
  exact if_pos late

theorem serviceWatchdogReset_early (early : s.ns < t0 + 1000000000) : s.serviceWatchdogReset = s := by
  unfold serviceWatchdogReset
  rw [h]
  exact if_neg (Nat.not_le.mpr early)

end Service

/-- What SAFE of a service miss leaves of the miss. -/
def missView (s : State) : Bool × Option Nat := (s.fault.safeHard, s.fault.svcMiss)

/-- R418: only a reset leaves SAFE of an input that says so; the miss stays. -/
theorem safety_serviceMiss (s : State) (input : Nat) :
    (s.safety input true).fault.safeHard = true ∧ (s.safety input true).fault.svcMiss = s.fault.svcMiss := by
  have passes : PassBlind missView := ⟨⟨fun _ _ _ _ _ => rfl, fun _ _ => rfl, fun _ _ => rfl⟩, fun _ _ => rfl, fun _ _ => rfl⟩
  have records : RecordBlind missView := ⟨fun _ _ _ _ _ => rfl, fun _ _ => rfl, fun _ _ => rfl, fun _ _ => rfl⟩
  have noted : (s.safetyNoted input true).missView = (true, s.fault.svcMiss) := by
    have recorded : (s.record pgSYS 15 1 5 input 0).missView = s.missView := record_keeps records s _ _ _ _ _ _ _ _
    have miss : (s.record pgSYS 15 1 5 input 0).fault.svcMiss = s.fault.svcMiss := congrArg Prod.snd recorded
    unfold safetyNoted missView
    generalize s.record pgSYS 15 1 5 input 0 = t at miss
    dsimp only
    rw [miss, Bool.or_true]
  have view : (s.safety input true).missView = (true, s.fault.svcMiss) := by
    rw [safety_eq]
    split
    · exact noted
    · unfold workEnded
      rw [each_keeps missView _ fun t w => abandonAll_keeps passes t w false]
      have stopped (t : State) : t.stopPlan.withholdUnfinished.missView = t.missView := by
        unfold stopPlan
        split
        · rfl
        · rfl
      have raised (t : State) (pg b : Nat) : (t.raise pg b).missView = t.missView := rfl
      have written (t : State) (pg v : Nat) (f : Field) : (t.wr pg f v).missView = t.missView := rfl
      rw [stopped, raised, written, noted]
  exact ⟨congrArg Prod.fst view, congrArg Prod.snd view⟩

end State

open State

/-- Settles O39: the die's work that overruns leaves its edge, its events and its tick alone; SAFE and the reset follow by their conditions. -/
theorem safetyReactions : Obligations.SafetyReactions := by
  intro s at_ die up hd
  dsimp only
  rw [eff_watchdogMiss s at_ die up, eff_watchdogMiss s at_ 4 up, eff_lockstepMismatch s at_ die up, eff_monitorMismatch s at_ up, eff_serviceWatchdogReset s at_ up,
    if_pos hd]
  refine ⟨leaves_congr (watchdogMiss_die hd), rfl, fun n => ?_, fun first => ⟨_, rfl, ?_⟩, fun again => leaves_congr (watchdogMiss_again again), rfl,
    fun t0 miss => ⟨fun late => leaves_congr (serviceWatchdogReset_late miss late), fun early => leaves_congr (serviceWatchdogReset_early miss early)⟩,
    fun none => leaves_congr (serviceWatchdogReset_none none)⟩
  · rw [left_edges, left_fault, dieEvent_eq]
    have edge := dieNoted_edge (s.advance at_) die n
    have event := dieNoted_event (s.advance at_) die n
    obtain ⟨edges, events, safe⟩ := safetyEdge_keeps ((s.advance at_).dieNoted die n) 145
    split
    · exact ⟨edges _ edge, by rw [events]; exact event, fun _ => left_moduleState _ _ safe (by decide) (by decide)⟩
    next no =>
      refine ⟨edge, event, fun ⟨e, he, same, near⟩ => absurd ?_ no⟩
      exact List.any_eq_true.mpr ⟨e, he, by simp [same, near]⟩
  · rw [watchdogMiss_first (s := s.advance at_) first, left_fault]
    have safe := safety_moduleState (serviceMissed (s.advance at_)) 128 true
    obtain ⟨hard, miss⟩ := safety_serviceMiss (serviceMissed (s.advance at_)) 128
    exact ⟨left_moduleState _ _ safe (by decide) (by decide), hard, miss, left_faultN_safe _ _ safe⟩

end Sys2Proof.Machine
end

section
/-! PROOFS. Resets, and firmware updates (R522, R534, R535, R543, R547, R548, R555, R561). -/

namespace Sys2Proof.Machine

namespace State

variable {s : State}

/-! ### Resets -/

/-- R535: the state after a reset with a cause, the pins as given. -/
def afterReset (s : State) (cause : Nat) (p : PinUnit) : State :=
  { State.reset with
    regs := [(0x05C, BitVec.ofNat 32 (2 ^ cause))], pins := { p with faultN := false }
    boot := {
      flash := (if s.boot.writing.isSome then s.onSlot (1 - s.boot.flash.active) fun x => { x with ok := false } else s).boot.flash
      held := true }
    pending := s.pending, free := s.free }

/-- A reset takes the pins as they stand; nothing of the time survives. -/
theorem resetState_pins (s : State) (t cause : Nat) (p : PinUnit) : ({ s.advance t with pins := p } : State).resetState cause = s.afterReset cause p := by
  rw [resetState_eq]
  unfold afterReset
  cases writing : s.boot.writing.isSome
  · rw [if_neg (by rw [show ({ s.advance t with pins := p } : State).boot.writing.isSome = false from writing]; decide), if_neg (by decide)]
    rfl
  · rw [if_pos (show ({ s.advance t with pins := p } : State).boot.writing.isSome = true from writing), if_pos rfl]
    rfl

/-- R522: every sensor has been cool for 10 s in a shutdown. -/
def cooled (s : State) : Prop := s.therm.shutdown = true ∧ ∃ t0, s.therm.coolSince = some t0 ∧ t0 + 10000000000 ≤ s.ns

theorem thermalReset_cool (h : s.cooled) : s.thermalReset = s.resetState causeThermal := by
  obtain ⟨shutdown, t0, since, long⟩ := h
  unfold thermalReset
  rw [since]
  exact if_pos (by simp [shutdown, long])

theorem thermalReset_waits (h : ¬s.cooled) : s.thermalReset = s := by
  unfold thermalReset
  split
  · rfl
  next t0 since => exact if_neg fun yes => h ⟨(and_decide_iff.mp yes).1, t0, since, (and_decide_iff.mp yes).2⟩

/-! ### Updates -/

theorem bootCommand_recovery (h : s.rd pgBOOT Reg.BOOT.BOOT_STAT_PHASE = 5) (v : Nat) : s.bootCommand v = if bitAt v 0 then s.recoveryUpdate else s := by
  unfold bootCommand
  exact if_pos h

section Commands

variable (h : s.rd pgBOOT Reg.BOOT.BOOT_STAT_PHASE ≠ 5)
include h

theorem bootCommand_update : s.bootCommand 1 = s.bootUpdate := by
  unfold bootCommand
  rw [if_neg h]
  simp [bitAt]

theorem bootCommand_commit : s.bootCommand 2 = s.bootCommit := by
  unfold bootCommand
  rw [if_neg h]
  simp [bitAt]

theorem bootCommand_save : s.bootCommand 4 = s.saveCfg := by
  unfold bootCommand
  rw [if_neg h]
  simp [bitAt]

end Commands

theorem slot_onSlot (s : State) (k : Nat) (f : FwSlot → FwSlot) : (s.onSlot k f).slot k = f (s.slot k) := by
  by_cases h : k = 0
  · subst h
    rfl
  · unfold slot onSlot
    rw [if_neg h, if_neg h]
    show (if k = 0 then _ else _ : Flash).slotB = _
    rw [if_neg h]

theorem slot_of_flash {s t : State} (h : t.boot.flash = s.boot.flash) (k : Nat) : t.slot k = s.slot k := by
  unfold slot
  rw [h]

/-- R547: the reason of an update's refusal, 0 when it is taken. -/
def updateWhy (s : State) : Nat :=
  if (s.imageReason s.updAddr false).1 ≠ 0 then (s.imageReason s.updAddr false).1 else if s.boot.writing.isSome then 6 else if s.trialRunning then 7 else 0

/-- R547: an image is being written. -/
def updateTaken (s : State) (img : List Byte) : State :=
  (({ s with boot := { s.boot with writing := some img } }).wr pgBOOT Reg.BOOT.UPD_STAT_ST 2).wr pgBOOT Reg.BOOT.UPD_STAT_REASON 0

theorem bootUpdate_eq : s.bootUpdate = if s.updateWhy = 0 then s.updateTaken (s.imageReason s.updAddr false).2 else s.rejectUpdate s.updateWhy := by
  unfold bootUpdate
  exact ite_not (s.updateWhy = 0) _ _

theorem advance_updateWhy (t : Nat) : (s.advance t).updateWhy = s.updateWhy := by
  unfold updateWhy
  rw [advance_updAddr, advance_imageReason, advance_trialRunning, advance_boot]

theorem advance_bootUpdate (t : Nat) : (s.advance t).bootUpdate =
    if s.updateWhy = 0 then (s.advance t).updateTaken (s.imageReason s.updAddr false).2 else (s.advance t).rejectUpdate s.updateWhy := by
  rw [bootUpdate_eq, advance_updateWhy, advance_updAddr, advance_imageReason]

/-- R543: an image in RECOVERY goes to slot A, and the module resets. -/
def recovered (s : State) (img : List Byte) : State := ((s.onSlot 0 fun _ => slotOf img).onFlash fun f => { f with active := 0 }).resetState causeSoft

theorem recoveryUpdate_eq : s.recoveryUpdate =
    if (s.imageReason s.updAddr true).1 = 0 then s.recovered (s.imageReason s.updAddr true).2 else s.rejectUpdate (s.imageReason s.updAddr true).1 := by
  unfold recoveryUpdate
  exact ite_not ((s.imageReason s.updAddr true).1 = 0) _ _

theorem advance_recoveryUpdate (t : Nat) : (s.advance t).recoveryUpdate = if (s.imageReason s.updAddr true).1 = 0 then
    (s.advance t).recovered (s.imageReason s.updAddr true).2 else (s.advance t).rejectUpdate (s.imageReason s.updAddr true).1 := by
  rw [recoveryUpdate_eq, advance_updAddr, advance_imageReason]

theorem rejectUpdate_boot (why : Nat) : (s.rejectUpdate why).boot = s.boot := by
  unfold rejectUpdate
  rw [raise_boot, wr_boot, wr_boot]

section Done

variable {img : List Byte} (h : s.boot.writing = some img)
include h

/-- R547: an update that verifies is the next boot's trial. -/
theorem updateDone_good : s.updateDone true =
    ((((({ s with boot := { s.boot with writing := none } }).onSlot (1 - s.boot.flash.active) fun _ => slotOf img).onFlash fun f =>
      { f with trial := some (1 - s.boot.flash.active) }).wr pgBOOT Reg.BOOT.UPD_STAT_ST 3).wr pgBOOT Reg.BOOT.UPD_STAT_REASON 0).raise pgBOOT 7 := by
  unfold updateDone
  rw [h]
  exact if_pos rfl

theorem updateDone_bad : s.updateDone false =
    (({ s with boot := { s.boot with writing := none } }).onSlot (1 - s.boot.flash.active) fun x => { x with ok := false }).rejectUpdate 4 := by
  unfold updateDone
  rw [h]
  exact if_neg Bool.false_ne_true

theorem updateDone_good_shows : let t := s.updateDone true
    t.boot.writing = none ∧ t.boot.flash.trial = some (1 - s.boot.flash.active) ∧ t.slot (1 - s.boot.flash.active) = slotOf img ∧
      t.rd pgBOOT Reg.BOOT.UPD_STAT_ST = 3 := by
  dsimp only
  rw [updateDone_good h]
  have slot := slot_onSlot { s with boot := { s.boot with writing := none } } (1 - s.boot.flash.active) fun _ => slotOf img
  have none : (({ s with boot := { s.boot with writing := none } } : State).onSlot (1 - s.boot.flash.active) fun _ => slotOf img).boot.writing = none := rfl
  generalize ({ s with boot := { s.boot with writing := Option.none } } : State).onSlot (1 - s.boot.flash.active) (fun _ => slotOf img) = t at slot none ⊢
  refine ⟨?_, ?_, ?_, ?_⟩
  · rw [raise_boot, wr_boot, wr_boot]
    exact none
  · rw [raise_boot, wr_boot, wr_boot]
    rfl
  · refine (slot_of_flash (s := t.onFlash fun f => { f with trial := some (1 - s.boot.flash.active) }) ?_ _).trans slot
    rw [raise_boot, wr_boot, wr_boot]
  · rw [rd_raise_ne _ _ _ _ _ _ (by decide),
      rd_wr_apart _ pgBOOT pgBOOT Reg.BOOT.UPD_STAT_REASON Reg.BOOT.UPD_STAT_ST _ 0 0 (by decide) (by decide) (by decide)]
    exact rd_wr _ _ _ _ _ (by decide)

theorem updateDone_bad_shows : (s.updateDone false).boot.writing = none ∧ ((s.updateDone false).slot (1 - s.boot.flash.active)).ok = false := by
  have slot := slot_onSlot { s with boot := { s.boot with writing := none } } (1 - s.boot.flash.active) fun x => { x with ok := false }
  rw [updateDone_bad h]
  refine ⟨congrArg BootUnit.writing (rejectUpdate_boot 4), ?_⟩
  rw [slot_of_flash (congrArg BootUnit.flash (rejectUpdate_boot 4)), slot]

end Done

/-- R548: COMMIT of a running trial. -/
theorem bootCommit_trial (h : s.trialRunning = true) : let k := s.rd pgBOOT Reg.BOOT.BOOT_STAT_SLOT
    s.bootCommit.boot.flash.active = k ∧
      s.bootCommit.boot.flash.minSvn = if (s.slot k).raiseSvn then max s.boot.flash.minSvn (s.slot k).svn else s.boot.flash.minSvn := by
  unfold bootCommit
  rw [if_neg (by simp [h])]
  dsimp only
  rw [wr_boot]
  exact ⟨rfl, rfl⟩

end State

open State

/-- R543: UPDATE does nothing of a recovery outside RECOVERY. -/
theorem recoveryUpdate_outside (s : State) (at_ path : Nat) (up : s.pathUp path pgBOOT = true) (h : s.rd pgBOOT Reg.BOOT.BOOT_STAT_PHASE ≠ 5) :
    exec (.recoveryUpdate at_ path) s = .next (s.left (s.advance at_)) := by
  rw [exec_recoveryUpdate]
  unfold execRecoveryUpdate
  rw [onBus_up s at_ path _ (pathUp_held up) (pathUp_runs up)]
  exact leaves_congr (if_neg h)

/-- Settles O40: each reset by the pins that it leaves. -/
theorem resetsHold : Obligations.ResetsHold := by
  intro s at_
  dsimp only
  rw [eff_powerOn s at_, eff_pwrgdFall s at_, eff_brownOut s at_, eff_resetNAssert s at_]
  refine ⟨fun off => leaves_congr ?_, fun on => leaves_congr (if_pos on), leaves_congr (resetState_pins s at_ 0 _), leaves_congr (resetState_pins s at_ 0 _),
    fun on free => leaves_congr ?_, fun waits => leaves_congr (if_pos (by simpa using waits)), fun free cool => ?_, fun free warm => ?_⟩
  · exact (if_neg (by rw [advance_pins, off]; decide)).trans (resetState_pins s at_ 0 _)
  · exact (if_neg (by rw [advance_pins, advance_boot, on, free]; decide)).trans (resetState_pins s at_ 1 _)
  · rw [eff_thermalReset s at_ free]
    exact leaves_congr ((thermalReset_cool (s := s.advance at_) cool).trans (resetState_pins s at_ 4 s.pins))
  · rw [eff_thermalReset s at_ free]
    exact leaves_congr (thermalReset_waits (s := s.advance at_) warm)

/-- Settles O42: each command of BOOT.CMD, in RECOVERY and outside it. -/
theorem firmwareUpdate : Obligations.FirmwareUpdate := by
  intro s at_ path img up cool
  have running : s.coreUp = true := by
    unfold coreUp
    rw [pathUp_held up, cool]
    rfl
  dsimp only
  rw [eff_bootUpdate s at_ path up, eff_bootCommit s at_ path up, eff_saveCfg s at_ path up, eff_updateDone s at_ true running, eff_updateDone s at_ false running]
  refine ⟨fun normal => leaves_congr ((bootCommand_update (s := s.advance at_) normal).trans (advance_bootUpdate at_)), fun writing => ⟨⟨_, rfl, ?_⟩, ⟨_, rfl, ?_⟩⟩, fun idle ok => ?_,
    fun normal trial => ⟨_, rfl, ?_⟩, fun normal none => leaves_congr ((bootCommand_commit (s := s.advance at_) normal).trans (if_pos (by rw [advance_trialRunning, none]; rfl))),
    fun normal => leaves_congr (bootCommand_save (s := s.advance at_) normal), fun rom => ?_,
    fun rom => leaves_congr ((bootCommand_recovery (s := s.advance at_) rom 1).trans ((if_pos (by decide)).trans (advance_recoveryUpdate at_))),
    fun rom => leaves_congr ((bootCommand_recovery (s := s.advance at_) rom 2).trans (if_neg (by decide))), fun rom => leaves_congr ((bootCommand_recovery (s := s.advance at_) rom 4).trans (if_neg (by decide))),
    recoveryUpdate_outside s at_ path up⟩
  · have shows := updateDone_good_shows (s := s.advance at_) writing
    rw [left_rd _ _ (regAddr_not_follower (by decide) _), slot_of_flash (congrArg BootUnit.flash (left_boot s ((s.advance at_).updateDone true))), left_boot]
    exact shows
  · rw [slot_of_flash (congrArg BootUnit.flash (left_boot s ((s.advance at_).updateDone false))), left_boot]
    exact updateDone_bad_shows (s := s.advance at_) writing
  · rw [eff_updateDone s at_ ok running]
    unfold updateDone
    rw [advance_boot, idle]
  · rw [left_boot, bootCommand_commit (s := s.advance at_) normal]
    exact bootCommit_trial (s := s.advance at_) trial
  · rw [eff_recoveryUpdate s at_ path up rom]
    exact leaves_congr (advance_recoveryUpdate at_)

end Sys2Proof.Machine
end

section
/-! PROOFS. Boundaries, edges of TICK_IN, the reference clock, and reports of pages (R24, R29 to R34, R75, R136, R562, R573). -/

namespace Sys2Proof.Machine

namespace State

variable {s : State}

/-! ### Boundaries -/

/-- A STATS record stamped in the tick at its very start, in the state right after reset. -/
def stampedState : State := { State.reset with pump := { State.reset.pump with stamped := [(0, 0)] } }

/-! ### Edges of TICK_IN (R24) -/

/-- R98: the pin's edge shows. -/
def tickEdge (s : State) (level : Bool) : State := ({ s with pins := { s.pins with tickIn := level } }).pinEdge Reg.EVT.FILT_TICK_SENSE 6 level

theorem tickEdge_tick (level : Bool) : (s.tickEdge level).tick = s.tick := by
  unfold tickEdge pinEdge
  dsimp only
  split
  · rw [raise_tick]
  · rfl

theorem tickEdge_delay (level : Bool) : (s.tickEdge level).edgeDelay = s.edgeDelay := by
  unfold tickEdge pinEdge edgeDelay
  dsimp only
  split
  · rw [rd_raise_ne _ _ _ _ _ _ (by decide)]
    rfl
  · rfl

/-- R24: an edge that rises `e` ns into the tick is accepted. -/
def edgeAccepted (s : State) : Prop :=
  s.tick.src = 1 ∧ s.edgeDelay ≤ s.tick.off ∧
    (s.tick.acquiring = false → s.tick.len - 1000 ≤ s.tick.off - s.edgeDelay ∧ s.tick.off - s.edgeDelay ≤ s.tick.len + 1000) ∧
    (s.tick.acquiring = true → s.tick.len ≤ s.tick.off - s.edgeDelay ∧ s.tick.off - s.edgeDelay ≤ 2 * s.tick.len - 11)

theorem tickInEdge_falling : s.tickInEdge false = s.tickEdge false := by
  unfold tickInEdge
  exact if_pos rfl

theorem tickInEdge_rising : s.tickInEdge true =
    if s.tick.src != 1 || decide (s.tick.off < s.edgeDelay) then s.tickEdge true
    else if decide ((if s.tick.acquiring then s.tick.len else s.tick.len - 1000) ≤ s.tick.off - s.edgeDelay) &&
        decide (s.tick.off - s.edgeDelay ≤ if s.tick.acquiring then 2 * s.tick.len - 11 else s.tick.len + 1000) then
      (s.tickEdge true).acceptEdge (s.tick.off - s.edgeDelay)
    else s.tickEdge true := by
  have tick := tickEdge_tick (s := s) true
  have delay := tickEdge_delay (s := s) true
  rw [← tick, ← delay]
  rfl

theorem tickInEdge_accepted (h : s.edgeAccepted) : s.tickInEdge true = (s.tickEdge true).acceptEdge (s.tick.off - s.edgeDelay) := by
  obtain ⟨src, delayed, tracking, acquiring⟩ := h
  rw [tickInEdge_rising, if_neg (by simp [src, delayed]), if_pos]
  cases h : s.tick.acquiring
  · simpa using tracking h
  · simpa using acquiring h

theorem tickInEdge_ignored (h : ¬s.edgeAccepted) : s.tickInEdge true = s.tickEdge true := by
  rw [tickInEdge_rising]
  split
  · rfl
  next near =>
    refine if_neg fun within => h ?_
    simp only [Bool.or_eq_true, bne_iff_ne, ne_eq, decide_eq_true_eq, not_or, not_not, not_lt] at near
    refine ⟨near.1, near.2, fun tracking => ?_, fun acquiring => ?_⟩
    · simpa [tracking] using within
    · simpa [acquiring] using within

/-! ### The reference clock (R562) -/

theorem refclkLost_gone (h : s.pins.refclk = false) : s.refclkLost = s := by
  unfold refclkLost
  exact if_pos (by rw [h]; rfl)

theorem refclkLost_held (h : s.pins.refclk = true) : s.refclkLost =
    let t := ({ s with pins := { s.pins with refclk := false } }).raise pgSYS 10
    if s.tick.src = 0 then t.holdover else t := by
  have src : (({ s with pins := { s.pins with refclk := false } } : State).raise pgSYS 10).tick.src = s.tick.src := by rw [raise_tick]
  unfold refclkLost
  refine (if_neg (by rw [h]; decide)).trans ?_
  rw [← src]

/-! ### Reports of pages (R75) -/

section Reports

variable {pg : Nat}

/-- R75: a page in STARTING is ready, within its limit. -/
def startReady (s : State) (pg : Nat) : Prop := s.st pg = 1 ∧ s.mayStart pg = true ∧ ∀ l, startLimit pg = some l → s.startAge pg ≤ l

theorem startSequenceDone_ready (h : s.startReady pg) : s.startSequenceDone pg = { s with txn := { s.txn with startDone := addOnce pg s.txn.startDone } } := by
  obtain ⟨starting, ready, within⟩ := h
  unfold startSequenceDone
  refine if_pos ?_
  simp only [Bool.and_eq_true, beq_iff_eq, Option.all_eq_true, decide_eq_true_eq]
  exact ⟨⟨starting, ready⟩, within⟩

theorem startSequenceDone_waits (h : ¬s.startReady pg) : s.startSequenceDone pg = s := by
  unfold startSequenceDone
  refine if_neg fun yes => h ?_
  simp only [Bool.and_eq_true, beq_iff_eq, Option.all_eq_true, decide_eq_true_eq] at yes
  exact ⟨yes.1.1, yes.1.2, yes.2⟩

/-- R75, R398: the block of a page has a fault that no unit accounts for. -/
def blockFaulty (s : State) (pg : Nat) : Prop := 1 ≤ s.st pg ∧ s.st pg ≤ 3 ∧ ∃ k, pageKind pg = some k ∧ k.alwaysOn = false ∧ k ≠ .well

theorem blockFaulty_iff : s.blockFaulty pg ↔
    (decide (1 ≤ s.st pg) && decide (s.st pg ≤ 3) && (pageKind pg).any fun k => !k.alwaysOn && k != .well) = true := by
  unfold blockFaulty
  simp [Option.any_eq_true, and_assoc]

theorem startSequenceFail_early (h : ¬(s.st pg = 1 ∧ s.startLate pg = true)) : s.startSequenceFail pg =
    if decide (1 ≤ s.st pg) && decide (s.st pg ≤ 3) && (pageKind pg).any fun k => !k.alwaysOn && k != .well then
      { s with txn := { s.txn with blockFault := addOnce pg s.txn.blockFault } }
    else s := by
  unfold startSequenceFail
  exact if_neg (by simpa using h)

theorem drainDoneRow_drained (stops : s.st pg = 3) (drained : s.drained pg = true) : s.drainDoneRow pg =
    let t := s.drainEnds pg
    { t with txn := { t.txn with drainDone := addOnce pg t.txn.drainDone } } := by
  unfold drainDoneRow
  exact if_pos (by simp [stops, drained])

theorem drainDoneRow_waits (h : s.st pg ≠ 3 ∨ s.drained pg = false) : s.drainDoneRow pg = s := by
  unfold drainDoneRow
  refine if_neg ?_
  rcases h with h | h
  · simp [h]
  · simp [h]

theorem pageRange_well {w : Nat} (h : w < 832) : pageRange (pgWell w) = some (.well, 0x100, 832) := by
  unfold pageRange pgWell
  iterate 17 rw [find_skip _ _ _ (by simp only [decide_eq_false_iff_not]; omega)]
  rw [find_here _ _ _ (by simp only [decide_eq_true_eq]; omega)]

theorem drainEnds_well {w : Nat} (h : w < 832) : s.drainEnds (pgWell w) = s.emptyPlanes w := by
  unfold drainEnds
  rw [pageRange_well h]
  exact congrArg s.emptyPlanes (Nat.add_sub_cancel_left 0x100 w)

/-- The pages of the range of wells are the wells' pages. -/
theorem pageRange_only_wells {b n : Nat} (h : pageRange pg = some (.well, b, n)) : ∃ w, w < 832 ∧ pg = pgWell w := by
  have here := List.find?_some h
  have listed := List.mem_of_find?_eq_some h
  simp only [decide_eq_true_eq] at here
  simp only [List.mem_cons, List.not_mem_nil, or_false, Prod.mk.injEq, reduceCtorEq, false_and, false_or, true_and] at listed
  refine ⟨pg - 0x100, ?_, ?_⟩
  · omega
  · unfold pgWell
    omega

theorem drainEnds_other (h : ∀ w, w < 832 → pg ≠ pgWell w) : s.drainEnds pg = s := by
  unfold drainEnds
  split
  next range =>
    obtain ⟨w, hw, same⟩ := pageRange_only_wells range
    exact absurd same (h w hw)
  next => rfl

end Reports

end State

open State

/-- Refutes O44: the boundary moves the timestamp of a STATS record that was stamped at or after it to the new tick (R573), so that the new
tick's memory is not the old one's. -/
theorem not_boundariesFall : ¬Obligations.BoundariesFall := by
  intro h
  obtain ⟨_, _, _, mem⟩ := h.2 stampedState 0 rfl
  revert mem
  decide +kernel

/-- Settles O45: an edge by its window; the reference clock by whether it was there and which source is in force. -/
theorem tickInEdges : Obligations.TickInEdges := by
  refine ⟨fun s at_ up => ?_, fun s at_ up => ?_⟩
  · dsimp only
    rw [eff_tickInEdge s at_ false up, eff_tickInEdge s at_ true up]
    exact ⟨leaves_congr tickInEdge_falling, fun yes => leaves_congr (tickInEdge_accepted (s := s.advance at_) yes),
      fun no => leaves_congr (tickInEdge_ignored (s := s.advance at_) no)⟩
  · rw [eff_refclkLost s at_ up, eff_refclkRestore s at_ up]
    exact ⟨fun held other => leaves_congr ((refclkLost_held (s := s.advance at_) held).trans (if_neg other)),
      fun held internal => leaves_congr ((refclkLost_held (s := s.advance at_) held).trans (if_pos internal)),
      fun gone => leaves_congr (refclkLost_gone (s := s.advance at_) gone), rfl⟩

/-- Settles O46: each report by its condition; of the pages that drain, those of wells empty their planes. -/
theorem pageReports : Obligations.PageReports := by
  intro s at_ pg up
  dsimp only
  rw [eff_startSequenceDone s at_ pg up, eff_startSequenceFail s at_ pg up, eff_drainDone s at_ pg up]
  refine ⟨fun ready => leaves_congr (startSequenceDone_ready (s := s.advance at_) ready), fun no => leaves_congr (startSequenceDone_waits (s := s.advance at_) no),
    fun late => leaves_congr (if_pos ?_), fun early fault => leaves_congr ((startSequenceFail_early (s := s.advance at_) early).trans (if_pos (blockFaulty_iff.mp fault))),
    fun early no => leaves_congr ((startSequenceFail_early (s := s.advance at_) early).trans (if_neg fun h => no (blockFaulty_iff.mpr h))),
    fun stops drained other => leaves_congr ?_, fun w hw stops drained => ?_, fun no => leaves_congr (drainDoneRow_waits (s := s.advance at_) no)⟩
  · rw [Bool.and_eq_true, decide_eq_true_eq]
    exact late
  · rw [drainDoneRow_drained (s := s.advance at_) stops drained, drainEnds_other other]
    rfl
  · rw [eff_drainDone s at_ (pgWell w) up, drainDoneRow_drained (s := s.advance at_) stops drained, drainEnds_well hw]

end Sys2Proof.Machine
end

section
/-! PROOFS. Temperature, throttling and power (R515 to R530). -/

namespace Sys2Proof.Machine

namespace State

/-! ### What samples of the temperature leave of the sensors -/

/-- The sensors, and whether the module is in the thermal shutdown. -/
def sensorView (s : State) : List (Nat × Sensor) × Bool := (s.therm.sensors, s.therm.shutdown)

section View

variable (s : State)

@[simp] theorem wr_sensorView (pg : Nat) (f : Field) (v i : Nat) : (s.wr pg f v i).sensorView = s.sensorView := rfl

@[simp] theorem wrBit_sensorView (pg : Nat) (f : Field) (b : Nat) (v : Bool) : (s.wrBit pg f b v).sensorView = s.sensorView := rfl

@[simp] theorem raise_sensorView (pg b : Nat) : (s.raise pg b).sensorView = s.sensorView := rfl

@[simp] theorem bump_sensorView (pg : Nat) (f : Field) (n i : Nat) : (s.bump pg f n i).sensorView = s.sensorView := rfl

@[simp] theorem onWell_sensorView (w : Nat) (f : Well → Well) : (s.onWell w f).sensorView = s.sensorView := rfl

@[simp] theorem onWellCal_sensorView (w : Nat) (f : WellCal → WellCal) : (s.onWellCal w f).sensorView = s.sensorView := rfl

@[simp] theorem onFt_sensorView (w : Nat) (f : FtRec → FtRec) : (s.onFt w f).sensorView = s.sensorView := rfl

@[simp] theorem onGroup_sensorView (g : Nat) (f : ThermGroup → ThermGroup) : (s.onGroup g f).sensorView = s.sensorView := rfl

@[simp] theorem putSeq_sensorView (q : CalSeq) : (s.putSeq q).sensorView = s.sensorView := rfl

@[simp] theorem cutSession_sensorView (x : Session) : (s.cutSession x).sensorView = s.sensorView := rfl

@[simp] theorem ite_sensorView (c : Prop) [Decidable c] (a b : State) :
    (if c then a else b).sensorView = if c then a.sensorView else b.sensorView := apply_ite sensorView c a b

@[simp] theorem each_sensorView {α : Type} (l : List α) {f : State → α → State} (h : ∀ t a, (f t a).sensorView = t.sensorView) :
    (s.each l f).sensorView = s.sensorView :=
  each_keeps sensorView f h l s

theorem askFence_sensorView (w c q : Nat) : (s.askFence w c q).sensorView = s.sensorView := askFence_keeps s (fun _ _ => rfl) w c q

theorem demandReturn_sensorView (w : Nat) : (s.demandReturn w).sensorView = s.sensorView := by simp [demandReturn]

theorem dropRepeat_sensorView (c : Capture) : (s.dropRepeat c).sensorView = s.sensorView := by
  unfold dropRepeat
  dsimp only
  rw [wr_sensorView, wr_sensorView, wrBit_sensorView]
  rfl

theorem requeueRepeat_sensorView (w : Nat) : (s.requeueRepeat w).sensorView = s.sensorView := by simp [requeueRepeat, dropRepeat_sensorView]

theorem interruptWork_sensorView (w : Nat) : (s.interruptWork w).sensorView = s.sensorView := by
  unfold interruptWork
  refine (each_sensorView _ _ fun t x => ?_).trans (each_sensorView s _ fun t q => ?_)
  · dsimp only
    split
    · rw [onFt_sensorView, cutSession_sensorView]
    · rw [demandReturn_sensorView, cutSession_sensorView]
    · rw [requeueRepeat_sensorView, cutSession_sensorView]
  · simp [demandReturn_sensorView]

theorem showFast_sensorView : s.showFast.sensorView = s.sensorView := by simp [showFast]

theorem goFast_sensorView (g : Nat) : (s.goFast g).sensorView = s.sensorView := by simp [goFast, showFast_sensorView]

theorem stepResume_sensorView (w : Nat) : (s.stepResume w).sensorView = s.sensorView := by
  unfold stepResume
  split
  · rw [wr_sensorView]
    rfl
  · rfl

/-- The count of a well's calm samples is no reading of a sensor. -/
theorem calm_sensorView (l : List (Nat × Nat)) : ({ s with therm := { s.therm with calm := l } } : State).sensorView = s.sensorView := rfl

theorem hist_sensorView (l : List (Nat × List (Nat × Int))) : ({ s with therm := { s.therm with hist := l } } : State).sensorView = s.sensorView := rfl

theorem stepWell_sensorView (w : Nat) (t : Int) : (s.stepWell w t).sensorView = s.sensorView := by
  unfold stepWell
  extract_lets h rate moved therm s1 calm
  have e1 : s1.sensorView = s.sensorView := hist_sensorView s _
  have ec (u : State) (n : Nat) : (calm u n).sensorView = u.sensorView := calm_sensorView u _
  clear_value s1 calm
  split
  · split
    · rw [goFast_sensorView, ec, e1]
    · rw [raise_sensorView, bump_sensorView, bump_sensorView, interruptWork_sensorView, onWell_sensorView, goFast_sensorView, ec, e1]
  split
  · rw [stepResume_sensorView, ec, e1]
  · exact e1

theorem loopCorrect_sensorView (w : Nat) : (s.loopCorrect w).sensorView = s.sensorView := by
  unfold loopCorrect
  extract_lets l
  clear_value l
  rfl

theorem strobeHeaters_sensorView (w : Nat) (t : Int) : (s.strobeHeaters w t).sensorView = s.sensorView := by
  unfold strobeHeaters
  extract_lets s1 phi cs s2 codes conv s3
  have e2 : s2.sensorView = s.sensorView := by
    simp only [s2]
    rw [ite_sensorView, onWellCal_sensorView, ite_self]
    exact loopCorrect_sensorView s w
  clear_value s2 codes
  split
  · exact e2
  · exact e2

theorem sampleWellTemp_sensorView (w : Nat) : (s.sampleWellTemp w).sensorView = s.sensorView := by
  unfold sampleWellTemp
  extract_lets t
  have asked : t.sensorView = s.sensorView := by simp [t, askFence_sensorView]
  clear_value t
  split
  · exact asked
  · rw [strobeHeaters_sensorView, stepWell_sensorView, asked]

theorem limitGroup_sensorView (g : Nat) : (s.limitGroup g).sensorView = s.sensorView := by
  unfold limitGroup
  split
  · rfl
  · dsimp only
    rw [onGroup_sensorView, ite_sensorView, raise_sensorView, bump_sensorView, ite_self]

theorem setLevel_sensorView (d v : Nat) : (s.setLevel d v).sensorView = s.sensorView := by
  have clocks : (if s.levelOf d < v then s.riseClock d else s.rebaseClock d).sensorView = s.sensorView := by
    split
    · rfl
    · rfl
  unfold setLevel
  extract_lets old t u
  have e : u.sensorView = s.sensorView := (wr_sensorView t _ _ _ _).trans clocks
  clear_value u
  simp [e]

theorem raiseLevels_sensorView : s.raiseLevels.sensorView = s.sensorView :=
  each_sensorView s _ fun t d => by simp [setLevel_sensorView]

theorem showHot_sensorView : s.showHot.sensorView = s.sensorView := by
  unfold showHot
  dsimp only
  split
  · simp
  · simp

/-! ### The thermal shutdown -/

theorem light_dieView (x : LightUnit) : ({ s with light := x } : State).dieView = s.dieView := rfl

theorem onSource_dieView (i : Nat) (f : Source → Source) : (s.onSource i f).dieView = s.dieView := by
  unfold onSource setSource
  split <;> rfl

theorem driveBias_dieView (i code : Nat) : (s.driveBias i code).dieView = s.dieView := by
  simp [driveBias, onSource_dieView]

theorem darken_dieView (i cs bias : Nat) : (s.darken i cs bias).dieView = s.dieView := by
  unfold darken
  rw [onSource_dieView, driveBias_dieView]
  exact onSource_dieView s i _

theorem clearSource_dieView (i : Nat) : (s.clearSource i).dieView = s.dieView := by
  unfold clearSource
  dsimp only
  split
  · rfl
  split
  · rw [onSource_dieView, darken_dieView]
  · rw [onSource_dieView, driveBias_dieView]
    exact onSource_dieView s i _

theorem onWell_dieView (w : Nat) (f : Well → Well) : (s.onWell w f).dieView = s.dieView := rfl

theorem clearWell_dieView (w : Nat) : (s.clearWell w).dieView = s.dieView := by
  unfold clearWell emptyPlanes
  dsimp only
  rw [onWell_dieView, abandonRunning_keeps passBlind_dieView, onWell_dieView, ite_dieView, raise_dieView, ite_self]

theorem forceClear_dieView : s.forceClear.dieView = s.dieView := by
  refine Eq.trans (each_dieView _ _ fun t i => clearSource_dieView t i) ?_
  exact each_dieView s _ fun t w => clearWell_dieView t w

/-- R522: the shutdown leaves the readings of the sensors. -/
theorem critical_sensors : s.critical.therm.sensors = s.therm.sensors := by
  unfold critical
  extract_lets s0 therm s1 s2 s3 light s4 s5 s6
  have e1 : s1.therm.sensors = s.therm.sensors := rfl
  have e2 : s2.dieView = s1.dieView := by
    simp only [s2]
    unfold beginClear
    split
    · rfl
    · exact forceClear_dieView s1
  have e3 : s3.dieView = s2.dieView := each_dieView _ _ fun t i => by
    rw [ite_dieView, darken_dieView, ite_self]
  have e4 : s4.dieView = s3.dieView := light_dieView s3 _
  have e5 : s5.dieView = s4.dieView := each_dieView s4 _ fun t w => overrunWell_dieView t w
  have e6 : s6.dieView = s5.dieView := each_dieView s5 _ fun t q => expireQueue_dieView t q
  have all : ((s6.raise pgTHERM 10).safety 141 true).dieView = s1.dieView := by
    rw [safety_dieView, raise_dieView, e6, e5, e4, e3, e2]
  have sensors (u : State) : u.dieView.2.2.2.sensors = u.therm.sensors := rfl
  rw [← sensors, all, sensors]

end View

/-! ### A sample of one sensor -/

variable {s : State}

theorem sensor_onSensor (s : State) (i : Nat) (f : Sensor → Sensor) : (s.onSensor i f).sensor i = f (s.sensor i) := by
  unfold onSensor sensor
  dsimp only
  rw [sparseGet_put, if_pos rfl]

theorem sensor_of_sensors {s t : State} (h : t.therm.sensors = s.therm.sensors) (i : Nat) : t.sensor i = s.sensor i := by
  unfold sensor
  rw [h]

theorem sensor_of_view {s t : State} (h : t.sensorView = s.sensorView) (i : Nat) : t.sensor i = s.sensor i :=
  sensor_of_sensors (congrArg Prod.fst h) i

theorem shutdown_of_view {s t : State} (h : t.sensorView = s.sensorView) : t.therm.shutdown = s.therm.shutdown := congrArg Prod.snd h

/-- R516: a sensor that has been judged holds its reading, and a run of critical samples only while it reads CRIT_C or more. -/
theorem judgeSensor_sensor (old s : State) (x : Reading) : ∃ y, (judgeSensor old s x).sensor x.index = y ∧ y.t = (s.sensor x.index).t ∧ y.seen = (s.sensor x.index).seen ∧
    (x.t < s.rd pgTHERM Reg.THERM.LIMITS_CRIT_C * 100 → y.crit = 0) ∧ (judgeSensor old s x).therm.shutdown = s.therm.shutdown := by
  refine ⟨_, rfl, ?_⟩
  unfold judgeSensor
  extract_lets was jump bad runs cause breaks t
  have judged : t.sensor x.index = _ := sensor_onSensor s x.index _
  have shutdown : t.therm.shutdown = s.therm.shutdown := rfl
  have kept : (if breaks then (t.bump pgTHERM Reg.THERM.BROKEN_COUNT).raise pgTHERM 7 else t).sensorView = t.sensorView := by
    rw [ite_sensorView, raise_sensorView, bump_sensorView, ite_self]
  rw [sensor_of_view kept, judged]
  refine ⟨rfl, rfl, fun cool => ?_, (shutdown_of_view kept).trans shutdown⟩
  exact if_neg (by simp [Int.not_le.mpr cool])

/-- R515: the readings of a sample, up to the limits. -/
def sampled (s : State) (l : List Reading) : State :=
  let t := s.each l putReading
  let t := t.each l fun t x => judgeSensor s t x
  { t with therm := { t.therm with coolSince := if t.allCool then some (t.therm.coolSince.getD t.ns) else none } }

/-- R515, R518: the wells, groups and levels of a sample. -/
def limited (s : State) (l : List Reading) : State :=
  let ws : List Nat := List.dedup ((l.filter fun x => decide (x.index < 2496)).map fun x => x.index / 3)
  let s := s.each ws sampleWellTemp
  let gs : List Nat := List.dedup (l.map fun x => s.sensorGroup x.index)
  let s := s.each (l.filter fun x => s.fastSensor x.index) fun s x =>
    let g := s.sensorGroup x.index
    if g ≤ 16 then s.goFast g else s
  (s.each gs limitGroup).raiseLevels.showHot

theorem limited_sensorView (s : State) (l : List Reading) : (s.limited l).sensorView = s.sensorView := by
  unfold limited
  dsimp only
  rw [showHot_sensorView, raiseLevels_sensorView, each_sensorView _ _ fun t g => limitGroup_sensorView t g]
  refine (each_sensorView _ _ fun t y => ?_).trans (each_sensorView s _ fun t w => sampleWellTemp_sensorView t w)
  rw [ite_sensorView, goFast_sensorView, ite_self]

theorem sampled_sensorView (s : State) (x : Reading) : (s.sampled [x]).sensorView = (judgeSensor s (s.putReading x) x).sensorView := by
  have cool (t : State) (c : Option Nat) : ({ t with therm := { t.therm with coolSince := c } } : State).sensorView = t.sensorView := rfl
  unfold sampled
  exact cool _ _

theorem sensorSample_single (x : Reading) (hi : x.index < 2560) (run : s.therm.shutdown = false) : s.sensorSample [x] =
    if [x].any fun y => decide (2 ≤ (((s.sampled [x]).limited [x]).sensor y.index).crit) then ((s.sampled [x]).limited [x]).critical
    else (s.sampled [x]).limited [x] := by
  have one : [x].filter (fun x => decide (x.index < 2560)) = [x] := by simp [hi]
  have running : (s.sampled [x]).therm.shutdown = false := by
    obtain ⟨y, _, _, _, _, shutdown⟩ := judgeSensor_sensor s (s.putReading x) x
    exact (shutdown_of_view (sampled_sensorView s x)).trans (shutdown.trans run)
  unfold sensorSample
  extract_lets l old t1 t2 therm t3 ws u1 gs u2 u3
  have list : l = [x] := one
  clear_value l
  subst list
  have same : t3 = s.sampled [x] := rfl
  clear_value t3
  subst same
  refine (if_neg (by rw [running]; decide)).trans ?_
  have same : u3 = (s.sampled [x]).limited [x] := by
    unfold limited
    with_reducible rfl
  rw [same]

/-- R515, R522: what a sample of one sensor leaves: its reading, and no shutdown below CRIT_C. -/
theorem sensorSample_shows (x : Reading) (hi : x.index < 2560) (run : s.therm.shutdown = false) : let t := s.sensorSample [x]
    (t.sensor x.index).t = x.t ∧ (t.sensor x.index).seen = true ∧
      (x.t < s.rd pgTHERM Reg.THERM.LIMITS_CRIT_C * 100 → (t.sensor x.index).crit = 0 ∧ t.therm.shutdown = false) := by
  obtain ⟨y, judged, value, seen, cool, shutdown⟩ := judgeSensor_sensor s (s.putReading x) x
  have put : (s.putReading x).sensor x.index = _ := sensor_onSensor s x.index _
  have view : ((s.sampled [x]).limited [x]).sensorView = (judgeSensor s (s.putReading x) x).sensorView :=
    (limited_sensorView (s.sampled [x]) [x]).trans (sampled_sensorView s x)
  have sensor : ((s.sampled [x]).limited [x]).sensor x.index = y := (sensor_of_view view x.index).trans judged
  have running : ((s.sampled [x]).limited [x]).therm.shutdown = false := (shutdown_of_view view).trans (shutdown.trans run)
  rw [put] at value seen
  dsimp only
  rw [sensorSample_single x hi run]
  generalize (s.sampled [x]).limited [x] = t at sensor running ⊢
  split
  next critical =>
    rw [sensor_of_sensors (critical_sensors t), sensor]
    refine ⟨value, seen, fun below => ?_⟩
    have none := cool below
    simp [sensor, none] at critical
  next => exact ⟨by rw [sensor]; exact value, by rw [sensor]; exact seen, fun below => ⟨by rw [sensor]; exact cool below, running⟩⟩

/-! ### The ladder, the fast rate, and sensors restored -/

section Ladder

variable {g i : Nat}

theorem group_onGroup (s : State) (g : Nat) (f : ThermGroup → ThermGroup) : (s.onGroup g f).group g = f (s.group g) := by
  unfold onGroup group
  dsimp only
  rw [sparseGet_put, if_pos rfl]

/-- R520: a group has been above THROTTLE for RISE. -/
def ladderRises (s : State) (g : Nat) : Prop := ∃ t0, (s.group g).above = some t0 ∧ t0 + s.rd pgTHERM Reg.THERM.THR_CTL_RISE_10US * 10000 ≤ s.ns

/-- R520: a group has been below it for RELAX. -/
def ladderFalls (s : State) (g : Nat) : Prop := ∃ t0, (s.group g).below = some t0 ∧ t0 + s.rd pgTHERM Reg.THERM.THR_CTL_RELAX_MS * 1000000 ≤ s.ns

/-- R515: a group has been calm for 10 ms. -/
def groupCalm (s : State) (g : Nat) : Prop := (s.group g).fast = true ∧ (s.group g).fastAt + 10000000 ≤ s.ns

/-- R516: a broken sensor has been without a fault for 1 s. -/
def sensorWhole (s : State) (i : Nat) : Prop :=
  (s.sensor i).broken = true ∧ ∃ t0, (s.sensor i).cleanSince = some t0 ∧ t0 + 1000000000 ≤ s.ns

theorem throttleRise_rises (h : s.ladderRises g) : s.throttleRise g =
    (s.onGroup g fun x => { x with level := min s.maxLevel (x.level + 1), above := some s.ns }).raiseLevels := by
  obtain ⟨t0, above, long⟩ := h
  unfold throttleRise
  rw [above]
  exact if_neg (Nat.not_lt.mpr long)

theorem throttleRise_waits (h : ¬s.ladderRises g) : s.throttleRise g = s := by
  unfold throttleRise
  split
  · rfl
  next t0 above => exact if_pos (Nat.not_le.mp fun long => h ⟨t0, above, long⟩)

theorem throttleRelax_falls (h : s.ladderFalls g) : s.throttleRelax g = s.onGroup g fun x => { x with level := x.level - 1, below := some s.ns } := by
  obtain ⟨t0, below, long⟩ := h
  unfold throttleRelax
  rw [below]
  exact if_neg (Nat.not_lt.mpr long)

theorem throttleRelax_waits (h : ¬s.ladderFalls g) : s.throttleRelax g = s := by
  unfold throttleRelax
  split
  · rfl
  next t0 below => exact if_pos (Nat.not_le.mp fun long => h ⟨t0, below, long⟩)

theorem fastRateEnd_calm (h : s.groupCalm g) : s.fastRateEnd g = (s.onGroup g fun x => { x with fast := false }).showFast := by
  unfold fastRateEnd
  exact if_pos (and_decide_iff.mpr h)

theorem fastRateEnd_waits (h : ¬s.groupCalm g) : s.fastRateEnd g = s := by
  unfold fastRateEnd
  exact if_neg (mt and_decide_iff.mp h)

theorem showFast_shows : s.showFast.therm = s.therm ∧ s.showFast.mem = s.mem := by
  unfold showFast
  dsimp only
  exact ⟨by rw [wr_therm, wr_therm, wr_therm], by rw [wr_mem, wr_mem, wr_mem]⟩

/-- R516: a sensor that is whole again: its return is counted and raised, and its well may return. -/
def sensorBack (s : State) (i : Nat) : State :=
  let t := s.onSensor i fun y => { y with broken := false, cause := 0, runs := [0, 0, 0, 0], cleanSince := none }
  (t.wr pgTHERM Reg.THERM.BROKEN_COUNT (t.rd pgTHERM Reg.THERM.BROKEN_COUNT - 1)).raise pgTHERM 8

theorem sensorRestored_whole (h : s.sensorWhole i) : s.sensorRestored i =
    if i < 2496 && (s.sensorBack i).brokenOf (i / 3) == 0 && ((s.sensorBack i).ftRec (i / 3)).cause == 7 then (s.sensorBack i).demandReturn (i / 3)
    else s.sensorBack i := by
  obtain ⟨broken, t0, clean, long⟩ := h
  unfold sensorRestored
  rw [clean]
  exact if_neg (by simp [broken, long])

theorem sensorRestored_waits (h : ¬s.sensorWhole i) : s.sensorRestored i = s := by
  unfold sensorRestored
  split
  · rfl
  next t0 clean =>
    refine if_pos ?_
    by_contra no
    simp only [Bool.or_eq_true, Bool.not_eq_true', decide_eq_true_eq, not_or, Bool.not_eq_false, not_lt] at no
    exact h ⟨no.1, t0, clean, no.2⟩

theorem sensorRestored_shows (h : s.sensorWhole i) : ((s.sensorRestored i).sensor i).broken = false ∧ ((s.sensorRestored i).sensor i).cause = 0 := by
  have back : (s.sensorRestored i).sensorView = (s.sensorBack i).sensorView := by
    rw [sensorRestored_whole h, ite_sensorView, demandReturn_sensorView, ite_self]
  have restored : (s.sensorBack i).therm = (s.onSensor i fun y => { y with broken := false, cause := 0, runs := [0, 0, 0, 0], cleanSince := none }).therm := by
    unfold sensorBack
    dsimp only
    rw [raise_therm, wr_therm]
  rw [sensor_of_view back, sensor_of_sensors (congrArg ThermUnit.sensors restored), sensor_onSensor]
  exact ⟨rfl, rfl⟩

end Ladder

end State

open State

/-- Settles O47: each report by the time that it waits for; a sample of one sensor by `sensorSample_shows`. -/
theorem temperatureAndPower : Obligations.TemperatureAndPower := by
  refine ⟨fun s at_ g i up hg => ?_, fun s at_ i rail v rails combs up => ?_⟩
  · have free : s.boot.held = false := by
      unfold coreUp at up
      simpa using (Bool.and_eq_true_iff.mp up).1
    dsimp only
    rw [eff_throttleRise s at_ g up, eff_throttleRelax s at_ g up, eff_fastRateEnd s at_ g free, eff_sensorRestored s at_ i free, if_pos hg, if_pos hg, if_pos hg]
    refine ⟨fun rises => leaves_congr (throttleRise_rises (s := s.advance at_) rises), fun no => leaves_congr (throttleRise_waits (s := s.advance at_) no),
      fun falls => leaves_congr (throttleRelax_falls (s := s.advance at_) falls), fun no => leaves_congr (throttleRelax_waits (s := s.advance at_) no),
      fun calm => ⟨_, rfl, ?_, ?_⟩, fun no => leaves_congr (fastRateEnd_waits (s := s.advance at_) no), fun whole => ⟨_, rfl, ?_⟩,
      fun no => leaves_congr (sensorRestored_waits (s := s.advance at_) no)⟩
    · rw [fastRateEnd_calm (s := s.advance at_) calm]
      unfold group
      rw [left_therm, showFast_shows.1]
      exact congrArg ThermGroup.fast (group_onGroup (s.advance at_) g _)
    · rw [fastRateEnd_calm (s := s.advance at_) calm, left_mem, showFast_shows.2]
      rfl
    · rw [sensor_of_sensors (congrArg ThermUnit.sensors (left_therm s ((s.advance at_).sensorRestored i)))]
      exact sensorRestored_shows (s := s.advance at_) whole
  · refine ⟨fun core hi => ?_, ?_⟩
    · have run : s.therm.shutdown = false := by
        unfold coreUp at core
        simpa using (Bool.and_eq_true_iff.mp core).2
      rw [eff_sensorSample s at_ [(i, rail, v)] up]
      refine ⟨_, rfl, ?_⟩
      have shows := sensorSample_shows (s := s.advance at_) ⟨i, rail, v⟩ hi run
      rw [sensor_of_sensors (congrArg ThermUnit.sensors (left_therm s _)), left_therm]
      exact shows
    · rw [eff_railSample s at_ rails combs up]
      rfl

end Sys2Proof.Machine
end

section
/-! PROOFS. Reception of messages (R433 to R438, R451, R453, R458) and the memory messages of peers (R442, R443). -/

namespace Sys2Proof.Machine

namespace State

/-! ### Registers of a Holade port -/

theorem regAddr_hport {p off : Nat} (hp : p < 32) (ho : off < 0x400) : regAddr (pgHport p) off = (0x20 + p) * 0x1000 + off := by
  unfold regAddr canonReg pgHport
  rw [if_neg (by omega), if_neg (by omega)]

/-- No register of a Holade port of its own follows from the state by itself. -/
theorem regAddr_hport_not_follower {p off : Nat} (hp : p < 32) (ho : off < 0x400) : regAddr (pgHport p) off ∉ followers := by
  have bound : ∀ a ∈ followers, a < 0x20000 ∨ 0x40000 ≤ a := by decide
  intro follows
  have := bound _ follows
  rw [regAddr_hport hp ho] at this
  omega

theorem port_onPort (s : State) (p : Nat) (f : Port → Port) : (s.onPort p f).port p = f (s.port p) := by
  simp [port, onPort, sparseGet_put]

theorem port_of_fabric {s t : State} (h : s.fabric = t.fabric) (p : Nat) : s.port p = t.port p := by
  unfold port
  rw [h]

/-! ### A message frame that is not taken -/

section Receive

variable {s : State} {p : Nat} {h : LinkHdr} {m : Msg} {op : Nat} (act : State → State)

theorem receive_ignored (away : s.runs (pgHport p) = false ∨ s.linkState p < 2 ∨ m.op ≠ op) : s.receive p h m op act = s := by
  unfold receive
  exact if_pos (by simpa using away)

/-- What a frame of the command's operation does over a link that runs. -/
theorem receive_here (runs : s.runs (pgHport p) = true) (link : 2 ≤ s.linkState p) (hop : m.op = op) :
    s.receive p h m op act =
      if !h.crcOk then s.crcFail p h.space
      else if !((s.applyHdr p h).inSequence p h).2 then s.handled p h
      else if (s.handled p h).linkState p ≠ 2 && !(m.op == 9 && m.subop == 1) then s.handled p h
      else act (s.handled p h) := by
  unfold receive
  rw [if_neg]
  · rfl
  · rw [runs]
    simp [hop, Nat.not_lt.mpr link]

variable (runs : s.runs (pgHport p) = true) (link : 2 ≤ s.linkState p) (hop : m.op = op)

include runs link hop

theorem receive_badCrc (bad : h.crcOk = false) : s.receive p h m op act = s.crcFail p h.space := by
  rw [receive_here act runs link hop, bad]
  rfl

theorem receive_stops (good : h.crcOk = true)
    (stops : ((s.applyHdr p h).inSequence p h).2 = false ∨ (s.handled p h).linkState p ≠ 2 ∧ ¬(m.op = 9 ∧ m.subop = 1)) :
    s.receive p h m op act = s.handled p h := by
  rw [receive_here act runs link hop, good, if_neg (by decide)]
  split
  · rfl
  · rename_i taken
    refine if_pos ?_
    obtain out | ⟨down, other⟩ := stops
    · exact absurd (by rw [out]; rfl) taken
    · simpa [down, imp_iff_not_or] using other

end Receive

/-- R433 to R438: a frame in its turn reaches its message over a link that is up; an announcement over every link that is not down. -/
theorem receive_arrives {s : State} {p : Nat} {h : LinkHdr} {m : Msg} {op : Nat} (act : State → State) (comes : s.arrives p h m op = true) :
    s.receive p h m op act = act (s.handled p h) := by
  unfold arrives inTurn at comes
  simp only [Bool.and_eq_true, decide_eq_true_eq, beq_iff_eq] at comes
  obtain ⟨⟨⟨⟨⟨runs, link⟩, hop⟩, good⟩, taken⟩, up⟩ := comes
  rw [receive_here act runs link hop, good, taken, up]
  rfl

/-! ### Data and control messages -/

section Delivered

variable {s : State} {p : Nat} {m : Msg} (act : State → State)

theorem delivered_other (h : m.dst ≠ 0xFFFF) (h' : m.dst ≠ s.ownRank) : s.delivered p m act = s.forward p m := if_pos ⟨h, h'⟩

theorem delivered_here (here : m.dst = 0xFFFF ∨ m.dst = s.ownRank) :
    s.delivered p m act =
      if !s.epochOk m then s.stale p else if m.isData && s.fabric.fences.contains m.src then s else act s :=
  if_neg (by tauto)

theorem delivered_stale (here : m.dst = 0xFFFF ∨ m.dst = s.ownRank) (old : s.epochOk m = false) : s.delivered p m act = s.stale p := by
  rw [delivered_here act here, old]
  rfl

theorem delivered_fenced (here : m.dst = 0xFFFF ∨ m.dst = s.ownRank) (ok : s.epochOk m = true) (data : m.isData = true)
    (fenced : s.fabric.fences.contains m.src = true) : s.delivered p m act = s := by
  rw [delivered_here act here, ok, data, fenced]
  rfl

theorem delivered_accepts (taken : s.accepts m = true) : s.delivered p m act = act s := by
  unfold accepts at taken
  simp only [Bool.and_eq_true, Bool.or_eq_true, beq_iff_eq, Bool.not_eq_true'] at taken
  obtain ⟨⟨here, ok⟩, free⟩ := taken
  rw [delivered_here act here, ok, free]
  rfl

theorem receive_delivered {h : LinkHdr} {op : Nat} (comes : s.arrives p h m op = true) (taken : (s.handled p h).accepts m = true) :
    (s.receive p h m op fun t => t.delivered p m act) = act (s.handled p h) :=
  (receive_arrives _ comes).trans (delivered_accepts act taken)

end Delivered

/-! ### A frame that fails its CRC -/

theorem crcFail_counts (s : State) {p : Nat} (hp : p < 32) (space : Nat) :
    (s.crcFail p space).rd (pgHport p) Reg.HPORT.CRC_FAILS = satAdd 32 (s.rd (pgHport p) Reg.HPORT.CRC_FAILS) 1 := by
  have counted : (s.bump (pgHport p) Reg.HPORT.CRC_FAILS).rd (pgHport p) Reg.HPORT.CRC_FAILS =
      satAdd 32 (s.rd (pgHport p) Reg.HPORT.CRC_FAILS) 1 :=
    (rd_wr s _ Reg.HPORT.CRC_FAILS _ 0 (by decide)).trans (Nat.mod_eq_of_lt (satAdd_lt _ _ _))
  have apart : regAddr (pgHport p) (Reg.HPORT.CRC_FAILS.at 0) ≠ regAddr (pgHport p) (Reg.HPORT.C0_LOST.at 0) := by
    rw [regAddr_hport hp (by decide), regAddr_hport hp (by decide)]
    exact fun h => absurd (Nat.add_left_cancel h) (by decide)
  unfold crcFail
  extract_lets t
  split
  · exact counted
  · exact counted
  · exact (rd_wr_ne t _ _ Reg.HPORT.C0_LOST Reg.HPORT.CRC_FAILS _ 0 0 apart).trans counted

theorem crcFail_asks (s : State) (p space : Nat) :
    ((s.crcFail p space).port p).nakD = (decide (space = 0) || (s.port p).nakD) ∧
      ((s.crcFail p space).port p).nakC = (decide (space = 1) || (s.port p).nakC) := by
  unfold crcFail
  split
  · rw [port_onPort]
    exact ⟨rfl, rfl⟩
  · rw [port_onPort]
    exact ⟨rfl, rfl⟩
  · rename_i h0 h1
    rw [port_onPort, decide_eq_false h0, decide_eq_false h1]
    exact ⟨rfl, rfl⟩

/-! ### The commands that bring a message -/

/-- The commands of data and control messages, each with the operation of its message. -/
def deliveredCommands (at_ p : Nat) (h : LinkHdr) (m : Msg) : List (Nat × Instr) :=
  [(1, .holadeWrite at_ p h m), (2, .readReq at_ p h m), (3, .readResp at_ p h m), (4, .reduceAdd at_ p h m),
    (5, .result at_ p h m), (6, .digestContribution at_ p h m), (6, .digestResult at_ p h m), (7, .bcast at_ p h m),
    (10, .stopRx at_ p h m), (10, .fenceRx at_ p h m), (10, .resumeRx at_ p h m)]

/-- Every command that brings a message, with the operation of its message. -/
def messageCommands (at_ p arrival residence n e period : Nat) (h : LinkHdr) (m : Msg) (a : Announce) (joins : List (Nat × Nat))
    (leaves : List Nat) : List (Nat × Instr) :=
  [(1, .holadeWrite at_ p h m), (2, .readReq at_ p h m), (3, .readResp at_ p h m), (4, .reduceAdd at_ p h m),
    (5, .result at_ p h m), (6, .digestContribution at_ p h m), (6, .digestResult at_ p h m), (7, .bcast at_ p h m),
    (8, .tickSyncAnnounce at_ p h m arrival), (8, .delayReq at_ p h m residence), (8, .delayResp at_ p h m),
    (9, .memberAnnounce at_ p h m a), (9, .memberJoin at_ p h m), (9, .memberTable at_ p h m), (9, .memberLeave at_ p h m),
    (9, .memberEpoch at_ p h m n e period joins leaves), (10, .stopRx at_ p h m), (10, .fenceRx at_ p h m),
    (10, .resumeRx at_ p h m)]

section Commands

variable {s : State} (up : s.coreUp = true) (at_ p : Nat) (h : LinkHdr) (m : Msg)

include up

theorem delivers : ∀ c ∈ deliveredCommands at_ p h m,
    ∃ act, exec c.2 s = .next (s.left ((s.advance at_).receive p h m c.1 fun t => t.delivered p m act)) := by
  simp only [deliveredCommands, List.forall_mem_cons]
  exact ⟨⟨_, eff_holadeWrite s at_ p h m up⟩, ⟨_, eff_readReq s at_ p h m up⟩, ⟨_, eff_readResp s at_ p h m up⟩,
    ⟨_, eff_reduceAdd s at_ p h m up⟩, ⟨_, eff_result s at_ p h m up⟩, ⟨_, eff_digestContribution s at_ p h m up⟩,
    ⟨_, eff_digestResult s at_ p h m up⟩, ⟨_, eff_bcast s at_ p h m up⟩, ⟨_, eff_stopRx s at_ p h m up⟩,
    ⟨_, eff_fenceRx s at_ p h m up⟩, ⟨_, eff_resumeRx s at_ p h m up⟩, fun _ hc => absurd hc List.not_mem_nil⟩

theorem receives (arrival residence n e period : Nat) (a : Announce) (joins : List (Nat × Nat)) (leaves : List Nat) :
    ∀ c ∈ messageCommands at_ p arrival residence n e period h m a joins leaves,
      ∃ act, exec c.2 s = .next (s.left ((s.advance at_).receive p h m c.1 act)) := by
  simp only [messageCommands, List.forall_mem_cons]
  exact ⟨⟨_, eff_holadeWrite s at_ p h m up⟩, ⟨_, eff_readReq s at_ p h m up⟩, ⟨_, eff_readResp s at_ p h m up⟩,
    ⟨_, eff_reduceAdd s at_ p h m up⟩, ⟨_, eff_result s at_ p h m up⟩, ⟨_, eff_digestContribution s at_ p h m up⟩,
    ⟨_, eff_digestResult s at_ p h m up⟩, ⟨_, eff_bcast s at_ p h m up⟩, ⟨_, eff_tickSyncAnnounce s at_ p h m arrival up⟩,
    ⟨_, eff_delayReq s at_ p h m residence up⟩, ⟨_, eff_delayResp s at_ p h m up⟩, ⟨_, eff_memberAnnounce s at_ p h m a up⟩,
    ⟨_, eff_memberJoin s at_ p h m up⟩, ⟨_, eff_memberTable s at_ p h m up⟩, ⟨_, eff_memberLeave s at_ p h m up⟩,
    ⟨_, eff_memberEpoch s at_ p h m n e period joins leaves up⟩, ⟨_, eff_stopRx s at_ p h m up⟩, ⟨_, eff_fenceRx s at_ p h m up⟩,
    ⟨_, eff_resumeRx s at_ p h m up⟩, fun _ hc => absurd hc List.not_mem_nil⟩

end Commands

/-! ### Peer writes, reads and responses -/

section Peer

variable {s : State} {p : Nat} {m : Msg}

theorem holadeWrite_allowed (ok : peerForbidden m.addr m.payload.length = false) :
    s.holadeWrite m = (s.write s.mapNow m.addr m.payload fun _ => msgSeal m).1 := by
  unfold holadeWrite
  rw [ok]
  rfl

theorem holadeWrite_forbidden (no : peerForbidden m.addr m.payload.length = true) : s.holadeWrite m = s := by
  unfold holadeWrite
  rw [no]
  rfl

theorem readReq_served (ok : peerForbidden m.addr (min m.operand 4096) = false)
    (mapped : s.inMemory s.mapNow m.addr (min m.operand 4096) = true) :
    s.readReq p m =
      let r := s.read s.mapNow m.addr (min m.operand 4096)
      r.1.reply p m { r.1.newMsg 3 0 m.cls m.src with
        addr := m.addr, tag := m.tag, payload := r.2.bytes, tid := r.2.tid, blk := r.2.blk, fmt := r.2.fmt, withheld := r.2.withheld
        delayed := r.2.delayed, last := true, gen := s.tick.number % 256 } := by
  unfold readReq
  dsimp only
  rw [ok, mapped]
  rfl

theorem readReq_withheld (no : peerForbidden m.addr (min m.operand 4096) = true ∨ s.inMemory s.mapNow m.addr (min m.operand 4096) = false) :
    s.readReq p m = s.reply p m { s.newMsg 3 0 m.cls m.src with
        addr := m.addr, tag := m.tag, payload := List.replicate (min m.operand 4096) 0, tid := 0, blk := 0, fmt := 0, withheld := true
        delayed := false, last := true, gen := 0 } := by
  have bad : (!peerForbidden m.addr (min m.operand 4096) && s.inMemory s.mapNow m.addr (min m.operand 4096)) = false := by
    obtain no | no := no <;> simp [no]
  unfold readReq
  dsimp only
  rw [bad]
  rfl

theorem readResp_unasked (none_ : (s.fabric.reads.find? fun r => r.tag == m.tag) = none) : s.readResp m = s := by
  unfold readResp
  rw [none_]

/-- R442: the state in which a response of read `x` is taken: the read is no longer outstanding. -/
def answered (s : State) (x : PendingRead) : State := { s with fabric := { s.fabric with reads := s.fabric.reads.erase x } }

/-- R388, R442: the seal under which the data of a response is written. -/
def answerSeal (s : State) (x : PendingRead) (m : Msg) (b : Nat) : Seal :=
  { s.genSeal (Qd.tid x.desc) (Qd.blk0 x.desc) (Qd.dst x.desc) m.fmt (m.withheld || s.badStep x.desc) b with delayed := s.delayedWork x.desc }

theorem readResp_written {x : PendingRead} (found : (s.fabric.reads.find? fun r => r.tag == m.tag) = some x)
    (mapped : (s.answered x).inMemory (s.answered x).mapNow (Qd.dst x.desc + x.off) x.len = true) :
    s.readResp m =
      let f := s.answered x
      let w := f.write f.mapNow (Qd.dst x.desc + x.off) (m.payload.take x.len) (f.answerSeal x m)
      w.1.onQueue x.queue fun q => { q with exec := q.exec.map fun d =>
        { d with code := if w.2 then 8 else if m.withheld && d.code == 1 then 2 else d.code } } := by
  unfold readResp
  rw [found]
  unfold answered at *
  dsimp only at *
  rw [mapped]
  rfl

theorem readResp_built {x : PendingRead} (found : (s.fabric.reads.find? fun r => r.tag == m.tag) = some x)
    (unmapped : (s.answered x).inMemory (s.answered x).mapNow (Qd.dst x.desc + x.off) x.len = false) :
    s.readResp m = (s.answered x).onQueue x.queue fun q => { q with exec := q.exec.map fun d =>
      { d with
        got := d.got ++ [(m.tag, Qd.dst x.desc + x.off, m.payload.take x.len, m.withheld, m.fmt)]
        code := if m.withheld && d.code == 1 then 2 else d.code } } := by
  unfold readResp
  rw [found]
  unfold answered at *
  dsimp only at *
  rw [unmapped]
  rfl

end Peer

end State

open State

/-- Settles O48: every message command is a reception, so each clause is one of the three ways in which a frame goes no further. -/
theorem messageReception : Obligations.MessageReception := by
  intro s at_ p arrival residence n e period h m a joins leaves up
  dsimp only
  intro c hc
  obtain ⟨act, run⟩ := receives up at_ p h m arrival residence n e period a joins leaves c hc
  rw [run]
  refine ⟨fun away => leaves_congr (receive_ignored act away), fun runs link hop bad hp => ⟨_, rfl, ?_, ?_⟩,
    fun runs link hop good stops => leaves_congr (receive_stops act runs link hop good stops)⟩
  · rw [receive_badCrc act runs link hop bad, left_rd _ _ (regAddr_hport_not_follower hp (by decide))]
    exact crcFail_counts _ hp _
  · rw [receive_badCrc act runs link hop bad, port_of_fabric (left_fabric s _)]
    exact crcFail_asks _ p _

/-- Settles O49: the memory messages by the branch that they take once they arrive, and the others by where they are sent on or dropped. -/
theorem peerMessages : Obligations.PeerMessages := by
  refine ⟨fun s at_ p h m up => ?_, fun s at_ p h m up => ?_⟩
  · dsimp only
    rw [eff_holadeWrite s at_ p h m up, eff_readReq s at_ p h m up, eff_readResp s at_ p h m up]
    refine ⟨fun comes taken ok => leaves_congr ((receive_delivered _ comes taken).trans (holadeWrite_allowed ok)),
      fun comes taken no => leaves_congr ((receive_delivered _ comes taken).trans (holadeWrite_forbidden no)),
      fun comes taken ok mapped => leaves_congr ((receive_delivered _ comes taken).trans (readReq_served ok mapped)),
      fun comes taken no => leaves_congr ((receive_delivered _ comes taken).trans (readReq_withheld no)),
      fun comes taken none_ => leaves_congr ((receive_delivered _ comes taken).trans (readResp_unasked none_)),
      fun x comes taken found => ⟨fun mapped => leaves_congr ((receive_delivered _ comes taken).trans (readResp_written found mapped)),
        fun unmapped => leaves_congr ((receive_delivered _ comes taken).trans (readResp_built found unmapped))⟩⟩
  · dsimp only
    intro c hc comes
    obtain ⟨act, run⟩ := delivers up at_ p h m c hc
    rw [run]
    refine ⟨fun other other' => ⟨fun old => leaves_congr ?_, fun lives => leaves_congr ?_⟩,
      fun here => ⟨fun old => leaves_congr ((receive_arrives _ comes).trans (delivered_stale _ here old)),
        fun ok data fenced => leaves_congr ((receive_arrives _ comes).trans (delivered_fenced _ here ok data fenced))⟩⟩
    · exact ((receive_arrives _ comes).trans (delivered_other _ other other')).trans (if_pos old)
    · exact ((receive_arrives _ comes).trans (delivered_other _ other other')).trans (if_neg (Nat.not_le.mpr lives))

end Sys2Proof.Machine
end

section
/-! PROOFS. Collective messages and the checks of digests (R36, R393, R442, R447, R449). -/

namespace Sys2Proof.Machine

namespace State

/-! ### The collective that a message belongs to -/

section CollFor

variable {s : State} {p : Nat} {m : Msg} {op ahead : Nat} {act : State → Coll → Nat → State}

/-- R442: the message names the running collective `x`: its tag, operation, tick, entry and length, and a sender among its members. -/
def isOf (s : State) (m : Msg) (op ahead : Nat) (x : Coll) : Bool :=
  Ce.dst (s.collEntry x) == m.tag && Ce.op (s.collEntry x) == op && x.tick + ahead == m.stamp.tick &&
    Ce.id (s.collEntry x) == m.collId && Ce.nelem (s.collEntry x) == m.nelem && x.ranks.contains (some m.src)

theorem collFor_late (late : m.stamp.tick < s.tick.number) : s.collFor p m op ahead act = s.lateMsg p := if_pos late

theorem collFor_early (early : s.tick.number < m.stamp.tick) :
    s.collFor p m op ahead act = { s with fabric := { s.fabric with early := s.fabric.early ++ [(p, m)] } } :=
  (if_neg (Nat.lt_asymm early)).trans (if_pos early)

variable (now : m.stamp.tick = s.tick.number)

include now

theorem collFor_unknown (none_ : s.plan.collsRunning.find? (s.isOf m op ahead) = none) : s.collFor p m op ahead act = s.stale p := by
  unfold isOf at none_
  unfold collFor
  rw [if_neg (by omega), if_neg (by omega), none_]

theorem collFor_found {x : Coll} (found : s.plan.collsRunning.find? (s.isOf m op ahead) = some x) :
    s.collFor p m op ahead act = act s x (x.ranks.findIdx (· == some m.src)) := by
  unfold isOf at found
  unfold collFor
  rw [if_neg (by omega), if_neg (by omega), found]

end CollFor

/-! ### What each message does to its collective -/

section Messages

variable {s : State} {p : Nat} {m : Msg} {x : Coll} (now : m.stamp.tick = s.tick.number)

/-- Group rank of the sender of a message. -/
def senderIn (m : Msg) (x : Coll) : Nat := x.ranks.findIdx (· == some m.src)

/-- R447: the collective with a contribution kept. -/
def withPart (m : Msg) (x : Coll) : Coll := { x with
  cls := m.cls
  parts := (x.parts.filter fun y => !(y.1 == senderIn m x && y.2.1 == m.addr / 4096)) ++
    [(senderIn m x, m.addr / 4096, padTo 4096 m.payload, collMarked m)] }

/-- R447: the collective with a block of a reduced shard kept. -/
def withResult (m : Msg) (x : Coll) : Coll := { x with
  results := (x.results.filter fun y => y.1 != m.addr / 4096) ++ [(m.addr / 4096, padTo 4096 m.payload, collMarked m)] }

/-- R449: the collective with a block of a broadcast kept. -/
def withBcast (m : Msg) (x : Coll) : Coll := { x with
  results := (x.results.filter fun y => y.1 != m.addr / 4096) ++ [(m.addr / 4096, m.payload, m.withheld)] }

/-- R393: the collective with a member's digest kept. -/
def withDigest (m : Msg) (x : Coll) : Coll := { x with
  digests := (x.digests.filter fun y => y.1 != senderIn m x) ++ [(senderIn m x, m.operand % 2 ^ 64)] }

/-- R393: the collective with a reducer's digest list kept. -/
def withList (p : Nat) (m : Msg) (x : Coll) : Coll := { x with
  listed := addOnce (senderIn m x) x.listed
  lists := (x.lists.filter fun y => y.1 != senderIn m x) ++ [(senderIn m x, p, m.payload)] }

include now

theorem reduceAdd_stale (found : s.plan.collsRunning.find? (s.isOf m 1 0) = some x)
    (no : ¬(reducer x (m.addr / 4096) = x.own ∧ m.addr / 4096 < Ce.blocks (s.collEntry x))) : s.reduceAdd p m = s.stale p :=
  (collFor_found now found).trans (if_pos (by omega))

theorem reduceAdd_kept (found : s.plan.collsRunning.find? (s.isOf m 1 0) = some x) (mine : reducer x (m.addr / 4096) = x.own)
    (inside : m.addr / 4096 < Ce.blocks (s.collEntry x)) : s.reduceAdd p m = s.putColl (withPart m x) :=
  (collFor_found now found).trans (if_neg (by omega))

theorem collResult_stale (found : s.plan.collsRunning.find? (s.isOf m 1 1) = some x)
    (no : ¬(reducer x (m.addr / 4096) = senderIn m x ∧ m.addr / 4096 < Ce.blocks (s.collEntry x))) : s.collResult p m = s.stale p :=
  (collFor_found now found).trans (if_pos (by unfold senderIn at no; omega))

theorem collResult_kept (found : s.plan.collsRunning.find? (s.isOf m 1 1) = some x) (its : reducer x (m.addr / 4096) = senderIn m x)
    (inside : m.addr / 4096 < Ce.blocks (s.collEntry x)) :
    s.collResult p m = ((s.putColl (withResult m x)).writeDst (s.collEntry x) (m.addr / 4096) (padTo 4096 m.payload)
      { msgSeal m with withheld := collMarked m }).checkShard (withResult m x) (senderIn m x) :=
  (collFor_found now found).trans (if_neg (by unfold senderIn at its; omega))

theorem digestContribution_kept (found : s.plan.collsRunning.find? (s.isOf m 1 0) = some x) :
    s.digestContribution p m = s.putColl (withDigest m x) := collFor_found now found

theorem digestResult_kept (found : s.plan.collsRunning.find? (s.isOf m 1 1) = some x) :
    s.digestResult p m = (s.putColl (withList p m x)).checkShard (withList p m x) (senderIn m x) := collFor_found now found

theorem bcast_stale (found : s.plan.collsRunning.find? (s.isOf m 2 0) = some x) (no : senderIn m x ≠ 0) : s.bcast p m = s.stale p :=
  (collFor_found now found).trans (if_pos no)

theorem bcast_kept (found : s.plan.collsRunning.find? (s.isOf m 2 0) = some x) (root : senderIn m x = 0) :
    s.bcast p m = (s.putColl (withBcast m x)).writeDst (s.collEntry x) (m.addr / 4096) m.payload (msgSeal m) :=
  (collFor_found now found).trans (if_neg (not_not_intro root))

end Messages

/-! ### The check of a shard's digest list -/

section Check

variable (s : State) (x : Coll) (g p : Nat) (payload : List Byte)

/-- R447: blocks of the shard that member `g` reduces. -/
def shardOf : List Nat := (List.range (Ce.blocks (s.collEntry x))).filter fun b => reducer x b == g

/-- R393: those of them that have arrived. -/
def shardGot : List (Nat × List Byte × Bool) := (s.shardOf x g).filterMap fun b => x.results.find? fun y => y.1 == b

/-- R391: the digest of what has arrived. -/
def shardSum : Nat := ((s.shardGot x g).map fun y => digestBlock (s.collSeed x) y.1 y.2.1).foldl (· + ·) 0 % digestP

/-- R393: the digests that a list names, by group rank. -/
def listedDigests (x : Coll) (payload : List Byte) : List Nat := (List.range x.ranks.length).map fun k => fieldOf payload (8 + 8 * k) 8

/-- R393: the collective once the list of member `g` is checked. -/
def checked (x : Coll) (g : Nat) : Coll := { x with lists := x.lists.filter fun y => y.1 != g }

/-- R393: which check a shard fails first; 0 none. -/
def shardFault : Nat :=
  if s.shardSum x g ≠ fieldOf payload 0 8 then 1
  else if (listedDigests x payload).foldl (· + ·) 0 % digestP ≠ fieldOf payload 0 8 % digestP then 2
  else if (listedDigests x payload).getD x.own 0 ≠ sparseGet (fun _ => 0) x.ownDigest g then 3
  else 0

variable {s x g p payload} (found : (x.lists.find? fun y => y.1 == g) = some (g, p, payload))

include found

theorem checkShard_listed :
    s.checkShard x g =
      if (s.shardGot x g).length < (s.shardOf x g).length then s
      else if (s.shardGot x g).any (fun y => blockOvf y.2.1) then s.putColl (checked x g)
      else if s.shardFault x g payload = 0 then s.putColl (checked x g)
      else ((s.putColl (checked x g)).digestFail p (s.shardFault x g payload) (Ce.id (s.collEntry x))).markDst (s.collEntry x) (s.shardOf x g) false := by
  unfold checkShard
  rw [found]
  rfl

theorem checkShard_waits (few : (s.shardGot x g).length < (s.shardOf x g).length) : s.checkShard x g = s :=
  (checkShard_listed found).trans (if_pos few)

variable (all : (s.shardGot x g).length = (s.shardOf x g).length)

include all

theorem checkShard_overflows (ovf : (s.shardGot x g).any (fun y => blockOvf y.2.1) = true) : s.checkShard x g = s.putColl (checked x g) :=
  (checkShard_listed found).trans ((if_neg (by omega)).trans (if_pos ovf))

variable (exact_ : (s.shardGot x g).any (fun y => blockOvf y.2.1) = false)

include exact_

theorem checkShard_passes (ok : s.shardFault x g payload = 0) : s.checkShard x g = s.putColl (checked x g) :=
  (checkShard_listed found).trans ((if_neg (by omega)).trans ((if_neg (by rw [exact_]; decide)).trans (if_pos ok)))

theorem checkShard_fails {n : Nat} (fails : s.shardFault x g payload = n) (bad : n ≠ 0) :
    s.checkShard x g = ((s.putColl (checked x g)).digestFail p n (Ce.id (s.collEntry x))).markDst (s.collEntry x) (s.shardOf x g) false := by
  subst fails
  exact (checkShard_listed found).trans ((if_neg (by omega)).trans ((if_neg (by rw [exact_]; decide)).trans (if_neg bad)))

end Check

section Faults

variable {s : State} {x : Coll} {g : Nat} {payload : List Byte}

theorem shardFault_sum (off : s.shardSum x g ≠ fieldOf payload 0 8) : s.shardFault x g payload = 1 := if_pos off

variable (sum : s.shardSum x g = fieldOf payload 0 8)

include sum

theorem shardFault_list (off : (listedDigests x payload).foldl (· + ·) 0 % digestP ≠ fieldOf payload 0 8 % digestP) :
    s.shardFault x g payload = 2 := (if_neg (not_not_intro sum)).trans (if_pos off)

variable (list : (listedDigests x payload).foldl (· + ·) 0 % digestP = fieldOf payload 0 8 % digestP)

include list

theorem shardFault_own (off : (listedDigests x payload).getD x.own 0 ≠ sparseGet (fun _ => 0) x.ownDigest g) :
    s.shardFault x g payload = 3 := (if_neg (not_not_intro sum)).trans ((if_neg (not_not_intro list)).trans (if_pos off))

theorem shardFault_none (own : (listedDigests x payload).getD x.own 0 = sparseGet (fun _ => 0) x.ownDigest g) :
    s.shardFault x g payload = 0 :=
  (if_neg (not_not_intro sum)).trans ((if_neg (not_not_intro list)).trans (if_neg (not_not_intro own)))

end Faults

/-- The registers before the TEST page, which records do not write. -/
theorem recordBlind_beforeTest {a : Nat} (h : a < 0x64000) : RecordBlind fun t => t.word a where
  test t f v i _ := by
    refine word_wr_ne _ _ _ _ _ _ ?_
    rw [regAddr_plain (by decide), show pgTEST = 0x64 from rfl]
    omega
  flash _ _ := rfl
  seq _ _ := rfl
  ring _ _ := rfl

theorem digestFail_integ (s : State) (p check collId : Nat) {f : Field} (hf : f.at 0 < 0x1000) :
    (s.digestFail p check collId).rd pgINTEG f = ((s.bump pgINTEG Reg.INTEG.DIGEST_FAILS).raise pgINTEG 9).rd pgINTEG f := by
  unfold digestFail rd
  rw [record_keeps (recordBlind_beforeTest (a := regAddr pgINTEG (f.at 0)) _)]
  rw [regAddr_plain (by decide), show pgINTEG = 0x63 from rfl]
  omega

theorem digestFail_counts (s : State) (p check collId : Nat) :
    (s.digestFail p check collId).rd pgINTEG Reg.INTEG.DIGEST_FAILS =
      satAdd Reg.INTEG.DIGEST_FAILS.width (s.rd pgINTEG Reg.INTEG.DIGEST_FAILS) 1 := by
  rw [digestFail_integ s p check collId (by decide), rd_raise_ne _ _ _ _ _ _ (by decide)]
  exact (rd_wr s _ Reg.INTEG.DIGEST_FAILS _ 0 (by decide)).trans (Nat.mod_eq_of_lt (satAdd_lt _ _ _))

theorem digestFail_raises (s : State) (p check collId : Nat) : (s.digestFail p check collId).rdBit pgINTEG Reg.HDR.EVT_RAW 9 = true := by
  unfold rdBit
  rw [digestFail_integ s p check collId (by decide)]
  exact (raised _ pgINTEG 9 9 (by decide)).trans (by simp)

theorem checked_lists (x : Coll) (g : Nat) : ((checked x g).lists.find? fun y => y.1 == g) = none := by
  simp [checked]

end State

open State

/-- Settles O50: a message by whether it is late, early, unknown or of a running collective; a list by the first check that fails. -/
theorem collectiveMessages : Obligations.CollectiveMessages := by
  refine ⟨fun s at_ p h m up => ?_, fun s x g p payload found => ?_⟩
  · dsimp only
    intro taken
    rw [eff_reduceAdd s at_ p h m up, eff_result s at_ p h m up, eff_digestContribution s at_ p h m up, eff_digestResult s at_ p h m up,
      eff_bcast s at_ p h m up]
    have contributes (sub : m.subop = 0) {t : State} : (if m.subop = 0 then t.digestContribution p m else t) = t.digestContribution p m := if_pos sub
    have lists (sub : m.subop = 1) {t : State} : (if m.subop = 1 then t.digestResult p m else t) = t.digestResult p m := if_pos sub
    have casts (ok : peerForbidden m.addr 1 = false) {t : State} : (if peerForbidden m.addr 1 then t else t.bcast p m) = t.bcast p m :=
      if_neg (by rw [ok]; decide)
    refine ⟨fun comes late => leaves_congr ((receive_delivered _ comes taken).trans (collFor_late late)),
      fun comes early => leaves_congr ((receive_delivered _ comes taken).trans (collFor_early early)),
      fun comes now none_ => leaves_congr ((receive_delivered _ comes taken).trans (collFor_unknown now none_)),
      fun comes late => leaves_congr ((receive_delivered _ comes taken).trans (collFor_late late)),
      fun comes early => leaves_congr ((receive_delivered _ comes taken).trans (collFor_early early)),
      fun comes now none_ => leaves_congr ((receive_delivered _ comes taken).trans (collFor_unknown now none_)),
      fun comes sub late => leaves_congr ((receive_delivered _ comes taken).trans ((contributes sub).trans (collFor_late late))),
      fun comes sub early => leaves_congr ((receive_delivered _ comes taken).trans ((contributes sub).trans (collFor_early early))),
      fun comes sub now none_ => leaves_congr ((receive_delivered _ comes taken).trans ((contributes sub).trans (collFor_unknown now none_))),
      fun comes sub late => leaves_congr ((receive_delivered _ comes taken).trans ((lists sub).trans (collFor_late late))),
      fun comes sub early => leaves_congr ((receive_delivered _ comes taken).trans ((lists sub).trans (collFor_early early))),
      fun comes sub now none_ => leaves_congr ((receive_delivered _ comes taken).trans ((lists sub).trans (collFor_unknown now none_))),
      fun comes ok late => leaves_congr ((receive_delivered _ comes taken).trans ((casts ok).trans (collFor_late late))),
      fun comes ok early => leaves_congr ((receive_delivered _ comes taken).trans ((casts ok).trans (collFor_early early))),
      fun comes ok now none_ => leaves_congr ((receive_delivered _ comes taken).trans ((casts ok).trans (collFor_unknown now none_))),
      fun comes sub => leaves_congr ((receive_delivered _ comes taken).trans (if_neg sub)),
      fun comes sub => leaves_congr ((receive_delivered _ comes taken).trans (if_neg sub)),
      fun comes no => leaves_congr ((receive_delivered _ comes taken).trans (if_pos no)),
      fun x now => ⟨
        fun comes found no => leaves_congr ((receive_delivered _ comes taken).trans (reduceAdd_stale now found no)),
        fun comes found mine inside => leaves_congr ((receive_delivered _ comes taken).trans (reduceAdd_kept now found mine inside)),
        fun comes found no => leaves_congr ((receive_delivered _ comes taken).trans (collResult_stale now found no)),
        fun comes found its inside => leaves_congr ((receive_delivered _ comes taken).trans (collResult_kept now found its inside)),
        fun comes sub found => leaves_congr ((receive_delivered _ comes taken).trans ((contributes sub).trans (digestContribution_kept now found))),
        fun comes sub found => leaves_congr ((receive_delivered _ comes taken).trans ((lists sub).trans (digestResult_kept now found))),
        fun comes ok found no => leaves_congr ((receive_delivered _ comes taken).trans ((casts ok).trans (bcast_stale now found no))),
        fun comes ok found root => leaves_congr ((receive_delivered _ comes taken).trans ((casts ok).trans (bcast_kept now found root)))⟩⟩
  · exact ⟨fun few => checkShard_waits found few, fun all ovf => checkShard_overflows found all ovf,
      fun all exact_ => ⟨fun off => checkShard_fails found all exact_ (shardFault_sum off) (by decide),
        fun sum off => checkShard_fails found all exact_ (shardFault_list sum off) (by decide),
        fun sum list => ⟨fun off => checkShard_fails found all exact_ (shardFault_own sum list off) (by decide),
          fun own => checkShard_passes found all exact_ (shardFault_none sum list own)⟩⟩,
      fun n t ht => ht ▸ ⟨digestFail_counts _ p n _, digestFail_raises _ p n _⟩, checked_lists x g⟩

end Sys2Proof.Machine
end

section
/-! PROOFS. Control messages, tick synchronisation and link events (R38, R429 to R437, R446, R450, R451, R456, R462, R468). -/

namespace Sys2Proof.Machine

namespace State

/-! ### What sending a message leaves alone -/

/-- A reading that sees nothing of what sending touches: registers, ports, and the messages held for a stopped module. -/
structure SendBlind {β : Type} (g : State → β) : Prop where
  word : ∀ (t : State) a w, g (t.setWord a w) = g t
  port : ∀ (t : State) p f, g (t.onPort p f) = g t
  held : ∀ (t : State) x, g { t with fabric := { t.fabric with held := x } } = g t

section SendBlind

variable {β : Type} {g : State → β} (blind : SendBlind g) (s : State)
include blind

theorem linkLoss_keeps (p n : Nat) : g (s.linkLoss p n) = g s := by
  unfold linkLoss
  split
  · rfl
  · exact (blind.word _ _ _).trans (blind.word _ _ _)

theorem transmit_keeps (p : Nat) (m : Msg) : g (s.transmit p m) = g s :=
  (blind.port _ _ _).trans ((blind.word _ _ _).trans (blind.word _ _ _))

theorem flushPort_go_keeps (p fuel : Nat) : g (flushPort.go p s fuel) = g s := by
  induction fuel generalizing s with
  | zero => rfl
  | succ fuel ih =>
    unfold flushPort.go
    split
    · rfl
    · exact (ih _).trans (transmit_keeps blind s p _)

theorem limitClass0_keeps (p : Nat) (m : Msg) : g (s.limitClass0 p m).1 = g s := by
  unfold limitClass0
  split
  · rfl
  split
  · dsimp only
    exact blind.port _ _ _
  · exact (blind.word _ _ _).trans (blind.word _ _ _)

theorem accept_keeps (p : Nat) (m : Msg) : g (s.accept p m) = g s :=
  (flushPort_go_keeps blind _ p _).trans ((blind.port _ _ _).trans (limitClass0_keeps blind s p m))

theorem routeMsg_keeps (from_ : Nat) (m : Msg) : g (s.routeMsg from_ m) = g s := by
  unfold routeMsg
  split
  · exact accept_keeps blind s _ m
  · exact linkLoss_keeps blind s from_ 1

theorem originate_keeps (m : Msg) : g (s.originate m) = g s := by
  unfold originate
  split
  · exact blind.held _ _
  · exact routeMsg_keeps blind s 0 m

end SendBlind

/-! ### Control messages received (R450, R451) -/

/-- The last control message taken from each module, and the classes that each one stops. -/
def controlView (s : State) : List (Nat × Nat) × List (Nat × Nat) := (s.fabric.seen, s.fabric.stops)

theorem sendBlind_control : SendBlind controlView := ⟨fun _ _ _ => rfl, fun _ _ _ => rfl, fun _ _ => rfl⟩

theorem showStops_controlView (s : State) : s.showStops.controlView = s.controlView := by
  unfold showStops controlView
  extract_lets live
  rw [State.wr_fabric, State.wr_fabric]

/-- R450, R451: the classes that a control message leaves stopped. -/
def stopsAfter (old mask subop : Nat) : Nat :=
  match subop with
  | 1 => old ||| mask
  | 2 => 7
  | _ => old - (old &&& mask)

section Control

variable {s : State} {m : Msg}

theorem applyControl_old (old : s.newerControl m = false) : s.applyControl m = s := by
  unfold applyControl
  rw [old]
  rfl

theorem applyControl_controlView (newer : s.newerControl m = true) :
    (s.applyControl m).controlView =
      (sparsePut (fun _ => 0) s.fabric.seen m.src (m.operand % 2 ^ 32),
        sparsePut (fun _ => 0) s.fabric.stops m.src (stopsAfter (sparseGet (fun _ => 0) s.fabric.stops m.src) (bits m.operand 32 3) m.subop)) := by
  unfold applyControl
  rw [newer, if_neg (by decide)]
  extract_lets old mask new fabric1 s1 s2 go fabric2 s3
  rw [showStops_controlView]
  exact each_keeps controlView _ (fun t x => routeMsg_keeps sendBlind_control t 0 x) go s3

theorem applyControl_takes (newer : s.newerControl m = true) :
    sparseGet (fun _ => 0) (s.applyControl m).fabric.seen m.src = m.operand % 2 ^ 32 ∧
      sparseGet (fun _ => 0) (s.applyControl m).fabric.stops m.src =
        stopsAfter (sparseGet (fun _ => 0) s.fabric.stops m.src) (bits m.operand 32 3) m.subop := by
  have view := applyControl_controlView newer
  have seen : (s.applyControl m).fabric.seen = _ := congrArg Prod.fst view
  have stops : (s.applyControl m).fabric.stops = _ := congrArg Prod.snd view
  rw [seen, stops, sparseGet_put, sparseGet_put, if_pos rfl, if_pos rfl]
  exact ⟨rfl, rfl⟩

/-- R450, R451: a message of another kind, or an older one, leaves the state as it is. -/
theorem control_ignored {n : Nat} (other : m.subop ≠ n ∨ s.newerControl m = false) : (if m.subop = n then s.applyControl m else s) = s := by
  split
  · rename_i same
    exact applyControl_old (other.resolve_left (not_not_intro same))
  · rfl

end Control

/-! ### Control messages sent -/

theorem ctrlSend_cseq (s : State) (subop mask rank : Nat) : (s.ctrlSend subop mask rank).fabric.cseq = s.fabric.cseq + 1 := by
  have blind : SendBlind fun t => t.fabric.cseq := ⟨fun _ _ _ => rfl, fun _ _ _ => rfl, fun _ _ => rfl⟩
  unfold ctrlSend
  extract_lets n fabric s1 m s2
  have sent : s2.fabric.cseq = s.fabric.cseq + 1 := originate_keeps blind s1 _
  split
  · exact sent
  · exact sent

theorem ctrlSend_fences (s : State) (mask rank : Nat) : rank ∈ (s.ctrlSend 2 mask rank).fabric.fences := mem_addOnce rank _

theorem fabLeave_stranger {s : State} (h : s.ownRank = 0xFFFF) : s.fabLeave = s := if_pos h

theorem fabLeave_grandmaster {s : State} (h : s.ownRank ≠ 0xFFFF) (gm : s.fabric.gm = some s.ownId) :
    s.fabLeave = { s with fabric := { s.fabric with wantLeave := addOnce s.ownRank s.fabric.wantLeave } } := (if_neg h).trans (if_pos gm)

theorem fabLeave_member {s : State} (h : s.ownRank ≠ 0xFFFF) (gm : s.fabric.gm ≠ some s.ownId) :
    s.fabLeave = s.originate (s.newMsg 9 4 3 (((s.fabric.members.find? fun e => some e.2 == s.fabric.gm).map (·.1)).getD 0xFFFF)) :=
  (if_neg h).trans (if_neg gm)

theorem rd_withTick (s : State) (x : TickUnit) (pg : Nat) (f : Field) : ({ s with tick := x } : State).rd pg f = s.rd pg f := rfl

/-! ### Tick synchronisation (R38, R462) -/

section TickSync

variable (s : State)

theorem syncLock_tick (o : Int) : (s.syncLock o).tick = s.tick := by
  unfold syncLock
  extract_lets s1
  have base : s1.tick = s.tick := by
    unfold s1
    rw [State.wr_tick, State.wr_tick]
  split
  · split
    · exact base
    · rw [State.raise_tick, State.wr_tick, base]
  · rw [State.wr_tick, base]

/-- R37, R81: what a register of the TICK page reads when the source is followed: all but HOLDOVER, ACTIVE_SRC, LOCKED and the events. -/
theorem syncLock_rd (o : Int) {f : Field} (status : regAddr pgTICK (f.at 0) ≠ regAddr pgTICK (Reg.TICK.STATUS_LOCKED.at 0))
    (event : regAddr pgTICK (f.at 0) ≠ regAddr pgTICK 0x010) : (s.syncLock o).rd pgTICK f = s.rd pgTICK f := by
  unfold syncLock
  extract_lets s1
  have base : s1.rd pgTICK f = s.rd pgTICK f :=
    (rd_wr_ne _ _ _ Reg.TICK.STATUS_ACTIVE_SRC f _ 0 0 status).trans (rd_wr_ne s _ _ Reg.TICK.STATUS_HOLDOVER f _ 0 0 status)
  split
  · split
    · exact base
    · exact (rd_raise_ne _ _ _ _ _ _ event).trans ((rd_wr_ne s1 _ _ Reg.TICK.STATUS_LOCKED f _ 0 0 status).trans base)
  · exact (rd_wr_ne s1 _ _ Reg.TICK.STATUS_LOCKED f _ 0 0 status).trans base

theorem syncLock_follows (o : Int) :
    (s.syncLock o).rd pgTICK Reg.TICK.STATUS_HOLDOVER = 0 ∧ (s.syncLock o).rd pgTICK Reg.TICK.STATUS_ACTIVE_SRC = 2 := by
  unfold syncLock
  extract_lets s1
  have hold : s1.rd pgTICK Reg.TICK.STATUS_HOLDOVER = 0 :=
    (rd_wr_apart _ _ _ Reg.TICK.STATUS_ACTIVE_SRC Reg.TICK.STATUS_HOLDOVER _ 0 0 rfl (by decide) (by decide)).trans
      (rd_wr s _ Reg.TICK.STATUS_HOLDOVER 0 0 (by decide))
  have src : s1.rd pgTICK Reg.TICK.STATUS_ACTIVE_SRC = 2 := rd_wr _ _ Reg.TICK.STATUS_ACTIVE_SRC 2 0 (by decide)
  have apart (g : Field) (v : Nat) (same : g.at 0 = Reg.TICK.STATUS_LOCKED.at 0) (beside : g.lsb + g.width ≤ 2 ∨ 3 ≤ g.lsb) :
      (s1.wr pgTICK Reg.TICK.STATUS_LOCKED v).rd pgTICK g = s1.rd pgTICK g :=
    rd_wr_apart s1 _ _ Reg.TICK.STATUS_LOCKED g v 0 0 (by rw [same]) (by decide) beside
  split
  · split
    · exact ⟨hold, src⟩
    · rw [rd_raise_ne _ _ _ _ _ _ (by decide), rd_raise_ne _ _ _ _ _ _ (by decide)]
      exact ⟨(apart Reg.TICK.STATUS_HOLDOVER 1 rfl (by decide)).trans hold, (apart Reg.TICK.STATUS_ACTIVE_SRC 1 rfl (by decide)).trans src⟩
  · exact ⟨(apart Reg.TICK.STATUS_HOLDOVER 0 rfl (by decide)).trans hold, (apart Reg.TICK.STATUS_ACTIVE_SRC 0 rfl (by decide)).trans src⟩

theorem syncLock_locked (o : Int) :
    (s.syncLock o).rd pgTICK Reg.TICK.STATUS_LOCKED = b2n (decide (o.natAbs ≤ 2 * s.rd pgTICK Reg.TICK.HOPS_COUNT)) := by
  unfold syncLock
  extract_lets s1
  have hops : s1.rd pgTICK Reg.TICK.HOPS_COUNT = s.rd pgTICK Reg.TICK.HOPS_COUNT :=
    (rd_wr_ne _ _ _ Reg.TICK.STATUS_ACTIVE_SRC Reg.TICK.HOPS_COUNT _ 0 0 (by decide)).trans
      (rd_wr_ne s _ _ Reg.TICK.STATUS_HOLDOVER Reg.TICK.HOPS_COUNT _ 0 0 (by decide))
  rw [hops]
  split
  · rename_i near
    rw [decide_eq_true near]
    split
    · rename_i locked
      exact eq_of_beq locked
    · rw [rd_raise_ne _ _ _ _ _ _ (by decide)]
      exact rd_wr s1 _ Reg.TICK.STATUS_LOCKED 1 0 (by decide)
  · rename_i far
    rw [decide_eq_false far]
    exact rd_wr s1 _ Reg.TICK.STATUS_LOCKED 0 0 (by decide)

variable {s} {p arrival : Nat} {m : Msg}

/-- R38: the announcement of the parent is noted. -/
def heardSync (s : State) (p : Nat) : State := s.onPort p fun x => { x with syncTick := s.tick.number }

/-- R38: the offset of the current boundary from the parent's, in whole nanoseconds. -/
def syncOffset (s : State) (p arrival : Nat) (m : Msg) : Int := rnaDiv ((arrival : Int) - (m.operand : Int) - (s.port p).delay) 16

/-- R38: the phase from which the next tick is corrected. -/
def phased (s : State) (p arrival : Nat) (m : Msg) : State :=
  { s.heardSync p with tick := { s.tick with gmPhase := some (s.tick.elapsed + s.syncOffset p arrival m) } }

theorem tickSync_aside (h : (s.heardSync p).parentPort ≠ some p ∨ s.tick.planHold = true) : s.tickSync p arrival m = s.heardSync p :=
  if_pos h

variable (parent : (s.heardSync p).parentPort = some p) (free : s.tick.planHold = false)

include parent free

theorem tickSync_heard :
    s.tickSync p arrival m =
      if s.tick.src ≠ 2 then s.phased p arrival m
      else
        let t := (s.phased p arrival m).wr pgTICK Reg.TICK.SYNC_OFFSET_NS (ofSigned (nearest (s.syncOffset p arrival m) (s.tick.periodUs * 1000)) 32)
        let next := if t.planRunning ∨ m.stamp.tick = t.tick.number then none else some (m.stamp.tick + 1)
        ({ t with tick := { t.tick with syncNumber := next } }).syncLock (nearest (s.syncOffset p arrival m) (s.tick.periodUs * 1000)) := by
  have delay : ((s.heardSync p).port p).delay = (s.port p).delay := by
    unfold heardSync
    rw [port_onPort]
  unfold tickSync phased syncOffset
  rw [← delay]
  refine (if_neg ?_).trans rfl
  rintro (other | hold)
  · exact other parent
  · exact absurd (free.symm.trans hold) (by decide)

theorem tickSync_phased (other : s.tick.src ≠ 2) : s.tickSync p arrival m = s.phased p arrival m :=
  (tickSync_heard parent free).trans (if_pos other)

theorem tickSync_follows (fabric : s.tick.src = 2) :
    (s.tickSync p arrival m).tick.gmPhase = some (s.tick.elapsed + s.syncOffset p arrival m) ∧
      (s.tickSync p arrival m).rd pgTICK Reg.TICK.SYNC_OFFSET_NS = ofSigned (nearest (s.syncOffset p arrival m) (s.tick.periodUs * 1000)) 32 % 2 ^ 32 ∧
      (s.tickSync p arrival m).rd pgTICK Reg.TICK.STATUS_HOLDOVER = 0 ∧ (s.tickSync p arrival m).rd pgTICK Reg.TICK.STATUS_ACTIVE_SRC = 2 ∧
      (s.tickSync p arrival m).rd pgTICK Reg.TICK.STATUS_LOCKED =
        b2n (decide ((nearest (s.syncOffset p arrival m) (s.tick.periodUs * 1000)).natAbs ≤ 2 * s.rd pgTICK Reg.TICK.HOPS_COUNT)) := by
  rw [tickSync_heard parent free, if_neg (not_not_intro fabric)]
  extract_lets t next tick
  refine ⟨?_, ?_, (syncLock_follows _ _).1, (syncLock_follows _ _).2, ?_⟩
  · rw [syncLock_tick]
    rfl
  · rw [syncLock_rd _ _ (by decide) (by decide), rd_withTick]
    exact rd_wr (s.phased p arrival m) _ Reg.TICK.SYNC_OFFSET_NS _ 0 (by decide)
  · rw [syncLock_locked, rd_withTick]
    refine congrArg (fun hops => b2n (decide (_ ≤ 2 * hops))) ?_
    exact (rd_wr_ne (s.phased p arrival m) _ _ Reg.TICK.SYNC_OFFSET_NS Reg.TICK.HOPS_COUNT _ 0 0 (by decide)).trans (rd_withTick _ _ _ _)

end TickSync

section Delay

variable {s : State} {p : Nat}

theorem delayMeasure_due (tick : s.tick.number % 64 = 0) (link : s.linkState p = 2) :
    s.delayMeasure p = (s.onPort p fun x => { x with delayReq := some (16 * s.ns) }).accept p (s.newMsg 8 2 3 0xFFFF) :=
  if_neg (by omega)

theorem delayMeasure_waits (h : s.tick.number % 64 ≠ 0 ∨ s.linkState p ≠ 2) : s.delayMeasure p = s := if_pos h

theorem delayResp_unasked {m : Msg} (h : (s.port p).delayReq = none) : s.delayResp p m = s := by
  unfold delayResp
  rw [h]

theorem delayResp_asked {m : Msg} {t : Nat} (h : (s.port p).delayReq = some t) :
    s.delayResp p m = s.onPort p fun x => { x with delayReq := none, delay := ((16 * s.ns : Nat) - (t : Int) - (m.operand : Int)) / 2 } := by
  unfold delayResp
  rw [h]

end Delay

/-! ### Lanes, frames, replay and drain -/

section Link

variable {s : State} {p k : Nat}

/-- R429: the lane is training or degraded on a port that is ON, and not under calibration. -/
def laneMayTrain (s : State) (p k : Nat) : Bool :=
  s.isOn (pgHport p) && (s.laneSt p k == 1 || s.laneSt p k == 3) && !(sparseGet (fun _ => ({} : CalRec)) s.cal.lanes (16 * p + k)).out

theorem laneTrained_trains (h : s.laneMayTrain p k = true) :
    s.laneTrained p k = s.onPort p fun x => { x with trained := addOnce k x.trained, fails := sparsePut (fun _ => 0) x.fails k 0 } := by
  unfold laneMayTrain at h
  simp only [Bool.and_eq_true, Bool.or_eq_true, beq_iff_eq, Bool.not_eq_true'] at h
  obtain ⟨⟨on, st⟩, free⟩ := h
  refine if_neg ?_
  rw [on, free]
  simpa using st.resolve_left

theorem laneTrained_waits (h : s.laneMayTrain p k = false) : s.laneTrained p k = s := by
  refine if_pos ?_
  unfold laneMayTrain at h
  simp only [Bool.and_eq_false_iff, Bool.or_eq_false_iff, Bool.not_eq_false'] at h
  obtain (off | ⟨st1, st3⟩) | out := h
  · rw [off]
    rfl
  · simp [bne, st1, st3]
  · rw [out, Bool.or_true]

theorem laneLockLoss_lost (h : bitAt (s.rd (pgHport p) Reg.HPORT.LANE_UP) k = true) :
    s.laneLockLoss p k = s.onPort p fun x => { x with lost := addOnce k x.lost, trained := dropAll k x.trained } := if_pos h

theorem laneLockLoss_waits (h : bitAt (s.rd (pgHport p) Reg.HPORT.LANE_UP) k = false) : s.laneLockLoss p k = s :=
  if_neg (by rw [h]; decide)

theorem laneTrainingFail_waits (h : s.isOn (pgHport p) = false ∨ s.laneSt p k ≠ 1) : s.laneTrainingFail p k = s := by
  refine if_pos ?_
  obtain off | st := h
  · rw [off]
    rfl
  · simp [st]

theorem laneTrainingFail_fails (on : s.isOn (pgHport p) = true) (st : s.laneSt p k = 1) :
    s.laneTrainingFail p k =
      let n := sparseGet (fun _ => 0) (s.port p).fails k + 1
      let t := s.onPort p fun x => { x with fails := sparsePut (fun _ => 0) x.fails k n, trained := dropAll k x.trained }
      if 3 ≤ n then t.setLane p k 4 else t := if_neg (by rw [on, st]; decide)

/-- R433: the symbols that FEC corrected and the codewords that it could not, counted by lane. -/
def fecCounted (s : State) (p : Nat) (fec : List (Nat × Nat × Nat)) : State :=
  s.each fec fun t e =>
    ((t.bump64 (pgHport p) Reg.HPORT.FEC_CORR_LO e.2.1).bump (pgHport p) Reg.HPORT.FEC_UNCORR e.2.2).onPort p fun x =>
      { x with
        corr := sparsePut (fun _ => 0) x.corr e.1 (sparseGet (fun _ => 0) x.corr e.1 + e.2.1)
        uncorr := if e.2.2 = 0 then x.uncorr else addOnce e.1 x.uncorr }

theorem linkFrame_ignored {h : LinkHdr} {fec : List (Nat × Nat × Nat)} (away : s.runs (pgHport p) = false ∨ s.linkState p < 2) :
    s.linkFrame p h fec = s := if_pos (by simpa using away)

theorem linkFrame_counts {h : LinkHdr} {fec : List (Nat × Nat × Nat)} (runs : s.runs (pgHport p) = true) (link : 2 ≤ s.linkState p) :
    s.linkFrame p h fec =
      if h.crcOk then (s.fecCounted p fec).applyHdr p h else (s.fecCounted p fec).bump (pgHport p) Reg.HPORT.CRC_FAILS :=
  if_neg (by rw [runs]; simp [Nat.not_lt.mpr link])

/-- R437: the frames kept for replay of a sequence space. -/
def replays (space : Nat) (x : Port) : List TxFrame := if space = 1 then x.replayC else x.replayD

theorem resend_none {space : Nat} (h : replays space (s.port p) = []) : s.resend p space = s :=
  if_pos (by unfold replays at h; rw [h]; rfl)

theorem resend_worn {space : Nat} (some_ : replays space (s.port p) ≠ []) (worn : ∃ f ∈ replays space (s.port p), 8 ≤ f.sends) :
    s.resend p space = s.linkDown p := by
  unfold replays at *
  exact (if_neg (by simpa using some_)).trans (if_pos (by simpa using worn))

/-- R427: the frames sent again keep their numbers and messages, count one more sending, and take the next units. -/
theorem sendAgain_spec (l : List TxFrame) (u : Nat) :
    (sendAgain u l).1.map (fun f => (f.seq, f.sends, f.msg)) = l.map (fun f => (f.seq, f.sends + 1, f.msg)) ∧
      (sendAgain u l).2 = u + (l.map fun f => f.msg.units).foldl (· + ·) 0 := by
  unfold sendAgain
  induction l using List.reverseRecOn with
  | nil => exact ⟨rfl, rfl⟩
  | append_singleton l f ih =>
    obtain ⟨frames, units⟩ := ih
    simp only [List.foldl_append, List.foldl_cons, List.foldl_nil, List.map_append, List.map_cons, List.map_nil, frames, units]
    exact ⟨trivial, Nat.add_assoc _ _ _⟩

theorem resend_again {space : Nat} (some_ : replays space (s.port p) ≠ []) (fresh : ∀ f ∈ replays space (s.port p), f.sends < 8) :
    replays space ((s.resend p space).port p) = (sendAgain (s.port p).units (replays space (s.port p))).1 ∧
      ((s.resend p space).port p).units = (sendAgain (s.port p).units (replays space (s.port p))).2 := by
  have again : s.resend p space = _ := (if_neg (by simpa [replays] using some_)).trans (if_neg (by simpa [replays] using fresh))
  rw [again, port_onPort]
  unfold replays
  split
  · exact ⟨rfl, rfl⟩
  · exact ⟨rfl, rfl⟩

theorem hportDrainTimeout_waits (h : s.st (pgHport p) ≠ 3) : s.hportDrainTimeout p = s := if_pos h

theorem hportDrainTimeout_cuts (h : s.st (pgHport p) = 3) :
    ((s.hportDrainTimeout p).port p).replayD = [] ∧ ((s.hportDrainTimeout p).port p).replayC = [] ∧ ((s.hportDrainTimeout p).port p).waiting = [] := by
  have cut : s.hportDrainTimeout p = _ := if_neg (not_not_intro h)
  rw [cut, port_onPort]
  exact ⟨rfl, rfl, rfl⟩

end Link

end State

open State

/-- Settles O51: a control message by its kind and number, and the commands of the control register by their own effects. -/
theorem fabricControl : Obligations.FabricControl := by
  refine ⟨fun s at_ p h m up comes => ?_, fun s at_ path mask rank up hm hr => ?_⟩
  · dsimp only
    intro taken
    rw [eff_stopRx s at_ p h m up, eff_fenceRx s at_ p h m up, eff_resumeRx s at_ p h m up]
    refine ⟨fun other => leaves_congr ((receive_delivered _ comes taken).trans (control_ignored other)),
      fun other => leaves_congr ((receive_delivered _ comes taken).trans (control_ignored other)),
      fun other => leaves_congr ((receive_delivered _ comes taken).trans (control_ignored other)),
      fun sub newer => ⟨_, leaves_congr ((receive_delivered _ comes taken).trans (if_pos sub)), ?_⟩,
      fun sub newer => ⟨_, leaves_congr ((receive_delivered _ comes taken).trans (if_pos sub)), ?_⟩,
      fun sub newer => ⟨_, leaves_congr ((receive_delivered _ comes taken).trans (if_pos sub)), ?_⟩⟩
    · have takes := applyControl_takes newer
      rw [left_fabric]
      rwa [sub] at takes
    · have takes := applyControl_takes newer
      rw [left_fabric]
      rwa [sub] at takes
    · have takes := applyControl_takes newer
      rw [left_fabric]
      rwa [sub] at takes
  · dsimp only
    rw [eff_ctrlSendStop s at_ path mask rank up, eff_ctrlSendFence s at_ path mask rank up, eff_ctrlSendResume s at_ path mask rank up,
      eff_groupReload s at_ path up, eff_fabLeave s at_ path up, Nat.mod_eq_of_lt hm, Nat.mod_eq_of_lt hr]
    exact ⟨rfl, rfl, rfl, fun op _ _ => ctrlSend_cseq _ op mask rank, ctrlSend_fences _ mask rank, rfl,
      fun stranger => leaves_congr (fabLeave_stranger (s := s.advance at_) stranger),
      fun member gm => leaves_congr (fabLeave_grandmaster (s := s.advance at_) member gm),
      fun member gm => leaves_congr (fabLeave_member (s := s.advance at_) member gm)⟩

/-- Settles O53: an announcement by whose it is and what the tick follows, and the measurement of the delay by its three messages. -/
theorem tickSynchronisation : Obligations.TickSynchronisation := by
  intro s at_ p arrival residence h m up
  dsimp only
  refine ⟨?_, fun comes sub => ⟨?_, ?_⟩, ?_, ?_, ?_, ?_, ?_⟩
  · simp only [List.forall_mem_cons]
    rw [eff_tickSyncAnnounce s at_ p h m arrival up, eff_delayReq s at_ p h m residence up, eff_delayResp s at_ p h m up]
    exact ⟨fun comes other => leaves_congr ((receive_arrives _ comes).trans (if_neg other)),
      fun comes other => leaves_congr ((receive_arrives _ comes).trans (if_neg other)),
      fun comes other => leaves_congr ((receive_arrives _ comes).trans (if_neg other)), fun _ hc => absurd hc List.not_mem_nil⟩
  · rw [eff_tickSyncAnnounce s at_ p h m arrival up]
    exact fun aside => leaves_congr ((receive_arrives _ comes).trans ((if_pos sub).trans (tickSync_aside aside)))
  · rw [eff_tickSyncAnnounce s at_ p h m arrival up]
    refine fun parent free => ⟨fun other => leaves_congr ((receive_arrives _ comes).trans ((if_pos sub).trans (tickSync_phased parent free other))),
      fun fabric => ⟨_, leaves_congr ((receive_arrives _ comes).trans (if_pos sub)), ?_⟩⟩
    have follows := tickSync_follows (arrival := arrival) (m := m) parent free fabric
    rw [left_tick, left_rd _ _ (by decide), left_rd _ _ (by decide), left_rd _ _ (by decide), left_rd _ _ (by decide)]
    exact follows
  · rw [eff_delayMeasure s at_ p up]
    exact fun tick link => leaves_congr (delayMeasure_due (s := s.advance at_) tick link)
  · rw [eff_delayMeasure s at_ p up]
    exact fun waits => leaves_congr (delayMeasure_waits (s := s.advance at_) waits)
  · rw [eff_delayReq s at_ p h m residence up]
    exact fun comes sub => leaves_congr ((receive_arrives _ comes).trans (if_pos sub))
  · rw [eff_delayResp s at_ p h m up]
    exact fun comes sub unasked => leaves_congr ((receive_arrives _ comes).trans ((if_pos sub).trans (delayResp_unasked unasked)))
  · rw [eff_delayResp s at_ p h m up]
    exact fun t0 comes sub asked => leaves_congr ((receive_arrives _ comes).trans ((if_pos sub).trans (delayResp_asked asked)))

/-- Settles O54: each event of a link by its condition. -/
theorem linkEvents : Obligations.LinkEvents := by
  intro s at_ p k h fec up
  dsimp only
  rw [eff_laneTrained s at_ p k up, eff_laneLockLoss s at_ p k up, eff_laneTrainingFail s at_ p k up, eff_linkFrame s at_ p h fec up,
    eff_hportDrainTimeout s at_ p up]
  refine ⟨fun trains => leaves_congr (laneTrained_trains (s := s.advance at_) trains),
    fun no => leaves_congr (laneTrained_waits (s := s.advance at_) no),
    fun lost => leaves_congr (laneLockLoss_lost (s := s.advance at_) lost),
    fun no => leaves_congr (laneLockLoss_waits (s := s.advance at_) no),
    fun no => leaves_congr (laneTrainingFail_waits (s := s.advance at_) no),
    fun on st => leaves_congr (laneTrainingFail_fails (s := s.advance at_) on st),
    fun away => leaves_congr (linkFrame_ignored (s := s.advance at_) away),
    fun runs link => ⟨fun bad => leaves_congr ((linkFrame_counts (s := s.advance at_) runs link).trans (if_neg (by rw [bad]; decide))),
      fun good => leaves_congr ((linkFrame_counts (s := s.advance at_) runs link).trans (if_pos good))⟩,
    fun space => ?_, fun no => leaves_congr (hportDrainTimeout_waits (s := s.advance at_) no), fun stops => ⟨_, rfl, ?_⟩⟩
  · rw [eff_replayTimeout s at_ p space up]
    refine ⟨fun none_ => leaves_congr (resend_none (s := s.advance at_) none_),
      fun some_ worn => leaves_congr (resend_worn (s := s.advance at_) some_ worn), fun some_ fresh => ⟨_, rfl, ?_⟩⟩
    obtain ⟨frames, units⟩ := resend_again (s := s.advance at_) some_ fresh
    obtain ⟨kept, taken⟩ := sendAgain_spec (replays space ((s.advance at_).port p)) ((s.advance at_).port p).units
    rw [port_of_fabric (left_fabric s _)]
    exact ⟨(congrArg (List.map _) frames).trans kept, units.trans taken⟩
  · rw [port_of_fabric (left_fabric s _)]
    exact hportDrainTimeout_cuts (s := s.advance at_) stops

end Sys2Proof.Machine
end

section
/-! PROOFS. Frames received and sent (R472 to R494). -/

namespace Sys2Proof.Machine

namespace State

/-! ### Frames received -/

/-- A raw frame open on channel 490 of port 17, whose error counter, at 0x21054, is the width of that channel as well. -/
def sharedWidth : State :=
  { frames := { rx := [{ port := 17, vc := 490, slot := 0, kind := 1, start := {} }] }
    regs := [(0x2100C, 2), (0x21050, 1), (0x21054, 1)] }

/-! ### The receiver's lock -/

theorem regAddr_frameIn {p off : Nat} (hp : p < 8) : regAddr (pgFrameIn p) off = (0x10 + p) * 0x1000 + off := by
  unfold regAddr canonReg pgFrameIn
  rw [if_neg (by omega), if_neg (by omega)]

/-- No register of a receive port follows from the state by itself. -/
theorem regAddr_frameIn_not_follower {p off : Nat} (hp : p < 8) (ho : off < 0x1000) : regAddr (pgFrameIn p) off ∉ followers := by
  have bound : ∀ a ∈ followers, a < 0x10000 ∨ 0x40000 ≤ a := by decide
  intro follows
  have := bound _ follows
  rw [regAddr_frameIn hp] at this
  omega

theorem regAddr_frameIn_ne {p off off' : Nat} (hp : p < 8) (h : off ≠ off') : regAddr (pgFrameIn p) off ≠ regAddr (pgFrameIn p) off' := by
  rw [regAddr_frameIn hp, regAddr_frameIn hp]
  omega

section Phy

variable (s : State) {p : Nat}

theorem phyLock_lock (rate : Nat) : (s.phyLock p rate).rd (pgFrameIn p) Reg.FRAME_IN.PHY_STAT_LOCK = 1 :=
  (rd_wr_apart _ _ _ Reg.FRAME_IN.PHY_STAT_RATE Reg.FRAME_IN.PHY_STAT_LOCK rate 0 0 rfl (by decide) (by decide)).trans
    (rd_wr s _ Reg.FRAME_IN.PHY_STAT_LOCK 1 0 (by decide))

theorem phyLock_rate (rate : Nat) :
    (s.phyLock p rate).rd (pgFrameIn p) Reg.FRAME_IN.PHY_STAT_RATE = rate % 2 ^ Reg.FRAME_IN.PHY_STAT_RATE.width :=
  rd_wr _ _ Reg.FRAME_IN.PHY_STAT_RATE rate 0 (by decide)

theorem phyUnlock_lock : (s.phyUnlock p).rd (pgFrameIn p) Reg.FRAME_IN.PHY_STAT_LOCK = 0 :=
  rd_wr _ _ Reg.FRAME_IN.PHY_STAT_LOCK 0 0 (by decide)

theorem phyUnlock_mem : (s.phyUnlock p).mem = s.mem := by
  unfold phyUnlock
  extract_lets t
  have raised : t.mem = s.mem := by
    unfold t
    split
    · exact State.raise_mem _ _ _
    · rfl
  rw [State.wr_mem, raised]

theorem phyUnlock_reports (hp : p < 8) (locked : s.flag (pgFrameIn p) Reg.FRAME_IN.PHY_STAT_LOCK = true)
    (open_ : s.frames.rx.any (fun f => f.port == p && f.ended.isNone) = true) :
    bitAt ((s.phyUnlock p).word (regAddr (pgFrameIn p) 0x010)).toNat 7 = true := by
  have whole : ∀ x : Word, bits x.toNat 0 32 = x.toNat := fun x => by
    rw [bits_eq, Nat.pow_zero, Nat.div_one]
    exact Nat.mod_eq_of_lt x.isLt
  have reported : (s.raise (pgFrameIn p) 7).rdBit (pgFrameIn p) Reg.HDR.EVT_RAW 7 = true := (raised s _ 7 7 (by decide)).trans (by simp)
  unfold phyUnlock
  rw [locked, open_, if_pos (by decide), word_wr_ne _ _ _ _ _ _ (regAddr_frameIn_ne hp (by decide)), ← whole]
  exact reported

end Phy

/-! ### Frames sent -/

section Preamble

variable {s : State} {q v : Nat} {bs : List Byte}

/-- R486: the frame that a preamble opens. -/
def opened (v : Nat) (bs : List Byte) : Assembly :=
  { vc := v, kind := fieldOf bs 52 1, desc := bs.take 32, thdr := (bs.drop 32).take 16, length := fieldOf bs 48 4 }

/-- R489: a frame still open on the channel is given up. -/
def abandonOpen (s : State) (q v : Nat) : State :=
  if (s.txPort q).assembling.any (fun b => b.vc == v) then
    ((s.bump (pgFrameOut q) Reg.FRAME_OUT.TX_ABANDON).raise (pgFrameOut q) 5).onTxPort q fun t =>
      { t with assembling := t.assembling.filter fun b => b.vc != v }
  else s

theorem preamble_refused (h : s.isOn (pgFrameOut q) = false ∨ bs.length ≠ 64 ∨ preambleOk bs = false) : (s.preamble q v bs).1 = s := by
  unfold preamble
  split
  · rfl
  · rename_i on
    rw [if_pos]
    have := h.resolve_left fun off => on (by rw [off]; rfl)
    simpa using this

theorem abandonOpen_tick : (s.abandonOpen q v).tick = s.tick := by
  unfold abandonOpen
  split
  · rw [State.onTxPort_tick, State.raise_tick, State.bump_tick]
  · rfl

theorem preamble_opens (on : s.isOn (pgFrameOut q) = true) (len : bs.length = 64) (ok : preambleOk bs = true) :
    (s.preamble q v bs).1 =
      if (opened v bs).full then (s.abandonOpen q v).readyFrame q (opened v bs) s.tick.number
      else (s.abandonOpen q v).onTxPort q fun t => { t with assembling := t.assembling ++ [opened v bs] } := by
  rw [← abandonOpen_tick (q := q) (v := v)]
  unfold preamble
  rw [on, ok, len]
  rfl

theorem txFrameEnd_idle (h : (s.txPort q).sending = none) : s.txFrameEnd q = s := by
  unfold txFrameEnd
  rw [h]

theorem txFrameEnd_sent {f : OutFrame} (h : (s.txPort q).sending = some f) :
    s.txFrameEnd q =
      let y := (s.onTxPort q fun t => { t with sending := none }).bumpWrap (pgFrameOut q) Reg.FRAME_OUT.TX_FRAMES
      (if f.kind = 2 then y.bump (pgFrameOut q) Reg.FRAME_OUT.STATUS_FRAMES else y).sendNext q := by
  unfold txFrameEnd
  rw [h]

end Preamble

end State

open State

/-- Refutes O55: the statement holds for every number of a port and a channel. Past the module's eight ports and sixteen channels the width of
a channel can be the error counter of the port, which a line with a bad CRC has just moved: the line then no longer has that width. -/
theorem not_framesReceived : ¬Obligations.FramesReceived := by
  unfold Obligations.FramesReceived
  intro h
  have up : sharedWidth.coreUp = true := by decide
  obtain ⟨_, _, stored⟩ := h.2.2.1 sharedWidth 0 17 490 0x2A [0] { badCrc := true } up rfl (by decide +kernel)
  obtain ⟨_, _, _, _, _, _, _, _, _, _, fits, _⟩ := stored
    { port := 17, vc := 490, slot := 0, kind := 1, start := {}, err := 2 } (by decide +kernel) rfl
  have line := fits rfl (by decide) (Or.inl rfl)
  rw [eff_rawLine _ _ _ _ _ _ _ up] at line
  have counted := congrArg (fun t : State => t.word 0x21054) (Host.Outcome.next.inj line)
  simp only [left_word _ _ 0x21054 (by decide)] at counted
  exact absurd counted (by decide +kernel)

/-- Settles O56: the lock by the two fields that it writes, the frames sent by the branches of a preamble and of a frame's end. -/
theorem framesSent : Obligations.FramesSent := by
  refine ⟨fun s at_ p rate up hp => ?_, fun s at_ q v bs up => ?_⟩
  · rw [eff_phyLock s at_ p rate up, eff_phyUnlock s at_ p up]
    have kept (u : State) (f : Field) (hf : f.at 0 < 0x1000) : (s.left u).rd (pgFrameIn p) f = u.rd (pgFrameIn p) f :=
      left_rd s u (regAddr_frameIn_not_follower hp hf)
    refine ⟨⟨_, rfl, (kept _ _ (by decide)).trans (phyLock_lock _ rate), (kept _ _ (by decide)).trans (phyLock_rate _ rate)⟩,
      ⟨_, rfl, (kept _ _ (by decide)).trans (phyUnlock_lock _), (left_mem s _).trans (phyUnlock_mem _), fun locked open_ => ?_⟩⟩
    rw [left_word s _ _ (regAddr_frameIn_not_follower hp (by decide))]
    exact phyUnlock_reports (s.advance at_) hp locked open_
  · dsimp only
    rw [eff_preambleWrite s at_ q v bs up, eff_txFrameEnd s at_ q up]
    exact ⟨fun refused => leaves_congr (preamble_refused (s := s.advance at_) refused),
      fun on len ok => leaves_congr (preamble_opens (s := s.advance at_) on len ok),
      fun idle => leaves_congr (txFrameEnd_idle (s := s.advance at_) idle),
      fun f sent => ⟨fun other => leaves_congr ((txFrameEnd_sent (s := s.advance at_) sent).trans (congrArg (sendNext · q) (if_neg other))),
        fun status => leaves_congr ((txFrameEnd_sent (s := s.advance at_) sent).trans (congrArg (sendNext · q) (if_pos status)))⟩⟩

end Sys2Proof.Machine
end
